-- ==== Sys2Proof/Word.lean ====
section
/-! DEFINITION. The word types of the service map and their plainest arithmetic. -/

namespace Sys2Proof

/-- One word of the service map (R3): 16 bits at one word address. -/
abbrev Word := BitVec 16

/-- One byte of a memory, an image or a frame. -/
abbrev Byte := BitVec 8

/-- A count narrowed to `w` bits, stopping at the largest value (the saturating counters of the map). -/
def sat (w n : Nat) : BitVec w := BitVec.ofNat w (min n (2 ^ w - 1))

/-- A signed quantity narrowed to `w` bits, stopping at the ends of two's complement. -/
def satI (w : Nat) (i : Int) : BitVec w :=
  BitVec.ofInt w (max (-(2 ^ (w - 1) : Int)) (min i (2 ^ (w - 1) - 1)))

/-- One bit of a count, as a truth value. -/
def bitOf (n k : Nat) : Bool := n.testBit k

end Sys2Proof
end

