-- ==== Sys2Proof/Syntax.lean ====
section
/-! DEFINITION. The commands of the block: what the operands carry, and one constructor for each row of
spec/opcode_table.json. A quantity that the device measures from outside (a supply sample, a stop edge, a capture, a
frame heard) is an operand; what the device works out is no operand. -/

namespace Sys2Proof

/-- One sample of the AON monitor (R122, R146): VBAT and VRES in mV, die temperature in 0.1 °C. -/
structure Sample where
  vbat : Nat
  vres : Nat
  temp : Int
  deriving DecidableEq, Repr

/-- Fine code of an edge (R165): tap index M, 0 to 64, and vernier bin V, 0 to 24; M = 64 is the saturated code. -/
structure FineCode where
  m : Nat
  v : Nat
  deriving DecidableEq, Repr

/-- Hit counts of one TDC channel (R183): 64 taps, 25 vernier bins, saturated hits. -/
structure TdcTable where
  h : List Nat
  g : List Nat
  s : Nat
  deriving DecidableEq, Repr

/-- A stop record (Table 7.3). -/
structure StopRec where
  short : Bool
  sat : Bool
  edge : Bool
  x : Nat
  deriving DecidableEq, Repr

/-- One discharge of a temperature measurement (R251, R252): channel 0 to 3, or 4 for TREF; full or half; the stop, if
the run accepted one; whether the servo output stayed at its limit for 2 µs or longer (R250). -/
structure Discharge where
  ch : Nat
  half : Bool
  stop : Option StopRec
  servoLimit : Bool
  deriving DecidableEq, Repr

/-- A move of a stop input that its comparator may time (R171, R172): its interval from the start in 2^−16 coarse periods, and the
level it reaches, in µV from mid-rail. -/
structure Crossing where
  x : Nat
  level : Int
  deriving DecidableEq, Repr

/-- What a port check measures on one port (R208): the two pins in 1/1000 of VANA, the 14-bit codes of the drive node (chain A) and
of the port (chain B), and the crossings of both signals. -/
structure PortCheck where
  port : Nat
  pinA : Nat
  pinB : Nat
  capD : List Nat
  capP : List Nat
  crossD : List Crossing
  crossP : List Crossing
  deriving DecidableEq, Repr

/-- What a module port answers (R432, R433): a line short, a supply limit, no acknowledge, or the record's bytes. -/
inductive ModRead where
  | lineShort
  | supplyLimit
  | noAnswer
  | bytes (bs : List Byte)
  deriving DecidableEq, Repr

/-- One receive capture (R222): path, pair number from 1, up or down shot, and the 14-bit codes from the converter start on. The
first stop is that of the shot's channel. -/
structure Capture where
  path : Nat
  pair : Nat
  up : Bool
  codes : List Nat
  deriving DecidableEq, Repr

/-- A gate of a Vitrine calibration (R141). -/
inductive Gate where | xt32 | xrf | hfrc
  deriving DecidableEq, Repr

/-- What the configuration memory declares in its SFDP header and basic flash parameter table (R55): whether the signature is
there, the declared density in bytes, and whether a quad read is declared. -/
structure Sfdp where
  signature : Bool := true
  bytes : Nat := 131072
  quadRead : Bool := true
  deriving DecidableEq, Repr

/-- What a start-up stage or a Hibernate-start step finds (Tables 4.1 to 4.3). Each stage reads only its own part. -/
structure StageReport where
  /-- Duration of the stage, in 0.1 ms -/
  dur : Nat := 0
  /-- AON sample at the end of the stage -/
  smp : Option Sample := none
  /-- Stage 2, 3: ROMs whose CRC-32 does not match: 0 Warden, 1 Curator, 2 Signal core, 3 Link core, 4 Registrar -/
  romBad : List Nat := []
  /-- Stage 4: rows that fail the march, by segment code and row number; rows from the segment's last data row on are its spares -/
  badRows : List (Nat × Nat) := []
  /-- Stage 5: key slots undecodable; another OTP region failing -/
  otpSlotBad : List Nat := []
  otpBad : Bool := false
  /-- Stage 6, step H4: controller or SYSTEM failure; slots that the die cannot read, by sector and slot (R327); patch banks whose CRC
  fails -/
  arcBad : Bool := false
  unread : List (Nat × Nat) := []
  bankBad : List Nat := []
  /-- Stage 7: the memory meets R55; a read error in slot A, slot B -/
  sfdp : Sfdp := {}
  readErrA : Bool := false
  readErrB : Bool := false
  /-- Step H5: the image copy passes its hash -/
  imageOk : Bool := true
  /-- Stage 8, step H6: what each module port answers -/
  modules : List (Nat × ModRead) := []
  /-- Stage 9, step H6: warm-up time to `VITRDY` in 0.1 ms, none when not reached; intervals x of the gates in 2^−16 coarse periods -/
  vitWarm : Option Nat := none
  gates : List (Gate × Nat) := []
  /-- Stage 10, step H7: histograms of the four channels; stored tables pass their CRC -/
  hist : List TdcTable := []
  tablesOk : Bool := true
  /-- Stage 11, step H8 -/
  ports : List PortCheck := []
  /-- Stage 12, step H9 -/
  discharges : List Discharge := []
  /-- Stage 13, step H10: synthesizer and receive calibration good -/
  radioOk : Bool := true
  deriving DecidableEq, Repr

/-- The two ports that carry service sessions. -/
inductive Port where | host | optical
  deriving DecidableEq, Repr

/-- The code by which an event or record names the port that issued a command: 1 optical, 2 host, as `TLSTAT.SRC`
numbers them (DESIGN CHOICE, log 12). -/
def Port.code : Port → Nat
  | .optical => 1 | .host => 2

/-- Why a Vitrine calibration falls due (R140). -/
inductive VitCause where | interval | piste | temperature | restore | start | retry | radio
  deriving DecidableEq, Repr

/-- Instructions of the test access port (R47): these and no others. -/
inductive TapInstr where | idcode | bypass | sample | extest
  deriving DecidableEq, Repr

/-- The port-B writer of an exchange-bank collision (`XCOLINFO.AGENT`). -/
inductive XbAgent where | curator | link
  deriving DecidableEq, Repr

/-- A write through a port of the exchange bank (R297, R299): 1, 2 or 4 bytes from any byte address. -/
structure XbWrite where
  addr : Nat
  bytes : List Byte
  deriving DecidableEq, Repr

/-- A write of port B with the bits of a handshake word that its writer changes (R303). -/
structure XbOwnWrite where
  write : XbWrite
  own : List Byte
  deriving DecidableEq, Repr

/-- What a shot's drive shows (R193, R194): VDRV in mV before it, and the ports whose output reaches ILIM in it. -/
structure ShotDrive where
  mv : Nat
  ilim : List Nat
  deriving DecidableEq, Repr

/-- A Mogal frame as received (R359): its PSDU without the FCS, whether PHR and FCS were good, signal strength in
0.1 dBm and frequency error in Hz. -/
structure RxFrame where
  psdu : List Byte
  good : Bool := true
  rssi : Int := 0
  fei : Int := 0
  deriving DecidableEq, Repr

/-- The commands, one for each row of spec/opcode_table.json, in its order; the docstrings give row, rule and event. -/
inductive Instr where
  /-- POR_RELEASE (R119): VBAT stays above the rising POR threshold for 200 µs, POR releases and a cold start with cause 0x1 begins at stage 1. -/
  | porRelease (testen : Bool) (slotA slotB : Option (List Byte))
  /-- VBAT_BELOW_POR (R119): VBAT falls below the 1.45 V falling threshold and the device is Off. -/
  | vbatBelowPor
  /-- BROWNOUT (R126): VBAT stays below 1.55 V for 100 µs above POR; the Warden logs 0x0101, commits the shadow, parks a bistable panel and switches off every domain except AON. -/
  | brownout (smp : Sample)
  /-- BROWNOUT_RECOVERY (R126): After a brownout VBAT has stayed at or above 1.60 V for 10 ms, and a cold start with cause 0x9 begins. -/
  | brownoutRecovery
  /-- RST_N_LOW (R46): RST_N is low for 10 µs or longer, and a watchdog reset with cause external reset is performed. -/
  | rstNLow (ns : Nat)
  /-- RST_N_RISE (R46): RST_N rises after a reset hold, and the device performs a cold start. -/
  | rstNRise
  /-- VDDIO_LOSS (R43): VDDIO falls below its minimum, the VDDIO pads are isolated and any host transfer is ended as if HST_CS had risen. -/
  | vddioLoss
  /-- EXTEST_ENTRY (R49): EXTEST becomes the current JTAG instruction; the Warden commits the shadow, freezes metering and logs 0x100A. -/
  | extestEntry
  /-- EXTEST_EXIT (R49): Another instruction replaces EXTEST, or a TAP reset occurs while EXTEST is current, and a watchdog reset with cause boundary scan follows. -/
  | extestExit
  /-- COLD_START_STAGE_END (R87): A cold-start stage of Table 4.1 completes; its criteria of Table 4.2 are judged, and the next stage's seat is requested or the start ends. -/
  | coldStartStageEnd (rep : StageReport)
  /-- RESERVOIR_WAIT_MET (R89): During the reservoir wait after stage 2, VRES reaches VRES_LOW or comes within 50 mV of VBAT, and stage 3 may begin. -/
  | reservoirWaitMet (smp : Sample)
  /-- XT32_RUNNING (R90): 1024 consecutive XT32 cycles arrive without a gap, and a waiting stage 9 begins. -/
  | xt32Running
  /-- XT32_START_TIMEOUT (R90): XT32 is not running 1.0 s after POR release; it is declared stopped, and stage 9 runs without its XT32 gate. -/
  | xt32StartTimeout
  /-- OTP_PROGRAM_WAIT_MET (R95): A waiting OTP key-slot program finds VRES sufficient and proceeds. -/
  | otpProgramWaitMet (smp : Sample)
  /-- OTP_PROGRAM_WAIT_TIMEOUT (R95): After 10 s the OTP programming conditions still do not hold; programming under R67 fails, or programming under R68 is skipped. -/
  | otpProgramWaitTimeout
  /-- STAGE_SEAT_TIMEOUT (R91): A start-up stage's seat is not admitted within 10 s, and the stage fails with event 0x00E0. -/
  | stageSeatTimeout
  /-- HIBERNATE_START_STEP_END (R99): A Hibernate-start step H1 to H12 completes and the next step follows, or R100 abandons the Hibernate start for a cold start with cause 0x8. -/
  | hibernateStartStepEnd (rep : StageReport)
  /-- FAULT_TELEGRAM_DUE (R104): In safe-beacon, the first fault telegram falls due within 5 s of entry and then every SBINT minutes, and it is given to the autonomous TX sequencer. -/
  | faultTelegramDue (smp : Sample)
  /-- SAFE_BEACON_RETRY (R106): 24 h have passed in safe-beacon with FAILS < 3, and a cold start with cause 0x6 begins. -/
  | safeBeaconRetry
  /-- PWRCMD_HIBERNATE (R114): A write of PWRCMD with KEY 0x5A and REQ 0x4 in service mode requests Hibernate. -/
  | pwrcmdHibernate (port : Port)
  /-- PWRCMD_OFF (R114): A write of PWRCMD with KEY 0x5A and REQ 0x5 in service mode requests Off. -/
  | pwrcmdOff (port : Port)
  /-- STATE_REQUEST_EVALUATE (R114): 1 ms after the issuing service session closes, a Hibernate or Off request is evaluated against the refusers of Table 5.3. -/
  | stateRequestEvaluate
  /-- STATE_ENTRY_COMPLETE (R116): A state entry completes; a latched wake exits to Run, or the pending slot is evaluated. -/
  | stateEntryComplete
  /-- WAKE_RTC_COMPARE (R113): An RTC compare for a Piste step, radio slot or timer wakes the device from Doze or Standby. -/
  | wakeRtcCompare
  /-- HST_CS_FALL (R113): A falling edge on HST_CS wakes the device from Doze or Standby, or begins a host transaction. -/
  | hstCsFall
  /-- HST_WAKE_EDGE (R113): An edge on HST_WAKE wakes the device from Doze or Standby. -/
  | hstWakeEdge
  /-- HOST_WAKE_PATTERN (R421): The wake pattern 0xA5 is clocked with HST_CS low and wakes the device from Standby or Hibernate. -/
  | hostWakePattern (bits : Nat) (value : Byte)
  /-- IR_CARRIER_WAKE (R425): 16 or more edges on IR_RX within 10 ms wake the device and drive IR_EN high for 2 s. -/
  | irCarrierWake
  /-- KEY_PRESS (R439): KEY0 or KEY1 has been low for 20 ms and qualifies as a press, waking the device; KEY0 advances the screen and KEY1 powers the optical head. -/
  | keyPress (key : Fin 2)
  /-- KEY_RELEASE (R439): A pressed key has been high for 20 ms and counts as released. -/
  | keyRelease (key : Fin 2)
  /-- KEYS_HELD_5S (R439): Both keys are held together for 5 s, and every segment is shown for 10 s. -/
  | keysHeld5s
  /-- TAMPER_SAMPLE (R440): Every 1/8 s the Warden samples each enabled tamper input, and a change that two samples confirm logs a tamper event and wakes the device or is recorded. -/
  | tamperSample (low0 low1 : Bool)
  /-- PULSE_INPUT_EDGE (R438): A qualified falling edge on PI0 or PI1 is counted in PI0CNT or PI1CNT without waking the device. -/
  | pulseInputEdge (input : Fin 2)
  /-- PULSE_OUTPUT_EMIT (R437): The Warden emits the next queued 5 ms pulse on PO0 or PO1 at least 10 ms after the previous one. -/
  | pulseOutputEmit (output : Fin 2)
  /-- SEAT_REQUEST (R128): A unit requests a Chairlift seat with class, hold and deadline; an oversize request is dropped by R131, and the queue is evaluated. -/
  | seatRequest (unit : Fin 10) (cls hold : Nat) (deadline : Option Nat) (smp : Sample)
  /-- CHAIRLIFT_EVALUATE (R129): The periodic 250 µs or spacing-deferred evaluation of the head of the Chairlift queue admits it or leaves it waiting. -/
  | chairliftEvaluate (smp : Sample)
  /-- SEAT_RELEASE (R132): A unit releases its seat, the Chairlift re-evaluates at once, and the Warden may choose the next state. -/
  | seatRelease (unit : Fin 10) (smp : Sample)
  /-- SEAT_DEADLINE_DROP (R131): A waiting request's deadline passes before admission; it is dropped, CLMISS is counted and the unit is told. -/
  | seatDeadlineDrop (unit : Fin 10)
  /-- VRES_SAMPLE (R122): The AON monitor samples VBAT, VRES and die temperature, renewing predictions and checking VRES_LOW with a seat held. -/
  | vresSample (smp : Sample)
  /-- VRES_ABORT_LEVEL (R125): VRES falls through VRES_LOW − 300 mV with seats of priority 5 to 7 held, and those seats are aborted within 5 µs. -/
  | vresAbortLevel
  /-- VRES_TX_FLOOR (R474): VRES falls below 2.30 V during a transmission, and the power amplifier is switched off and the frame lost. -/
  | vresTxFloor
  /-- RESERVOIR_RISE_TIMED (R127): The timed 100 mV rise of VRES ends, C_est is computed and compared with CRES. -/
  | reservoirRiseTimed (us : Nat)
  /-- CHARGE_SWITCH_TIMEOUT (R127): VRES has not risen by 50 mV within 10 s with no seat held, and event 0x0108 is logged. -/
  | chargeSwitchTimeout
  /-- VITRINE_CAL_DUE (R140): A Vitrine calibration falls due every VITCAL minutes, on a die-temperature move or for an XT32 restoration, and is requested as unit 8. -/
  | vitrineCalDue (cause : VitCause) (smp : Sample)
  /-- VITRDY_SET (R139): The oven sensor has stayed within ±0.05 K for 1 ms, VITRDY is set and the heater passes to holding. -/
  | vitrdySet
  /-- VITRDY_TIMEOUT (R145): VITRDY is not reached within 35 ms of heater-on, and the calibration fails. -/
  | vitrdyTimeout
  /-- OVEN_OVERTEMP (R139): The oven sensor exceeds +125 °C; the heater is off within 10 µs, the calibration is abandoned and 0x0207 is logged. -/
  | ovenOvertemp
  /-- VITRINE_DEFER_LIMIT (R142): A deferral would carry step V3 past 20 ms after VITRDY, and the calibration is abandoned with result 0x3. -/
  | vitrineDeferLimit
  /-- VITRINE_GATE_END (R141): An XT32, XRF or HFRC gate of a Vitrine calibration ends, and after the last the PLL reference returns and the seat is released. -/
  | vitrineGateEnd (gate : Gate) (x : Nat)
  /-- VITRINE_CAL_COMPUTE (R144): At step V8 the Curator computes the errors, updates Table 6.5 and applies the corrections. -/
  | vitrineCalCompute
  /-- VITRINE_CAL_RETRY (R145): 10 min after a failed Vitrine calibration, a retry is requested, up to 3 times. -/
  | vitrineCalRetry (smp : Sample)
  /-- CAL_STALE_24H (R145): 24 h pass without a successful Vitrine calibration; 0x0206 is logged and CLKSTAT.STALE is set. -/
  | calStale24h
  /-- XT32_STOP (R151): No XT32 edge arrives within 4 LPRC periods; the RTC moves to LPRC and 0x0201 is logged. -/
  | xt32Stop
  /-- XT32_RESTORE_COUNT (R151): 32 768 consecutive XT32 cycles fall within ±1000 ppm, and a Vitrine calibration is requested to restore XT32. -/
  | xt32RestoreCount (smp : Sample)
  /-- LPRC_CHECK (R152): Once a second the Warden checks LPRC against XT32 and marks it unavailable or available again. -/
  | lprcCheck (ok : Bool)
  /-- CLOCK_RECOVERY_ATTEMPT (R152): Every 60 s while both 32 kHz sources are unavailable, the Warden tries to recover them. -/
  | clockRecoveryAttempt (xt32 lprc : Bool)
  /-- LPRC_CAL_GATE_END (R149): The 1 s LPRC calibration gate against corrected XT32 ends, and LPRCERR and Table 6.5 are written. -/
  | lprcCalGateEnd (ppm : Int)
  /-- PLL_LOCK_TIMEOUT (R153): The PLL has not locked within 200 µs; the HFRC is restarted once, and a second failure abandons the wake's work. -/
  | pllLockTimeout
  /-- LEDGER_RECORD_DUE (R156): Every hour the Warden writes a ledger record to Archive SYSTEM. -/
  | ledgerRecordDue (smp : Sample)
  /-- TLZONE_WRITE (R158): A service-mode write of TLZONE is range-checked and scheduled for the next civil minute boundary. -/
  | tlzoneWrite (port : Port) (value : Word)
  /-- TLZONE_APPLY (R158): At the next minute boundary the new TLZONE takes effect, a kind-0x05 record is sealed and 0x0209 is logged. -/
  | tlzoneApply
  /-- TDC_START (R179): A start edge reaches a TDC channel; an armed channel begins counting, and a running channel ignores it and counts STARTLOST. -/
  | tdcStart (ch : Fin 4) (sync : Bool) (fine : FineCode)
  /-- TDC_STOP_CROSSING (R175): A stop crossing reaches a TDC channel and is accepted inside the window, or ignored in hold-off, dead time or before the start. -/
  | tdcStopCrossing (ch : Fin 4) (count : Nat) (fine : FineCode) (level : Int)
  /-- TDC_RUN_END (R176): A run reaches its window end or the coarse limit, and ends, counting NOHIT when no stop was accepted. -/
  | tdcRunEnd (ch : Fin 4)
  /-- TDC_CAL_DUE (R182): A TDC calibration falls due by CALINT, CALDT, a Piste action 4 or a retry, and is requested as unit 9. -/
  | tdcCalDue (cause : Fin 8) (smp : Sample)
  /-- TDC_CAL_BLOCK_END (R183): A block of 2^14 jitter edges completes and its counts are added to each channel's histogram. -/
  | tdcCalBlockEnd (hits : List TdcTable)
  /-- TDC_CAL_BLOCK_ABANDON (R184): A run is configured during a TDC calibration, and the block in progress is abandoned on every channel within 1 µs. -/
  | tdcCalBlockAbandon
  /-- TDC_CAL_EVALUATE (R186): After the last block the Signal core judges each channel's tap, vernier and span criteria and installs or keeps its tables. -/
  | tdcCalEvaluate
  /-- TDC_CAL_RETRY (R186): 10 min after a failed TDC calibration a retry is requested, up to 3 times. -/
  | tdcCalRetry (smp : Sample)
  /-- TDC_NO_PASS_2CALINT (R186): A code-0 or code-1 channel has not passed for 2 × CALINT hours, and 0x0306 is logged once. -/
  | tdcNoPass2calint (ch : Fin 4)
  /-- PISTE_STEP_DUE (R213): A Piste step falls due on its grid, its seat is requested, or the instance is skipped by R215. -/
  | pisteStepDue (step : Fin 16) (smp : Sample)
  /-- BOOST_READY (R193): VDRV reaches 0.98 × the target and shots may start. -/
  | boostReady (mv : Nat)
  /-- BOOST_TIMEOUT (R193): VDRV has not reached its level within 2 ms; the boost stops, 0x0401 is logged and no pair of the step is fired. -/
  | boostTimeout (mv : Nat)
  /-- SHOT_FIRE (R203): At its pair or shot period the next shot or pair is fired with a synchronous TDC start. -/
  | shotFire (mv : Nat) (ilim : List Nat)
  /-- SHOT_CAPTURE_PROCESS (R230): A capture completes and the Signal core processes the shot through Table 9.2. -/
  | shotCaptureProcess (cap : Capture)
  /-- RETRY_SHOT (R207): In sequential firing a swallowed shot is retried once, one shot period after the last pair. -/
  | retryShot (path : Fin 4) (drive : ShotDrive)
  /-- INTERVAL_RESULT_POST (R242): After the last pair the Signal core forms path and interval results and posts one to a result slot, raising the Registrar doorbell. -/
  | intervalResultPost (checks : List PortCheck)
  /-- ZERO_CHECK_RESULT (R243): A zero check's pairs are complete, the chain offset is computed and accepted or rejected. -/
  | zeroCheckResult
  /-- FAST_SEQUENCE_TIMEOUT (R216): 30 s of RTC time pass without a valid result above QFAST, and every step returns to NORMAL. -/
  | fastSequenceTimeout
  /-- TEMPLATE_DAILY_COPY (R228): At the first interval after 00:00 local time, adapted templates are copied to Archive SYSTEM. -/
  | templateDailyCopy
  /-- TEMPERATURE_RESULT_POST (R259): A temperature measurement completes and its result is posted to the exchange bank. -/
  | temperatureResultPost (limits : List Nat)
  /-- PRESSURE_READ (R279): After the module settling time the Curator reads pressure on MP3, switches MP3_VS off and posts the reading. -/
  | pressureRead (answer : Option (BitVec 32 × Byte))
  /-- REGISTRAR_INTEGRATE (R268): On the doorbell the Registrar integrates the posted flow result, writes the shadow, acknowledges and posts its copy. -/
  | registrarIntegrate
  /-- MINUTE_SEAL_TIMEOUT (R286): A minute boundary has passed by 5 s without an integration, and the Warden wakes the Registrar to seal it. -/
  | minuteSealTimeout
  /-- LOCKSTEP_DISAGREEMENT (R266): The lockstep cores disagree; the Registrar stops, the REG domain is reset and restored, or safe-beacon is entered. -/
  | lockstepDisagreement
  /-- AVAILABILITY_BIN_CLOSE (R284): A daily availability bin closes, AVDEF is recomputed and 0x080B is logged above 100 ppm. -/
  | availabilityBinClose
  /-- SRAM_UNCORRECTABLE (R295): A read finds an uncorrectable SRAM error, 0x0A01 is logged and the segment-specific consequence follows. -/
  | sramUncorrectable (segment : Fin 33) (addr : BitVec 16) (port : Option Port)
  /-- XB_COLLISION (R299): Both exchange-bank ports write the same word in one cycle, and port B's write is discarded and counted. `a` and `b` are the writes of the two ports. -/
  | xbCollision (agent : XbAgent) (a : XbWrite) (b : XbOwnWrite)
  /-- XBPAGE_SEL_WRITE (R302): A write to XBPAGE.SEL selects the XB page that the writing port sees in the service-map window. -/
  | xbpageSelWrite (port : Port) (value : Word)
  /-- BGCMD_START (R305): A write of BGCMD with KEY 0x5A and START 1 requests a background SRAM pass. -/
  | bgcmdStart (port : Port)
  /-- BGTEST_DUE (R305): BGTEST hours after the previous pass, a background SRAM pass is requested. -/
  | bgtestDue
  /-- BG_SLICE (R305): At the end of a wake in which the Curator executes, a background test slice of up to 2 ms runs. -/
  | bgSlice (rows : Nat)
  /-- BG_WINDOW_RELEASE (R306): The march on a held row completes and the row is restored, verified and released. -/
  | bgWindowRelease (failed : Bool)
  /-- BG_URGENT_ACCESS (R308): An urgent requester reaches a held window, the test is abandoned and the saved words restored before the access. -/
  | bgUrgentAccess
  /-- BG_PASS_OVERDUE (R305): A background pass has not completed within 7 days, and 0x0A04 is logged once. -/
  | bgPassOverdue
  /-- ARCHIVE_OP_COMPLETE (R310): An Archive program, state program or erase completes, or fails and is retried or the block retired. -/
  | archiveOpComplete (ok : Bool)
  /-- ERASE_SUSPEND (R312): An accession program or Warden commit becomes pending during a Curator erase, and the erase is suspended within 50 µs. -/
  | eraseSuspend
  /-- WARDEN_AREA_ERASE (R325): At its next wake the Warden erases a superseded Warden-area sector under a unit-1 seat. -/
  | wardenAreaErase (smp : Sample)
  /-- SYNTH_LOCK_TIMEOUT (R338): The synthesizer does not lock within 100 µs; a full calibration and one retry follow, and a second failure abandons the use. -/
  | synthLockTimeout
  /-- TRANSMISSION_START (R349): Immediately before ramp-up the ledgers are checked and charged indivisibly, and the frame is sent or refused. -/
  | transmissionStart
  /-- TRANSMISSION_END (R346): A transmission's ramp-down ends and the follow-on reply, ACK or listen window is scheduled. -/
  | transmissionEnd (smp : Sample)
  /-- REPLY_WINDOW_OPEN (R335): 2.0 ms after an S2, T2, C2 or N frame, the 1.0 ms reply window opens. -/
  | replyWindowOpen
  /-- REPLY_WINDOW_CLOSE (R335): The reply window ends without a synchronisation word, and the receiver is disabled. -/
  | replyWindowClose
  /-- EN13757_ACK_RECEIVED (R392): An EN 13757-4 acknowledgement addressed to the device's A-field is received in a reply window and counted in LEGACK. -/
  | en13757AckReceived (frame : List Byte)
  /-- SEQUENCER_COMMAND (R344): The Warden commands the autonomous TX sequencer to send a frame, which waits while the Link core holds the transceiver. -/
  | sequencerCommand (smp : Sample)
  /-- SEQUENCER_TAKEOVER (R345): The Link core has not released the transceiver 2 s after a sequencer command; LNK and RF are reset and 0x0B04 is logged. -/
  | sequencerTakeover
  /-- SUPERFRAME_BOUNDARY (R367): A 32 s superframe boundary passes and the SFN and Slalom channel advance. -/
  | superframeBoundary (smp : Sample)
  /-- BEACON_REQUEST (R369): 5 ms before a boundary the parent requests the beacon seat, and withdraws the beacon if it is not admitted in time. -/
  | beaconRequest (smp : Sample)
  /-- BEACON (R370): A BEACON frame is received; when accepted it sets the parent, superframe tracking and a contact, and may offer time. -/
  | beacon (f : RxFrame)
  /-- BEACON_WINDOW_CLOSE (R371): A beacon window closes without an accepted beacon; a miss is counted and three misses declare the parent lost. -/
  | beaconWindowClose
  /-- UPLOAD_DUE (R372): An endpoint's upload superframe arrives and, after its beacon, a POLL is sent in its poll slot. -/
  | uploadDue (smp : Sample)
  /-- POLL (R379): A POLL frame is received by the parent, checked by R365, stored in the cluster store and acknowledged. -/
  | poll (f : RxFrame)
  /-- ACK (R374): An ACK frame echoing a sent frame's CTR is accepted and ends the exchange. -/
  | ack (f : RxFrame)
  /-- ACK_WINDOW_CLOSE (R374): An ACK window closes without an accepted ACK, and a retry is scheduled or the exchange fails. -/
  | ackWindowClose
  /-- JOIN (R380): A JOIN frame is received by the parent, which assigns an index or refuses with ACKST 2. -/
  | join (f : RxFrame)
  /-- JOIN_SEND (R377): An endpoint without membership sends a JOIN in the open slot after accepting a beacon. -/
  | joinSend (smp : Sample)
  /-- HANDOVER (R384): A HANDOVER frame is received by the successor and its items stored. -/
  | handover (f : RxFrame)
  /-- SEARCH_END (R376): A targeted or blind search ends, synchronised or failed into fallback. -/
  | searchEnd
  /-- SEARCH_RETRY_DUE (R376): The search backoff expires and a new search begins. -/
  | searchRetryDue
  /-- FALLBACK_TELEGRAM_DUE (R376): Every LEGINT minutes in fallback, an endpoint sends a fallback telegram. -/
  | fallbackTelegramDue (smp : Sample)
  /-- DEPUTY_PROMOTION (R378): A deputy whose targeted search failed takes the parent role at its next tracked boundary. -/
  | deputyPromotion
  /-- MEMBER_REMOVAL (R380): A member unheard for 7 days is removed from the member table and 0x0C14 is logged. -/
  | memberRemoval (index : Fin 64)
  /-- HANDOVER_CHOICE (R383): At HANDHOUR:00:00 − 300 s the parent chooses a successor and announces the hand-over. -/
  | handoverChoice
  /-- HANDOVER_TRANSFER_START (R384): At the first bulk slot of H the old parent starts sending HANDOVER frames. -/
  | handoverTransferStart
  /-- HANDOVER_TRANSFER_END (R384): 120 s after the boundary of H the transfer ends and Table of R384 decides the outcome. -/
  | handoverTransferEnd
  /-- HANDOVER_H4_CHECK (R384): The successor's beacon window of H + 4 ends, and it takes the parent role or stays an endpoint. -/
  | handoverH4Check
  /-- MARKS_COPY (R366): Every hour the receive marks are copied to object 0x0D. -/
  | marksCopy
  /-- LISTEN_WINDOW_OPEN (R386): 200 µs after a beacon, telegram or poll exchange, a 1.2 ms listen window opens at the wake rate. -/
  | listenWindowOpen
  /-- LISTEN_WINDOW_CLOSE (R386): A listen window or its 45 ms extension ends without a wake word. -/
  | listenWindowClose
  /-- WAKE_WORD (R387): A wake word addressed to the device is accepted and a SESSION HELLO is scheduled. -/
  | wakeWord (word : BitVec 32)
  /-- SESSION_HELLO (R388): 5 ms after the wake word the meter sends a SESSION HELLO with its identity and challenge. -/
  | sessionHello (smp : Sample)
  /-- SESSION_READMAP (R389): A session READMAP request returns service-map words. -/
  | sessionReadmap (f : RxFrame)
  /-- SESSION_READPROF (R389): A session READPROF request returns profile records. -/
  | sessionReadprof (f : RxFrame)
  /-- SESSION_READEVT (R389): A session READEVT request returns event entries. -/
  | sessionReadevt (f : RxFrame)
  /-- SESSION_READSTORE (R389): A session READSTORE request returns uncollected cluster-store entries. -/
  | sessionReadstore (f : RxFrame)
  /-- SESSION_ACKSTORE (R389): A session ACKSTORE request marks entries sent in the session as collected. -/
  | sessionAckstore (f : RxFrame)
  /-- SESSION_TIME (R389): A session TIME request offers time to the ledger by R157. -/
  | sessionTime (f : RxFrame)
  /-- SESSION_CLOSE (R389): A session CLOSE request gets a final response and ends the session. -/
  | sessionClose (f : RxFrame)
  /-- SESSION_TIMEOUT (R388): Two empty 50 ms windows or 120 s after HELLO end the reader session. -/
  | sessionTimeout
  /-- READER_FRAME_HEARD (R390): A reader receives a frame from a meter not read within 24 h and sends the wake pattern. -/
  | readerFrameHeard (src : Option Nat) (f : RxFrame)
  /-- LEGACY_TELEGRAM_DUE (R391): A LEGACY telegram falls due on its daily schedule and is sent. -/
  | legacyTelegramDue (smp : Sample)
  /-- GLASS_FRAME (R399): A glass frame boundary passes, applying a new image, blink phase or drive stop and running the read-back check. -/
  | glassFrame (vlcdMv : Nat) (failing : List Nat)
  /-- DISPLAY_IDLE_TIMEOUT (R398): 60 s without a key press return the display to screen 0. -/
  | displayIdleTimeout
  /-- EMISSIVE_FRAME (R403): An emissive frame's forward and balance periods complete and the next frame's seat is requested. -/
  | emissiveFrame (smp : Sample) (failing : List Nat)
  /-- EMISSIVE_ACTIVITY_END (R405): The 10 s emissive activity time expires and emissive drive stops. -/
  | emissiveActivityEnd
  /-- BISTABLE_UPDATE_REQUEST (R410): An update of a bistable region is requested, and its transitions selected and seat requested, or queued. -/
  | bistableUpdateRequest (region : Fin 8) (content : List Nat) (smp : Sample)
  /-- BISTABLE_PHASE_TICK (R410): The 10 ms phase clock ticks, starting, advancing, pausing or completing region updates. -/
  | bistablePhaseTick (vp vn : Nat) (checks : List (Nat × Bool))
  /-- BISTABLE_PARK_DISCHARGE (R412): 10 ms into a park every line goes to GND and the rails discharge, and the states are recorded. -/
  | bistableParkDischarge
  /-- READ (R420): A host READ transaction returns words from the address upward. -/
  | read (addr : Word) (count : Nat)
  /-- WRITE (R420): A host WRITE transaction writes words to the address upward, word by word. -/
  | write (addr : Word) (words : List Word)
  /-- REQUEST (R420): A host REQUEST transaction submits an Ohmueri request frame. -/
  | request (frame : List Byte)
  /-- RESPONSE (R420): A host RESPONSE transaction returns the response to the last request. -/
  | response (count : Nat)
  /-- WAKE (R419): A host WAKE opcode while awake is no operation. -/
  | wake
  /-- REGISTER_WRITE (R7): A write to a register without its own row takes effect by its access code, including W1C clears and RW fields in service mode. -/
  | registerWrite (port : Port) (addr : Word) (value : Word)
  /-- HELLO (R427): An Ohmueri HELLO opens a session and returns identity and a challenge. -/
  | hello (port : Port) (tag : Byte) (data : List Byte)
  /-- BAUD (R427): An Ohmueri BAUD command changes the optical rate 10 ms after its response. -/
  | baud (port : Port) (tag : Byte) (data : List Byte)
  /-- BAUD_SWITCH (R427): 10 ms after the BAUD response both sides change rate. -/
  | baudSwitch
  /-- AUTH (R428): An Ohmueri AUTH command enters service mode or fails with lockout. -/
  | auth (port : Port) (tag : Byte) (data : List Byte)
  /-- AUTH_LOCKOUT_END (R428): An AUTH lockout on a port expires. -/
  | authLockoutEnd (port : Port)
  /-- CLOSE (R427): An Ohmueri CLOSE ends the session and its service mode. -/
  | close (port : Port) (tag : Byte) (data : List Byte)
  /-- OHMUERI_SESSION_TIMEOUT (R427): 120 s without a valid request end an Ohmueri session. -/
  | ohmueriSessionTimeout (port : Port)
  /-- STATQ (R427): An Ohmueri STATQ returns the code and status of the last pending command. -/
  | statq (port : Port) (tag : Byte) (data : List Byte)
  /-- READMAP (R427): An Ohmueri READMAP returns service-map words. -/
  | readmap (port : Port) (tag : Byte) (data : List Byte)
  /-- WRITEMAP (R427): An Ohmueri WRITEMAP writes service-map words as by R420. -/
  | writemap (port : Port) (tag : Byte) (data : List Byte)
  /-- READPROF (R427): An Ohmueri READPROF returns profile records. -/
  | readprof (port : Port) (tag : Byte) (data : List Byte)
  /-- READEVT (R427): An Ohmueri READEVT returns event entries. -/
  | readevt (port : Port) (tag : Byte) (data : List Byte)
  /-- READSTORE (R427): An Ohmueri READSTORE returns uncollected cluster-store entries. -/
  | readstore (port : Port) (tag : Byte) (data : List Byte)
  /-- ACKSTORE (R427): An Ohmueri ACKSTORE marks entries sent in this session as collected. -/
  | ackstore (port : Port) (tag : Byte) (data : List Byte)
  /-- READSNAP (R427): An Ohmueri READSNAP returns bytes of a committed snapshot group. -/
  | readsnap (port : Port) (tag : Byte) (data : List Byte)
  /-- TIMESET (R157): An Ohmueri TIMESET offers time to the ledger in service mode. -/
  | timeset (port : Port) (tag : Byte) (data : List Byte)
  /-- LEARN (R226): An Ohmueri LEARN starts template learning for a path. -/
  | learn (port : Port) (tag : Byte) (data : List Byte)
  /-- BGTEST (R305): An Ohmueri BGTEST requests a background SRAM pass. -/
  | bgtest (port : Port) (tag : Byte) (data : List Byte)
  /-- POWER (R114): An Ohmueri POWER requests Hibernate or Off. -/
  | power (port : Port) (tag : Byte) (data : List Byte)
  /-- SLOTOPEN (R430): An Ohmueri SLOTOPEN erases the inactive configuration slot up to the given length. -/
  | slotopen (port : Port) (tag : Byte) (data : List Byte)
  /-- SLOTDATA (R430): An Ohmueri SLOTDATA programs image bytes at the next offset. -/
  | slotdata (port : Port) (tag : Byte) (data : List Byte)
  /-- SLOTCLOSE (R430): An Ohmueri SLOTCLOSE validates the written slot by R69. -/
  | slotclose (port : Port) (tag : Byte) (data : List Byte)
  /-- RELOAD (R76): An Ohmueri RELOAD validates both slots and selects an image while metering continues. -/
  | reload (port : Port) (tag : Byte) (data : List Byte)
  /-- PATCHOPEN (R430): An Ohmueri PATCHOPEN opens a write of the inactive patch bank. -/
  | patchopen (port : Port) (tag : Byte) (data : List Byte)
  /-- PATCHDATA (R430): An Ohmueri PATCHDATA programs patch-bank bytes. -/
  | patchdata (port : Port) (tag : Byte) (data : List Byte)
  /-- PATCHCLOSE (R322): An Ohmueri PATCHCLOSE verifies the patch bank signature and marks it valid or invalid. -/
  | patchclose (port : Port) (tag : Byte) (data : List Byte)
  /-- PENDING_COMMAND_COMPLETE (R427): A pending command's work completes, its outcome is recorded for STATQ and HIRQ.RSP is set. -/
  | pendingCommandComplete (rep : StageReport)
  /-- RELOAD_SWITCH (R78): At the first interval boundary with no Piste step running, the changed records are posted and the Registrar seals the switch record. -/
  | reloadSwitch
  /-- RELOAD_COMMIT_DONE (R78): The switch record's commit completes, the pending copy becomes current and the new image governs. -/
  | reloadCommitDone
  /-- IR_EN_TIMEOUT (R425): The 2 s after a carrier wake or 60 s after KEY1 expire and IR_EN is released. -/
  | irEnTimeout
  /-- MODULE_CHECK_24H (R433): Every 24 h of TLMONO the module ports are checked against the Catalogue under unit 4, and the radio calibration is retried. -/
  | moduleCheck24h (reads : List (Fin 7 × ModRead)) (radioOk : Bool) (smp : Sample)
  /-- I2C_STRETCH_TIMEOUT (R479): A module stretches the clock beyond 1 ms; the transfer is ended and the port gets fault 2. -/
  | i2cStretchTimeout (port : Fin 7)
  /-- CURATOR_WATCHDOG (R452): 2 s pass without Curator service and a watchdog reset with cause 0x01 follows. -/
  | curatorWatchdog
  /-- SIGNAL_WATCHDOG (R452): 20 ms pass without Signal-core progress; the SIG domain is reset and the wake's work abandoned. -/
  | signalWatchdog
  /-- LINK_WATCHDOG (R452): 2 s pass with LNK on without progress; LNK and RF are reset, the alarm telegram sent and the role restarted. -/
  | linkWatchdog (smp : Sample)
  /-- REGISTRAR_WATCHDOG (R452): A result is unacknowledged 20 ms after its doorbell, or a seal is incomplete after 250 ms, and the REG domain is recovered. -/
  | registrarWatchdog
  /-- WARDEN_WATCHDOG (R452): 4 s of the LPRC counter pass without Warden service; the Warden restarts from ROM and performs a watchdog reset. -/
  | wardenWatchdog
  /-- SHADOW_COMMIT_COMPLETE (R453): The guaranteed commit of the shadow to the sealed slot completes and the procedure continues. -/
  | shadowCommitComplete (smp : Sample)
  /-- ALARM_TELEGRAM_SEAT_TIMEOUT (R457): The alarm frame's seat is not admitted within 1 s, and the frame is held. -/
  | alarmTelegramSeatTimeout
  /-- LINE_HELD_DETECT (R450): A discrete line stays at its fault level for its limit, is held and 0x1009 is logged. -/
  | lineHeldDetect (line : Fin 7)
  /-- LINE_RELEASE (R450): A held line meets its release condition and its PINFLT bit clears. -/
  | lineRelease (line : Fin 7)
  /-- REVERSE_DAY_CHECK (R449): At 00:00 local time the day's VFWD and VREV increments are compared for reversed flow. -/
  | reverseDayCheck
  /-- STANDING_EVENT_EXPIRY (R445): 24 h after logging, a displayed event stops standing. -/
  | standingEventExpiry
  /-- HELD_REQUEST_REISSUE (R459): When the parent role ends, the held Hibernate or Off request is issued again. -/
  | heldRequestReissue
  /-- VDDIO_RESTORE (R43): VDDIO rises back above its minimum and the VDDIO-referred pads leave isolation. -/
  | vddioRestore
  /-- VITRDY_LOST (R139): The oven sensor leaves the ±0.05 K band, VITRDY is cleared and a gate in progress is abandoned. -/
  | vitrdyLost
  /-- LPRC_CAL_1H_EXPIRY (R155): While the RTC runs on LPRC, its last calibration becomes more than 1 h old, a ledger segment ends and the residual rate changes to 30 000 ppm. -/
  | lprcCal1hExpiry
  /-- TIME_SLEW_END (R157): A civil-time slew has absorbed d, civil time returns to rate 1 and TLSTAT.SLEW clears. -/
  | timeSlewEnd
  /-- BEACON_WINDOW_OPEN (R373): At T − G the endpoint's receiver turns on for an expected beacon. -/
  | beaconWindowOpen
  /-- ACK_WINDOW_OPEN (R374): At the frame end + 0.8 ms the sender's ACK window opens and its receiver turns on. -/
  | ackWindowOpen
  /-- POLL_SLOT_END (R379): A parent's poll slot with a due upload ends without an accepted poll, the receiver turns off and UPMISS is counted. -/
  | pollSlotEnd
  /-- READER_SESSION_RESPONSE (R390): A reader receives a meter's SESSION HELLO or response and continues its READMAP, READSTORE, ACKSTORE, TIME and CLOSE sequence, storing collected blocks as CEKIND 5 entries. -/
  | readerSessionResponse (f : RxFrame)
  /-- SEGMENT_TEST_END (R439): The 10 s in which every segment is shown, after both keys were held for 5 s, expire and the normal image returns. -/
  | segmentTestEnd
  /-- ALARM_PULSE_END (R437): The 1 s after an alarm event expires, and a pulse output with function 13 is released. -/
  | alarmPulseEnd
  /-- HOST_UNLISTED_OPCODE (R419): A host transaction with an unlisted opcode is ignored for its remainder and HSTERR is incremented. -/
  | hostUnlistedOpcode (opcode : Byte)
  /-- OHMUERI_FRAME_DISCARD (R426): An Ohmueri frame with a failing CRC, a LEN out of range or a gap of more than 20 bit times is discarded and IRERR is incremented. -/
  | ohmueriFrameDiscard (frame : List Byte) (gap : Bool)
  deriving DecidableEq, Repr

end Sys2Proof
end

