-- ==== Sys2Proof/Config.lean ====
section
/-! DEFINITION. What one implementation fixes and what the spec leaves open. Every constant here has no body: a claim
that mentions one holds whatever its value is (logs named at each). -/

namespace Sys2Proof

/-- Device-unique OTP key of 16 bytes (reason 0x0F of Table 3.3); per device (log 3). -/
opaque Config.otpKey : List (BitVec 8)
/-- `SERIAL`, the 64-bit device serial from OTP (R107); per device (log 3). -/
opaque Config.serial : BitVec 64
/-- The meter identity held in OTP for factory link defaults (R104): 0 manufacturer, 1 identification number, 2 version,
3 device type; per device (log 3). -/
opaque Config.otpIdent : Nat → Nat
/-- Chips of preamble and synchronisation of an EN 13757-4 mode, as the standard gives them (log 34). -/
opaque Config.preambleChips : Nat → Nat
/-- A chip of that preamble and synchronisation word, by its number (log 34). -/
opaque Config.preambleChip : Nat → Nat → Bool
/-- Application data under EN 13757-7 security mode 7, from the key, the message counter and the octets before encryption (log 34). -/
opaque Config.mode7 : List Byte → Nat → List Byte → List Byte
/-- Water at 1.6 MPa by the IAPWS-IF97 region 1 equations (R275), at a temperature in 0.1 mK: specific enthalpy in kJ/kg, specific
volume in m³/kg and isobaric heat capacity in kJ/(kg·K); the coefficients of the equations are not in the spec (log 47). -/
opaque Config.waterEnthalpy : Int → Rat
/-- Specific volume of water (R275, log 47). -/
opaque Config.waterVolume : Int → Rat
/-- Isobaric heat capacity of water (R275, log 47). -/
opaque Config.waterCapacity : Int → Rat
/-- The k that the Registrar computes where the exact formulation gives the first argument, before the 10 ppm that R275 allows (log
47). -/
opaque Config.computedHeat : Rat → Rat
/-- Taps −15 to +15 of the FIR that forms the Hilbert transform (R226), by index 0 to 30; the spec gives the length alone
(log 53). -/
opaque Config.hilbert : Nat → Rat
/-- τ_ADC(k) of R223 in fs, by chain (0 A, 1 B) and rate exponent k; per device, in OTP (log 3). -/
opaque Config.adcDelay : Nat → Nat → Int
/-- Relative offset of the Vitrine's frequency from 24 MHz, held in OTP (R138, R144); per device (log 3). -/
opaque Config.vitrineOffset : Rat
/-- Free values for results the spec leaves undefined or unstated, one per draw (log 4). -/
opaque Config.freeValue : Nat → Nat
/-- Whether the ECDSA signature of a patch bank verifies under the Sehawick key whose hash is in mask ROM (R322); the key is
not in the spec (log 3). -/
opaque Config.patchSigned : List (BitVec 8) → Bool
/-- Whether the firmware of the Curator (0), the Signal core (1) or the Link core (2) keeps data in an SB segment (Table 12.1), and so
reaches it when it begins to execute (log 149). -/
opaque Config.sbUser : Nat → Nat → Bool
/-- Whether a quotient that is no integer is reported rounded up, where the spec states no rounding (log 5). -/
opaque Config.roundUp : Rat → Bool

/-- The codes of the events whose code the spec does not state (log 26): 0 a counted record (R82), 1 the first
configuration (R82), 2 a configuration change that is not counted (R83), 3 a successor record ignored (R68), 4 a port
read at start that no record names (R74). -/
opaque Config.eventChoice : Nat → Nat

/-- Groups of event codes: the first high byte of each chapter's region in Table 0.3 (R9). -/
def Config.eventGroups : List Nat := [0x00, 0x01, 0x02, 0x03, 0x04, 0x05, 0x07, 0x08, 0x0A, 0x0B, 0x0C, 0x0E, 0x0F, 0x10]

/-- Such a code: 16 bits, of a group of R9, with a low byte other than 0x00 (R10). -/
def Config.eventCode (k : Nat) : Nat :=
  256 * Config.eventGroups.getD (Config.eventChoice k / 255 % 14) 0x0F + 1 + Config.eventChoice k % 255

/-- A rational reported as an integer where the spec states no rounding: the integer itself, or one of its two
neighbours (log 5). -/
def roundOpen (q : Rat) : Int := if q.den = 1 then q.num else q.floor + (if Config.roundUp q then 1 else 0)

/-- A rational rounded to the nearest integer; which of two equally near ones is open (log 5). -/
def roundNear (q : Rat) : Int :=
  let f := q.floor
  if q - f < 1 / 2 then f else if 1 / 2 < q - f then f + 1 else f + (if Config.roundUp q then 1 else 0)

end Sys2Proof
end

