-- ==== Sys2Proof/Machine/Catalogue.lean ====
section
/-! DEFINITION. The Catalogue as the device holds it after validation: one structure per record of Table 3.5,
with the fields and the defaults of Table 3.6 (R84 to R86). -/

namespace Sys2Proof.Machine

/-- Measurement profiles: `PROFILE` of record 0x0080. -/
inductive Profile where | gas | heat | cool | heatcool | verify
  deriving DecidableEq, Repr

/-- Link roles: `ROLE` of record 0x0C01. -/
inductive Role where | silent | endpoint | parent | reader | legacy
  deriving DecidableEq, Repr

/-- Display types: `DTYPE` of record 0x0E01. -/
inductive DType where | none | glass | bistable | emissive
  deriving DecidableEq, Repr

/-- Codes of `PROFILE`. -/
def Profile.code : Profile → Nat
  | .gas => 0 | .heat => 1 | .cool => 2 | .heatcool => 3 | .verify => 4

/-- Codes of `ROLE`. -/
def Role.code : Role → Nat
  | .silent => 0 | .endpoint => 1 | .parent => 2 | .reader => 3 | .legacy => 4

/-- Codes of `DTYPE`. -/
def DType.code : DType → Nat
  | .none => 0 | .glass => 1 | .bistable => 2 | .emissive => 3

/-- The profile of a code. -/
def Profile.ofCode : Nat → Profile
  | 0 => .gas | 1 => .heat | 2 => .cool | 3 => .heatcool | _ => .verify

/-- The role of a code. -/
def Role.ofCode : Nat → Role
  | 0 => .silent | 1 => .endpoint | 2 => .parent | 3 => .reader | _ => .legacy

/-- The display type of a code. -/
def DType.ofCode : Nat → DType
  | 0 => .none | 1 => .glass | 2 => .bistable | _ => .emissive

/-- Record 0x0003, meter identity: `MFCT`, `IDNUM` (BCD), `VERSION`, `DEVTYPE`. -/
structure Identity where
  mfct : Nat := 0
  idnum : Nat := 0
  version : Nat := 0
  devtype : Nat := 0
  deriving DecidableEq, Repr

/-- Record 0x0101, Chairlift: `IBATLIM` in 0.1 mA, thresholds in mV, `CRES` in 0.1 mF. -/
structure ChairliftRec where
  ibatlim : Nat := 40
  vresLow : Nat := 2600
  vresOk : Nat := 3100
  cres : Nat := 15
  deriving DecidableEq, Repr

/-- Record 0x0301, TDC. -/
structure TdcRec where
  assign : Nat := 0x90
  hyst : Nat := 10
  holdoff : Nat := 500
  calint : Nat := 6
  caldt : Nat := 5
  deriving DecidableEq, Repr

/-- Record 0x0480, one acoustic path. -/
structure PathRec where
  path : Nat := 0
  fire : Nat := 0
  length : Nat := 0
  costheta : Nat := 0
  freq : Nat := 0
  periods : Nat := 4
  wave : Nat := 0xFF
  thresh : Nat := 160
  vdrvset : Nat := 50
  gain : Nat := 60
  term : Nat := 3
  deriving DecidableEq, Repr

/-- Record 0x0481, one waveform. -/
structure WaveRec where
  index : Nat := 0
  samples : List Byte := []
  deriving DecidableEq, Repr

/-- One step of record 0x0482; intervals and phase in 1/8 s. -/
structure StepRec where
  action : Nat := 0
  arg : Nat := 0
  normal : Nat := 1
  fast : Nat := 0
  phase : Nat := 0
  deriving DecidableEq, Repr

/-- Record 0x0580, flow. -/
structure FlowRec where
  npairs : Nat := 5
  minvalid : Nat := 3
  substmax : Nat := 8
  snrmin : Nat := 12
  ampmin : Nat := 64
  madk : Nat := 8
  qcut : Nat := 0
  qfast : Nat := 0
  area : Nat := 1
  qcuthys : Nat := 10
  deriving DecidableEq, Repr

/-- One class of record 0x0583. -/
structure GasClass where
  c15min : Nat := 0
  cfreq : Nat := 0
  cgain : Nat := 0
  cmodel : Nat := 0
  deriving DecidableEq, Repr

/-- Record 0x0780, temperature. -/
structure TempRec where
  probe : Nat := 2
  fourwire : Nat := 0x0F
  flowch : Nat := 0
  retch : Nat := 1
  avg : Nat := 8
  swappol : Nat := 1
  enmask : Nat := 0x03
  leadr : List Nat := [0, 0, 0, 0]
  deriving DecidableEq, Repr

/-- Record 0x0880, registers. -/
structure RegRec where
  medium : Nat := 0
  tarmode : Nat := 0
  tarb : List Nat := [0, 0, 0]
  deriving DecidableEq, Repr

/-- Record 0x0881, glycol polynomial: terms as binary32 bit patterns, ordered by i, then by j. -/
structure GlycolRec where
  order : Nat := 1
  terms : List (BitVec 32) := []
  deriving DecidableEq, Repr

/-- Record 0x0882, gas base conditions. -/
structure GasBaseRec where
  tbase : Int := 1500
  pbase : Nat := 101325
  tsource : Nat := 0
  psource : Nat := 0
  pfixed : Nat := 101325
  deriving DecidableEq, Repr

/-- Record 0x0B01, radio. -/
structure RadioRec where
  region : Nat := 0
  band : Nat := 2
  txpwr : Int := 10
  deriving DecidableEq, Repr

/-- Record 0x0C01, link. -/
structure LinkRec where
  role : Role := .legacy
  legmode : Nat := 2
  handhour : Nat := 3
  clsize : Nat := 1
  clusterid : Nat := 0
  legint : Nat := 15
  telday : Nat := 24
  deriving DecidableEq, Repr

/-- Record 0x0C02, one key: the record's public part and the unwrapped key. -/
structure KeyRec where
  kind : Nat := 0
  keyid : Nat := 0
  peer : Nat := 0
  key : List Byte := []
  deriving DecidableEq, Repr

/-- Record 0x0E01, display. -/
structure DisplayRec where
  dtype : DType := .none
  duty : Nat := 4
  bias : Nat := 3
  vlcdset : Nat := 30
  tglass : Int := -25
  emcur : Nat := 4
  deriving DecidableEq, Repr

/-- Record 0x0F80, one module. -/
structure ModuleRec where
  port : Nat := 0
  cls : Nat := 0
  bind : Nat := 0
  minfmt : Nat := 1
  serial : List Byte := []
  deriving DecidableEq, Repr

/-- The Catalogue in force. The defaults of optional records are those of Table 3.6; the mandatory records of the
value below stand for no image governing (R490), and nothing meters before an image governs. -/
structure Cat where
  seq : Nat := 0
  mdigest : BitVec 256 := 0
  /-- Signer record 0x0001, its key hash. -/
  signer : BitVec 256 := 0
  /-- Successor record 0x0002. -/
  nexthash : Option (BitVec 256) := none
  ident : Identity := {}
  profile : Profile := .gas
  paths : Nat := 1
  legalver : Nat := 0
  patchid : Nat := 0
  chair : ChairliftRec := {}
  retbank : Nat := 0xF
  retsb : Nat := 0
  xt32load : Nat := 16
  xrfload : Nat := 16
  vitcal : Nat := 60
  tdc : TdcRec := {}
  path : List PathRec := []
  wave : List WaveRec := []
  steps : List StepRec := []
  flow : FlowRec := {}
  /-- Record 0x0581, points (`RE`, `K`). -/
  kre : List (Nat × Nat) := []
  /-- Record 0x0582, `W` of paths 0 to 3. -/
  weights : List Nat := [32768, 0, 0, 0]
  gas : List GasClass := []
  temp : Option TempRec := none
  reg : RegRec := {}
  glycol : Option GlycolRec := none
  gasbase : Option GasBaseRec := none
  snapmode : Nat := 1
  bgtest : Nat := 24
  radio : RadioRec := {}
  link : LinkRec := {}
  keys : List KeyRec := []
  disp : DisplayRec := {}
  hostPresent : Bool := false
  irqmode : Nat := 0
  maxbaud : Nat := 2
  svchash : BitVec 256 := 0
  po0fn : Nat := 0
  po1fn : Nat := 0
  tampen : Nat := 3
  modules : List ModuleRec := []
  sbint : Nat := 15
  /-- The legally relevant records in image order: ID, index (0 when not repeatable) and full bytes (R64, R82). -/
  legal : List (Nat × Nat × List Byte) := []
  /-- Every record that is not legally relevant, in image order, for the comparison of R83. -/
  other : List Byte := []
  deriving DecidableEq, Repr

/-- Temperature record in force, or its defaults. -/
def Cat.t (c : Cat) : TempRec := c.temp.getD {}

/-- Gas-base record in force, or its defaults. -/
def Cat.g (c : Cat) : GasBaseRec := c.gasbase.getD {}

/-- The record of path k. -/
def Cat.pathRec (c : Cat) (k : Nat) : PathRec := (c.path.find? (fun p => p.path == k)).getD {}

/-- Whether path k is configured. -/
def Cat.hasPath (c : Cat) (k : Nat) : Bool := c.path.any (fun p => p.path == k)

/-- The 0x0F80 record of a port. -/
def Cat.modRec (c : Cat) (p : Nat) : Option ModuleRec := c.modules.find? (fun m => m.port == p)

/-- Step s of the Piste. -/
def Cat.step (c : Cat) (i : Nat) : StepRec := c.steps.getD i {}

end Sys2Proof.Machine
end

