-- ==== Sys2Proof/Machine/Crypto.lean ====
section
/-! DEFINITION. The check codes of R484 and the published algorithms the spec names without printing them:
SHA-256, ECDSA P-256 verification and AES-128 CCM (R58, R64, R65, Table 3.3). PRESUMED (log 2): the spec names
the standards; their constants and steps are the published ones. -/

namespace Sys2Proof.Machine

/-- Little-endian value of a byte list (R58). -/
def leNat (bs : List Byte) : Nat := bs.foldr (fun b acc => b.toNat + 256 * acc) 0

/-- Big-endian value of a byte list (keys, hashes and signatures, R58). -/
def beNat (bs : List Byte) : Nat := bs.foldl (fun acc b => 256 * acc + b.toNat) 0

/-- The low `n` bytes of a value, least significant first. -/
def leBytes (n v : Nat) : List Byte := (List.range n).map (fun i => BitVec.ofNat 8 (v >>> (8 * i)))

/-- The low `n` bytes of a value, most significant first. -/
def beBytes (n v : Nat) : List Byte := (leBytes n v).reverse

/-- `n` bytes of a list from an offset. -/
def slice (bs : List Byte) (off n : Nat) : List Byte := (bs.drop off).take n

/-- CRC-16/CCITT of R484: polynomial 0x1021, initial value 0xFFFF, not reflected, no final XOR. -/
def crc16 (bs : List Byte) : BitVec 16 :=
  bs.foldl (fun c b =>
    (List.range 8).foldl (fun c _ => if c.msb then (c <<< 1) ^^^ 0x1021#16 else c <<< 1)
      (c ^^^ BitVec.shiftLeft (b.setWidth 16) 8)) 0xFFFF#16

/-- CRC-32 of R484: polynomial 0x04C1_1DB7, reflected, initial value and final XOR 0xFFFF_FFFF. -/
def crc32 (bs : List Byte) : BitVec 32 :=
  ~~~ (bs.foldl (fun c b =>
    (List.range 8).foldl (fun c _ => if c.getLsbD 0 then (c >>> 1) ^^^ 0xEDB88320#32 else c >>> 1)
      (c ^^^ b.setWidth 32)) 0xFFFFFFFF#32)

/-- The first 64 primes: no divisor from 2 to 17. -/
def primes : List Nat := (List.range 312).filter (fun p => Nat.ble 2 p && (List.range 18).all (fun d => Nat.ble d 1 || Nat.ble p d || p % d != 0))

/-- The greatest `r` below 2^36 whose `k`-th power does not exceed `n`, bit by bit from above. -/
def rootFloor (k n : Nat) : Nat :=
  (List.range 36).foldl (fun r i => bif Nat.ble ((r + 2 ^ (35 - i)) ^ k) n then r + 2 ^ (35 - i) else r) 0

/-- The first 32 bits of the fraction of the `k`-th root of a number. -/
def rootFraction (k p : Nat) : BitVec 32 := BitVec.ofNat 32 (rootFloor k (p * 2 ^ (32 * k)))

/-- A word rotated right by three distances, combined. -/
def mix3 (x : BitVec 32) (i j k : Nat) : BitVec 32 := x.rotateRight i ^^^ x.rotateRight j ^^^ x.rotateRight k

/-- What SHA-256 carries from round to round: the eight working words, and the sixteen words of the schedule that come next. -/
structure ShaCore where
  work : List (BitVec 32)
  next : List (BitVec 32)

/-- The chaining value from which SHA-256 begins: square roots of the first eight primes. -/
def shaStart : List (BitVec 32) := (primes.take 8).map (rootFraction 2)

/-- A round of SHA-256 with its constant, a cube root of a prime; the schedule moves on by one word. -/
def ShaCore.round (x : ShaCore) (p : Nat) : ShaCore :=
  let v := fun i => x.work.getD i 0
  let w := fun i => x.next.getD i 0
  let choice := v 6 ^^^ (v 4 &&& (v 5 ^^^ v 6))
  let majority := (v 0 &&& v 1) ||| (v 2 &&& (v 0 ||| v 1))
  let t := v 7 + mix3 (v 4) 6 11 25 + choice + rootFraction 3 p + w 0
  let later := w 0 + w 9 + ((w 1).rotateRight 7 ^^^ (w 1).rotateRight 18 ^^^ (w 1 >>> 3))
    + ((w 14).rotateRight 17 ^^^ (w 14).rotateRight 19 ^^^ (w 14 >>> 10))
  { work := (t + mix3 (v 0) 2 13 22 + majority) :: (x.work.take 3 ++ (v 3 + t) :: (x.work.drop 4).take 3)
    next := x.next.drop 1 ++ [later] }

/-- One block of 64 bytes taken into the chaining value. -/
def shaBlock (h : List (BitVec 32)) (block : List Byte) : List (BitVec 32) :=
  let m := (List.range 16).map (fun i => BitVec.ofNat 32 (beNat (slice block (4 * i) 4)))
  List.zipWith (· + ·) h (primes.foldl ShaCore.round ⟨h, m⟩).work

/-- SHA-256 of a byte list, as a 256-bit number: 0x80, zeros and the length in bits fill the last block. -/
def sha256 (bs : List Byte) : BitVec 256 :=
  let zeros := (119 - bs.length % 64) % 64
  let p := bs ++ (0x80#8 :: List.replicate zeros 0#8) ++ beBytes 8 (8 * bs.length)
  let h := (List.range (p.length / 64)).foldl (fun h i => shaBlock h (slice p (64 * i) 64)) shaStart
  BitVec.ofNat 256 (h.foldl (fun n w => n * 2 ^ 32 + w.toNat) 0)

/-- Field prime of P-256. -/
def p256P : Nat := 2 ^ 256 - 2 ^ 224 + 2 ^ 192 + 2 ^ 96 - 1

/-- Group order of P-256. -/
def p256N : Nat := 0xffffffff00000000ffffffffffffffffbce6faada7179e84f3b9cac2fc632551

/-- Curve constant b of P-256. -/
def p256B : Nat := 0x5ac635d8aa3a93e7b3ebbd55769886bc651d06b0cc53b0f63bce3c3e27d2604b

/-- Base point of P-256. -/
def p256G : Nat × Nat :=
  (0x6b17d1f2e12c4247f8bce6e563a440f277037d812deb33a0f4a13945d898c296,
   0x4fe342e2fe1a7f9b8ee7eb4a7c0f9e162bce33576b315ececbb6406837bf51f5)

/-- `b` to the power `e` modulo `m`, over the 256 bits of `e`. -/
def powMod (b e m : Nat) : Nat :=
  (List.range 256).foldl (fun acc i =>
    let sq := acc * acc % m
    if e.testBit (255 - i) then sq * b % m else sq) (1 % m)

/-- Inverse modulo a prime, by Fermat's little theorem. -/
def invMod (a p : Nat) : Nat := powMod (a % p) (p - 2) p

/-- A point of P-256; `none` is the point at infinity. -/
abbrev Point := Option (Nat × Nat)

/-- Addition of P-256 points. -/
def pointAdd (a b : Point) : Point :=
  match a, b with
  | none, q => q
  | q, none => q
  | some (x1, y1), some (x2, y2) =>
    if x1 = x2 ∧ (y1 + y2) % p256P = 0 then none
    else
      let l := if x1 = x2 then (3 * x1 * x1 + (p256P - 3)) * invMod (2 * y1) p256P % p256P
               else (y2 + p256P - y1) * invMod (x2 + p256P - x1) p256P % p256P
      let x3 := (l * l + 2 * p256P - x1 - x2) % p256P
      some (x3, (l * (x1 + p256P - x3) + p256P - y1) % p256P)

/-- Scalar multiple of a P-256 point, over 256 bits. -/
def pointMul (k : Nat) (q : Point) : Point :=
  (List.range 256).foldl (fun acc i =>
    let d := pointAdd acc acc
    if k.testBit (255 - i) then pointAdd d q else d) none

/-- "Valid curve point" of `PUBKEY` in Table 3.6: X then Y, each 32 bytes big-endian. -/
def onCurve (pub : List Byte) : Bool :=
  let x := beNat (pub.take 32)
  let y := beNat (pub.drop 32)
  pub.length == 64 && x < p256P && y < p256P &&
    y * y % p256P == (x * x * x + (p256P - 3) * x + p256B) % p256P

/-- ECDSA P-256 with SHA-256 (R64): the signature is r, then s, each 32 bytes big-endian. -/
def ecdsaVerify (pub msg sig : List Byte) : Bool :=
  let r := beNat (sig.take 32)
  let v := beNat (sig.drop 32)
  let z := (sha256 msg).toNat
  let w := invMod v p256N
  let q : Point := some (beNat (pub.take 32), beNat (pub.drop 32))
  sig.length == 64 && onCurve pub && 0 < r && r < p256N && 0 < v && v < p256N &&
    match pointAdd (pointMul (z * w % p256N) (some p256G)) (pointMul (r * w % p256N) q) with
    | none => false
    | some (x, _) => x % p256N == r

/-- Multiplication by x in the field of AES. -/
def xtime (b : Byte) : Byte := if b.msb then (b <<< 1) ^^^ 0x1b#8 else b <<< 1

/-- Multiplication in the field of AES. -/
def gmul (a b : Byte) : Byte :=
  ((List.range 8).foldl (fun (p : Byte × Byte) i =>
    ((if b.getLsbD i then p.1 ^^^ p.2 else p.1), xtime p.2)) (0#8, a)).1

/-- S-box of AES: the field inverse (as the 254th power), then the affine map. -/
def sbox (b : Byte) : Byte :=
  let b2 := gmul b b; let b4 := gmul b2 b2; let b8 := gmul b4 b4; let b16 := gmul b8 b8
  let b32 := gmul b16 b16; let b64 := gmul b32 b32; let b128 := gmul b64 b64
  let i := gmul b128 (gmul b64 (gmul b32 (gmul b16 (gmul b8 (gmul b4 b2)))))
  i ^^^ i.rotateLeft 1 ^^^ i.rotateLeft 2 ^^^ i.rotateLeft 3 ^^^ i.rotateLeft 4 ^^^ 0x63#8

/-- Exclusive or of two byte lists of one length. -/
def xorBytes (a b : List Byte) : List Byte := List.zipWith (fun x y => x ^^^ y) a b

/-- The eleven round keys of AES-128. -/
def aesKeys (key : List Byte) : List (List Byte) :=
  ((List.range 10).foldl (fun (acc : List (List Byte) × List Byte × Byte) _ =>
    let k := acc.2.1
    let t := slice k 12 4
    let g := xorBytes ((t.drop 1 ++ t.take 1).map sbox) [acc.2.2, 0, 0, 0]
    let w0 := xorBytes (k.take 4) g
    let w1 := xorBytes (slice k 4 4) w0
    let w2 := xorBytes (slice k 8 4) w1
    let w3 := xorBytes t w2
    let n := w0 ++ w1 ++ w2 ++ w3
    (acc.1 ++ [n], n, xtime acc.2.2)) ([key], key, 1#8)).1

/-- ShiftRows of AES, over a block held column by column. -/
def shiftRows (b : List Byte) : List Byte :=
  (List.range 16).map (fun i => b.getD ((i + 4 * (i % 4)) % 16) 0)

/-- MixColumns of AES. -/
def mixColumns (b : List Byte) : List Byte :=
  (List.range 16).map (fun i =>
    let c := 4 * (i / 4)
    let at' := fun k => b.getD (c + (i + k) % 4) 0
    gmul 2 (at' 0) ^^^ gmul 3 (at' 1) ^^^ at' 2 ^^^ at' 3)

/-- AES-128 encryption of one 16-byte block. -/
def aesBlock (key blk : List Byte) : List Byte :=
  let ks := aesKeys key
  let s := (List.range 9).foldl (fun s i =>
    xorBytes (mixColumns (shiftRows (s.map sbox))) (ks.getD (i + 1) [])) (xorBytes blk (ks.getD 0 []))
  xorBytes (shiftRows (s.map sbox)) (ks.getD 10 [])

/-- Zero padding of a byte list to a multiple of 16. -/
def pad16 (bs : List Byte) : List Byte := bs ++ List.replicate ((16 - bs.length % 16) % 16) 0#8

/-- CBC-MAC of AES-128 over a padded byte list. -/
def cbcMac (key bs : List Byte) : List Byte :=
  ((List.range (bs.length / 16)).foldl (fun (acc : List Byte × List Byte) _ =>
    (acc.1.drop 16, aesBlock key (xorBytes acc.2 (acc.1.take 16)))) (bs, List.replicate 16 0#8)).2

/-- Counter-mode blocks of CCM, with a 13-byte nonce: block `i` is encrypted from flags 1, the nonce and `i`. -/
def ctrBlock (key nonce : List Byte) (i : Nat) : List Byte :=
  aesBlock key ([1#8] ++ nonce ++ beBytes 2 i)

/-- The CCM tag of `tlen` bytes over additional data and message, before its encryption. -/
def ccmMac (tlen : Nat) (key nonce aad msg : List Byte) : List Byte :=
  let flags := (if aad.isEmpty then 0 else 64) + 8 * ((tlen - 2) / 2) + 1
  let b0 := [BitVec.ofNat 8 flags] ++ nonce ++ beBytes 2 msg.length
  let a := if aad.isEmpty then [] else pad16 (beBytes 2 aad.length ++ aad)
  (cbcMac key (b0 ++ a ++ pad16 msg)).take tlen

/-- Encryption or decryption of a message by the CCM counter stream. -/
def ccmStream (key nonce msg : List Byte) : List Byte :=
  xorBytes msg (((List.range ((msg.length + 15) / 16)).map (fun i => ctrBlock key nonce (i + 1))).flatten)

/-- AES-128 CCM encryption: cipher text, then the tag of `tlen` bytes. -/
def ccmSeal (tlen : Nat) (key nonce aad msg : List Byte) : List Byte × List Byte :=
  (ccmStream key nonce msg, xorBytes (ccmMac tlen key nonce aad msg) (ctrBlock key nonce 0))

/-- AES-128 CBC encryption of whole blocks, `n` of them. -/
def cbcSeal (key : List Byte) : Nat → List Byte → List Byte → List Byte
  | 0, _, _ => []
  | n + 1, iv, msg =>
    let c := aesBlock key (xorBytes iv (msg.take 16))
    c ++ cbcSeal key n c (msg.drop 16)

/-- AES-128 CCM decryption: the message when the tag verifies. -/
def ccmOpen (key nonce aad ct tag : List Byte) : Option (List Byte) :=
  let m := ccmStream key nonce ct
  if (ccmSeal tag.length key nonce aad m).2 == tag then some m else none

end Sys2Proof.Machine
end

