-- ==== Sys2Proof/Machine/Image.lean ====
section
/-! DEFINITION. Catalogue images at the level of bytes: the header and record walk (R58 to R62), the checks of
Table 3.3 in their order (R69), the field ranges and cross-record rules (R85, R86 and the rules they name), and the
Catalogue that a valid image gives. -/

namespace Sys2Proof.Machine

/-- One record as found in an image: ID, data bytes, and the record in full (R60). -/
structure RawRec where
  id : Nat
  data : List Byte
  full : List Byte
  deriving DecidableEq, Repr

/-- One byte of a list, as a number. -/
def u8 (bs : List Byte) (o : Nat) : Nat := (bs.getD o 0).toNat

/-- A little-endian 16-bit field (R58). -/
def u16 (bs : List Byte) (o : Nat) : Nat := leNat (slice bs o 2)

/-- A little-endian 32-bit field (R58). -/
def u32 (bs : List Byte) (o : Nat) : Nat := leNat (slice bs o 4)

/-- A signed byte. -/
def i8 (bs : List Byte) (o : Nat) : Int := (bs.getD o 0).toInt

/-- A signed 16-bit field. -/
def i16 (bs : List Byte) (o : Nat) : Int := (BitVec.ofNat 16 (u16 bs o)).toInt

/-- Low byte 0x80 to 0xFF: legally relevant (R62). -/
def legalId (id : Nat) : Bool := id % 256 ≥ 0x80

/-- IDs of Table 3.5. -/
def listedIds : List Nat :=
  [0x0001, 0x0002, 0x0003, 0x0080, 0x0081, 0x0101, 0x0102, 0x0201, 0x0301, 0x0480, 0x0481, 0x0482, 0x0580,
   0x0581, 0x0582, 0x0583, 0x0780, 0x0880, 0x0881, 0x0882, 0x0A01, 0x0B01, 0x0C01, 0x0C02, 0x0E01, 0x0F01,
   0x0F02, 0x0F03, 0x0F80, 0x1001]

/-- Index of a repeatable record (Table 3.5): `PATH`, `INDEX`, `KEYID`, `PORT`; none for the others. -/
def recIndex (r : RawRec) : Option Nat :=
  if r.id = 0x0480 ∨ r.id = 0x0481 ∨ r.id = 0x0F80 then r.data[0]?.map (·.toNat)
  else if r.id = 0x0C02 then r.data[1]?.map (·.toNat)
  else none

/-- Result of the record walk: the records, or `none` when a length runs past the trailer or a padding byte is not
zero. `fuel` bounds the number of records; `bs` runs up to the trailer. -/
def walk : Nat → List Byte → Option (List RawRec)
  | _, [] => some []
  | 0, _ :: _ => none
  | fuel + 1, bs =>
    let len := u16 bs 2
    let tot := 4 + (len + 3) / 4 * 4
    if bs.length < tot then none
    else if (slice bs (4 + len) (tot - 4 - len)).any (· != 0) then none
    else (walk fuel (bs.drop tot)).map (⟨u16 bs 0, slice bs 4 len, bs.take tot⟩ :: ·)

/-- The order of R61 between neighbours, equal IDs and indexes left to reason 0x0D. -/
def ordered : List RawRec → Bool
  | a :: b :: rest =>
    (a.id < b.id || (a.id == b.id &&
      (match recIndex a, recIndex b with | some x, some y => decide (x ≤ y) | _, _ => true))) && ordered (b :: rest)
  | _ => true

/-- A duplicate ID or index (reason 0x0D), between neighbours of an ordered list. -/
def duplicated : List RawRec → Bool
  | a :: b :: rest =>
    (a.id == b.id && (match recIndex a, recIndex b with | some x, some y => x == y | _, _ => true))
      || duplicated (b :: rest)
  | _ => false

/-- Strictly ascending lists ("strictly ascending" of R86). -/
def ascending : List Nat → Bool
  | a :: b :: rest => decide (a < b) && ascending (b :: rest)
  | _ => true

/-- All the listed bytes are 0x00 (reserved bytes, R63). -/
def zeros (bs : List Byte) (offs : List Nat) : Bool := offs.all (fun o => bs.getD o 0 == 0)

/-- A number lies in a range. -/
def within (lo hi n : Nat) : Bool := decide (lo ≤ n) && decide (n ≤ hi)

/-- A signed number lies in a range. -/
def withinI (lo hi n : Int) : Bool := decide (lo ≤ n) && decide (n ≤ hi)

/-- Eight BCD digits. -/
def isBcd (n : Nat) : Bool := (List.range 8).all (fun i => decide ((n >>> (4 * i)) % 16 ≤ 9))

/-- Number of coefficients of a glycol polynomial of order n: terms a_ij with i + j ≤ n. -/
def glycolTerms (n : Nat) : Nat := (n + 1) * (n + 2) / 2

/-- An IEEE 754 binary32 pattern is finite. -/
def finite32 (n : Nat) : Bool := (n >>> 23) % 256 != 255

/-- Steps of record 0x0482. -/
def parseSteps (d : List Byte) : List StepRec :=
  (List.range (u8 d 0)).map (fun s =>
    { action := u8 d (4 + 8 * s), arg := u8 d (5 + 8 * s), normal := u16 d (6 + 8 * s),
      fast := u16 d (8 + 8 * s), phase := u16 d (10 + 8 * s) })

/-- Length, ranges and reserved bytes of one listed record (Tables 3.5 and 3.6, reason 0x0D), with the rules of R73,
R86, R163 and the parts of R212 and R277 that look at one record. -/
def recOk (r : RawRec) : Bool :=
  let d := r.data
  let n := d.length
  match r.id with
  | 0x0001 => n == 64 && onCurve d
  | 0x0002 => n == 32
  | 0x0003 => n == 8 && isBcd (u32 d 2)
  | 0x0080 => n == 8 && within 0 4 (u8 d 0) && within 1 4 (u8 d 1) && zeros d [2, 3]
  | 0x0081 => n == 4
  | 0x0101 => n == 8 && within 10 200 (u16 d 0) && within 2000 3800 (u16 d 2) && within 2100 3900 (u16 d 4)
      && within 15 47 (u16 d 6)
  | 0x0102 => n == 4 && within 0 0xF (u16 d 0)
  | 0x0201 => n == 4 && within 0 80 (u8 d 0) && within 0 80 (u8 d 1) && within 10 1440 (u16 d 2)
  | 0x0301 => n == 8 && (List.range 4).all (fun c => (u8 d 0 >>> (2 * c)) % 4 != 3)
      && (List.range 4).any (fun c => (u8 d 0 >>> (2 * c)) % 4 == 0)
      && within 0 30 (u8 d 1) && within 0 2000 (u16 d 2) && within 1 24 (u16 d 4) && within 1 20 (u8 d 6) && zeros d [7]
  | 0x0480 => n == 20 && within 0 3 (u8 d 0) && within 0 1 (u8 d 1) && zeros d [2, 3] && within 1000 2000000 (u32 d 4)
      && within 1 32768 (u16 d 8) && within 40 5000 (u16 d 10) && within 1 64 (u8 d 12)
      && (within 0 7 (u8 d 13) || u8 d 13 == 0xFF) && within 33 120 (u8 d 15) && within 0 120 (u8 d 16)
      && within 0 39 (u8 d 17) && zeros d [18, 19]
  | 0x0481 => within 0 7 (u8 d 0) && zeros d [1] && within 1 2048 (u16 d 2) && n == 4 + u16 d 2
  | 0x0482 => within 1 16 (u8 d 0) && zeros d [1, 2, 3] && n == 4 + 8 * u8 d 0 &&
      (parseSteps d).all (fun s => within 0 6 s.action && within 0 0xF s.arg && within 1 65535 s.normal
        && decide (s.phase < s.normal)
        && (s.action == 0 || s.action == 1 || s.action == 5 || s.arg == 0))
      && decide (((parseSteps d).filter (fun s => s.action == 0)).length ≤ 1)
  | 0x0580 => n == 24 && within 3 15 (u8 d 0) && u8 d 0 % 2 == 1 && within 1 15 (u8 d 1) && within 0 40 (u8 d 3)
      && within 1 255 (u8 d 4) && within 2 20 (u8 d 5) && zeros d [6, 7] && within 0 4000000000 (u32 d 8)
      && within 0 4000000000 (u32 d 12) && within 1 2000000000 (u32 d 16) && within 0 50 (u16 d 20) && zeros d [22, 23]
  | 0x0581 => within 2 32 (u8 d 0) && zeros d [1, 2, 3] && n == 4 + 8 * u8 d 0 &&
      (let re := (List.range (u8 d 0)).map (fun p => u32 d (4 + 8 * p))
       re.all (within 0 4000000000) && ascending re) &&
      (List.range (u8 d 0)).all (fun p => decide (1 ≤ u32 d (8 + 8 * p)))
  | 0x0582 => n == 8
  | 0x0583 => n == 64 &&
      (let c := (List.range 8).map (fun c => u16 d (8 * c))
       c.all (within 1000 15000) && ascending c) &&
      (List.range 8).all (fun c => within 40 5000 (u16 d (2 + 8 * c)) && within 0 120 (u8 d (4 + 8 * c))
        && within 0 7 (u8 d (5 + 8 * c)) && zeros d [6 + 8 * c, 7 + 8 * c])
  | 0x0780 => n == 16 && within 0 2 (u8 d 0) && within 0 0xF (u8 d 1) && within 0 3 (u8 d 2) && within 0 3 (u8 d 3)
      && within 1 64 (u8 d 4) && within 0 2 (u8 d 5) && within 1 0xF (u8 d 6) && zeros d [7]
  | 0x0880 => n == 8 && within 0 1 (u8 d 0) && within 0 3 (u8 d 1) &&
      (u8 d 1 == 0 || ascending [u16 d 2, u16 d 4, u16 d 6]) &&
      (u8 d 1 != 1 || [u16 d 2, u16 d 4, u16 d 6].all (within 0 1439))
  | 0x0881 => within 1 5 (u8 d 0) && zeros d [1, 2, 3] && n == 4 + 4 * glycolTerms (u8 d 0) &&
      (List.range (glycolTerms (u8 d 0))).all (fun t => finite32 (u32 d (4 + 4 * t)))
  | 0x0882 => n == 16 && withinI (-2000) 4000 (i16 d 0) && zeros d [2, 3] && within 50000 200000 (u32 d 4)
      && within 0 1 (u8 d 8) && within 0 1 (u8 d 9) && zeros d [10, 11] && within 50000 2000000 (u32 d 12)
  | 0x0A01 => n == 4 && within 0 2 (u8 d 0) && within 0 168 (u8 d 1) && zeros d [2, 3]
  | 0x0B01 => n == 8 && within 0 1 (u8 d 0) && within 0 3 (u8 d 1) && withinI (-10) 16 (i8 d 2)
      && zeros d [3, 4, 5, 6, 7]
  | 0x0C01 => n == 16 && within 0 4 (u8 d 0) && within 0 6 (u8 d 1) && within 0 23 (u8 d 2) && within 1 64 (u8 d 3)
      && within 1 1440 (u16 d 8) && within 0 1440 (u16 d 10) && zeros d [12, 13, 14, 15]
  | 0x0C02 => n == 48 && within 0 3 (u8 d 0) && within 0 15 (u8 d 1) && zeros d [2, 3]
      && (u8 d 0 != 0 || u32 d 4 == 0) && zeros d [21, 22, 23]
  | 0x0E01 => n == 8 && within 0 3 (u8 d 0) && within 1 8 (u8 d 1) && within 3 4 (u8 d 2) && within 25 52 (u8 d 3)
      && withinI (-40) 0 (i8 d 4) && within 1 16 (u8 d 5) && zeros d [6, 7]
  | 0x0F01 => n == 4 && within 0 1 (u8 d 0) && within 0 1 (u8 d 1) && zeros d [2, 3]
  | 0x0F02 => n == 36 && within 0 3 (u8 d 0) && zeros d [1, 2, 3]
  | 0x0F03 => n == 4 && within 0 15 (u8 d 0) && within 0 15 (u8 d 1) && within 0 3 (u8 d 2) && zeros d [3]
  | 0x0F80 => n == 12 && within 0 6 (u8 d 0) && within 1 7 (u8 d 1) && within 0 1 (u8 d 2)
      && (u8 d 2 == 1 || (u8 d 1 != 1 && u8 d 1 != 2)) && within 1 255 (u8 d 3) &&
      (match u8 d 0 with
       | 0 | 1 => u8 d 1 == 1
       | 2 => u8 d 1 == 2
       | 3 => u8 d 1 == 3 || u8 d 1 == 7
       | 4 => u8 d 1 == 4
       | 5 => u8 d 1 == 5
       | _ => u8 d 1 == 6)
  | 0x1001 => n == 4 && within 5 60 (u8 d 0) && zeros d [1, 2, 3]
  | _ => true

/-- The first record of an ID. -/
def findRec (rs : List RawRec) (id : Nat) : Option RawRec := rs.find? (fun r => r.id == id)

/-- Data of the first record of an ID. -/
def recData (rs : List RawRec) (id : Nat) : Option (List Byte) := (findRec rs id).map (·.data)

/-- All the records of a repeatable ID. -/
def recsOf (rs : List RawRec) (id : Nat) : List RawRec := rs.filter (fun r => r.id == id)

/-- A key record under the device-unique OTP key (R86 `CIPHER`, `TAG`; reason 0x0F when it does not unwrap). The
additional data are data bytes 0 to 7. -/
def unwrapKey (d : List Byte) : Option (List Byte) :=
  ccmOpen Config.otpKey (slice d 8 13) (d.take 8) (slice d 24 16) (slice d 40 8)

/-- The Catalogue that the records of a valid image give; an absent optional record takes its defaults (R85). -/
def buildCat (seq : Nat) (mdigest : BitVec 256) (rs : List RawRec) : Cat :=
  let g := fun id => recData rs id
  { seq, mdigest,
    signer := match g 0x0001 with | some d => sha256 d | none => 0
    nexthash := (g 0x0002).map (fun d => BitVec.ofNat 256 (beNat d))
    ident := match g 0x0003 with
      | some d => { mfct := u16 d 0, idnum := u32 d 2, version := u8 d 6, devtype := u8 d 7 } | none => {}
    profile := match g 0x0080 with | some d => .ofCode (u8 d 0) | none => .heat
    paths := match g 0x0080 with | some d => u8 d 1 | none => 1
    legalver := match g 0x0080 with | some d => u32 d 4 | none => 0
    patchid := match g 0x0081 with | some d => u32 d 0 | none => 0
    chair := match g 0x0101 with
      | some d => { ibatlim := u16 d 0, vresLow := u16 d 2, vresOk := u16 d 4, cres := u16 d 6 } | none => {}
    retbank := match g 0x0102 with | some d => u16 d 0 | none => 0xF
    retsb := match g 0x0102 with | some d => u16 d 2 | none => 0
    xt32load := match g 0x0201 with | some d => u8 d 0 | none => 16
    xrfload := match g 0x0201 with | some d => u8 d 1 | none => 16
    vitcal := match g 0x0201 with | some d => u16 d 2 | none => 60
    tdc := match g 0x0301 with
      | some d => { assign := u8 d 0, hyst := u8 d 1, holdoff := u16 d 2, calint := u16 d 4, caldt := u8 d 6 }
      | none => {}
    path := (recsOf rs 0x0480).map (fun r =>
      let d := r.data
      { path := u8 d 0, fire := u8 d 1, length := u32 d 4, costheta := u16 d 8, freq := u16 d 10, periods := u8 d 12,
        wave := u8 d 13, thresh := u8 d 14, vdrvset := u8 d 15, gain := u8 d 16, term := u8 d 17 })
    wave := (recsOf rs 0x0481).map (fun r => { index := u8 r.data 0, samples := r.data.drop 4 })
    steps := match g 0x0482 with | some d => parseSteps d | none => []
    flow := match g 0x0580 with
      | some d => { npairs := u8 d 0, minvalid := u8 d 1, substmax := u8 d 2, snrmin := u8 d 3, ampmin := u8 d 4,
                    madk := u8 d 5, qcut := u32 d 8, qfast := u32 d 12, area := u32 d 16, qcuthys := u16 d 20 }
      | none => {}
    kre := match g 0x0581 with
      | some d => (List.range (u8 d 0)).map (fun p => (u32 d (4 + 8 * p), u32 d (8 + 8 * p))) | none => []
    weights := match g 0x0582 with
      | some d => [u16 d 0, u16 d 2, u16 d 4, u16 d 6] | none => [32768, 0, 0, 0]
    gas := match g 0x0583 with
      | some d => (List.range 8).map (fun c =>
          { c15min := u16 d (8 * c), cfreq := u16 d (2 + 8 * c), cgain := u8 d (4 + 8 * c), cmodel := u8 d (5 + 8 * c) })
      | none => []
    temp := (g 0x0780).map (fun d =>
      { probe := u8 d 0, fourwire := u8 d 1, flowch := u8 d 2, retch := u8 d 3, avg := u8 d 4, swappol := u8 d 5,
        enmask := u8 d 6, leadr := [u16 d 8, u16 d 10, u16 d 12, u16 d 14] })
    reg := match g 0x0880 with
      | some d => { medium := u8 d 0, tarmode := u8 d 1, tarb := [u16 d 2, u16 d 4, u16 d 6] } | none => {}
    glycol := (g 0x0881).map (fun d =>
      { order := u8 d 0,
        terms := (List.range (glycolTerms (u8 d 0))).map (fun t => BitVec.ofNat 32 (u32 d (4 + 4 * t))) })
    gasbase := (g 0x0882).map (fun d =>
      { tbase := i16 d 0, pbase := u32 d 4, tsource := u8 d 8, psource := u8 d 9, pfixed := u32 d 12 })
    snapmode := match g 0x0A01 with | some d => u8 d 0 | none => 1
    bgtest := match g 0x0A01 with | some d => u8 d 1 | none => 24
    radio := match g 0x0B01 with
      | some d => { region := u8 d 0, band := u8 d 1, txpwr := i8 d 2 } | none => {}
    link := match g 0x0C01 with
      | some d => { role := .ofCode (u8 d 0), legmode := u8 d 1, handhour := u8 d 2, clsize := u8 d 3,
                    clusterid := u32 d 4, legint := u16 d 8, telday := u16 d 10 } | none => {}
    keys := (recsOf rs 0x0C02).filterMap (fun r =>
      (unwrapKey r.data).map (fun k => { kind := u8 r.data 0, keyid := u8 r.data 1, peer := u32 r.data 4, key := k }))
    disp := match g 0x0E01 with
      | some d => { dtype := .ofCode (u8 d 0), duty := u8 d 1, bias := u8 d 2, vlcdset := u8 d 3, tglass := i8 d 4,
                    emcur := u8 d 5 } | none => {}
    hostPresent := match g 0x0F01 with | some d => u8 d 0 == 1 | none => false
    irqmode := match g 0x0F01 with | some d => u8 d 1 | none => 0
    maxbaud := match g 0x0F02 with | some d => u8 d 0 | none => 2
    svchash := match g 0x0F02 with | some d => BitVec.ofNat 256 (beNat (slice d 4 32)) | none => 0
    po0fn := match g 0x0F03 with | some d => u8 d 0 | none => 0
    po1fn := match g 0x0F03 with | some d => u8 d 1 | none => 0
    tampen := match g 0x0F03 with | some d => u8 d 2 | none => 3
    modules := (recsOf rs 0x0F80).map (fun r =>
      let d := r.data
      { port := u8 d 0, cls := u8 d 1, bind := u8 d 2, minfmt := u8 d 3, serial := slice d 4 8 })
    sbint := match g 0x1001 with | some d => u8 d 0 | none => 15
    legal := (rs.filter (fun r => legalId r.id)).map (fun r => (r.id, (recIndex r).getD 0, r.full))
    other := ((rs.filter (fun r => !legalId r.id)).map (·.full)).flatten }

/-- Rules of reason 0x0D that look across records: R212 (ARG of the action-0, action-1 and action-5 steps) and R236
(weights). -/
def crossOkD (c : Cat) : Bool :=
  let mask := c.path.foldl (fun m p => m ||| (1 <<< p.path)) 0
  c.steps.all (fun s => match s.action with
    | 0 => mask &&& s.arg == mask
    | 1 => s.arg &&& c.t.enmask == s.arg
    | 5 => s.arg &&& mask == s.arg
    | _ => true) &&
  (List.range 4).all (fun k => c.hasPath k || c.weights.getD k 0 == 0) &&
  (List.range 4).any (fun k => c.hasPath k && c.weights.getD k 0 != 0)

/-- A mandatory record is present (Table 3.5; reason 0x0E), the conditional ones by profile and medium. -/
def mandatoryOk (rs : List RawRec) (c : Cat) : Bool :=
  let has := fun id => (findRec rs id).isSome
  [0x0001, 0x0003, 0x0080, 0x0482, 0x0580, 0x0581, 0x0B01, 0x0C01, 0x0F02].all has &&
  (c.profile != .gas || (has 0x0583 && has 0x0882)) &&
  (!(c.profile == .heat || c.profile == .cool || c.profile == .heatcool) || has 0x0780) &&
  (c.reg.medium != 1 || has 0x0881)

/-- Modes that Table 13.1 lists for bands 0 and 2. -/
def legmodeOk (band mode : Nat) : Bool :=
  match band with
  | 0 => mode == 6
  | 2 => decide (mode ≤ 5)
  | _ => true

/-- Whether a module record of a port and class, with `BIND` at least `b`, exists. -/
def hasModule (c : Cat) (port cls b : Nat) : Bool :=
  c.modules.any (fun m => m.port == port && m.cls == cls && decide (b ≤ m.bind))

/-- The cross-record rules of R85, R278, R331 and R357 (reason 0x0E); `kinds` are the `KIND`s of the image's key records, whether or
not their keys unwrap. -/
def crossOkE (kinds : List Nat) (c : Cat) : Bool :=
  let heatLike := c.profile == .heat || c.profile == .cool || c.profile == .heatcool
  c.path.length == c.paths &&
  c.path.all (fun p => hasModule c (if p.path ≤ 1 then 0 else 1) 1 1) &&
  (!heatLike || hasModule c 2 2 1) &&
  (c.g.psource != 1 || hasModule c 3 3 0) &&
  c.path.all (fun p => p.wave == 0xFF || c.wave.any (fun w => w.index == p.wave)) &&
  c.steps.any (fun s => s.action == 0) &&
  c.steps.all (fun s => s.action != 0 || (List.range 4).all (fun k => !s.arg.testBit k || c.hasPath k)) &&
  decide (c.flow.minvalid ≤ c.flow.npairs) &&
  decide (c.chair.vresLow + 100 ≤ c.chair.vresOk) &&
  (c.temp.isNone || (c.t.flowch != c.t.retch && c.t.enmask.testBit c.t.flowch && c.t.enmask.testBit c.t.retch)) &&
  (!(c.link.role == .endpoint || c.link.role == .parent) || kinds.contains 0) &&
  (c.g.tsource != 1 || (c.temp.isSome && c.steps.any (fun s => s.action == 1 && s.arg.testBit 0))) &&
  (c.g.psource != 1 || c.steps.any (fun s => s.action == 2)) &&
  (match c.radio.band with | 3 => c.radio.region == 1 | _ => c.radio.region == 0) &&
  legmodeOk c.radio.band c.link.legmode &&
  !(c.radio.band == 0 && decide (c.link.clsize > 32)) &&
  !(c.link.role == .reader && decide (c.chair.ibatlim < 100)) &&
  !(c.link.role == .reader && !kinds.contains 2)

/-- State of an OTP key slot (R65). -/
inductive KeySlot where | empty | active | revoked
  deriving DecidableEq, Repr

/-- Code of a key slot in `OTPKEY.STATE`. -/
def KeySlot.code : KeySlot → Nat
  | .empty => 0 | .active => 1 | .revoked => 2

/-- The four OTP key slots: state and key hash. -/
abbrev OtpSlots := Vector (KeySlot × BitVec 256) 4

/-- All four slots are EMPTY (R67). -/
def OtpSlots.fresh (o : OtpSlots) : Bool := o.toList.all (fun k => k.1 == .empty)

/-- The slot whose ACTIVE key hash matches (R66). -/
def OtpSlots.signer (o : OtpSlots) (h : BitVec 256) : Option Nat :=
  o.toList.findIdx? (fun k => k.1 == .active && k.2 == h)

/-- The key of an image is accepted: it equals an ACTIVE slot and no REVOKED one (R66), or every slot is EMPTY (R67). -/
def OtpSlots.accepts (o : OtpSlots) (h : BitVec 256) : Bool :=
  o.fresh || ((o.signer h).isSome && !o.toList.any (fun k => k.1 == .revoked && k.2 == h))

/-- What the validation of a slot gives: the reason code (0 when valid), `SEQUENCE` as read, the IDs ignored under
R63, and the Catalogue of a valid slot. -/
structure Verdict where
  reason : Nat := 0
  seq : Nat := 0
  ignored : List Nat := []
  cat : Option Cat := none
  deriving DecidableEq, Repr

/-- First failing check of a list, in order. -/
def firstFail (cs : List (Nat × Bool)) : Nat :=
  match cs.find? (fun c => !c.2) with
  | some c => c.1
  | none => 0

/-- Validation of one slot by the checks of Table 3.3, in their order (R69). `readOk` is R55 and the absence of a read
error, `banks` the patch banks the Archive holds as valid, `floor` the metrology floor. -/
def validate (readOk : Bool) (otp : OtpSlots) (banks : List Nat) (floor : Nat) (slot : List Byte) : Verdict :=
  let hdr := slot.take 64
  let len := u32 slot 0x0C
  let seq := u32 slot 0x08
  let pre := firstFail
    [(0x01, readOk),
     (0x02, !((List.range 64).all (fun i => slot.getD i 0xFF == 0xFF))),
     (0x03, u32 slot 0 == 0x4C4B5843),
     (0x04, u16 slot 4 == 3),
     (0x05, crc32 (hdr.take 0x3C) == BitVec.ofNat 32 (u32 slot 0x3C)),
     (0x06, u16 slot 0x12 == 0x9640 && decide (u16 slot 0x14 ≤ 0x00B0)),
     (0x07, within 160 65536 len && len % 4 == 0 && within 1 0xFFFFFFFE seq && within 1 1024 (u16 slot 0x10)
        && u16 slot 6 == 0 && u16 slot 0x16 == 0)]
  if pre != 0 then { reason := pre, seq := if pre ≤ 3 then 0 else seq }
  else
    -- a byte of the slot beyond the programmed ones reads 0xFF
    let body := (slot ++ List.replicate (len - slot.length) 0xFF#8).take (len - 96)
    let trailer := slice (slot ++ List.replicate (len - slot.length) 0xFF#8) (len - 96) 96
    match walk 1024 (body.drop 64) with
    | none => { reason := 0x08, seq }
    | some rs =>
      if rs.length != u16 slot 0x10 || !ordered rs then { reason := 0x08, seq }
      else
        let pub := (recData rs 0x0001).getD []
        let mdig := sha256 (((rs.filter (fun r => legalId r.id)).map (·.full)).flatten)
        let c := buildCat seq mdig rs
        let known := rs.filter (fun r => listedIds.contains r.id)
        let r := firstFail
          [(0x09, sha256 body == BitVec.ofNat 256 (beNat (trailer.take 32))),
           (0x0A, (findRec rs 0x0001).isSome && otp.accepts (sha256 pub)),
           (0x0B, ecdsaVerify pub body (trailer.drop 32)),
           (0x0C, mdig == BitVec.ofNat 256 (beNat (slice body 0x18 32))),
           (0x0D, rs.all (fun r => r.id % 256 != 0 && (!legalId r.id || listedIds.contains r.id))
              && !duplicated rs && known.all recOk && crossOkD c),
           (0x0E, mandatoryOk rs c && crossOkE ((recsOf rs 0x0C02).map (fun r => u8 r.data 0)) c),
           (0x0F, (recsOf rs 0x0C02).all (fun r => (unwrapKey r.data).isSome)),
           (0x10, c.patchid == 0 || banks.contains c.patchid),
           (0x11, decide (floor ≤ seq))]
        { reason := r, seq, ignored := (rs.filter (fun r => !listedIds.contains r.id && !legalId r.id)).map (·.id),
          cat := if r == 0 then some c else none }

/-- Slot selection of R70: 0 for slot A, 1 for slot B. -/
def selectSlot (a b : Verdict) : Option (Nat × Cat) :=
  match a.cat, b.cat with
  | some ca, some cb => if b.seq > a.seq then some (1, cb) else some (0, ca)
  | some ca, none => some (0, ca)
  | none, some cb => some (1, cb)
  | none, none => none

end Sys2Proof.Machine
end

