-- ==== Sys2Proof/Machine/Regs.lean ====
section
/-! DEFINITION. The stored fields of the service map, one structure for each register table of the spec;
a field whose value follows from other state is not stored twice (Machine/Map.lean computes it at the read). -/

namespace Sys2Proof.Machine

/-- Stored fields of Table 4.6. -/
structure SysRegs where
  /-- `PATCHACT` 0x0006–0x0007[31:0], R107: Patch bank in use; 0 = ROM only -/
  patchact : BitVec 32 := 0
  /-- `STARTCAUSE` 0x0011[3:0], R107: 0x1 POR, 0x2 external reset, 0x3 watchdog (detail in *Wiring faults, mode combinations and guaranteed operations*), 0x4 boundary scan, 0x5 reload in safe-beacon, 0x6 safe-beacon retry, 0x7 Hibernate wake, 0x8 Hibernate-start fallback, 0x9 brownout as *Power states, domains and the Chairlift* defines -/
  startcause : BitVec 4 := 0
  /-- `STAGE.FAILSTG` 0x0012[15:8], R107: Stage of the first fatal finding; 0 = none; 0x81 to 0x8C = steps H1 to H12 -/
  stageFailstg : BitVec 8 := 0
  /-- `STARTEVT` 0x0013[15:0], R107: Event code of the first fatal finding -/
  startevt : BitVec 16 := 0
  /-- `STAGEWARN` 0x0014[14:1], R107: Bit n: stage n logged a warning -/
  stagewarn : BitVec 14 := 0
  /-- `STARTDUR` 0x0015[15:0], R107: Duration of the last start by R88, in 0.1 ms -/
  startdur : BitVec 16 := 0
  /-- `VRESWAIT` 0x0016[15:0], R107: Reservoir wait of R89 and OTP wait of R95 in the last start, in ms; saturates at 65 535 -/
  vreswait : BitVec 16 := 0
  /-- `XTWAIT` 0x0017[15:0], R107: XT32 wait of R90 in the last start, in ms; saturates at 65 535 -/
  xtwait : BitVec 16 := 0
  /-- `CFGA.VALID` 0x0018[15], R107: 1: slot A valid -/
  cfgaValid : Bool := false
  /-- `CFGA.IGNCNT` 0x0018[11:8], R107: Records ignored under R63; saturates at 15 -/
  cfgaIgncnt : BitVec 4 := 0
  /-- `CFGA.REASON` 0x0018[7:0], R107: Reason code of Table 3.3; 0x00 when valid -/
  cfgaReason : BitVec 8 := 0
  /-- `SEQA` 0x0019–0x001A[31:0], R107: `SEQUENCE` of slot A as read; 0 for reasons 0x01 to 0x03 -/
  seqa : BitVec 32 := 0
  /-- `IGNIDA` 0x001B[15:0], R107: First record ID ignored in slot A -/
  ignida : BitVec 16 := 0
  /-- `CFGB` 0x001C[15:0], R107: As `CFGA`, for slot B -/
  cfgb : BitVec 16 := 0
  /-- `SEQB` 0x001D–0x001E[31:0], R107: As `SEQA`, for slot B -/
  seqb : BitVec 32 := 0
  /-- `IGNIDB` 0x001F[15:0], R107: As `IGNIDA`, for slot B -/
  ignidb : BitVec 16 := 0
  /-- `MFLOOR` 0x0020–0x0021[31:0], R107: Metrology floor of R71 -/
  mfloor : BitVec 32 := 0
  /-- `OTPKEY.FIRST` 0x0022[10], R107: 1: slot 0 was programmed by R67 at this start -/
  otpkeyFirst : Bool := false
  /-- `OTPKEY.SIGNSLOT` 0x0022[9:8], R107: OTP slot whose key signed the active image -/
  otpkeySignslot : BitVec 2 := 0
  /-- `WDSTART` 0x0023[1:0], R107: Consecutive starts ended by a watchdog reset before stage 15, by R98; held in AON RAM -/
  wdstart : BitVec 2 := 0
  /-- `SBSTAT.FAILS` 0x0028[11:8], R107: Consecutive failed retries, 0 to 3 -/
  sbstatFails : BitVec 4 := 0
  /-- `SBTEL` 0x002B[15:0], R107: Fault telegrams sent since entry; saturates at 0xFFFF -/
  sbtel : BitVec 16 := 0
  /-- `SBEVT` 0x002C[15:0], R107: Event code shown and transmitted -/
  sbevt : BitVec 16 := 0
  /-- `RESTSRC.SEALOK` 0x0030[6], R107: 1: sealed slot passed its CRC -/
  restsrcSealok : Bool := false
  /-- `RESTSRC.SHOK` 0x0030[5:4], R107: Bit 4: shadow copy 1 kept; bit 5: shadow copy 2 kept, by R96 -/
  restsrcShok : BitVec 2 := 0
  /-- `RESTSRC.SRC` 0x0030[3:0], R107: 0x1 shadow copy 1, 0x2 shadow copy 2, 0x3 sealed slot, 0x4 accession record -/
  restsrcSrc : BitVec 4 := 0
  /-- `NCOLD` 0x0031[15:0], R107: Cold starts since manufacture; saturates at 0xFFFF -/
  ncold : BitVec 16 := 0
  /-- `NHIB` 0x0032[15:0], R107: Hibernate starts since manufacture; saturates at 0xFFFF -/
  nhib : BitVec 16 := 0
  deriving DecidableEq, Repr

/-- Stored fields of Table 5.8. -/
structure PowerRegs where
  /-- `WAKESRC` 0x0105[7:0], R133: Source of the last wake, as a Table 5.2 code -/
  wakesrc : BitVec 8 := 0
  /-- `VBATMV` 0x0106[15:0], R133: Last VBAT sample, in mV -/
  vbatmv : BitVec 16 := 0
  /-- `VRESMV` 0x0107[15:0], R133: Last VRES sample, in mV -/
  vresmv : BitVec 16 := 0
  /-- `VRESMIN` 0x0108[15:0], R133: Lowest VRES sample since the last start, in mV -/
  vresmin : BitVec 16 := 0xffff
  /-- `RESCEST` 0x0109[15:0], R133: Reservoir capacitance in use by R127, in 0.1 mF; 0 = `CRES` in use -/
  rescest : BitVec 16 := 0
  /-- `CLAVAIL` 0x010B[15:0], R133: avail of R129 at the last evaluation, in µC, floored at 0 -/
  clavail : BitVec 16 := 0
  /-- `CLFREE` 0x010C[15:0], R133: free of R129, in 0.1 mA -/
  clfree : BitVec 16 := 0
  /-- `CLDROP.UNIT` 0x010D[15:12], R133: Unit of the last drop or abort; 0xF = none -/
  cldropUnit : BitVec 4 := 0xf
  /-- `CLDROP.REASON` 0x010D[11:8], R133: 1 deadline passed, 2 oversize, 3 aborted by R125 -/
  cldropReason : BitVec 4 := 0
  /-- `CLMISS` 0x0110–0x0119[15:0], R133: Drops of unit u at 0x0110 + u -/
  clmiss : Vector (BitVec 16) 10 := Vector.replicate 10 0
  /-- `PWREFCNT` 0x0120–0x0126[15:0], R133: Refusals by refuser r at 0x011F + r -/
  pwrefcnt : Vector (BitVec 16) 7 := Vector.replicate 7 0
  /-- `PWREFUSE.REFUSER` 0x0127[15:12], R133: Refuser code 1 to 7; 0 = none -/
  pwrefuseRefuser : BitVec 4 := 0
  /-- `PWREFUSE.TARGET` 0x0127[11:8], R133: Refused target, as a Table 5.1 code -/
  pwrefuseTarget : BitVec 4 := 0
  /-- `PWREFUSE.REASON` 0x0127[7:0], R133: Reason code of Table 5.3 -/
  pwrefuseReason : BitVec 8 := 0
  /-- `LATEWAKE` 0x0128[15:0], R133: Wakes honoured after an entry, by R117 -/
  latewake : BitVec 16 := 0
  /-- `PENDREPL` 0x0129[15:0], R133: Requests discarded or replaced, by R118 -/
  pendrepl : BitVec 16 := 0
  /-- `BORCNT` 0x012A[15:0], R133: Brownouts since manufacture; held in Archive SYSTEM -/
  borcnt : BitVec 16 := 0
  /-- `VRESLOWCNT` 0x012B[15:0], R133: Excursions counted by R125 -/
  vreslowcnt : BitVec 16 := 0
  /-- `CLABORT` 0x012C[15:0], R133: Seats aborted by R125 -/
  clabort : BitVec 16 := 0
  deriving DecidableEq, Repr

/-- Stored fields of Table 6.6. -/
structure ClockRegs where
  /-- `CLKSTAT.VITRDY` 0x0200[15], R160: 1: `VITRDY` set -/
  clkstatVitrdy : Bool := false
  /-- `CLKSTAT.PLLVIT` 0x0200[13], R160: 1: PLL referenced to the Vitrine -/
  clkstatPllvit : Bool := false
  /-- `CLKSTAT.XT32OK` 0x0200[12], R160: 0: XT32 stopped or failed, by R151 -/
  clkstatXt32ok : Bool := true
  /-- `CLKSTAT.LPRCOK` 0x0200[11], R160: 0: LPRC unavailable, by R152 -/
  clkstatLprcok : Bool := true
  /-- `CLKSTAT.STALE` 0x0200[9], R160: 1: no successful calibration for 24 h -/
  clkstatStale : Bool := false
  /-- `CLKSTAT.RTCSRC` 0x0200[1:0], R160: 0 XT32, 1 LPRC, 2 HFRC ÷ 500 -/
  clkstatRtcsrc : BitVec 2 := 0
  /-- `VITSTAT.RESULT` 0x0201[3:0], R160: Last calibration: 0 none, 1 success, 2 `VITRDY` timeout, 3 abandoned by R142, 4 aborted by R125, 5 oven overtemperature, 6 PLL lock failure by R153 -/
  vitstatResult : BitVec 4 := 0
  /-- `VITWARM` 0x0202[15:0], R160: Last warm-up time, in 0.1 ms -/
  vitwarm : BitVec 16 := 0
  /-- `VITLAST` 0x0203–0x0204[31:0], R160: `TLMONO` at the last successful calibration -/
  vitlast : BitVec 32 := 0
  /-- `XT32ERR` 0x0205[15:0], R160: Last measured XT32 error, in 0.01 ppm, signed -/
  xt32err : BitVec 16 := 0
  /-- `HFRCERR` 0x0208[15:0], R160: Last measured HFRC error, in ppm, signed -/
  hfrcerr : BitVec 16 := 0
  /-- `HFRCTRIM` 0x0209[5:0], R160: HFRC trim code, 0.05 % per step -/
  hfrctrim : BitVec 6 := 0x20
  /-- `TCOARSE` 0x020A–0x020B[31:0], R160: Coarse period in use, in fs -/
  tcoarse : BitVec 32 := 0x773594
  /-- `XRFERR` 0x020C[15:0], R160: Last measured XRF error, in 0.01 ppm, signed -/
  xrferr : BitVec 16 := 0
  /-- `LPRCERR` 0x020E[15:0], R160: Last measured LPRC error, in ppm, signed -/
  lprcerr : BitVec 16 := 0
  /-- `DIETEMP` 0x020F[15:0], R160: Last die-temperature sample, in 0.1 °C, signed -/
  dietemp : BitVec 16 := 0
  /-- `CALOK` 0x0210[15:0], R160: Successful calibrations since the last cold start -/
  calok : BitVec 16 := 0
  /-- `CALFAIL` 0x0211[15:0], R160: Failed calibrations since the last cold start -/
  calfail : BitVec 16 := 0
  /-- `XT32LOSS` 0x0212[15:0], R160: XT32 stops and failures since manufacture; held in Archive SYSTEM -/
  xt32loss : BitVec 16 := 0
  /-- `TLSTAT.LOST` 0x0218[15], R160: 1: time unknown since POR, by R156 -/
  tlstatLost : Bool := false
  /-- `TLSTAT.SRC` 0x0218[10:8], R160: Last adopted source: 0 none, 1 optical port, 2 host port, 3 parent beacon, 4 reader session -/
  tlstatSrc : BitVec 3 := 0
  /-- `TLSTEPS` 0x0223[15:0], R160: Civil-time steps since manufacture; held in Archive SYSTEM -/
  tlsteps : BitVec 16 := 0
  deriving DecidableEq, Repr

/-- Stored fields of Table 7.5. -/
structure TdcRegs where
  /-- `TDCCAL.CAUSE` 0x0303[15:12], R188: Last calibration: 1 cold start, 2 `CALINT`, 3 `CALDT`, 4 Piste action 4, 5 retry, 6 Hibernate start, 7 requested at once after an Archive table copy failed, by R187 -/
  tdccalCause : BitVec 4 := 0
  /-- `TDCCAL.RETRY` 0x0303[11:8], R188: Consecutive retries, 0 to 3 -/
  tdccalRetry : BitVec 4 := 0
  /-- `TDCCAL.ABANDON` 0x0303[5:0], R188: Blocks abandoned in the last calibration, 0 to 32 -/
  tdccalAbandon : BitVec 6 := 0
  /-- `TDCCALTEMP` 0x0304[15:0], R188: Die temperature at the last successful calibration, in 0.1 °C, signed -/
  tdccaltemp : BitVec 16 := 0
  /-- `TDCCALTIME` 0x0305–0x0306[31:0], R188: `TLMONO` at the last successful calibration -/
  tdccaltime : BitVec 32 := 0
  /-- `TDCCALOK` 0x0307[15:0], R188: Successful calibrations -/
  tdccalok : BitVec 16 := 0
  /-- `TDCCALFAIL` 0x0308[15:0], R188: Failed calibrations, including results 5 and 6 -/
  tdccalfail : BitVec 16 := 0
  /-- `BINSEL.CH` 0x0310[15:14], R188: Channel of the entry read at `BINVAL` -/
  binselCh : BitVec 2 := 0
  /-- `BINSEL.INDEX` 0x0310[6:0], R188: 0 to 63: h[index]; 64 to 88: g[index − 64]; 89: s; other values give `BINVAL` = 0 -/
  binselIndex : BitVec 7 := 0
  deriving DecidableEq, Repr

/-- Stored fields of Table 7.6. -/
structure TdcChRegs where
  /-- `CHSTAT.SYNC` 0x00[10], R188: Last run: 1 synchronous start, 0 asynchronous -/
  chstatSync : Bool := false
  /-- `CHSTAT.SLOPE` 0x00[9:8], R188: Last run: 0 rising, 1 falling, 2 both -/
  chstatSlope : BitVec 2 := 0
  /-- `CHSTAT.NSTOPS` 0x00[6:0], R188: Stops accepted in the last run, 0 to 64 -/
  chstatNstops : BitVec 7 := 0
  /-- `CHCFG.THR` 0x01[15:8], R188: Threshold code of the last run -/
  chcfgThr : BitVec 8 := 0x80
  /-- `STOPMAX` 0x03[6:0], R188: `STOPMAX` of the last run -/
  stopmax : BitVec 7 := 1
  /-- `WOPEN` 0x04–0x05[23:0], R188: Window open delay of the last run, in coarse periods -/
  wopen : BitVec 24 := 0
  /-- `WWIDTH` 0x06–0x07[23:0], R188: Window width of the last run, in coarse periods -/
  wwidth : BitVec 24 := 0
  /-- `FIRSTHIT` 0x08–0x0A[47:0], R188: First stop of the last run with a stop, in the format of Table 7.3 -/
  firsthit : BitVec 48 := 0
  /-- `ORDERR` 0x0B[15:0], R188: Crossings before the start, by R177 -/
  orderr : BitVec 16 := 0
  /-- `DEADLOST` 0x0C[15:0], R188: Crossings lost in dead time, by R174 -/
  deadlost : BitVec 16 := 0
  /-- `SHORTCNT` 0x0D[15:0], R188: Stops clamped, by R178 -/
  shortcnt : BitVec 16 := 0
  /-- `NOHIT` 0x0E[15:0], R188: Runs with no accepted stop, by R176 -/
  nohit : BitVec 16 := 0
  /-- `SATCNT` 0x0F[15:0], R188: Stops with a saturated fine code -/
  satcnt : BitVec 16 := 0
  /-- `STARTLOST` 0x10[15:0], R188: Starts ignored, by R179 -/
  startlost : BitVec 16 := 0
  /-- `STATN` 0x12[15:0], R188: Accepted starts of the last statistics run -/
  statn : BitVec 16 := 0
  /-- `STATREJ` 0x13[15:0], R188: Rejected starts -/
  statrej : BitVec 16 := 0
  /-- `STATSUM` 0x14–0x16[47:0], R188: Sum of d, signed -/
  statsum : BitVec 48 := 0
  /-- `STATSQ` 0x17–0x1A[63:0], R188: Sum of d² -/
  statsq : BitVec 64 := 0
  /-- `STATREF` 0x1B–0x1D[39:0], R188: xref -/
  statref : BitVec 40 := 0
  /-- `STATMIN` 0x1E–0x1F[31:0], R188: Least d, signed -/
  statmin : BitVec 32 := 0
  /-- `STATMAX` 0x20–0x21[31:0], R188: Greatest d, signed -/
  statmax : BitVec 32 := 0
  /-- `STATREQ` 0x22[15:0], R188: N requested -/
  statreq : BitVec 16 := 0
  /-- `STATSTOP` 0x23[5:0], R188: Stop index s -/
  statstop : BitVec 6 := 0
  /-- `CALRESULT.CODE` 0x24[7:4], R188: Last calibration: 0 none, 1 pass, 2 tap width, 3 vernier width, 4 span, 5 interrupted, 6 aborted -/
  calresultCode : BitVec 4 := 0
  /-- `CALRESULT.FAILS` 0x24[3:0], R188: Consecutive failed calibrations, saturating at 15 -/
  calresultFails : BitVec 4 := 0
  /-- `TAPMIN` 0x25[15:0], R188: Narrowest tap of the last calibration, in 0.01 ps -/
  tapmin : BitVec 16 := 0
  /-- `TAPMAX` 0x26[15:0], R188: Widest tap, in 0.01 ps -/
  tapmax : BitVec 16 := 0
  /-- `VERMIN` 0x27[15:0], R188: Narrowest vernier bin, in 0.001 ps -/
  vermin : BitVec 16 := 0
  /-- `VERMAX` 0x28[15:0], R188: Widest vernier bin, in 0.001 ps -/
  vermax : BitVec 16 := 0
  /-- `TAPSUMDEV` 0x29[15:0], R188: Span deviation from 7.8125 ns, in 0.001 %, signed -/
  tapsumdev : BitVec 16 := 0
  /-- `CALSAT` 0x2A[15:0], R188: Saturated count s -/
  calsat : BitVec 16 := 0
  deriving DecidableEq, Repr

/-- Stored fields of Table 8.6. -/
structure DriveRegs where
  /-- `XDSTAT.BOOSTON` 0x0400[15], R218: 1: boost regulating -/
  xdstatBooston : Bool := false
  /-- `XDSTAT.VDRVOK` 0x0400[14], R218: 1: VDRV ≥ 0.98 × target, by R193 -/
  xdstatVdrvok : Bool := false
  /-- `VDRVMV` 0x0401[15:0], R218: Last VDRV sample, in mV: taken at the start of each shot, and at the 2 ms timeout of a failed boost, by R193 -/
  vdrvmv : BitVec 16 := 0
  /-- `VDRVTGT` 0x0402[15:0], R218: Boost target of R193, in mV -/
  vdrvtgt : BitVec 16 := 0
  /-- `BOOSTFAIL` 0x0403[15:0], R218: Boost timeouts -/
  boostfail : BitVec 16 := 0
  /-- `FASTCNT` 0x0405[15:0], R218: Entries to fast sequence -/
  fastcnt : BitVec 16 := 0
  /-- `PSOVER` 0x0408[15:0], R218: Step instances skipped, by R215 -/
  psover : BitVec 16 := 0
  deriving DecidableEq, Repr

/-- Stored fields of Table 8.7. -/
structure PathRegs where
  /-- `PATHSTAT.ACQ` 0x00[13], R218: 1: acquisition window, by R205 -/
  pathstatAcq : Bool := true
  /-- `PATHSTAT.CLIP` 0x00[12], R218: 1: the last interval clipped -/
  pathstatClip : Bool := false
  /-- `PATHSTAT.GAIN` 0x00[7:0], R218: Gain in force, in 0.5 dB -/
  pathstatGain : BitVec 8 := 0x3c
  /-- `PAIRPER` 0x01[15:0], R218: Pair period of R204, in 10 µs -/
  pairper : BitVec 16 := 0
  /-- `TEXP` 0x02–0x03[31:0], R218: t_exp, in ns; 0 in acquisition -/
  texp : BitVec 32 := 0
  /-- `BURSTLEN` 0x04[15:0], R218: Burst duration, in 0.1 µs -/
  burstlen : BitVec 16 := 0
  /-- `FREQNOW` 0x05[15:0], R218: `FREQ` in force, in kHz -/
  freqnow : BitVec 16 := 0
  /-- `PAIRSFIRED` 0x06[15:0], R218: Pairs fired in the last interval, excluding retries -/
  pairsfired : BitVec 16 := 0
  /-- `RETRYCNT` 0x07[15:0], R218: Retry shots fired, by R207 -/
  retrycnt : BitVec 16 := 0
  /-- `CLIPCNT` 0x08[15:0], R218: Clipped intervals at 0 dB, by R201 -/
  clipcnt : BitVec 16 := 0
  deriving DecidableEq, Repr

/-- Stored fields of Table 8.8. -/
structure PortRegs where
  /-- `XDPSTAT.FAULT` 0x00[15:12], R218: Result of the last port check, as a Table 8.3 code -/
  xdpstatFault : BitVec 4 := 0
  /-- `XDPSTAT.ILIM` 0x00[11], R218: 1: the last burst reached the current limit -/
  xdpstatIlim : Bool := false
  /-- `ZMAG` 0x01[15:0], R218: Magnitude of Z, in Ω -/
  zmag : BitVec 16 := 0
  /-- `ZPHASE` 0x02[15:0], R218: Phase of Z, in 0.01°, signed -/
  zphase : BitVec 16 := 0
  /-- `ZTIME` 0x03–0x04[31:0], R218: `TLMONO` at the last check -/
  ztime : BitVec 32 := 0
  /-- `ILIMCNT` 0x05[15:0], R218: Bursts in current limit -/
  ilimcnt : BitVec 16 := 0
  /-- `ZFAILCNT` 0x06[15:0], R218: Consecutive checks with `FAULT` ≠ 0 -/
  zfailcnt : BitVec 16 := 0
  deriving DecidableEq, Repr

/-- Stored fields of Table 9.7. -/
structure FlowBlock where
  /-- `FRES.STATUS` 0x0500[14:12], R247: 0 none posted, 1 valid, 2 substituted, 3 lost, by R237 -/
  fresStatus : BitVec 3 := 0
  /-- `FRES.CUT` 0x0500[11], R247: 1: Cut held after this interval, by R241 -/
  fresCut : Bool := false
  /-- `FRES.FAST` 0x0500[10], R247: 1: interval ran at the fast interval -/
  fresFast : Bool := false
  /-- `FRES.TDCONLY` 0x0500[9], R247: 1: a weighted path used first-hit times, by R226 -/
  fresTdconly : Bool := false
  /-- `FRES.PATHVAL` 0x0500[7:4], R247: Bit k: path k valid -/
  fresPathval : BitVec 4 := 0
  /-- `FRES.PATHSUB` 0x0500[3:0], R247: Bit k: path k substituted -/
  fresPathsub : BitVec 4 := 0
  /-- `FRES.SEQ` 0x0501[15:0], R247: Result sequence number -/
  fresSeq : BitVec 16 := 0
  /-- `QRAW` 0x0502–0x0503[31:0], R247: Q, in mL/h, signed -/
  qraw : BitVec 32 := 0
  /-- `QINT` 0x0504–0x0505[31:0], R247: Flow integrated, in mL/h, signed -/
  qint : BitVec 32 := 0
  /-- `VMEAN` 0x0506–0x0507[31:0], R247: v̄, in µm/s, signed -/
  vmean : BitVec 32 := 0
  /-- `REYN` 0x0508–0x0509[31:0], R247: Re -/
  reyn : BitVec 32 := 0
  /-- `KFAC` 0x050A–0x050B[31:0], R247: k, in 2^−24 -/
  kfac : BitVec 32 := 0
  /-- `NUVISC` 0x050C–0x050D[31:0], R247: ν, in 0.001 mm²/s -/
  nuvisc : BitVec 32 := 0
  /-- `THETAM` 0x050E[15:0], R247: θ_m or θ_g used, in 0.01 °C, signed -/
  thetam : BitVec 16 := 0
  /-- `CMEAN` 0x050F[15:0], R247: c̄, in 0.1 m/s -/
  cmean : BitVec 16 := 0
  /-- `GQI` 0x0510[15:0], R247: c15 of this interval, in 0.1 m/s; 0 outside GAS or when not formed -/
  gqi : BitVec 16 := 0
  /-- `FRTIME` 0x0511–0x0513[47:0], R247: `TLTIME` at the first shot of the interval -/
  frtime : BitVec 48 := 0
  /-- `FRES.PATHLOST` 0x0514[3:0], R247: Bit k: path k lost -/
  fresPathlost : BitVec 4 := 0
  deriving DecidableEq, Repr

/-- Stored fields of Table 9.8. -/
structure PathWords where
  /-- `PRES.STATUS` 0x00[14:12], R247: 0 none, 1 valid, 2 substituted, 3 lost, by R234 -/
  presStatus : BitVec 3 := 0
  /-- `PRES.INV` 0x00[11], R247: 1: inverted interval, by R235 -/
  presInv : Bool := false
  /-- `PRES.ACQ` 0x00[10], R247: 1: acquisition window used -/
  presAcq : Bool := false
  /-- `PRES.TDCONLY` 0x00[9], R247: 1: first-hit times used, by R226 -/
  presTdconly : Bool := false
  /-- `PRES.RETRY` 0x00[8], R247: 1: a retry shot was used, by R207 -/
  presRetry : Bool := false
  /-- `PRES.NVALID` 0x00[7:4], R247: Pairs remaining after R233 -/
  presNvalid : BitVec 4 := 0
  /-- `PRES.NFIRED` 0x00[3:0], R247: Pairs fired -/
  presNfired : BitVec 4 := 0
  /-- `PRES.SEQ` 0x01[15:0], R247: `FRES.SEQ` of the containing result -/
  presSeq : BitVec 16 := 0
  /-- `DT` 0x02–0x04[47:0], R247: dt_med, in fs, signed -/
  dt : BitVec 48 := 0
  /-- `TUP` 0x05–0x07[47:0], R247: t_up, in fs -/
  tup : BitVec 48 := 0
  /-- `TDOWN` 0x08–0x0A[47:0], R247: t_down, in fs -/
  tdown : BitVec 48 := 0
  /-- `CSOUND` 0x0B[15:0], R247: c, in 0.1 m/s -/
  csound : BitVec 16 := 0
  /-- `VPATH` 0x0C–0x0D[31:0], R247: v, in µm/s, signed -/
  vpath : BitVec 32 := 0
  /-- `AMPR` 0x0E[15:0], R247: Median amplitude ratio, in 1/256 -/
  ampr : BitVec 16 := 0
  /-- `SNRDB` 0x0F[15:0], R247: Median SNR, in 0.1 dB, signed -/
  snrdb : BitVec 16 := 0
  /-- `RHO` 0x10[15:0], R247: Median ρ, in 2^−15 -/
  rho : BitVec 16 := 0
  /-- `MADV` 0x11[15:0], R247: Raw MAD before the floor, in 0.01 ps -/
  madv : BitVec 16 := 0
  /-- `REJA.NOSTOP` 0x12[15:12, 11:8, 7:4, 3:0], R247: Pairs rejected, by first reason -/
  rejaNostop : BitVec 4 := 0
  /-- `REJA.CLIP` 0x12[15:12, 11:8, 7:4, 3:0], R247: Pairs rejected, by first reason -/
  rejaClip : BitVec 4 := 0
  /-- `REJA.NOISE` 0x12[15:12, 11:8, 7:4, 3:0], R247: Pairs rejected, by first reason -/
  rejaNoise : BitVec 4 := 0
  /-- `REJA.UNLOCK` 0x12[15:12, 11:8, 7:4, 3:0], R247: Pairs rejected, by first reason -/
  rejaUnlock : BitVec 4 := 0
  /-- `REJB.SNR` 0x13[15:12, 11:8, 7:4, 3:0], R247: As above -/
  rejbSnr : BitVec 4 := 0
  /-- `REJB.AMP` 0x13[15:12, 11:8, 7:4, 3:0], R247: As above -/
  rejbAmp : BitVec 4 := 0
  /-- `REJB.INVMIX` 0x13[15:12, 11:8, 7:4, 3:0], R247: As above -/
  rejbInvmix : BitVec 4 := 0
  /-- `REJB.CRANGE` 0x13[15:12, 11:8, 7:4, 3:0], R247: As above -/
  rejbCrange : BitVec 4 := 0
  /-- `REJC.MAD` 0x14[15:12], R247: As above -/
  rejcMad : BitVec 4 := 0
  /-- `TPLADAPT` 0x19[15:0], R247: Adaptations since learning -/
  tpladapt : BitVec 16 := 0
  /-- `AMPTREND` 0x1A[15:0], R247: Amplitude trend, in 1/256 -/
  amptrend : BitVec 16 := 0x100
  /-- `CHOFS` 0x1B–0x1C[31:0], R247: Chain offset in use, in 0.01 ps, signed -/
  chofs : BitVec 32 := 0
  /-- `SUBSTRUN` 0x1D[15:0], R247: Consecutive substituted intervals -/
  substrun : BitVec 16 := 0
  /-- `SUBSTCNT` 0x1E[15:0], R247: Substituted intervals -/
  substcnt : BitVec 16 := 0
  /-- `LOSSCNT` 0x1F[15:0], R247: Acoustic-loss events -/
  losscnt : BitVec 16 := 0
  /-- `INVRUN` 0x20[15:0], R247: Consecutive inverted intervals -/
  invrun : BitVec 16 := 0
  /-- `INVCNT` 0x21[15:0], R247: Inverted intervals -/
  invcnt : BitVec 16 := 0
  /-- `UNLOCKCNT` 0x22[15:0], R247: Shots rejected for `UNLOCK` -/
  unlockcnt : BitVec 16 := 0
  /-- `BUBBLECNT` 0x23[15:0], R247: Intervals counted by R246 -/
  bubblecnt : BitVec 16 := 0
  /-- `PHASEFB` 0x24[15:0], R247: Shots timed by δp alone -/
  phasefb : BitVec 16 := 0
  deriving DecidableEq, Repr

/-- Stored fields of Table 9.9. -/
structure ZeroBlock where
  /-- `ZSTAT.ACCEPT` 0x00[14], R247: 1: check accepted, by R243 -/
  zstatAccept : Bool := false
  /-- `ZSTAT.NVALN` 0x00[7:4], R247: Normal-assignment pairs remaining -/
  zstatNvaln : BitVec 4 := 0
  /-- `ZSTAT.NVALS` 0x00[3:0], R247: Swapped-assignment pairs remaining -/
  zstatNvals : BitVec 4 := 0
  /-- `ZSEQ` 0x01[15:0], R247: Zero-check sequence number of this path -/
  zseq : BitVec 16 := 0
  /-- `DTN` 0x02–0x03[31:0], R247: Δt_n, in 0.01 ps, signed -/
  dtn : BitVec 32 := 0
  /-- `DTS` 0x04–0x05[31:0], R247: Δt_s, in 0.01 ps, signed -/
  dts : BitVec 32 := 0
  /-- `ZOFS` 0x06–0x07[31:0], R247: d, in 0.01 ps, signed -/
  zofs : BitVec 32 := 0
  /-- `ZTIME` 0x08–0x0A[47:0], R247: `TLTIME` at the first shot of the check -/
  ztime : BitVec 48 := 0
  deriving DecidableEq, Repr

/-- Stored fields of Table 9.10. -/
structure GasRegs where
  /-- `GASSTAT.VALID` 0x0680[15], R247: 1: `GQIV` holds a value -/
  gasstatValid : Bool := false
  /-- `GASSTAT.BELOW` 0x0680[14], R247: 1: last c15 below `C15MIN` of class 0 -/
  gasstatBelow : Bool := false
  /-- `GASSTAT.CLASS` 0x0680[13:11], R247: Class in force -/
  gasstatClass : BitVec 3 := 0
  /-- `GASSTAT.CAND` 0x0680[10:8], R247: Candidate class, by R244 -/
  gasstatCand : BitVec 3 := 0
  /-- `GASSTAT.CANDN` 0x0680[7:6], R247: Consecutive intervals giving the candidate, 0 to 3 -/
  gasstatCandn : BitVec 2 := 0
  /-- `GQIV` 0x0681[15:0], R247: Last c15 formed, in 0.1 m/s -/
  gqiv : BitVec 16 := 0
  /-- `CLASSCHG` 0x0682[15:0], R247: Class changes -/
  classchg : BitVec 16 := 0
  /-- `CUTSTAT.CUT` 0x0683[15], R247: 1: Cut state, by R241 -/
  cutstatCut : Bool := true
  deriving DecidableEq, Repr

/-- Stored fields of Table 10.3. -/
structure TempBlock where
  /-- `TRES.STATUS` 0x0700[14:13], R263: 0 none posted, 1 valid, 2 invalid, by R259 -/
  tresStatus : BitVec 2 := 0
  /-- `TRES.SWAPACT` 0x0700[12], R263: 1: swapped assignment in use, by R262 -/
  tresSwapact : Bool := false
  /-- `TRES.SWAPDET` 0x0700[11], R263: 1: swap detected -/
  tresSwapdet : Bool := false
  /-- `TRES.HALT` 0x0700[10], R263: 1: `SWAPPOL` = 2 halt in force -/
  tresHalt : Bool := false
  /-- `TRES.NOCOEF` 0x0700[9], R263: 1: a channel used e = s = 0, by R257 -/
  tresNocoef : Bool := false
  /-- `TRES.CHVAL` 0x0700[7:4], R263: Bit n: Tn passed -/
  tresChval : BitVec 4 := 0
  /-- `TRES.CHEN` 0x0700[3:0], R263: Bit n: Tn measured -/
  tresChen : BitVec 4 := 0
  /-- `TRES.SEQ` 0x0701[15:0], R263: Result sequence number -/
  tresSeq : BitVec 16 := 0
  /-- `THFLOW` 0x0702–0x0703[31:0], R263: θ_flow, in 0.1 mK, signed -/
  thflow : BitVec 32 := 0
  /-- `THRET` 0x0704–0x0705[31:0], R263: θ_return, in 0.1 mK, signed -/
  thret : BitVec 32 := 0
  /-- `DELTAT` 0x0706–0x0707[31:0], R263: ΔT, in 0.1 mK, signed -/
  deltat : BitVec 32 := 0
  /-- `THN` 0x0708–0x070F[31:0], R263: θ of Tn at 0x0708 + 2n, in 0.1 mK, signed; 0x8000_0000 when Tn did not pass -/
  thn : Vector (BitVec 32) 4 := Vector.replicate 4 0
  /-- `TRTIME` 0x0710–0x0712[47:0], R263: `TLTIME` at the first discharge -/
  trtime : BitVec 48 := 0
  /-- `TRDELAY` 0x0713[15:0], R263: δ, in 0.01 ns -/
  trdelay : BitVec 16 := 0
  /-- `TRAVG` 0x0714[15:8], R263: `AVG` used -/
  travg : BitVec 8 := 0
  /-- `TRDUR` 0x0715–0x0716[31:0], R263: Measurement duration, in ns -/
  trdur : BitVec 32 := 0
  deriving DecidableEq, Repr

/-- Stored fields of Table 10.4. -/
structure TempChRegs where
  /-- `TCHSTAT.FAULT` 0x00[15:12], R263: Table 10.1 code of the last measurement -/
  tchstatFault : BitVec 4 := 0
  /-- `TCHSTAT.FOURW` 0x00[11], R263: 1: 4-wire; always 1 for TREF -/
  tchstatFourw : Bool := true
  /-- `TCHSTAT.EN` 0x00[10], R263: 1: channel measured; always 1 for TREF -/
  tchstatEn : Bool := false
  /-- `TCHSTAT.NUSE` 0x00[6:0], R263: Usable discharges of the last measurement, by R254; full discharges for TREF -/
  tchstatNuse : BitVec 7 := 0
  /-- `TCHTIME` 0x01–0x02[31:0], R263: Mean full-discharge time, in ps -/
  tchtime : BitVec 32 := 0
  /-- `TCHRATIO` 0x03–0x04[31:0], R263: ratio_n, in 2^−28; 0 for TREF -/
  tchratio : BitVec 32 := 0
  /-- `TCHRES` 0x05–0x06[31:0], R263: R_n, in mΩ; 1 000 000 for TREF -/
  tchres : BitVec 32 := 0
  /-- `TCOEFE` 0x07[15:0], R263: e_n in use, in 0.1 ppm, signed; 0 for TREF -/
  tcoefe : BitVec 16 := 0
  /-- `TCOEFS` 0x08[15:0], R263: s_n in use, in 0.1 ppm, signed; 0 for TREF -/
  tcoefs : BitVec 16 := 0
  /-- `TFAILCNT` 0x09[15:0], R263: Consecutive measurements with `FAULT` ≠ 0 -/
  tfailcnt : BitVec 16 := 0
  deriving DecidableEq, Repr

/-- Stored fields of Table 10.5. -/
structure TempRegs where
  /-- `TMPSTAT.NOCOEF` 0x07A0[10], R263: 1: coefficients unavailable, by R257 -/
  tmpstatNocoef : Bool := false
  /-- `SWAPRUN` 0x07A2[15:0], R263: Wrong-sign results in succession, by R261 -/
  swaprun : BitVec 16 := 0
  /-- `SWAPOK` 0x07A3[15:0], R263: Right-sign results in succession, by R261 -/
  swapok : BitVec 16 := 0
  /-- `SWAPCNT` 0x07A4[15:0], R263: Swap detections since manufacture -/
  swapcnt : BitVec 16 := 0
  /-- `TMEASCNT` 0x07A5[15:0], R263: Results posted -/
  tmeascnt : BitVec 16 := 0
  /-- `TWAITV` 0x07A6[15:0], R263: Measurements delayed by a Vitrine gate, by R253 -/
  twaitv : BitVec 16 := 0
  deriving DecidableEq, Repr

/-- Stored fields of Table 11.6. -/
structure RegistrarRegs where
  /-- `ACCSTAT.LASTKIND` 0x0900[15:12], R291: `AKIND` of the last full record -/
  accstatLastkind : BitVec 4 := 0
  /-- `ACCNUM` 0x0901–0x0902[31:0], R291: Integration number of the last sealed record -/
  accnum : BitVec 32 := 0
  /-- `ACCFULL` 0x0903[15:0], R291: Full records sealed -/
  accfull : BitVec 16 := 0
  /-- `LSMIS` 0x0907[15:0], R291: Lockstep disagreements, by R266 -/
  lsmis : BitVec 16 := 0

  /-- `TEFLOW` 0x0910–0x0911[31:0], R291: Error time from lost intervals, s -/
  teflow : BitVec 32 := 0
  /-- `TETEMP` 0x0912–0x0913[31:0], R291: Error time from energy not integrated, s -/
  tetemp : BitVec 32 := 0
  /-- `TEGAS` 0x0914–0x0915[31:0], R291: Error time from disturbed conversion, s -/
  tegas : BitVec 32 := 0
  /-- `TEGAP` 0x0916–0x0917[31:0], R291: Error time from restore gaps, s -/
  tegap : BitVec 32 := 0
  /-- `TESPAN` 0x0918–0x0919[31:0], R291: Error time from capped spans, s -/
  tespan : BitVec 32 := 0
  /-- `HEATK` 0x0920–0x0921[31:0], R291: k of the last span, J/(m³·K) -/
  heatk : BitVec 32 := 0
  /-- `THGAS` 0x0922[15:0], R291: θ_g in use, 0.01 °C, signed -/
  thgas : BitVec 16 := 0
  /-- `PRESSPA` 0x0923–0x0924[31:0], R291: p in use, Pa -/
  presspa : BitVec 32 := 0
  /-- `PRSTAT.VALID` 0x0925[15], R291: 1: last pressure reading valid -/
  prstatValid : Bool := false
  /-- `SEQGAP` 0x0926[15:0], R291: Result sequence gaps, by R269 -/
  seqgap : BitVec 16 := 0
  deriving DecidableEq, Repr

/-- Stored fields of Table 12.12. -/
structure MemRegs where
  /-- `MEMSTAT.UE` 0x0A00[15], R328: 1: uncorrectable SRAM error, by R295 -/
  memstatUe : Bool := false
  /-- `MEMSTAT.XCOL` 0x0A00[14], R328: 1: exchange-bank collision, by R299 -/
  memstatXcol : Bool := false
  /-- `MEMSTAT.BGFAIL` 0x0A00[13], R328: 1: background failure, by R309 -/
  memstatBgfail : Bool := false
  /-- `XCOLINFO.AGENT` 0x0A02[15:14], R328: Last discarded writer: 1 Curator, 2 Link core -/
  xcolinfoAgent : BitVec 2 := 0
  /-- `XCOLINFO.WADDR` 0x0A02[13:0], R328: Its 16-bit word address in XB -/
  xcolinfoWaddr : BitVec 14 := 0
  /-- `XCOLCNT` 0x0A03[15:0], R328: Collisions -/
  xcolcnt : BitVec 16 := 0
  /-- `CECNT` 0x0A04[15:0], R328: Corrected SRAM errors -/
  cecnt : BitVec 16 := 0
  /-- `UECNT` 0x0A05[15:0], R328: Uncorrectable SRAM errors -/
  uecnt : BitVec 16 := 0
  /-- `UESEG` 0x0A06[7:0], R328: Segment code of the last uncorrectable error -/
  ueseg : BitVec 8 := 0
  /-- `UEADDR` 0x0A07[15:0], R328: Its 32-bit word address in the segment -/
  ueaddr : BitVec 16 := 0
  /-- `BGPASS` 0x0A09[15:0], R328: Passes completed -/
  bgpass : BitVec 16 := 0
  /-- `BGABORT` 0x0A0A[15:0], R328: Windows abandoned, by R308 -/
  bgabort : BitVec 16 := 0
  /-- `BGSKIP` 0x0A0B[15:0], R328: Rows skipped in passes -/
  bgskip : BitVec 16 := 0
  /-- `BGLAST` 0x0A0C–0x0A0D[31:0], R328: `TLMONO` at the last completed pass -/
  bglast : BitVec 32 := 0
  /-- `ERASEMAX` 0x0A4E–0x0A4F[31:0], R328: Highest `TERASES` -/
  erasemax : BitVec 32 := 0
  /-- `SPAREBLK` 0x0A50[15:0], R328: Spare blocks remaining -/
  spareblk : BitVec 16 := 0x40
  /-- `RECOV.DONE` 0x0A51[15:8], R328: Records completed at the last start -/
  recovDone : BitVec 8 := 0
  /-- `RECOV.DISC` 0x0A51[7:0], R328: Records discarded at the last start -/
  recovDisc : BitVec 8 := 0
  /-- `ARCUE` 0x0A53[15:0], R328: Uncorrectable Archive reads -/
  arcue : BitVec 16 := 0
  /-- `ARCSUSPCNT` 0x0A54[15:0], R328: Erase suspensions -/
  arcsuspcnt : BitVec 16 := 0
  /-- `EVQDROP` 0x0A55[15:0], R328: Events dropped by R319 -/
  evqdrop : BitVec 16 := 0
  deriving DecidableEq, Repr

/-- Stored fields of Table 13.5. -/
structure RadioRegs where
  /-- `RFSTAT.LOCK` 0x0B00[10], R352: 1: synthesizer locked -/
  rfstatLock : Bool := false
  /-- `RFSTAT.CLAMP` 0x0B00[9], R352: 1: `TXPWR` reduced by R340 -/
  rfstatClamp : Bool := false
  /-- `RFSTAT.VITWAIT` 0x0B00[8], R352: 1: a transmission waits for a Vitrine calibration, by R148 -/
  rfstatVitwait : Bool := false
  /-- `RFSTAT.CALOK` 0x0B00[7], R352: 1: the last radio calibration succeeded -/
  rfstatCalok : Bool := false
  /-- `RFFREQ` 0x0B02–0x0B03[31:0], R352: Last synthesizer frequency, in Hz, after correction -/
  rffreq : BitVec 32 := 0
  /-- `RFCHAN.NUM` 0x0B04[15:8], R352: Last Mogal channel, by Table 13.2; 0xFF for an EN 13757-4 mode -/
  rfchanNum : BitVec 8 := 0
  /-- `RFCHAN.RATE` 0x0B04[7:0], R352: Last rate: 0 base, 1 bulk, 2 wake, 0x10 + `LEGMODE` for EN 13757-4 -/
  rfchanRate : BitVec 8 := 0
  /-- `RFRSSI` 0x0B05[15:0], R352: Signal strength of the last good frame, in 0.1 dBm, signed -/
  rfrssi : BitVec 16 := 0
  /-- `RFFEI` 0x0B06[15:0], R352: Frequency error of the last good frame, in Hz, signed -/
  rffei : BitVec 16 := 0
  /-- `TXCNT` 0x0B07[15:0], R352: Frames transmitted -/
  txcnt : BitVec 16 := 0
  /-- `RXCNT` 0x0B08[15:0], R352: Frames received with a good CRC or FCS -/
  rxcnt : BitVec 16 := 0
  /-- `RXERR` 0x0B09[15:0], R352: Frames discarded for CRC, FCS or an unsupported PHR -/
  rxerr : BitVec 16 := 0
  /-- `DEFDUTY` 0x0B0A[15:0], R352: Refusals by a duty ledger -/
  defduty : BitVec 16 := 0
  /-- `DEFDWELL` 0x0B0B[15:0], R352: Refusals by a dwell ledger -/
  defdwell : BitVec 16 := 0
  /-- `DEFDROP` 0x0B0C[15:0], R352: Deadline-bound transmissions dropped, by R350 -/
  defdrop : BitVec 16 := 0
  /-- `SEQTX` 0x0B0D[15:0], R352: Frames sent by the sequencer -/
  seqtx : BitVec 16 := 0
  /-- `RFCALFAIL` 0x0B0E[15:0], R352: Synthesizer lock failures, by R338 -/
  rfcalfail : BitVec 16 := 0
  /-- `TXABORT` 0x0B0F[15:0], R352: Transmissions aborted by R125, or stopped below 2.30 V by R474 -/
  txabort : BitVec 16 := 0
  deriving DecidableEq, Repr

/-- Stored fields of Table 14.11. -/
structure LinkRegs where
  /-- `PARENTID` 0x0C04–0x0C05[31:0], R393: Parent's link ID; 0 = none -/
  parentid : BitVec 32 := 0
  /-- `SFN` 0x0C06–0x0C07[31:0], R393: Tracked or own superframe number -/
  sfn : BitVec 32 := 0
  /-- `GUARD` 0x0C09[15:0], R393: Last guard G, in 10 µs -/
  guard : BitVec 16 := 0
  /-- `LASTCONT` 0x0C0A–0x0C0B[31:0], R393: `TLMONO` at the last contact -/
  lastcont : BitVec 32 := 0
  /-- `MISSRUN` 0x0C0C[15:0], R393: Consecutive misses, 0 to 3 -/
  missrun : BitVec 16 := 0
  /-- `BCNRX` 0x0C0D[15:0], R393: Beacons accepted -/
  bcnrx : BitVec 16 := 0
  /-- `BCNMISS` 0x0C0E[15:0], R393: Misses, by R371 -/
  bcnmiss : BitVec 16 := 0
  /-- `SEARCHN` 0x0C0F[15:0], R393: Searches begun -/
  searchn : BitVec 16 := 0
  /-- `POLLOK` 0x0C16[15:0], R393: Poll exchanges acknowledged -/
  pollok : BitVec 16 := 0
  /-- `POLLFAIL` 0x0C17[15:0], R393: Uploads failed or not sent -/
  pollfail : BitVec 16 := 0
  /-- `RETRIES` 0x0C18[15:0], R393: Retries sent -/
  retries : BitVec 16 := 0
  /-- `RXOLD` 0x0C19[15:0], R393: Frames dropped for an old counter -/
  rxold : BitVec 16 := 0
  /-- `RXREPEAT` 0x0C1A[15:0], R393: Repeats re-acknowledged -/
  rxrepeat : BitVec 16 := 0
  /-- `RXMIC` 0x0C1B[15:0], R393: MIC failures -/
  rxmic : BitVec 16 := 0
  /-- `RXNOKEY` 0x0C1C[15:0], R393: Frames without a usable key -/
  rxnokey : BitVec 16 := 0
  /-- `RXBAD` 0x0C1D[15:0], R393: Malformed frames, by R359 -/
  rxbad : BitVec 16 := 0
  /-- `FBTX` 0x0C1E[15:0], R393: Fallback telegrams -/
  fbtx : BitVec 16 := 0
  /-- `LEGTX` 0x0C1F[15:0], R393: LEGACY telegrams -/
  legtx : BitVec 16 := 0
  /-- `LEGACK` 0x0C20[15:0], R393: EN 13757-4 acknowledgements received -/
  legack : BitVec 16 := 0
  /-- `WAKEDET` 0x0C21[15:0], R393: Wake words accepted -/
  wakedet : BitVec 16 := 0
  /-- `SESSIONS` 0x0C22[15:0], R393: Sessions opened -/
  sessions : BitVec 16 := 0
  /-- `HOSUCC` 0x0C29–0x0C2A[31:0], R393: Successor of the last hand-over -/
  hosucc : BitVec 32 := 0
  /-- `HOSFN` 0x0C2B–0x0C2C[31:0], R393: H of the last hand-over -/
  hosfn : BitVec 32 := 0
  /-- `HODONE` 0x0C2D[15:0], R393: Hand-overs completed -/
  hodone : BitVec 16 := 0
  /-- `HOFAIL` 0x0C2E[15:0], R393: Hand-overs abandoned -/
  hofail : BitVec 16 := 0
  /-- `DEPUTYID` 0x0C2F–0x0C30[31:0], R393: Deputy named by the last beacon -/
  deputyid : BitVec 32 := 0
  /-- `PARDAYS` 0x0C31[15:0], R393: Days in the parent role since manufacture -/
  pardays : BitVec 16 := 0
  /-- `CSLOST` 0x0C45[15:0], R393: Entries lost uncollected -/
  cslost : BitVec 16 := 0
  /-- `UPMISS` 0x0C46[15:0], R393: Due uploads not received -/
  upmiss : BitVec 16 := 0
  /-- `JOINS` 0x0C47[15:0], R393: Joins accepted -/
  joins : BitVec 16 := 0
  /-- `BCNTX` 0x0C48[15:0], R393: Beacons sent -/
  bcntx : BitVec 16 := 0
  /-- `BCNSKIP` 0x0C49[15:0], R393: Beacons withdrawn, by R369 -/
  bcnskip : BitVec 16 := 0
  deriving DecidableEq, Repr

/-- Stored fields of Table 15.6. -/
structure DispRegs where
  /-- `DSPSTAT.GLASSFAIL` 0x0E00[10], R415: 1: glass read-back failure, by R413 -/
  dspstatGlassfail : Bool := false
  /-- `DSPSTAT.VLCDLOW` 0x0E00[9], R415: 1: `VLCD` below its setting, by R400 -/
  dspstatVlcdlow : Bool := false
  /-- `DSPSTAT.PUMP` 0x0E00[8], R415: 1: `VLCD` from the pump; 0: from the LDO -/
  dspstatPump : Bool := false
  /-- `DSPSTAT.NOMAP` 0x0E00[7], R415: 1: display unavailable, by R396 -/
  dspstatNomap : Bool := false
  /-- `DSPSTAT.TBLBAD` 0x0E00[6], R415: 1: waveform sets rejected -/
  dspstatTblbad : Bool := false
  /-- `VLCDMV` 0x0E01[15:0], R415: Last `VLCD` sample, in mV -/
  vlcdmv : BitVec 16 := 0
  /-- `RBFAIL` 0x0E08–0x0E0C[15:0], R415: Faulty pins -/
  rbfail : Vector (BitVec 16) 5 := Vector.replicate 5 0
  /-- `RBLAST` 0x0E10–0x0E14[15:0], R415: Pins that failed the last check -/
  rblast : Vector (BitVec 16) 5 := Vector.replicate 5 0
  /-- `RBFAILCNT` 0x0E18[15:0], R415: Checks with any failing pin -/
  rbfailcnt : BitVec 16 := 0
  /-- `EPDOLD` 0x0E21[7:0], R415: Bit r: region r left showing old content by a park -/
  epdold : BitVec 8 := 0
  /-- `EPDVP` 0x0E22[15:0], R415: `VEPDP`, in mV -/
  epdvp : BitVec 16 := 0
  /-- `EPDVN` 0x0E23[15:0], R415: Magnitude of `VEPDN`, in mV -/
  epdvn : BitVec 16 := 0
  /-- `EPDSET` 0x0E24[1:0], R415: Waveform set of the last update -/
  epdset : BitVec 2 := 0
  /-- `EPDUPD` 0x0E25[15:0], R415: Region updates completed -/
  epdupd : BitVec 16 := 0
  /-- `EPDDROP` 0x0E26[15:0], R415: Queued content replaced, by Table 15.3 -/
  epddrop : BitVec 16 := 0
  /-- `EPDPARK` 0x0E27[15:0], R415: Parks -/
  epdpark : BitVec 16 := 0
  /-- `EMSTAT.SUBPER` 0x0E30[15:8], R415: Forward periods in the last emissive frame -/
  emstatSubper : BitVec 8 := 0
  /-- `EMFRAMES` 0x0E31[15:0], R415: Emissive frames driven -/
  emframes : BitVec 16 := 0
  /-- `EMWAIT` 0x0E32[15:0], R415: Emissive frames lost to seat waits, by R406 -/
  emwait : BitVec 16 := 0
  deriving DecidableEq, Repr

/-- Stored fields of Table 16.8. -/
structure IoRegs where
  /-- `HIRQ.RSP` 0x0F00[15], R441: Response ready -/
  hirqRsp : Bool := false
  /-- `HIRQ.FRES` 0x0F00[14], R441: Flow result posted -/
  hirqFres : Bool := false
  /-- `HIRQ.TRES` 0x0F00[13], R441: Temperature result posted -/
  hirqTres : Bool := false
  /-- `HIRQ.SBCHG` 0x0F00[12], R441: Safe-beacon entered or left -/
  hirqSbchg : Bool := false
  /-- `HIRQ.START` 0x0F00[11], R441: Start completed -/
  hirqStart : Bool := false
  /-- `HIRQ.ALARM` 0x0F00[10], R441: Alarm event logged -/
  hirqAlarm : Bool := false
  /-- `HIRQ.STORE` 0x0F00[9], R441: Cluster-store entry written -/
  hirqStore : Bool := false
  /-- `AUTHFAIL` 0x0F03[15:0], R441: Failed AUTH attempts -/
  authfail : BitVec 16 := 0
  /-- `HSTERR` 0x0F05[15:0], R441: Host transactions rejected, by R419 and R420 -/
  hsterr : BitVec 16 := 0
  /-- `HSTNRDY` 0x0F06[15:0], R441: Host transactions not served, by R418 -/
  hstnrdy : BitVec 16 := 0
  /-- `IRERR` 0x0F07[15:0], R441: Optical frames discarded -/
  irerr : BitVec 16 := 0
  /-- `PI0CNT` 0x0F41–0x0F42[31:0], R441: Pulses on `PI0`; held in AON RAM -/
  pi0cnt : BitVec 32 := 0
  /-- `PI1CNT` 0x0F43–0x0F44[31:0], R441: Pulses on `PI1`; held in AON RAM -/
  pi1cnt : BitVec 32 := 0
  /-- `POBACK0` 0x0F45[15:0], R441: Queued pulses of `PO0`; held in AON RAM -/
  poback0 : BitVec 16 := 0
  /-- `POBACK1` 0x0F46[15:0], R441: Queued pulses of `PO1`; held in AON RAM -/
  poback1 : BitVec 16 := 0
  /-- `TMPCNT0` 0x0F47[15:0], R441: Confirmed changes on `TMP0` -/
  tmpcnt0 : BitVec 16 := 0
  /-- `TMPCNT1` 0x0F48[15:0], R441: Confirmed changes on `TMP1` -/
  tmpcnt1 : BitVec 16 := 0
  /-- `KEYCNT` 0x0F49[15:0], R441: Qualified key presses -/
  keycnt : BitVec 16 := 0
  deriving DecidableEq, Repr

/-- Stored fields of Table 16.9. -/
structure ModuleRegs where
  /-- `MPSTAT.MATCH` 0x0[13], R441: 1: the last check matched, by Table 3.4 -/
  mpstatMatch : Bool := false
  /-- `MPSTAT.FAULT` 0x0[11:8], R441: 0 none, 1 absent, 2 line short, 3 supply limit, 4 record invalid, 5 wrong class, 6 wrong serial, 7 wrong format version, 8 calibration block changed -/
  mpstatFault : BitVec 4 := 0
  /-- `MPSTAT.CLASS` 0x0[7:0], R441: `MCLASS` read -/
  mpstatClass : BitVec 8 := 0
  /-- `MPFMT` 0x1[15:8], R441: `MFMT` read -/
  mpfmt : BitVec 8 := 0
  /-- `MPFAILS` 0x1[7:0], R441: Consecutive failed checks -/
  mpfails : BitVec 8 := 0
  /-- `MPCRC` 0x2–0x3[31:0], R441: `MCRC` read -/
  mpcrc : BitVec 32 := 0
  deriving DecidableEq, Repr

/-- Stored fields of Table 17.7. -/
structure FaultRegs where
  /-- `FLTSTAT.TAMPER` 0x1000[15], R461: 1: tamper event since the last clear -/
  fltstatTamper : Bool := false
  /-- `FLTSTAT.ALARM` 0x1000[14], R461: 1: alarm event since the last clear -/
  fltstatAlarm : Bool := false
  /-- `FLTSTAT.REVSUSP` 0x1000[13], R461: 1: reversed path suspected, by R449 -/
  fltstatRevsusp : Bool := false
  /-- `WDSTAT.STEP` 0x1001[15:8], R461: Last step of R454 begun, 1 to 6 -/
  wdstatStep : BitVec 8 := 0
  /-- `WDSTAT.CAUSE` 0x1001[7:0], R461: Cause of the last watchdog reset, as a Table 17.3 code -/
  wdstatCause : BitVec 8 := 0
  /-- `WDTIME` 0x1002–0x1003[31:0], R461: `TLMONO` at that reset -/
  wdtime : BitVec 32 := 0
  /-- `WDCNT` 0x1008–0x100F[15:0], R461: Expiries of cause c at 0x1007 + c; held in AON RAM -/
  wdcnt : Vector (BitVec 16) 8 := Vector.replicate 8 0
  /-- `UNAVAIL` 0x1011[3:0], R461: Bit set while the function is unavailable: bit 0 display, by R396 or R451; bit 1 radio and link, by R451, a failed stage 13 or its retries, or R435; bit 2 pressure, by R451; bit 3 TREF, while its last measurement gave a fault, by R258 -/
  unavail : BitVec 4 := 0
  /-- `PINFLT` 0x1012[6:0], R461: Held lines, by R450: bit 0 `PO0`, 1 `PO1`, 2 `PI0`, 3 `PI1`, 4 `KEY0`, 5 `KEY1`, 6 `HST_CS` -/
  pinflt : BitVec 7 := 0
  /-- `LASTALARM` 0x1013[15:0], R461: Last alarm event code -/
  lastalarm : BitVec 16 := 0
  /-- `LASTTAMPER` 0x1014[15:0], R461: Last tamper event code -/
  lasttamper : BitVec 16 := 0
  /-- `TAMPTIME` 0x1015–0x1017[47:0], R461: `TLTIME` of that event -/
  tamptime : BitVec 48 := 0
  /-- `ALARMCNT` 0x1018[15:0], R461: Alarm events -/
  alarmcnt : BitVec 16 := 0
  /-- `TAMPCNT` 0x1019[15:0], R461: Tamper events -/
  tampcnt : BitVec 16 := 0
  /-- `REVDAYS` 0x101B[15:0], R461: Reversed days in succession -/
  revdays : BitVec 16 := 0
  /-- `ALARMTX` 0x101C[15:0], R461: Alarm frames sent by the Warden -/
  alarmtx : BitVec 16 := 0
  /-- `GOPSKIP` 0x101E[15:0], R461: Shadow commits skipped -/
  gopskip : BitVec 16 := 0
  deriving DecidableEq, Repr

end Sys2Proof.Machine
end

