-- ==== Sys2Proof/Machine/Parts.lean ====
section
/-! DEFINITION. The parts of State that are no words of the service map: what the Warden, the Chairlift, the clocks,
the Registrar, the memories and the fault machinery hold between commands. -/

namespace Sys2Proof.Machine

/-! ## Events and phases -/

/-- One logged event as it waits in the AON queue or stands in the event ring (R319, Table 12.8). -/
structure Event where
  /-- `ECODE` -/
  code : Nat
  /-- `EFLAGS` bit 0 -/
  lost : Bool
  /-- `ETIME` -/
  time : Nat
  /-- The items of the Carries column, in order -/
  args : List Int
  deriving DecidableEq, Repr

/-- What the device is doing as a whole: the operating states behind `GSTAT.STATE` (Table 4.6) and the holds of R45,
R46, R126 and Table 4.2 stage 2. -/
inductive Phase where
  /-- VBAT below the POR threshold (R119). -/
  | off
  /-- Off entered by command (Table 5.4): only a POR leaves it. -/
  | offByCommand
  /-- TESTEN was high at POR release (R45). -/
  | testHold
  /-- Warden ROM mismatch at stage 2 (Table 4.2). -/
  | romHalt
  /-- Cold start, the stage now running or waited for (R87). -/
  | cold (stage : Nat)
  /-- Hibernate start, the step now running (R99). -/
  | hib (step : Nat)
  | operating
  /-- Safe-beacon; `true` when run by the Warden alone (R103). -/
  | safeBeacon (wardenAlone : Bool)
  /-- EXTEST entered: metering halted (R49). -/
  | extest
  /-- RST_N low after an external reset (R46). -/
  | resetHold
  /-- After a brownout, until VBAT recovers (R126). -/
  | brownout
  deriving DecidableEq, Repr

/-- What the stage in `Phase.cold` or `Phase.hib` still waits for. -/
inductive StartWait where
  | none
  /-- Reservoir wait after stage 2 (R89). -/
  | reservoir
  /-- The Chairlift seat of the stage (R91). -/
  | seat
  /-- XT32 running, before stage 9 (R90). -/
  | xt32
  /-- OTP programming conditions within stage 7 (R95). -/
  | otp
  deriving DecidableEq, Repr

/-- The power states of Table 5.1. -/
inductive PState where | run | doze | standby | hibernate | off
  deriving DecidableEq, Repr

/-- Codes of Table 5.1. -/
def PState.code : PState → Nat
  | .run => 1 | .doze => 2 | .standby => 3 | .hibernate => 4 | .off => 5

/-- A Hibernate or Off request from a service session (R114), with the port that issued it. -/
structure PowerRequest where
  target : PState
  port : Port
  deriving DecidableEq, Repr

/-! ## The Chairlift -/

/-- Uses of the receiver that take a unit-3 seat (Table 5.6). -/
inductive RxUse where | beacon | poll | ack | listen | reply | search | reader | transfer
  deriving DecidableEq, Repr

/-- Frames that take a unit-7 seat (Table 5.6). -/
inductive TxUse where
  | beacon | poll | ackFrame | join | handover | hello | session | wake | legacy | fallback | fault | alarm | upload
  deriving DecidableEq, Repr

/-- The work a seat is asked for. -/
inductive Work where
  | startStage (n : Nat)
  | seal
  | ledger
  | wardenErase
  | shots (step : Nat)
  | zeroCheck (step : Nat)
  | temperature (step : Nat)
  | pressure (step : Nat)
  | moduleCheck
  /-- Curator service of the host port, the optical port and the keys -/
  | service
  | receive (u : RxUse)
  | archive
  | display
  | bistable (region : Nat)
  | emissive
  | transmit (u : TxUse)
  | vitrine
  | tdcCal
  /-- Work of a unit given by SEAT_REQUEST alone. -/
  | other
  deriving DecidableEq, Repr

/-- A Chairlift request or seat (R128). -/
structure Seat where
  unit : Nat
  /-- Class, in 0.1 mA -/
  cls : Nat
  /-- Charge-equivalent hold, in µs -/
  hold : Nat
  /-- Deadline, as a time of `State.now`; none = no deadline -/
  deadline : Option Nat := none
  /-- Time of the request, or of the admission once held -/
  at_ : Nat := 0
  /-- Order of the request among all -/
  order : Nat := 0
  /-- Demand d of R129 recorded at admission, in 0.1 mA beyond `free` -/
  excess : Nat := 0
  /-- Admitted while VRES stood at or above `VRES_LOW` − 300 mV (R125) -/
  above : Bool := true
  work : Work := .other
  deriving DecidableEq, Repr

/-- The Chairlift's own state. -/
structure Chairlift where
  waiting : List Seat := []
  held : List Seat := []
  /-- Time of the last admission, or none since the start (R130) -/
  lastAdm : Option Nat := none
  order : Nat := 0
  /-- A guaranteed shadow commit that counts as a held 5 mA seat of 2.3 ms (R128): its start, and the part of its class beyond
  `free` at that moment, 0.1 mA -/
  commit : Option (Nat × Nat) := none
  /-- C_est of R127 where it is in use in place of `CRES`, in 10^−5 of 0.1 mF; 0 = `CRES` in use -/
  cest : Nat := 0
  /-- Work whose unit is told of a drop, most recent first (R131, R153) -/
  told : List Work := []
  deriving DecidableEq, Repr

/-! ## Power -/

/-- Power states, transitions and the reservoir monitor (Tables 5.1, 5.5). -/
structure Power where
  st : PState := .run
  /-- State being entered -/
  target : Option PState := none
  /-- The one-deep pending slot of R118 -/
  pend : Option PState := none
  /-- Wake latched during an entry (R117), as a Table 5.2 code -/
  latched : Option Nat := none
  /-- Domains on, in the bit order of `DOMSTAT` -/
  dom : BitVec 14 := 1
  /-- Domains that have been on since POR release: their engines have configured their balls (R36) -/
  seen : BitVec 14 := 1
  /-- `State.now` of the last wake, for the sources of one XT32 cycle (R113) -/
  wokeAt : Option Nat := none
  /-- Run-fast (R110) -/
  fast : Bool := false
  /-- Request that waits for its session's close, and the time it was evaluated from (R114) -/
  request : Option PowerRequest := none
  /-- Request held under R459 -/
  heldReq : Option PowerRequest := none
  /-- Port of the request now being entered -/
  issuer : Option Port := none
  /-- `RETBANK` and `RETSB` in force at Standby entries (R120) -/
  retbank : BitVec 4 := 0xF
  retsb : BitVec 16 := 0
  /-- VRES below `VRES_LOW` with a seat held: the excursion is counted (R125) -/
  lowSeen : Bool := false
  /-- Last VRES sample at or above `VRES_LOW` − 300 mV -/
  aboveAbort : Bool := true
  /-- Segments powered off and awaiting a clear (R296), by segment code -/
  uncleared : List Nat := []
  /-- A seat release or a completion of work lets the Warden choose the next state (R112) -/
  choose : Bool := false
  deriving DecidableEq, Repr

/-! ## Clocks and the ledger -/

/-- One bin of the correction table (Table 6.5): an error that is not valid is absent. XT32 and XRF errors are in
0.01 ppm, HFRC and LPRC errors in ppm; `stamp` is `TLMONO` when the bin was written. -/
structure ClockBin where
  xt32 : Option Int := none
  hfrc : Option Int := none
  xrf : Option Int := none
  lprc : Option Int := none
  stamp : Nat := 0
  deriving DecidableEq, Repr

/-- A gate that has ended (R141): its interval x on the gate channel, in 2^−16 coarse periods of the PLL on the Vitrine, and the
die temperature at the gate, 0.1 °C. -/
structure GateRun where
  gate : Gate
  x : Nat
  temp : Int
  deriving DecidableEq, Repr

/-- A Vitrine calibration that runs: when the heater went on, when `VITRDY` was set, and the gates measured so far. -/
structure VitRun where
  on : Nat
  ready : Option Nat := none
  gates : List GateRun := []
  /-- Gates complete, step V8 due -/
  done : Bool := false
  deriving DecidableEq, Repr

/-- State of the clocks beyond their status words. -/
structure Clocks where
  /-- Correction table, in AON RAM -/
  bins : Vector ClockBin 40 := Vector.replicate 40 {}
  /-- Its copy in Archive SYSTEM, object 0x08 -/
  binsCopy : Vector ClockBin 40 := Vector.replicate 40 {}
  /-- Request held until the end of a start (R140) -/
  heldReq : Bool := false
  run : Option VitRun := none
  /-- Consecutive retries used (R145) -/
  retries : Nat := 0
  /-- Time of the next retry -/
  retryAt : Option Nat := none
  /-- `TLMONO` µs of the last successful calibration, or of the start -/
  lastOk : Nat := 0
  /-- Whether a calibration has succeeded since manufacture -/
  everOk : Bool := false
  /-- 0x0206 logged since the last success (R145) -/
  staleLogged : Bool := false
  /-- Die temperature at the last successful calibration, 0.1 °C -/
  okTemp : Int := 0
  /-- Die temperature of the last successful XRF gate, 0.1 °C (R148) -/
  xrfTemp : Option Int := none
  /-- Time of the last request made for a temperature move (R140: at most once per 10 min) -/
  tempReqAt : Option Nat := none
  /-- Prediction errors of the last 24 successful calibrations, 0.01 ppm, newest first; none of one without an XT32 gate (R155) -/
  predErr : List (Option Nat) := []
  /-- XT32 is out: `TLMONO` in s when the fallback began (R151) -/
  fallbackAt : Option Nat := none
  /-- The count of R151 found XT32 within ±1000 ppm and its calibration is awaited -/
  restoring : Bool := false
  /-- `monoUs` of the last LPRC calibration -/
  lprcAt : Option Nat := none
  /-- Die temperature of the last LPRC calibration -/
  lprcTemp : Int := 0
  /-- LPRC calibration requested (R149) -/
  lprcDue : Bool := false
  /-- XT32 has been counted as running since POR release (R90) -/
  xtRun : Bool := false
  /-- PLL lock attempts failed in this wake (R153) -/
  pllFails : Nat := 0
  /-- HFRC trim step that takes effect before the next wake (R144) -/
  trimNext : Option (BitVec 6) := none
  deriving DecidableEq, Repr

/-- Clock in use and residual class of a ledger segment (Table 6.4). -/
inductive ResClass where | xt32 | xt32Stale | xt32Extrap | xt32None | lprcCal | lprcOld | hfrc
  deriving DecidableEq, Repr

/-- The time ledger (R154): civil time in ns, operating time in µs, the uncertainties at the start of the running
segment, the segment's start, and the slew still to absorb in ns. `TLTIME` without a ledger record is log 7. -/
structure Ledger where
  /-- 32-bit phase accumulator of R146: the part of 1 µs of the corrected RTC that has not advanced it yet, in 2^−32 -/
  phase : Nat := 0
  civNs : Nat := 0
  monoUs : Nat := 0
  unc : Nat := 0xFFFFFFFF
  contu : Nat := 0
  segStart : Nat := 0
  slew : Int := 0
  /-- `TLZONE` in force and the value scheduled for the next minute boundary (R158) -/
  zone : Int := 0
  zoneNext : Option Int := none
  /-- Last link contact, `TLMONO` s -/
  contact : Nat := 0
  deriving DecidableEq, Repr

/-- A ledger record of Table 12.11a: `LTIME` in 2^−16 s, `LMONO` in s, `LBASE` in minutes, and the duty bins in ms. -/
structure LedgerRecord where
  time : Nat := 0
  mono : Nat := 0
  base : Nat := 0
  duty : List (List Nat) := []
  deriving DecidableEq, Repr

/-! ## The Registrar -/

/-- The legal registers of Table 11.1, with the residues of R271, the extremes with their times, the seal number and
the sequence numbers of R269. -/
structure Legal where
  vfwd : Int := 0
  vrev : Int := 0
  eheat : Int := 0
  ecool : Int := 0
  etar : Vector Int 4 := Vector.replicate 4 0
  vbfwd : Int := 0
  vbrev : Int := 0
  vbdist : Int := 0
  convf : Nat := 0
  terr : Nat := 0
  toper : Nat := 0
  qmax : Int := 0
  qmaxt : Nat := 0
  pmax : Nat := 0
  pmaxt : Nat := 0
  /-- `TFMIN`, `TFMAX`, `TRMIN`, `TRMAX`: value in 0.1 mK and time -/
  text : Vector (Int × Nat) 4 := Vector.replicate 4 (0, 0)
  audit : Nat := 0
  intnum : Nat := 0
  /-- Residues of volume, energy and base volume, in 2^−32 of the unit -/
  resV : Nat := 0
  resE : Nat := 0
  resB : Nat := 0
  /-- `ASEAL` of the last full record -/
  aseal : Nat := 0
  /-- `FRES.SEQ` and `TRES.SEQ` of R269 -/
  fseq : Option Nat := none
  tseq : Nat := 0
  deriving DecidableEq, Repr

/-- A full accession record, a shadow copy or the sealed slot (Table 11.3); `crcOk` stands for `ACRC`. -/
structure Accession where
  kind : Nat := 0
  flags : BitVec 16 := 0
  time : Nat := 0
  zone : Int := 0
  mono : Nat := 0
  mdigest : BitVec 256 := 0
  seq : Nat := 0
  arg0 : Int := 0
  arg1 : Int := 0
  legal : Legal := {}
  crcOk : Bool := true
  deriving DecidableEq, Repr

/-- A minute or quarter-hour record (Table 11.2), with the civil minute it belongs to and the order in which it was
sealed. -/
structure MinuteRec where
  minute : Nat
  dvol : Int
  daux : Int
  flags : BitVec 16
  intlo : BitVec 16
  /-- `ASEAL` of the last full record when it was sealed: its place among the full records -/
  place : Nat := 0
  deriving DecidableEq, Repr

/-- What the Registrar gathers over the running minute (R282, R286, R287). -/
structure MinuteAcc where
  /-- Civil minute, counted from 2000-01-01; none before the first integration -/
  minute : Option Nat := none
  vfwd : Rat := 0
  vrev : Rat := 0
  eheat : Rat := 0
  ecool : Rat := 0
  dvol : Int := 0
  daux : Int := 0
  err : Bool := false
  lost : Bool := false
  etemp : Bool := false
  egas : Bool := false
  subst : Bool := false
  tariffs : List Nat := []
  deriving DecidableEq, Repr

/-- A pressure reading as posted (R279): its own sequence number, Pa, valid, time of `monoUs`. -/
structure Pressure where
  seq : Nat
  pa : Nat
  valid : Bool
  at_ : Nat
  deriving DecidableEq, Repr

/-- Table 11.6 as one posted copy holds it (R291): the stored words, a seal that waits for its seat, the state of the shadow copies
and of the sealed slot, the sums of the availability bins, and whether the pressure reading is stale. -/
structure RegStatus where
  regs : RegistrarRegs := {}
  pend : Bool := false
  newer : Bool := false
  shOk : Nat := 0
  sealnum : Nat := 0
  avsched : Nat := 0
  avok : Nat := 0
  avdef : Nat := 0
  stale : Bool := false
  deriving DecidableEq, Repr

/-- The posted copy of R27: the registers, `REGTIME` and `RSTAT`, and the words of Table 11.6. -/
structure Posted where
  legal : Legal := {}
  regtime : Nat := 0
  rstat : BitVec 16 := 0
  tvfwd : Int := 0
  tvrev : Int := 0
  tenet : Int := 0
  status : RegStatus := {}
  deriving DecidableEq, Repr

/-- One daily availability bin (R284). -/
structure AvBin where
  sched : Nat := 0
  ok : Nat := 0
  deriving DecidableEq, Repr

/-- The Registrar: REG RAM, the AON shadow, the posted copy and what it has under way. -/
structure Registrar where
  legal : Legal := {}
  tvfwd : Int := 0
  tvrev : Int := 0
  tenet : Int := 0
  /-- Shadow copies 1 and 2 in AON RAM (R285) -/
  sh1 : Option Accession := none
  sh2 : Option Accession := none
  posted : Posted := {}
  /-- Bits 14 to 8 of `RSTAT` from the last span -/
  errrun : Bool := false
  elost : Bool := false
  etemp : Bool := false
  ehalt : Bool := false
  egas : Bool := false
  tariff : Nat := 0
  regtime : Nat := 0
  /-- `monoUs` of the first shot of the previous integrated result; none for the first result (R270) -/
  prev : Option Nat := none
  /-- Fractions of a second not yet counted in `TERR`, `TOPER`, `TEFLOW`, `TETEMP`, `TEGAS`, `TESPAN`, µs -/
  fracs : Vector Nat 6 := Vector.replicate 6 0
  acc : MinuteAcc := {}
  /-- Since when energy has stopped, `TLMONO` s (R273) -/
  estop : Option Nat := none
  /-- Since when the conversion is disturbed (R280) -/
  gdist : Option Nat := none
  pressure : Option Pressure := none
  /-- Sequence number of the next pressure reading (R279) -/
  pseq : Nat := 1
  lastValidP : Option Pressure := none
  /-- Daily bins, newest first; `TLMONO` µs at which the newest began -/
  bins : List AvBin := [{}]
  binStart : Nat := 0
  /-- Lockstep disagreements: (`TLMONO` s, result sequence), newest first (R266) -/
  lsHist : List (Nat × Nat) := []
  /-- REG stopped by R266 or R295, or halted by safe-beacon -/
  stopped : Bool := false
  deriving DecidableEq, Repr

/-! ## Memory and the Archive -/

/-- One SRAM segment beyond its row content (R293, R304, R309). -/
structure Segment where
  retired : Bool := false
  subst : Bool := false
  peer : Nat := 0
  /-- Failing rows, each with the spare row that replaces it (R304) -/
  map : List (Nat × Nat) := []
  /-- Rows that a background test found failing, to be remapped at the next cold start (R309) -/
  pending : List Nat := []
  deriving DecidableEq, Repr

/-- A background test pass (R305): position, whether a window is held, aborts of the present row, start in
`TLMONO` s, 0x0A04 logged. -/
structure BgPass where
  seg : Nat := 1
  row : Nat := 0
  held : Bool := false
  aborts : Nat := 0
  start : Nat := 0
  late : Bool := false
  /-- Rows that the slice now running may still test; 0 between slices -/
  left : Nat := 0
  deriving DecidableEq, Repr

/-- What the Archive controller does (`ARCSTAT.OP`). -/
inductive ArcOp where | idle | read | program | stateProgram | erase
  deriving DecidableEq, Repr

/-- Codes of `ARCSTAT.OP`. -/
def ArcOp.code : ArcOp → Nat
  | .idle => 0 | .read => 1 | .program => 2 | .stateProgram => 3 | .erase => 4

/-- Owners of an Archive operation (`ARCSTAT.OWNER`). -/
inductive ArcOwner where | registrar | curator | warden
  deriving DecidableEq, Repr

/-- Codes of `ARCSTAT.OWNER`. -/
def ArcOwner.code : ArcOwner → Nat
  | .registrar => 1 | .curator => 2 | .warden => 3

/-- State of a patch bank (`FWSTAT`). -/
inductive BankState where | empty | valid | invalid | installing
  deriving DecidableEq, Repr

/-- Codes of `FWSTAT.B0` and `FWSTAT.B1`. -/
def BankState.code : BankState → Nat
  | .empty => 0 | .valid => 1 | .invalid => 2 | .installing => 3

/-- A patch bank of FIRMWARE (R322). -/
structure PatchBank where
  state : BankState := .empty
  bytes : List Byte := []
  deriving DecidableEq, Repr

/-- A snapshot group (R321, Table 12.9), by its header fields; the samples are held as their bytes. -/
structure Snapshot where
  trig : Nat
  path : Nat
  event : Nat
  seq : Nat
  time : Nat
  cls : Nat := 0
  bytes : List Byte := []
  deriving DecidableEq, Repr

/-- The legally relevant records of an image as Archive SYSTEM keeps them (R78, R82), with its `MDIGEST` and the bytes of its other
records (R83). -/
structure RecordCopy where
  digest : BitVec 256
  legal : List (Nat × Nat × List Byte)
  other : List Byte
  deriving DecidableEq, Repr

/-- A record that a writer still has to program (R17, R486). -/
inductive ArcJob where
  | minuteRec (m : MinuteRec)
  | fullRec (a : Accession)
  | quarterRec (m : MinuteRec)
  | snapshot (x : Snapshot)
  | template (path cls : Nat)
  | object (id : Nat)
  | eraseSector (sector : Nat)
  /-- An entry of the cluster store, by its `CENUM` (R382), and its size in bytes -/
  | entry (num size : Nat)
  /-- Bytes of a patch bank at an offset (R322, R430) -/
  | patch (bank off : Nat) (data : List Byte)
  /-- The oldest entry of the AON event queue (R319) -/
  | event (e : Event)
  /-- Object 0x03: a copy of a whole image (R101) -/
  | image (bytes : List Byte)
  /-- Object 0x04: the legally relevant records of a pending image (R78) -/
  | pendingCopy (x : RecordCopy)
  /-- A current frame of the object log is copied forward (R323, R326) -/
  | move (obj sub : Nat)
  /-- Object 0x02, the Warden's ledger record (R156) -/
  | ledger
  /-- Object 0x01, the Warden's sealed slot with the ledger record that goes with it (R453) -/
  | sealedSlot
  deriving DecidableEq, Repr

/-- State of a slot or of a frame that is not free (R314); a free one is not listed. -/
inductive SlotState where | begun | committed
  deriving DecidableEq, Repr

/-- A sector of a ring or of the frame log that has been opened and not erased since: what its tag area holds (R313, Table 12.7; areas
in the order of `ringPlace`, which give `TMAGIC`), and whether it takes no more records (R315). -/
structure SectorTag where
  area : Nat
  sector : Nat
  tseq : Nat
  tstart : Nat := 0
  slots : List SlotState := []
  /-- Bytes taken, in a sector of the frame log -/
  used : Nat := 0
  closed : Bool := false
  deriving DecidableEq, Repr

/-- A frame of SYSTEM (Table 12.10): `FOBJ`, the path and class of a template, `FVER`, `FMONO`, its length on the die, and `FSTATE`. -/
structure Frame where
  obj : Nat
  sub : Nat := 0
  ver : Nat
  mono : Nat
  len : Nat
  state : SlotState := .begun
  deriving DecidableEq, Repr

/-- A sector of the Warden area or of the object log that holds frames (R323, R325). -/
structure FrameSector where
  sector : Nat
  frames : List Frame := []
  closed : Bool := false
  deriving DecidableEq, Repr

/-- The payload of object 0x0B (Table 12.11). -/
structure Counters where
  ncold : BitVec 16 := 0
  nhib : BitVec 16 := 0
  fails : BitVec 4 := 0
  borcnt : BitVec 16 := 0
  xt32loss : BitVec 16 := 0
  zone : Int := 0
  tlsteps : BitVec 16 := 0
  swapcnt : BitVec 16 := 0
  deriving DecidableEq, Repr

/-- An operation of the controller (R310, R314): its job and writer, the step of R314 that it carries out — 0 begun, 1 to `ops` the
program operations of the body, then committed — and whether it is the retry of one that failed (R327). -/
structure ArcRun where
  job : ArcJob
  owner : ArcOwner
  step : Nat := 0
  ops : Nat := 1
  retried : Bool := false
  deriving DecidableEq, Repr

/-- The Archive controller and what the flash holds. -/
structure Archive where
  /-- Records committed, oldest first (R314) -/
  minutes : List MinuteRec := []
  quarters : List MinuteRec := []
  events : List Event := []
  fulls : List Accession := []
  audits : List Accession := []
  snaps : List Snapshot := []
  /-- The minute ring has wrapped (R317) -/
  wrapped : Bool := false
  /-- The operation under way, and those begun and interrupted: suspended erases, and records between two of their operations -/
  run : Option ArcRun := none
  paused : List ArcRun := []
  /-- Sectors opened since manufacture: minute, quarter-hour, event, full-record, audit and snapshot rings, frame log (`TSEQ`) -/
  tseq : Vector Nat 7 := Vector.replicate 7 0
  /-- Tag areas of the sectors that hold records, oldest first (R313) -/
  tags : List SectorTag := []
  /-- Sectors of the Warden area and of the object log that hold frames, oldest first (R323, R325) -/
  warden : List FrameSector := []
  log : List FrameSector := []
  /-- The image regions, by the frame that each holds (R324) -/
  regions : Vector (Option Frame) 3 := Vector.replicate 3 none
  /-- Jobs in the order in which they were requested -/
  jobs : List ArcJob := []
  /-- Sealed slot, object 0x01, with its CRC -/
  sealedSlot : Option Accession := none

  /-- Last ledger record, object 0x02 -/
  ledger : Option LedgerRecord := none
  /-- Active image copy, object 0x03, with the slot and Catalogue it gives -/
  image : List Byte := []
  /-- Current copy of the legally relevant records, and its `MDIGEST` -/
  current : Option (BitVec 256 × List (Nat × Nat × List Byte)) := none
  /-- The audit counter at the acceptance of the current copy (R81, log 143) -/
  currentAudit : Nat := 0
  /-- Bytes of the records that are not legally relevant of the image last accepted (R83) -/
  currentOther : List Byte := []
  /-- `MDIGEST` of the image accepted last (R71) -/
  lastDigest : Option (BitVec 256) := none
  /-- Pending copy of R78 -/
  pendingCopy : Option RecordCopy := none
  /-- Bound module CRCs by port, part of object 0x05 (R75) -/
  moduleCrc : List (Nat × BitVec 32) := []
  /-- Object 0x05 as committed: metrology floor, `MDIGEST` accepted last, bound module CRCs (R71, R75) -/
  floorCopy : BitVec 32 := 0
  digestCopy : Option (BitVec 256) := none
  moduleCopy : List (Nat × BitVec 32) := []
  /-- Row map in SYSTEM, object 0x06 (R304, R309) -/
  rowMap : Vector Segment 33 := Vector.replicate 33 {}
  /-- Object 0x0B as committed -/
  counters : Counters := {}
  banks : Vector PatchBank 2 := Vector.replicate 2 {}
  /-- States of the patch banks as object 0x0E holds them -/
  bankCopy : Vector BankState 2 := Vector.replicate 2 .empty
  /-- Erase counts by sector where above 0 -/
  erases : List (Nat × Nat) := []
  spares : Nat := 64
  retiredBlocks : List Nat := []
  /-- A ledger record waits for its seat (R156) -/
  ledgerDue : Bool := false
  /-- A superseded Warden-area sector waits for its erase (R325) -/
  eraseDue : Bool := false
  /-- 0x0A07 logged -/
  fewSpares : Bool := false
  /-- Retired sectors that no spare block could replace (R327) -/
  unusable : List Nat := []
  deriving DecidableEq, Repr

/-! ## Faults -/

/-- The step of R454 that a watchdog reset waits in. -/
inductive ProcStage where | commit | park | alarm
  deriving DecidableEq, Repr

/-- A watchdog reset under way and where it stands. -/
structure Proc where
  /-- Table 17.3 cause -/
  cause : Nat
  stage : ProcStage
  deriving DecidableEq, Repr

/-- The alarm frame that the Curator keeps in AON RAM (R456): access number, `TLMONO` at the build, the register time
it carries, and the bytes of its records. -/
structure AlarmFrame where
  access : Nat
  built : Nat
  regtime : Nat
  bytes : List Byte
  deriving DecidableEq, Repr

/-- A displayed event that stands (R445): code, the item that pairs it with its ending event, `TLMONO` µs when it was
logged. -/
structure Standing where
  code : Nat
  key : Int
  at_ : Nat
  deriving DecidableEq, Repr

/-- State of the fault machinery beyond its status words. -/
structure Faults where
  standing : List Standing := []
  /-- Expiries of the Signal core, Link core and Registrar, `TLMONO` s, newest first -/
  sigHist : List Nat := []
  lnkHist : List Nat := []
  regHist : List Nat := []
  alarm : Option AlarmFrame := none
  /-- Held alarm frame: the Table 17.3 cause that triggered it (R457) -/
  alarmHeld : Option Nat := none
  /-- Cause of the alarm telegram now being sent -/
  alarmCause : Nat := 0
  /-- The alarm frame waits to be sent again: from when (R457) -/
  alarmDue : Option Nat := none
  proc : Option Proc := none
  /-- Codes reported by radio and when, `TLMONO` s (R444) -/
  reported : List (Nat × Nat) := []
  /-- Whether a pulse output with function 13 is driven for an alarm (R444) -/
  alarmPulse : Bool := false
  /-- Posted `VFWD` and `VREV` at the last 00:00 local time (R449) -/
  dayStart : Option (Int × Int) := none
  deriving DecidableEq, Repr

end Sys2Proof.Machine
end

