-- ==== Sys2Proof/Machine/Parts2.lean ====
section
/-! DEFINITION. The parts of State behind the measuring chapters: the time-interval engine, the Piste and the firing
of shots, templates and flow, temperature. -/

namespace Sys2Proof.Machine

/-! ## The time-interval engine -/

/-- The tables of a channel as SIG RAM holds them: counts of 4 bytes, taps, vernier bins, saturated hits (the layout is log 131). -/
def tdcBytes (t : TdcTable) : List Byte := (t.h ++ t.g ++ [t.s]).flatMap (leBytes 4)

/-- CRC-32 of a channel's tables (R187). -/
def tdcCrc (t : TdcTable) : BitVec 32 := crc32 (tdcBytes t)

/-- States of a channel (Table 7.4). -/
inductive ChState where | off | idle | armed | running | calibrating
  deriving DecidableEq, Repr

/-- Codes of `CHSTAT.STATE`. -/
def ChState.code : ChState → Nat
  | .off => 0 | .idle => 1 | .armed => 2 | .running => 3 | .calibrating => 4

/-- Slope of a run (R171). -/
inductive Slope where | rising | falling | both
  deriving DecidableEq, Repr

/-- Codes of `CHSTAT.SLOPE`. -/
def Slope.code : Slope → Nat
  | .rising => 0 | .falling => 1 | .both => 2

/-- Configuration of a run (R175); `stat` is the statistics selection (N, s) of R180, when one runs (no rule selects it for a run:
log 119). -/
structure RunCfg where
  sync : Bool := true
  slope : Slope := .rising
  thr : Nat := 128
  wopen : Nat := 0
  wwidth : Nat := 0
  stopmax : Nat := 1
  stat : Option (Nat × Nat) := none
  deriving DecidableEq, Repr

/-- Accumulators of the statistics unit (R180). -/
structure StatAcc where
  count : Nat := 0
  rejected : Nat := 0
  xref : Nat := 0
  sum : Int := 0
  sumsq : Nat := 0
  dmin : Int := 0
  dmax : Int := 0
  /-- Starts still to come -/
  left : Nat := 0
  deriving DecidableEq, Repr

/-- One channel of the engine. -/
structure TdcChannel where
  st : ChState := .off
  cfg : RunCfg := {}
  /-- f16 of the start edge (R167); 0 for a synchronous start -/
  startF : Nat := 0
  /-- Stop records of the run, first one first -/
  stops : List StopRec := []
  /-- Linearised value of the last accepted stop, before any clamp (R173) -/
  lastX : Option Int := none
  /-- Tables in force (R166, R187), in SIG RAM, with their CRC-32; none until the channel has passed since the last cold start -/
  table : Option TdcTable := none
  crc : BitVec 32 := 0
  /-- Their copy in Archive SYSTEM, object 0x07, with its CRC-32 -/
  copy : Option TdcTable := none
  copyCrc : BitVec 32 := 0
  withdrawn : Bool := false
  /-- Histogram of the calibration in progress -/
  hist : TdcTable := ⟨[], [], 0⟩
  /-- `TLMONO` s of the channel's last pass, and whether 0x0306 has been logged since -/
  lastPass : Nat := 0
  noPassLogged : Bool := false
  acc : StatAcc := {}
  /-- Mean and variance of the last completed statistics run, in fs and fs² (R181) -/
  mean : Option Rat := none
  variance : Option Rat := none
  /-- The output of the stop comparator (R172) -/
  out : Bool := false
  deriving DecidableEq, Repr

/-- Calibration of the engine (R182 to R186). -/
structure TdcCal where
  /-- Cause of the request that waits, as `TDCCAL.CAUSE` -/
  wait : Option Nat := none
  run : Bool := false
  /-- Blocks completed of the calibration in progress -/
  blocks : Nat := 0
  abandoned : Nat := 0
  /-- Time of the next retry (R186) -/
  retryAt : Option Nat := none
  /-- `TLMONO` µs from which `CALINT` counts -/
  lastOk : Nat := 0
  /-- `TDCCALTEMP` as object 0x07 holds it with the tables (R187) -/
  tempCopy : Int := 0
  /-- `TDCROUTE.SEQFORCE`'s event logged for the image in force (R164) -/
  seqLogged : Bool := false
  deriving DecidableEq, Repr

/-! ## Shots, templates and paths -/

/-- Reasons of Table 9.2 and R232, R233, in their order. -/
inductive Reject where | nostop | clip | noise | unlock | snr | amp | invmix | crange | mad
  deriving DecidableEq, Repr

/-- A template (R225): 256 taps and their Hilbert transform, arrival index in samples, centre frequency in cycles per
sample, reference amplitude in µV; its CRC-32 and the adaptations since it was learned, with whether any followed the last
copy (R228). -/
structure Template where
  t : List Int
  tq : List Int
  atpl : Rat
  fc : Rat
  aref : Rat
  crc : BitVec 32 := 0
  adapted : Nat := 0
  fresh : Bool := false
  deriving DecidableEq, Repr

/-- A number as 64 bits of 2^−32 (log 133). -/
def fixedBytes (q : Rat) : List Byte := leBytes 8 ((q * 4294967296).floor % 18446744073709551616).toNat

/-- The bytes of a template in SIG RAM that its CRC-32 covers: taps of 16 bits and the numbers of R225 (the layout is log 133). -/
def Template.bytes (t : Template) : List Byte :=
  (t.t ++ t.tq).flatMap (fun v => leBytes 2 (v % 65536).toNat) ++ fixedBytes t.atpl ++ fixedBytes t.fc ++ fixedBytes t.aref

/-- A template with the CRC-32 of its content. -/
def Template.sealed (t : Template) : Template := { t with crc := crc32 t.bytes }

/-- The CRC-32 of a template passes. -/
def Template.whole (t : Template) : Bool := crc32 t.bytes == t.crc

/-- What Table 9.2 gives for one shot: t_fh and t_meas in fs, the amplitude ratio, (A / n_rms)² unless the noise segment is
all zero (`quiet`), ρ, A in volts at the PGA output and referred to the input, whether a full-scale code was reached,
ℓ* + δ, and the capture indices `PRE` − 80 to `PRE` + 239, for learning and adaptation. -/
structure Shot where
  up : Bool
  retry : Bool := false
  reason : Option Reject
  inverted : Bool := false
  tfh : Rat := 0
  tmeas : Rat := 0
  ratio : Rat := 0
  snr2 : Rat := 0
  quiet : Bool := false
  rho : Rat := 0
  peak : Rat := 0
  input : Rat := 0
  clipped : Bool := false
  shift : Rat := 0
  echo : List Int := []
  deriving DecidableEq, Repr

/-- What a snapshot keeps of one shot (Table 12.9): converter start, n_fh, first hit, and 4096 codes. -/
structure SnapShot where
  start : Nat
  nfh : Nat
  hit : Nat
  codes : List Nat
  deriving DecidableEq, Repr

/-- A pair of an interval or of a zero check: its two shots as far as they are processed. -/
structure PairRes where
  pair : Nat
  swapped : Bool
  up : Option Shot := none
  down : Option Shot := none
  deriving DecidableEq, Repr

/-- Learning of a template (R226): echoes collected of each direction, their peak envelopes in volts at the PGA input, and
intervals used. -/
structure Learning where
  ups : List (List Int) := []
  downs : List (List Int) := []
  peaks : List Rat := []
  intervals : Nat := 0
  deriving DecidableEq, Repr

/-- A snapshot that waits for its interval (R224): trigger and event code. -/
structure SnapReq where
  trig : Nat
  event : Nat
  deriving DecidableEq, Repr

/-- One acoustic path. -/
structure PathCore where
  /-- t_exp in fs, when it is known (R204) -/
  texp : Option Rat := none
  /-- Last valid v (m/s) and c (m/s) of R234 -/
  last : Option (Rat × Rat) := none
  /-- The last interval was valid or substituted -/
  wasOk : Bool := false
  /-- Lost intervals of the acoustic loss that stands (R234) -/
  loss : Option Nat := none
  /-- The last interval was inverted (R235) -/
  wasInv : Bool := false
  /-- Clipped intervals at 0 dB in succession (R201) -/
  clipRun : Nat := 0
  /-- Templates by class, in SIG RAM, and their copies in Archive SYSTEM (R225, R228) -/
  tpl : Vector (Option Template) 8 := Vector.replicate 8 none
  copy : Vector (Option Template) 8 := Vector.replicate 8 none
  learning : Option Learning := none
  /-- A LEARN command that the next interval takes up (R226) -/
  learnDue : Bool := false
  /-- `AMPTREND` (R246) and whether it lies below 0.5 -/
  trend : Rat := 1
  low : Bool := false
  /-- `CHOFS` in fs, and its copy in Archive SYSTEM (R243) -/
  chofs : Rat := 0
  chofsCopy : Rat := 0
  /-- A snapshot that is pending, and the shots it has (R224) -/
  snap : Option SnapReq := none
  snapUp : Option SnapShot := none
  snapDown : Option SnapShot := none
  /-- Pairs of the interval that runs, or of the zero check -/
  pairs : List PairRes := []
  /-- Shots fired of the interval that runs: pair and direction, newest first; and those fired again (R207) -/
  fired : List (Nat × Bool) := []
  retried : List (Nat × Bool) := []
  deriving DecidableEq, Repr

/-- The shot or simultaneous pair fired last (R194, R197): path, pair, directions (`true` up), and when its first sample was
issued. -/
structure Burst where
  path : Nat
  pair : Nat
  dirs : List Bool
  at_ : Nat
  deriving DecidableEq, Repr

/-- A Piste step that runs. -/
structure StepRun where
  step : Nat
  /-- Its due time, `State.now` -/
  due : Nat
  /-- The boost stands at its level (R193), or has failed -/
  boostFail : Bool := false
  /-- First shot fired: `TLTIME` and `monoUs` -/
  first : Option (Nat × Nat) := none
  fast : Bool := false
  deriving DecidableEq, Repr

/-- The Piste (R210 to R217). -/
structure Piste where
  /-- Epoch E, a time of `State.now`; none while the Piste does not run -/
  epoch : Option Nat := none
  /-- Next due time of each step -/
  next : List Nat := []
  /-- Instances due and not yet begun: step and due time, in the order of R214 -/
  waiting : List (Nat × Nat) := []
  run : Option StepRun := none
  /-- Fast sequence, and when its 30 s timer last started (R216) -/
  fast : Bool := false
  fastTimer : Nat := 0
  /-- Start of the present stay in Fast, and the stays before it since the last cold start, µs: `FASTTIME` -/
  fastFrom : Nat := 0
  fastUs : Nat := 0
  /-- Time of the last 0x0405 (R215) -/
  overAt : Option Nat := none
  /-- `monoUs` of the last port check (R208), once one has been made -/
  checkedAt : Option Nat := none
  /-- Steps of action 3 or 4 whose calibration waits or runs (R215) -/
  cals : List Nat := []
  /-- The shot or pair fired last in the running step -/
  burst : Option Burst := none
  /-- Waveform table in the converter's buffer (R196) -/
  waveBuf : Option Nat := none
  /-- Ports whose last check passed and that have had no burst in current limit since (R194) -/
  limArm : List Nat := []
  deriving DecidableEq, Repr

/-- The Piste as it stands once it no longer runs: what counts since the last cold start is kept (R216, R217). -/
def Piste.stopped (p : Piste) : Piste :=
  { fastUs := p.fastUs, overAt := p.overAt, checkedAt := p.checkedAt, waveBuf := p.waveBuf, limArm := p.limArm }

/-- A posted flow result, as the Registrar reads it (R21, R242). -/
structure FlowResult where
  seq : Nat
  status : Nat
  qint : Int
  /-- `TLTIME` and `monoUs` at the first shot -/
  time : Nat
  mono : Nat
  /-- `monoUs` at the posting -/
  posted : Nat
  deriving DecidableEq, Repr

/-- The flow side beyond its words: the number for the next result, the unacknowledged slots, and the copy of the gas class
in Archive SYSTEM. -/
structure FlowCore where
  seq : Nat := 1
  slots : List FlowResult := []
  /-- `monoUs` at the last posting -/
  lastPosted : Option Nat := none
  /-- Class of R244 that takes effect at the next action-0 interval (R245) -/
  newClass : Option Nat := none
  /-- Local day of the last action-0 interval, of the POR before the first (R224) -/
  day : Nat := 0
  classCopy : Nat := 0
  deriving DecidableEq, Repr

/-! ## Temperature -/

/-- A temperature result as the Registrar reads it (R259); temperatures in 0.1 mK. -/
structure TempResult where
  seq : Nat
  valid : Bool
  halt : Bool
  flow : Int
  ret : Int
  /-- θ of each channel that passed -/
  theta : List (Nat × Int)
  /-- `monoUs` at the posting, `TLTIME` at the first discharge -/
  posted : Nat
  time : Nat
  deriving DecidableEq, Repr

/-- States of Table 10.2. -/
inductive SwapState where | assigned | flagged | swapped
  deriving DecidableEq, Repr

/-- The temperature side beyond its words. -/
structure TempCore where
  last : Option TempResult := none
  /-- The result posted before it -/
  prev : Option TempResult := none
  lastValid : Option TempResult := none
  /-- Most recent result in which T0 passed -/
  lastT0 : Option TempResult := none
  swap : SwapState := .assigned
  /-- Copy of the swap state in Archive SYSTEM -/
  swapCopy : SwapState := .assigned
  /-- `monoUs` and `TLTIME` at the first discharge of the measurement that runs -/
  started : Nat := 0
  startT : Nat := 0
  /-- Its discharges that are over, in order, and whether the next one is under way (R251, R252) -/
  got : List Discharge := []
  open_ : Bool := false
  /-- Step and due time of the measurement whose wait for a Vitrine gate `TWAITV` counted last (R253) -/
  waited : Option (Nat × Nat) := none
  deriving DecidableEq, Repr

end Sys2Proof.Machine
end

