-- ==== Sys2Proof/Machine/Parts3.lean ====
section
/-! DEFINITION. The parts of State behind the radio ledgers and the display. -/

namespace Sys2Proof.Machine

/-! ## Radio -/

/-- Modes of the transceiver (`RFSTAT`). -/
inductive RfMode where | off | idle | rx | tx
  deriving DecidableEq, Repr

/-- Who holds the transceiver. -/
inductive RfOwner where | none | link | sequencer
  deriving DecidableEq, Repr

/-- One transmission recorded in a dwell ledger: start and end, µs of `monoUs` (R348). -/
abbrev Dwell := Nat × Nat

/-- A frame that waits for, or is in, the air. -/
structure TxFrame where
  use : TxUse
  /-- Channel number of Table 13.2; none for an EN 13757-4 mode -/
  channel : Option Nat
  /-- Rate code of `RFCHAN.RATE` -/
  rate : Nat
  /-- Airtime with its two ramps, µs -/
  airtime : Nat
  deadline : Option Nat := none
  bytes : List Byte := []
  /-- Earliest permitted time reported by a refusal (R350), `monoUs` -/
  notBefore : Option Nat := none
  deriving DecidableEq, Repr

/-- Radio state beyond its words (ledgers in AON RAM). -/
structure Radio where
  mode : RfMode := .off
  owner : RfOwner := .none
  /-- Duty ledgers by sub-band code 0 to 4: charges (minute of `TLMONO`, µs), newest first (R347) -/
  duty : Vector (List (Nat × Nat)) 5 := Vector.replicate 5 []
  /-- Dwell ledgers by channel of band 3: newest first (R348) -/
  dwell : List (Nat × Dwell) := []
  /-- Counter of legacy-carriage frames since the last cold start (R336) -/
  legCount : Nat := 0
  /-- Frames that wait for their seat or their permitted time, oldest first -/
  queue : List TxFrame := []
  air : Option TxFrame := none
  /-- Time of a sequencer command that waits (R345) -/
  seqCmd : Option (Nat × TxFrame) := none
  /-- Synthesizer: die temperature and band of its last calibration, lock failures of this use (R337, R338) -/
  synTemp : Int := 0
  synBand : Nat := 0
  synFails : Nat := 0
  /-- Stored radio calibration in Archive SYSTEM, object 0x0C -/
  calStored : Bool := false
  /-- `TLMONO` s of the last radio calibration that succeeded (R353) -/
  calAt : Nat := 0
  /-- Radio and link unavailable (Table 4.2 stage 13, R451, R435) -/
  unavailable : Bool := false
  /-- Sub-bands whose 0x0B03 is logged for the image in force (R340) -/
  clampLogged : List Nat := []
  /-- RF_CTL0, RF_CTL1 (R332) -/
  ctl0 : Bool := false
  ctl1 : Bool := false
  /-- Reply window open or scheduled (R335) -/
  replyDue : Bool := false
  /-- The Link core restarts after the sequencer's frame (R345, R452) -/
  linkRestart : Bool := false
  deriving DecidableEq, Repr

/-! ## Display -/

/-- A display module's map (calibration block of class 0x04), as far as the device acts on it. -/
structure WaveformTransition where
  /-- Phases: level code and duration in 10 ms -/
  phases : List (Nat × Nat)
  commit : Nat
  deriving DecidableEq, Repr

/-- A waveform set (Table 15.2); `wtmax` in °C. -/
structure WaveformSet where
  wtmax : Int
  trans : List WaveformTransition
  deriving DecidableEq, Repr

/-- One screen (section 0x03 of R436). -/
structure Screen where
  quantity : Nat
  first : Nat
  digits : Nat
  decimals : Nat
  scale : Nat
  symbols : List Nat
  deriving DecidableEq, Repr

/-- A display map (R436): segments of each character position (a to g and the decimal point), symbols, screens, first
position of the event field, VCOM offset in 10 mV, region of each bistable segment, waveform sets. -/
structure DispMap where
  chars : List (List Nat) := []
  symbols : List Nat := []
  screens : List Screen := []
  evPos : Option Nat := none
  vcom : Int := 0
  regionOf : List Nat := []
  sets : List WaveformSet := []
  deriving DecidableEq, Repr

/-- States of a bistable region (Table 15.3). -/
inductive RegionState where | idle | starting | running | paused
  deriving DecidableEq, Repr

/-- One bistable region (R410). Content is the list of the region's segments that are to be dark. -/
structure Region where
  st : RegionState := .idle
  content : List Nat := []
  queued : Option (List Nat) := none
  /-- 10 ms ticks run since the compensation of R411 began, and its length in ticks -/
  tick : Nat := 0
  comp : Nat := 0
  /-- Waveform set chosen at the start -/
  set : Nat := 0
  /-- An update of the region has ended since POR (R409) -/
  known : Bool := false
  deriving DecidableEq, Repr

/-- The display controller beyond its words. -/
structure Display where
  map : DispMap := {}
  mapOk : Bool := false
  /-- Screen shown, and the last key press (R398) -/
  screen : Nat := 0
  lastKey : Option Nat := none
  /-- Image rendered: segments shown steadily, and in blink group B (R402, R414) -/
  image : List Nat := []
  imageB : List Nat := []
  /-- Image in force on the glass (R401) -/
  applied : List Nat := []
  appliedB : List Nat := []
  /-- Last render of a register screen on a bistable panel (R398) -/
  lastRender : Option Nat := none
  /-- Glass drive on, the polarity of the running frame, and a stop that waits for a negative frame's end (R401) -/
  glassOn : Bool := false
  positive : Bool := true
  stopReq : Bool := false
  /-- Blink group B is in its on phase (R402) -/
  groupB : Bool := false
  /-- A render is due: of a register screen after a posted copy; at once after a key press (R398) -/
  renderDue : Bool := false
  renderNow : Bool := false
  /-- `DSPEVT` as last rendered -/
  evtShown : Nat := 0
  /-- Every segment is shown after both keys (R439) -/
  segTest : Bool := false
  /-- Emissive drive: active until; fall-back armed; a frame is driven; glass blinks while a seat waits (R405, R406) -/
  emUntil : Option Nat := none
  fallback : Bool := false
  emDriving : Bool := false
  emBlink : Bool := false
  /-- Bistable: regions, segments shown dark, ledgers in ms, ticks left of the seat, time of the last tick -/
  regions : Vector Region 8 := Vector.replicate 8 {}
  dark : List Nat := []
  ledger : Vector Int 64 := Vector.replicate 64 0
  seatLeft : Nat := 0
  tickAt : Nat := 0
  /-- Park in step 1: cause of Table 15.7 -/
  park : Option Nat := none
  railsOk : Bool := false
  /-- Consecutive failing and passing read-back checks, by pin of the `RBFAIL` layout (R413) -/
  rbBad : List (Nat × Nat) := []
  rbGood : List (Nat × Nat) := []
  deriving DecidableEq, Repr

end Sys2Proof.Machine
end

