-- ==== Sys2Proof/Machine/Parts4.lean ====
section
/-! DEFINITION. The parts of State behind the Mogal link, the service ports, the module ports, the discrete lines and
the configuration memory. -/

namespace Sys2Proof.Machine

/-! ## The link -/

/-- `LNKSTAT.SYNC`. -/
inductive SyncState where | none | targeted | blind | synced | fallback
  deriving DecidableEq, Repr

/-- Codes of `LNKSTAT.SYNC`. -/
def SyncState.code : SyncState → Nat
  | .none => 0 | .targeted => 1 | .blind => 2 | .synced => 3 | .fallback => 4

/-- `HOSTAT.STATE`. -/
inductive HoState where | idle | announced | transferring | completed | abandoned
  deriving DecidableEq, Repr

/-- Codes of `HOSTAT.STATE`. -/
def HoState.code : HoState → Nat
  | .idle => 0 | .announced => 1 | .transferring => 2 | .completed => 3 | .abandoned => 4

/-- One row of the member table (R380); `heard` is `TLMONO` in s. -/
structure Member where
  id : Nat
  index : Nat
  telday : Nat
  rs : Nat
  heard : Nat
  deriving DecidableEq, Repr

/-- A receive mark (R365): source, `KEYID` and kind of the key, highest accepted `CTR` and its `MIC`. -/
structure Mark where
  src : Nat
  kind : Nat
  keyid : Nat
  ctr : Nat
  mic : List Byte
  deriving DecidableEq, Repr

/-- Transmit counter of one key and its reservation (R363, R364). -/
structure KeyCtr where
  ctr : Nat := 0
  res : Nat := 0
  deriving DecidableEq, Repr

/-- A cluster-store entry (Table 14.8). -/
structure CsEntry where
  kind : Nat
  num : Nat
  src : Nat
  ctr : Nat
  time : Nat
  coll : Nat := 0xFF
  flags : Nat := 0
  payload : List Byte
  deriving DecidableEq, Repr

/-- Exchanges that an endpoint runs (R374, R377). -/
inductive ExKind where | poll | alarm | join
  deriving DecidableEq, Repr

/-- An exchange in progress: frame, its counter, attempts sent, and the end of its slot (`State.now`). -/
structure Exchange where
  kind : ExKind
  frame : List Byte
  ctr : Nat
  tries : Nat := 1
  slotEnd : Nat
  deriving DecidableEq, Repr

/-- One HANDOVER frame that waits for its acknowledgement: its bytes, counter, what it carries (0 table, 1 entries,
2 end) and the `CENUM`s of its entries. -/
structure HoFrame where
  bytes : List Byte
  ctr : Nat := 0
  part : Nat
  nums : List Nat := []
  /-- Secured and sent; `bytes` is then the PSDU, and the payload before -/
  built : Bool := false
  deriving DecidableEq, Repr

/-- Hand-over state of either side (R383, R384). -/
structure Handover where
  st : HoState := .idle
  forced : Bool := false
  succ : Nat := 0
  h : Nat := 0
  /-- Old parent: frames still to be acknowledged, in order -/
  frames : List HoFrame := []
  tableAck : Bool := false
  endAck : Bool := false
  moved : Nat := 0
  /-- Bulk frames sent in the running transfer: k of R368 -/
  k : Nat := 0
  /-- Last item acknowledged, 0 none, 1 member table, 2 entries, 3 end -/
  lastItem : Nat := 0
  /-- Successor: the end frame has been received, and from whom -/
  gotTable : Bool := false
  gotEnd : Bool := false
  from_ : Nat := 0
  /-- Old parent's beacons end after H + 3 -/
  leaving : Bool := false
  deriving DecidableEq, Repr

/-- A reader session, at the meter (R388). -/
structure RdrSession where
  challenge : List Byte
  opened : Nat
  /-- Slalom index of the wake, and frames exchanged -/
  c0 : Nat := 0
  k : Nat := 0
  reader : Option Nat := none
  /-- `CENUM`s this session sent -/
  sent : List Nat := []
  deriving DecidableEq, Repr

/-- A READER's own run of R390 with one meter: 1 READMAP, 2 READSTORE, 3 ACKSTORE, 4 TIME, 5 CLOSE. -/
structure RdrRun where
  meter : Nat
  challenge : List Byte := []
  parent : Bool := false
  step : Nat := 0
  /-- Next `CENUM` to ask for -/
  next : Nat := 0
  /-- Channel of the wake, and exchanges made -/
  c0 : Nat := 0
  k : Nat := 0
  deriving DecidableEq, Repr

/-- A setting of the receiver: frequency in Hz, channel and rate as `RFCHAN` shows them. -/
structure Tuning where
  hz : Nat
  num : Nat
  rate : Nat
  deriving DecidableEq, Repr

/-- A receive request whose seat is held and that waits for the transmitter (R342, R345). -/
structure RxWait where
  use : RxUse
  tuning : Tuning
  deriving DecidableEq, Repr

/-- The slot that a parent serves (R375, R379). -/
structure Slot where
  number : Nat
  /-- `State.now` of its start -/
  start : Nat
  /-- A frame was accepted in it -/
  accepted : Bool := false
  /-- End of the last ACK in it -/
  ackEnd : Option Nat := none
  /-- A seat of the slot was refused: it is not served -/
  skipped : Bool := false
  deriving DecidableEq, Repr

/-- Link state object 0x0D in Archive SYSTEM. -/
structure LinkObject where
  role : Option Role := none
  member : Bool := false
  index : Nat := 0
  clusterid : Nat := 0
  sfn : Nat := 0
  /-- `TLMONO` of the boundary of `sfn`, µs (log 154) -/
  boundary : Option Nat := none
  res : Vector Nat 16 := Vector.replicate 16 0
  marks : List Mark := []
  deriving DecidableEq, Repr

/-- The Link core beyond its words. -/
structure Link where
  role : Role := .silent
  member : Bool := false
  index : Nat := 0
  sync : SyncState := .none
  /-- `State.now` of the tracked boundary of `SFN`; none while nothing is tracked -/
  boundary : Option Nat := none
  deputy : Bool := false
  /-- `BRES` of the last accepted beacon -/
  bres : Option Nat := none
  bflags : Nat := 0
  /-- Announced successor of the last beacon, and its H -/
  bsucc : Nat := 0
  bhsfn : Nat := 0
  /-- Keys loaded, by `KEYID` -/
  loaded : List Nat := []
  ctrs : Vector KeyCtr 16 := Vector.replicate 16 {}
  marks : List Mark := []
  /-- Object 0x0D as the Link core keeps it, and as its committed frame holds it (R364, R366) -/
  obj : LinkObject := {}
  objCopy : LinkObject := {}
  /-- Other parent seen, and `TLMONO` s -/
  other : Option (Nat × Nat) := none
  /-- Upload that moved past a missed beacon (R372) -/
  owed : Bool := false
  exch : Option Exchange := none
  /-- ACK window of a sent frame: open since -/
  ackOpen : Bool := false
  /-- Alarm codes that wait for the open slot -/
  alarms : List Nat := []
  /-- Search in progress and why it began: none, or the kind; superframes left -/
  search : Option SyncState := none
  backoff : Nat := 0
  nextSearch : Option Nat := none
  nextFallback : Option Nat := none
  members : List Member := []
  /-- Cluster store by sectors, oldest first (R382) -/
  store : List (List CsEntry) := []
  /-- Entries accepted that the Curator has still to program -/
  queued : List CsEntry := []
  csNext : Nat := 0
  lowLogged : Bool := false
  /-- Slot that the parent serves -/
  slot : Option Slot := none
  /-- Slot or boundary for whose window the seats were last asked, as `State.now` of its start -/
  asked : Option Nat := none
  /-- A receive request that waits for the transmitter -/
  rxWait : Option RxWait := none
  ho : Handover := {}
  session : Option RdrSession := none
  /-- `QLINK` in nA·s·… kept as µA·µs (1 µAh = 3 600 000 000 of it) -/
  qlink : Nat := 0
  borSeen : Nat := 0
  lowSeenAt : Option Nat := none
  /-- When `RXMIC` last grew, newest first (`TLMONO` s), and when 0x0C12 was logged -/
  micHist : List Nat := []
  micLogged : Option Nat := none
  /-- When 0x0C0A was last logged -/
  bcnLogged : Option Nat := none
  access : Nat := 0
  /-- Receiver on since -/
  rxSince : Option Nat := none
  /-- Wake word accepted: HELLO is due -/
  helloDue : Bool := false
  /-- A listen window is due: frequency in Hz and channel of its event (R386) -/
  listenDue : Option (Nat × Nat) := none
  /-- Meters read: link ID and `TLMONO` s -/
  readAt : List (Nat × Nat) := []
  run : Option RdrRun := none
  /-- Local day on which `PARDAYS` last counted -/
  parDay : Option Nat := none
  /-- Link record and keys of a reload that wait for the next superframe boundary or the end of the parent role (R356) -/
  cfg : Option (LinkRec × List KeyRec) := none
  /-- `SFN` of the last accepted beacon -/
  gotBeacon : Option Nat := none
  /-- The deputy promotes itself at its next tracked boundary (R378) -/
  promote : Bool := false
  /-- A listen window is open -/
  listening : Bool := false
  /-- Last session response, sent again on a repeat -/
  lastResp : List Byte := []
  deriving DecidableEq, Repr

/-! ## Service ports -/

/-- One service session and what its port keeps for AUTH (R427, R428). -/
structure Session where
  open_ : Bool := false
  /-- Time of the last valid request -/
  last : Nat := 0
  challenge : Option (List Byte) := none
  service : Bool := false
  /-- `TAG` and body of the previous request, and the stored response -/
  req : Option (List Byte) := none
  resp : List Byte := []
  fails : Nat := 0
  lockLen : Nat := 0
  lockUntil : Option Nat := none
  /-- `CENUM`s this session sent -/
  sent : List Nat := []
  deriving DecidableEq, Repr

/-- What one reading port latches (R8, R302, R423, R424). -/
structure ReadPort where
  page : BitVec 8 := 0
  /-- Words of one multi-word value still latched: (address, word) -/
  value : List (Nat × Nat) := []
  /-- RL blocks: base address and latched words -/
  blocks : List (Nat × List Nat) := []
  /-- Sequence number of the last latch, by block -/
  kept : List (Nat × Nat) := []
  deriving DecidableEq, Repr

/-- A slot or patch write in progress: length declared and next offset. -/
structure WriteRun where
  slot : Nat
  len : Nat
  next : Nat := 0
  /-- The erase that SLOTOPEN or PATCHOPEN started is done -/
  ready : Bool := false
  deriving DecidableEq, Repr

/-- A reload in progress (R77, R78). -/
structure Reload where
  slot : Nat
  cat : Cat
  image : List Byte
  /-- Ports whose bound module's changed calibration block it accepts, with the new CRC-32 (R75) -/
  calib : List (Nat × BitVec 32) := []
  /-- Module records that come into use with it -/
  records : List (Nat × List Byte) := []
  /-- Legally relevant records that it adds, removes or changes (R82) -/
  changes : List (Nat × Nat) := []
  /-- The Registrar has been asked for the switch record -/
  sealing : Bool := false
  deriving DecidableEq, Repr

/-- Both service ports. -/
structure Service where
  opt : Session := {}
  hst : Session := {}
  baud : BitVec 2 := 0
  baudNext : Option Nat := none
  optPort : ReadPort := {}
  hstPort : ReadPort := {}
  rdrPort : ReadPort := {}
  /-- The response to the last host request has not been read -/
  unread : Bool := false
  /-- Bytes last shifted out on `HST_MISO` -/
  miso : List Byte := []
  /-- Bytes last sent by the optical port -/
  irTx : List Byte := []
  pendCmd : Nat := 0
  pendStatus : Nat := 0
  /-- Outcome of the last pending command, as STATQ reports it -/
  outcome : List Byte := []
  pendPort : Option Port := none
  slotW : Option WriteRun := none
  patchW : Option WriteRun := none
  reload : Option Reload := none
  /-- A RELOAD whose validation runs -/
  reloadRun : Bool := false
  deriving DecidableEq, Repr

/-! ## Modules and lines -/

/-- A module port: its words, the record last read when it was valid, its supply. -/
structure ModPort where
  vson : Bool := false
  record : List Byte := []
  deriving DecidableEq, Repr

/-- The discrete lines. EXTEST is current while `tap` is `.extest`. -/
structure Io where
  /-- VDDIO at or above its minimum -/
  vddio : Bool := true
  /-- `HST_CS` low -/
  cs : Bool := false
  rstLow : Bool := false
  key : Vector Bool 2 := Vector.replicate 2 false
  /-- Tamper lines: last sample, confirmed state, and since when (`TLMONO` s) -/
  tmpRaw : Vector Bool 2 := Vector.replicate 2 false
  tmp : Vector Bool 2 := Vector.replicate 2 false
  tmpAt : Vector Nat 2 := Vector.replicate 2 0
  /-- Tamper edges recorded in Hibernate: code, item, `TLTIME` (R113) -/
  tmpHib : List Event := []
  /-- `IR_EN` driven until -/
  irUntil : Option Nat := none
  /-- Start of the last pulse on `PO0` and `PO1` -/
  poAt : Vector (Option Nat) 2 := Vector.replicate 2 none
  /-- Current instruction of the test access port (R47) -/
  tap : TapInstr := .idcode
  /-- `TLMONO` µs of the last 24-hour module check -/
  modCheckAt : Nat := 0
  deriving DecidableEq, Repr

/-! ## The start and non-volatile memory -/

/-- Bookkeeping of the start that runs. -/
structure Start where
  wait : StartWait := .none
  /-- `State.now` at POR release, and at the beginning of the present wait -/
  began : Nat := 0
  waitFrom : Nat := 0
  /-- Duration so far, 0.1 ms, and the waits of R89 and R95, µs -/
  dur : Nat := 0
  vresWait : Nat := 0
  xtWait : Nat := 0
  /-- The Registrar has been restored in this start (R102) -/
  restored : Bool := false

  /-- The XT32 gate is left out (R90) -/
  noXt32 : Bool := false
  /-- Image selected and not yet governing: slot and Catalogue (R95) -/
  chosen : Option (Nat × Cat) := none
  /-- Stage 7 findings that wait for the OTP programming -/
  warned : Bool := false
  /-- Display module passed stage 8 -/
  dispOk : Bool := false
  /-- Radio passed stage 13 -/
  radioOk : Bool := false
  /-- Patch bank in use: 0 none, 1 bank 0, 2 bank 1 (R322) -/
  bank : Nat := 0
  /-- The Archive passed stage 6 or step H4 (R93) -/
  arcOk : Bool := false
  /-- Result of the start's Vitrine calibration where it has failed before its stage ends (R139, R145, R153); 0 = it has not -/
  vitFail : Nat := 0
  deriving DecidableEq, Repr

/-- What outlives a POR beside the Archive: OTP key slots and the two slots of the configuration memory (R54, R65). -/
structure NonVol where
  otp : OtpSlots := Vector.replicate 4 (.empty, 0)
  slotA : List Byte := []
  slotB : List Byte := []
  /-- Factory row map in OTP: segment code and failing row (R304) -/
  rows : List (Nat × Nat) := []
  deriving DecidableEq, Repr

/-- Safe-beacon bookkeeping (R104, R106). -/
structure SafeBeacon where
  /-- Start of the 24 h to the next retry (`State.now`) -/
  retryFrom : Nat := 0
  /-- Start of the `SBINT` to the next telegram, none before the first -/
  telFrom : Nat := 0
  first : Bool := true
  /-- Safe-beacon has been entered since the last entry to Run: the start that ends it logs 0x00D3 -/
  entered : Bool := false
  /-- The retry of Table 4.5 is under way, the cold starts that watchdog resets of it lead to included (R98) -/
  retry : Bool := false
  deriving DecidableEq, Repr

end Sys2Proof.Machine
end

