-- ==== Sys2Proof/Machine/State.lean ====
section
/-! DEFINITION. State: everything the spec gives the block, as plain data, and the queue of waiting commands;
the faults and refusals; State.reset. -/

namespace Sys2Proof.Machine

/-- Why the machine stops. -/
inductive Fault where
  /-- RST_N low for 1 µs to 10 µs (R46: "A pulse between 1 µs and 10 µs has no defined effect"). Raised by
  `execRstNLow`. Safe: the model stops where the spec gives no effect (log 20). -/
  | rstPulseUndefined
  deriving DecidableEq, Repr

/-- Why a command has no meaning. -/
inductive Refusal where
  /-- A command that the model does not reach yet. Raised by Dispatch alone. Safe. -/
  | notModelled (mnemonic : String)
  deriving DecidableEq, Repr

/-- The words of the service map that are held as registers, one structure for each register table. -/
structure Regs where
  sys : SysRegs := {}
  pwr : PowerRegs := {}
  clk : ClockRegs := {}
  tdc : TdcRegs := {}
  ch : Vector TdcChRegs 4 := Vector.replicate 4 {}
  drv : DriveRegs := {}
  path : Vector PathRegs 4 := Vector.replicate 4 {}
  port : Vector PortRegs 8 := Vector.replicate 8 {}
  flow : FlowBlock := {}
  pw : Vector PathWords 4 := Vector.replicate 4 {}
  zero : Vector ZeroBlock 4 := Vector.replicate 4 {}
  gas : GasRegs := {}
  tblk : TempBlock := {}
  tch : Vector TempChRegs 5 := Vector.replicate 5 {}
  tmp : TempRegs := {}
  rgr : RegistrarRegs := {}
  mem : MemRegs := {}
  rf : RadioRegs := {}
  lnk : LinkRegs := {}
  dsp : DispRegs := {}
  io : IoRegs := {}
  mp : Vector ModuleRegs 7 := Vector.replicate 7 {}
  flt : FaultRegs := {}
  deriving DecidableEq, Repr

/-- The state of the block. -/
structure State where
  /-- Time of the corrected RTC since POR release of the first start, µs (log 6) -/
  now : Nat := 0
  /-- Draws made of the free values: the model's own field (log 4) -/
  free : Nat := 0
  /-- Commands that wait, first in, first out -/
  pending : List Instr := []
  phase : Phase := .cold 1
  start : Start := {}
  nv : NonVol := {}
  sb : SafeBeacon := {}
  /-- Catalogue whose settings are in force, and whether an image governs (R490) -/
  cat : Cat := {}
  governs : Bool := false
  /-- Slot of the active image: 0 slot A, 1 slot B -/
  active : Option Nat := none
  r : Regs := {}
  pw : Power := {}
  cl : Chairlift := {}
  ck : Clocks := {}
  tl : Ledger := {}
  rg : Registrar := {}
  /-- SRAM segments by code 0 to 32 (Table 12.1) -/
  seg : Vector Segment 33 := Vector.replicate 33 {}
  bg : Option BgPass := none
  /-- A background pass has been requested and has not begun -/
  bgReq : Bool := false
  /-- Content of XB (R301), by byte offset -/
  xb : List Host.Cell := []
  /-- 32-bit words of XB in which a port has found an uncorrectable error, and that nothing has written since (R295) -/
  xbBad : List Nat := []
  ar : Archive := {}
  /-- Events in AON RAM that wait for the EVENTS partition (R93, R319), and how many were dropped since the last entry -/
  evq : List Event := []
  evDrop : Nat := 0
  ch : Vector TdcChannel 4 := Vector.replicate 4 {}
  cal : TdcCal := {}
  path : Vector PathCore 4 := Vector.replicate 4 {}
  ps : Piste := {}
  fl : FlowCore := {}
  tp : TempCore := {}
  rad : Radio := {}
  ln : Link := {}
  dp : Display := {}
  sv : Service := {}
  mp : Vector ModPort 7 := Vector.replicate 7 {}
  io : Io := {}
  flt : Faults := {}
  deriving DecidableEq, Repr

/-- The machine right after reset: POR has released (R119), a cold start with cause 0x1 runs stage 1 (R87), every
register holds the default of its table but for `TLSTAT.LOST`, which a POR sets (R156), and no command waits. The sealed slot holds
registers of 0, as a device leaves its factory (log 51). Values the spec does not give: logs 7 and 8; words derived from other
state that read otherwise than their Default column: log 138. -/
def State.reset : State :=
  { r := { sys := { startcause := 1, ncold := 1 }, clk := { tlstatLost := true } }
    ar := { sealedSlot := some {} } }

end Sys2Proof.Machine
end

