-- ==== Sys2Proof/Machine/Ops.lean ====
section
/-! DEFINITION. Operations that every family shares: field helpers, the exchange bank as a memory, time and the ledger,
the predictions of the correction table, and the event log with its classes. -/

namespace Sys2Proof.Machine

/-! ## Helpers -/

/-- `f` where a condition holds, nothing elsewhere. -/
def onlyIf {α : Type} (b : Bool) (f : α → α) (s : α) : α := if b then f s else s

/-- A 16-bit counter that saturates (the counters of every status table). -/
def inc16 (c : BitVec 16) : BitVec 16 := sat 16 (c.toNat + 1)

/-- One element of a vector changed; an index outside leaves it as it is. -/
def vupd {α : Type} {n : Nat} (v : Vector α n) (i : Nat) (f : α → α) : Vector α n :=
  if h : i < n then v.set i (f v[i]) else v

/-- One element of a vector, with a default outside. -/
def vget {α : Type} {n : Nat} (v : Vector α n) (i : Nat) (d : α) : α := if h : i < n then v[i] else d

/-- Ceiling of a quotient of naturals. -/
def ceilDiv (a b : Nat) : Nat := (a + b - 1) / b

/-- Truncation of a rational toward zero. -/
def truncQ (q : Rat) : Int := if q < 0 then -((-q).floor) else q.floor

/-- Absolute value of a rational. -/
def absQ (q : Rat) : Rat := if q < 0 then -q else q

/-- Sum of a list of rationals. -/
def sumQ (l : List Rat) : Rat := l.foldl (· + ·) 0

/-- Insertion of one element in ascending order. -/
def insertQ (x : Rat) : List Rat → List Rat
  | [] => [x]
  | y :: ys => if x ≤ y then x :: y :: ys else y :: insertQ x ys

/-- A list in ascending order. -/
def sortQ (l : List Rat) : List Rat := l.foldr insertQ []

/-- Median: the middle value, or the mean of the two middle values of an even count; 0 for no value. -/
def medianQ (l : List Rat) : Rat :=
  let t := sortQ l
  let n := t.length
  if n = 0 then 0
  else if n % 2 = 1 then t.getD (n / 2) 0
  else (t.getD (n / 2 - 1) 0 + t.getD (n / 2) 0) / 2

/-- The largest element of a list of naturals, 0 for none. -/
def maxL (l : List Nat) : Nat := l.foldl max 0

/-- A bit mask from the bit numbers in a list. -/
def maskOf (l : List Nat) : Nat := l.foldl (fun m i => m ||| (1 <<< i)) 0

/-- One draw of a free value (log 4): the value, and the state that has advanced the counter. -/
def draw (s : State) : Nat × State := (Config.freeValue s.free, { s with free := s.free + 1 })

/-! ## The exchange bank (R301) -/

/-- Bytes of XB (Table 12.1). -/
def xbSize : Nat := 0x8000

namespace Mem

/-- What a byte that no cell lists reads as: zero, by the clear of R296. -/
def default : Byte := 0

/-- One byte of a memory in the canonical form. -/
def get (m : List Host.Cell) (a : Nat) : Byte :=
  match m with
  | [] => default
  | c :: rest => if c.1 = a then c.2 else get rest a

/-- Canonical form: addresses strictly rise from `lo`, and no cell holds the default. -/
def okFrom (lo : Nat) : List Host.Cell → Bool
  | [] => true
  | c :: rest => decide (lo ≤ c.1) && c.2 != default && okFrom (c.1 + 1) rest

/-- Write of one byte, keeping the canonical form. -/
def set (m : List Host.Cell) (a : Nat) (b : Byte) : List Host.Cell :=
  match m with
  | [] => if b = default then [] else [(a, b)]
  | c :: rest =>
    if a < c.1 then (if b = default then c :: rest else (a, b) :: c :: rest)
    else if a = c.1 then (if b = default then rest else (a, b) :: rest)
    else c :: set rest a b

/-- Write of consecutive bytes. -/
def setBytes (m : List Host.Cell) (a : Nat) : List Byte → List Host.Cell
  | [] => m
  | b :: bs => setBytes (set m a b) (a + 1) bs

end Mem

/-- The canonical form of a memory: strictly rising addresses, no cell that holds what an unlisted byte reads as. -/
def Memory.wf (m : List Host.Cell) : Bool := Mem.okFrom 0 m

/-- Bytes go into XB; a word that is written holds valid check bits again (R294). -/
def putXb (off : Nat) (bs : List Byte) (s : State) : State :=
  { s with xb := Mem.setBytes s.xb off bs
           xbBad := s.xbBad.filter (fun w => !decide (off / 4 ≤ w ∧ 4 * w < off + bs.length)) }

/-- Writes of a region of XB whose layout the spec does not print: its bytes are free (R301, log 68). -/
def fillXb (off n : Nat) (s : State) : State :=
  let (v, s) := draw s
  putXb off ((List.range n).map (fun i => BitVec.ofNat 8 (v >>> (8 * i)))) s

/-! ## Time -/

/-- The AON domain runs: no state in which the device is Off, held in reset by TESTEN, or halted at stage 2. -/
def State.aon (s : State) : Bool :=
  match s.phase with
  | .off | .offByCommand | .testHold | .romHalt => false
  | _ => true

/-- Sign of a slew: how many ns civil time gains on 1 µs (R157: rate 1 ± 0.001). -/
def slewSign (d : Int) : Int := if d > 0 then 1 else if d < 0 then -1 else 0

/-- `k` µs of the corrected RTC pass (R154, R157): operating and civil time advance, a slew by 1 ns in each µs. -/
def passUs (k : Nat) (s : State) : State :=
  let d : Int := slewSign s.tl.slew * (min k s.tl.slew.natAbs : Nat)
  { s with now := s.now + k
           tl.monoUs := s.tl.monoUs + k
           tl.civNs := (s.tl.civNs + 1000 * k + d).toNat
           tl.slew := s.tl.slew - d }

/-- `TLTIME` (R154): 2^−16 s with the granularity of 1/32 768 s of R146, modulo 2^48. -/
def tltime (s : State) : Nat := (s.tl.civNs * 32768 / 1000000000 * 2) % 2 ^ 48

/-- Civil time in whole seconds. -/
def civS (s : State) : Nat := s.tl.civNs / 1000000000

/-- Civil minute. -/
def civMin (s : State) : Nat := civS s / 60

/-- Local time in s (R158). -/
def localS (s : State) : Int := (civS s : Int) + s.tl.zone * 900

/-- Local day. -/
def localDay (s : State) : Nat := (localS s / 86400).toNat

/-- Local minute of the day. -/
def localMinute (s : State) : Nat := ((localS s % 86400) / 60).toNat

/-- `TLMONO`, in s (R154). -/
def tlmono (s : State) : Nat := s.tl.monoUs / 1000000

/-! ## The correction table (R150) -/

/-- Centre of bin k, in 0.1 °C. -/
def binCentre (k : Nat) : Int := -420 + 40 * k

/-- Bin of a die temperature in 0.1 °C; the end bins hold what lies outside the table (log 21). -/
def binOf (t : Int) : Nat := (max 0 (min 39 ((t + 440) / 40))).toNat

/-- The bins in which an error is valid, with its value, ascending. -/
def validBins (vals : List (Option Int)) : List (Nat × Int) :=
  (List.range vals.length).filterMap (fun k => (vals.getD k none).map (fun v => (k, v)))

/-- The two valid bins, no more than 3 apart, between whose centres a die temperature lies. -/
def bracket (vals : List (Option Int)) (t : Int) : Option ((Nat × Int) × (Nat × Int)) :=
  match ((validBins vals).filter (fun x => decide (binCentre x.1 ≤ t))).getLast?,
        ((validBins vals).filter (fun x => decide (t ≤ binCentre x.1))).head? with
  | some a, some b => if b.1 ≤ a.1 + 3 then some (a, b) else none
  | _, _ => none

/-- Prediction of one error at die temperature `t`, and whether it is extrapolated. -/
def predict (vals : List (Option Int)) (t : Int) : Rat × Bool :=
  match bracket vals t with
  | some (a, b) =>
    if a.1 = b.1 then ((a.2 : Rat), false)
    else ((a.2 : Rat) + ((b.2 - a.2 : Int) : Rat) * ((t - binCentre a.1 : Int) : Rat)
            / ((binCentre b.1 - binCentre a.1 : Int) : Rat), false)
  | none =>
    match vals.getD (binOf t) none with
    | some v => ((v : Rat), false)
    | none =>
      let dist := fun (k : Nat) => ((k : Int) - (binOf t : Int)).natAbs
      match validBins vals with
      | [] => (0, false)
      | x :: xs =>
        let best := xs.foldl (fun b y => if dist y.1 < dist b.1 then y else b) x
        ((best.2 : Rat), true)

/-- Last die-temperature sample, 0.1 °C. -/
def dieTemp (s : State) : Int := s.r.clk.dietemp.toInt

/-- The predicted XT32 error, 0.01 ppm. -/
def predXt32 (s : State) : Rat × Bool := predict (s.ck.bins.toList.map (·.xt32)) (dieTemp s)

/-- The predicted HFRC error, ppm. -/
def predHfrc (s : State) : Rat × Bool := predict (s.ck.bins.toList.map (·.hfrc)) (dieTemp s)

/-- The predicted XRF error, 0.01 ppm. -/
def predXrf (s : State) : Rat × Bool := predict (s.ck.bins.toList.map (·.xrf)) (dieTemp s)

/-- The predicted LPRC error, ppm. -/
def predLprc (s : State) : Rat × Bool := predict (s.ck.bins.toList.map (·.lprc)) (dieTemp s)

/-! ## The corrected RTC (R146, R151, R152) -/

/-- The error e that is taken from the RTC's source: the predicted one of XT32 or of LPRC, none of HFRC ÷ 500. -/
def rtcError (s : State) : Rat :=
  if s.r.clk.clkstatRtcsrc = 0 then (predXt32 s).1 / 100000000
  else if s.r.clk.clkstatRtcsrc = 1 then (predLprc s).1 / 1000000
  else 0

/-- What 1 µs of the source adds to the 32-bit phase accumulator: 2^32 / (1 + e). -/
def rtcStep (s : State) : Nat := (roundOpen (4294967296 / (1 + rtcError s))).toNat

/-- One microsecond as the RTC's source counts it: the phase accumulator divides it by 1 + e, and the corrected RTC advances by
its carries (R146). -/
def tick (s : State) : State :=
  if s.aon then
    let p := s.tl.phase + rtcStep s
    passUs (p / 4294967296) { s with tl.phase := p % 4294967296 }
  else s

/-- `CLKSTAT.EXTRAP`: a prediction in use is extrapolated: HFRC, XRF, and that of the RTC's source (log 22). -/
def extrapNow (s : State) : Bool :=
  (predHfrc s).2 || (predXrf s).2 || (if s.r.clk.clkstatRtcsrc = 1 then (predLprc s).2 else (predXt32 s).2)

/-- Whether some bin holds a valid XT32 error. -/
def populated (s : State) : Bool := s.ck.bins.toList.any (fun b => b.xt32.isSome)

/-- Residual class of Table 6.4. -/
def resClass (s : State) : ResClass :=
  if s.r.clk.clkstatRtcsrc = 2 then .hfrc
  else if s.r.clk.clkstatRtcsrc = 1 then
    (if s.ck.lprcAt.isSome && s.ck.bins.toList.any (fun b => b.lprc.isSome) then .lprcCal else .lprcOld)
  else if !populated s then .xt32None
  else if extrapNow s then .xt32Extrap
  else if s.r.clk.clkstatStale then .xt32Stale
  else .xt32

/-- Rate of the first row of Table 6.4, in 0.01 ppm: max(2 ppm, E24), at most 20 ppm. -/
def rateXt32 (s : State) : Nat := min 2000 (max 200 (maxL (s.ck.predErr.filterMap id)))

/-- Residual rate r of Table 6.4, in 0.01 ppm. -/
def resRate (s : State) : Nat :=
  match resClass s with
  | .xt32 => rateXt32 s
  | .xt32Stale => rateXt32 s + 300
  | .xt32Extrap => 2000
  | .xt32None => 20000
  | .lprcCal => 50000
  | .lprcOld => 3000000
  | .hfrc => 500000

/-- D × r of the running segment so far, rounded up to 1 µs (R155). -/
def segmentGain (s : State) : Nat := ceilDiv ((s.tl.monoUs - s.tl.segStart) * resRate s) 100000000

/-- Saturation of a 32-bit uncertainty. -/
def sat32 (n : Nat) : Nat := min n 0xFFFFFFFF

/-- `TLUNC` as it stands: the stored value, the running segment, and what a slew has still to absorb (R155, R157,
log 23). -/
def tlunc (s : State) : Nat := sat32 (s.tl.unc + segmentGain s + ceilDiv s.tl.slew.natAbs 1000)

/-- `TLCONTU` as it stands. -/
def tlcontu (s : State) : Nat := sat32 (s.tl.contu + segmentGain s)

/-- End of the running segment under the rate that held (`old`), 31 µs more where the clock in use changed (R155). -/
def closeSegment (old s : State) : State :=
  let g := segmentGain old + (if old.r.clk.clkstatRtcsrc = s.r.clk.clkstatRtcsrc then 0 else 31)
  { s with tl.unc := sat32 (s.tl.unc + g), tl.contu := sat32 (s.tl.contu + g), tl.segStart := s.tl.monoUs }

/-- A change from `old` to `s` under the accounting of R155: a change of the clock in use, of its class or of its rate ends the
segment. -/
def accounted (old s : State) : State :=
  if s.r.clk.clkstatRtcsrc = old.r.clk.clkstatRtcsrc ∧ resClass s = resClass old ∧ resRate s = resRate old then s
  else closeSegment old s

/-- A step under the accounting of R155. -/
def segmented (f : State → State) (s : State) : State := accounted s (f s)

/-- `RTCRESID`, in 0.1 ppm: the XT32 residual by Table 6.4 (R155), rounded up. -/
def rtcResid (s : State) : Nat :=
  ceilDiv (if !populated s then 20000 else if extrapNow s then 2000
           else if s.r.clk.clkstatStale then rateXt32 s + 300 else rateXt32 s) 10

/-! ## Events (R319, R443 to R446) -/

/-- A tamper event: the code, and for 0x0060 a bound port with `MPSTAT.FAULT` 5 to 8 (items port, fault, bind). -/
def isTamper (code : Nat) (args : List Int) : Bool :=
  code == 0x0F05 || decide (0x0F07 ≤ code ∧ code ≤ 0x0F0A) || code == 0x100A
    || (code == 0x0060 && args.getD 2 0 == 1 && decide (5 ≤ args.getD 1 0 ∧ args.getD 1 0 ≤ 8))

/-- Codes of the Alarm column of Table 17.1. -/
def alarmCodes : List Nat :=
  [0x0021, 0x0042, 0x0060, 0x0090, 0x00A0, 0x00B0, 0x00C0, 0x00D0, 0x00D2, 0x0101, 0x0107, 0x0108, 0x0203, 0x0206,
   0x0207, 0x020A, 0x0303, 0x0306, 0x0403, 0x0406, 0x0501, 0x0504, 0x0506, 0x0509, 0x050A, 0x0701, 0x0703, 0x0705,
   0x0802, 0x0803, 0x0805, 0x0807, 0x080B, 0x0A01, 0x0A03, 0x0A06, 0x0A07, 0x0A0C, 0x0B02, 0x0C0B, 0x0C0E, 0x0C12,
   0x0E03, 0x0E07, 0x0E08, 0x0F03, 0x0F04, 0x0F06, 0x0F0B, 0x0F0C, 0x0F0D, 0x0F0E, 0x1001, 0x1003, 0x1008, 0x1009]

/-- Codes of the Displayed column of Table 17.1. -/
def displayedCodes : List Nat :=
  [0x0090, 0x00A0, 0x00C0, 0x0107, 0x0203, 0x020A, 0x0303, 0x0403, 0x0406, 0x0501, 0x0504, 0x050A, 0x0701, 0x0703,
   0x0705, 0x0803, 0x0805, 0x0807, 0x0A07, 0x0E03, 0x0F04, 0x0F0D, 0x1001, 0x1008]

/-- An alarm event (R443: every tamper event is also an alarm event). -/
def isAlarm (code : Nat) (args : List Int) : Bool := isTamper code args || alarmCodes.contains code

/-- A displayed event (R443). -/
def isDisplayed (code : Nat) (args : List Int) : Bool := isTamper code args || displayedCodes.contains code

/-- The displayed events that an event ends (R445): their code, and the item that must agree (none: any). 0x0702 ends
0x0701 of its channel, and 0x0705 where it carries channel 4. -/
def endedBy (code : Nat) (args : List Int) : List (Nat × Option Int) :=
  match code with
  | 0x0404 => [(0x0403, args[0]?)]
  | 0x0502 => [(0x0501, args[0]?)]
  | 0x0702 => if args[0]? = some 4 then [(0x0701, some 4), (0x0705, none)] else [(0x0701, args[0]?)]
  | 0x0704 => [(0x0703, none)]
  | 0x0804 => [(0x0803, none)]
  | 0x0806 => [(0x0805, none)]
  | 0x0F08 => [(0x0F07, none)]
  | 0x0F0A => [(0x0F09, none)]
  | 0x0202 => [(0x020A, none), (0x0203, none)]
  | _ => []

/-- A logged event ends the displayed events it answers (R445). -/
def endStanding (code : Nat) (args : List Int) (s : State) : State :=
  { s with flt.standing := s.flt.standing.filter (fun x =>
      !((endedBy code args).any (fun e => e.1 == x.code && (e.2 == none || e.2 == some x.key)))) }

/-- A displayed event stands from the moment it is logged (R445). -/
def addStanding (code : Nat) (args : List Int) (s : State) : State :=
  onlyIf (isDisplayed code args)
    (fun s => { s with flt.standing := ⟨code, args.getD 0 0, s.tl.monoUs⟩ :: s.flt.standing }) s

/-- Effects of an alarm event (R444); its radio report waits in `ln.alarms` until the command ends (`settle`). An event
code reported within the last 3600 s of `TLMONO` is not reported again. -/
def alarmEffects (code : Nat) (s : State) : State :=
  let s := { s with r.io.hirqAlarm := true
                    flt.alarmPulse := s.flt.alarmPulse || s.cat.po0fn == 13 || s.cat.po1fn == 13
                    r.flt.fltstatAlarm := true
                    r.flt.lastalarm := BitVec.ofNat 16 code
                    r.flt.alarmcnt := inc16 s.r.flt.alarmcnt }
  if s.flt.reported.any (fun x => x.1 == code && decide (tlmono s < x.2 + 3600)) then s
  else { s with ln.alarms := s.ln.alarms ++ [code] }

/-- Effects of a tamper event (R446). -/
def tamperEffects (code : Nat) (s : State) : State :=
  { s with r.flt.fltstatTamper := true
           r.flt.lasttamper := BitVec.ofNat 16 code
           r.flt.tamptime := BitVec.ofNat 48 (tltime s)
           r.flt.tampcnt := inc16 s.r.flt.tampcnt }

/-- Effects of the classes of an event (R443 to R446). -/
def classEffects (code : Nat) (args : List Int) (s : State) : State :=
  s |> endStanding code args |> addStanding code args
    |> onlyIf (isAlarm code args) (alarmEffects code) |> onlyIf (isTamper code args) (tamperEffects code)

/-- An entry is placed in the AON queue of 64 entries, or dropped and counted (R319). -/
def enqueueEvent (e : Event) (s : State) : State :=
  if s.evq.length < 64 then { s with evq := s.evq ++ [e] }
  else { s with evDrop := s.evDrop + 1, r.mem.evqdrop := inc16 s.r.mem.evqdrop }

/-- The entry that an event logged now gives. -/
def mkEvent (code : Nat) (args : List Int) (s : State) : Event :=
  { code, lost := s.r.clk.tlstatLost, time := tltime s, args }

/-- After a drop the next entry written is 0x0A0C with the count (R319). -/
def flushDrops (s : State) : State :=
  if s.evDrop > 0 ∧ s.evq.length < 64 then
    let e := mkEvent 0x0A0C [(s.evDrop : Int)] s
    { s with evDrop := 0, evq := s.evq ++ [e] } |> classEffects 0x0A0C [(s.evDrop : Int)]
  else s

/-- An event is logged: queued in AON RAM, with the effects of its classes. -/
def logEvent (code : Nat) (args : List Int) (s : State) : State :=
  let s := flushDrops s
  s |> enqueueEvent (mkEvent code args s) |> classEffects code args

/-! ## Power conditions that several chapters ask for -/

/-- Bits of `DOMSTAT` (Table 5.8). -/
inductive Dom where | aon | cur | reg | sig | tx | rx | tdc | vit | tmp | rf | lnk | dsp | arc | mod
  deriving DecidableEq, Repr

/-- Bit number of a domain. -/
def Dom.bit : Dom → Nat
  | .aon => 0 | .cur => 1 | .reg => 2 | .sig => 3 | .tx => 4 | .rx => 5 | .tdc => 6 | .vit => 7 | .tmp => 8
  | .rf => 9 | .lnk => 10 | .dsp => 11 | .arc => 12 | .mod => 13

/-- The engine of a domain reaches a segment of Table 12.1 when it begins to execute: its own RAM, XB, and the SB segments that its
firmware uses. -/
def Dom.reaches (d : Dom) (c : Nat) : Bool :=
  match d with
  | .cur => decide (1 ≤ c ∧ c ≤ 4) || c == 16 || (decide (17 ≤ c) && Config.sbUser 0 c)
  | .reg => c == 5 || c == 16
  | .sig => decide (6 ≤ c ∧ c ≤ 13) || c == 16 || (decide (17 ≤ c) && Config.sbUser 1 c)
  | .lnk => c == 14 || c == 15 || c == 16 || (decide (17 ≤ c) && Config.sbUser 2 c)
  | _ => false

/-- Domains switched on; their engines configure their balls (R36, log 114), and the segments that they reach are powered and cleared
where they were not retained (R296). -/
def domOn (ds : List Dom) (s : State) : State :=
  { s with pw.dom := s.pw.dom ||| BitVec.ofNat 14 (maskOf (ds.map Dom.bit))
           pw.seen := s.pw.seen ||| BitVec.ofNat 14 (maskOf (ds.map Dom.bit))
           pw.uncleared := s.pw.uncleared.filter (fun c => !ds.any (fun d => d.reaches c)) }

/-- Domains switched off; the device leaves Run-fast with SIG (R110), with TDC every channel is Off, a run in progress lost (R179,
Table 7.4), and with RF both `RF_CTL` lines are low and the synthesizer is unlocked (R332, R352). -/
def domOff (ds : List Dom) (s : State) : State :=
  { s with pw.dom := s.pw.dom &&& ~~~BitVec.ofNat 14 (maskOf (ds.map Dom.bit))
           pw.fast := s.pw.fast && !ds.contains .sig
           rad.ctl0 := s.rad.ctl0 && !ds.contains .rf, rad.ctl1 := s.rad.ctl1 && !ds.contains .rf
           r.rf.rfstatLock := s.r.rf.rfstatLock && !ds.contains .rf
           ch := s.ch.map (fun c => { c with st := if ds.contains .tdc then .off else c.st }) }

/-- A domain is on. -/
def State.isOn (s : State) (d : Dom) : Bool := s.pw.dom.getLsbD d.bit

/-- Operating (Run, Doze or Standby). -/
def State.operating (s : State) : Bool := s.phase == .operating

/-- Safe-beacon. -/
def State.safe (s : State) : Bool := match s.phase with | .safeBeacon _ => true | _ => false

/-- A start runs. -/
def State.starting (s : State) : Bool := match s.phase with | .cold _ | .hib _ => true | _ => false

/-- `GSTAT.STATE`: 1 cold start (held states of a start included), 2 Hibernate start, 3 operating, 4 safe-beacon,
5 halted by R49. -/
def Phase.code : Phase → Nat
  | .hib _ => 2 | .operating => 3 | .safeBeacon _ => 4 | .extest => 5 | _ => 1

/-- `STAGE.CURSTG`: the stage or step now running. -/
def Phase.curStage : Phase → Nat
  | .cold n => n | .hib n => 0x80 + n | .safeBeacon _ => 0xF0 | .off | .offByCommand | .testHold => 0
  | .romHalt => 2 | _ => 15

/-- The session of a port. -/
def Service.ses (v : Service) : Port → Session
  | .host => v.hst | .optical => v.opt

/-- One session changed. -/
def updSes (p : Port) (f : Session → Session) (s : State) : State :=
  match p with
  | .host => { s with sv.hst := f s.sv.hst }
  | .optical => { s with sv.opt := f s.sv.opt }

/-- The other port. -/
def Port.other : Port → Port
  | .host => .optical | .optical => .host

/-- A port holds service mode. -/
def State.service (s : State) (p : Port) : Bool := (s.sv.ses p).service

end Sys2Proof.Machine
end

