-- ==== Sys2Proof/Machine/Flash.lean ====
section
/-! DEFINITION. The layout of the Archive (R310, R311): its partitions and rings, the tag areas of their sectors (R313, R316), the
frames of SYSTEM (R323 to R325), and the operation that the controller carries out (R312, R314). -/

namespace Sys2Proof.Machine

/-! ## Sectors -/

/-- First sectors of the partitions of Table 12.6, in its order: sectors are numbered through them. -/
def partitionStarts : List Nat := [0, 24576, 25600, 29696, 31232, 32256]

/-- Partition of a sector, and its place there. -/
def partitionOf (sector : Nat) : Nat × Nat :=
  let p := (partitionStarts.filter (fun b => decide (b ≤ sector))).length - 1
  (p, sector - partitionStarts.getD p 0)

/-- The writer that programs and erases a sector (R312): the Registrar in PROFILE and in the full-record and audit rings, the Warden in
its area, the Curator elsewhere. -/
def sectorOwner (n : Nat) : ArcOwner :=
  if n < 24576 ∨ (24960 ≤ n ∧ n < 25600) then .registrar
  else if 32256 ≤ n ∧ n < 32272 then .warden
  else .curator

/-- First sector and sectors of an area: the minute, quarter-hour, event, full-record, audit and snapshot rings and the frame log. -/
def ringPlace (area : Nat) : Nat × Nat :=
  [(0, 24064), (24064, 512), (24576, 384), (24960, 512), (25472, 128), (29696, 1536), (25600, 4096)].getD area (0, 1)

/-- `TMAGIC` of an area (Table 12.7). -/
def ringMagic (area : Nat) : Nat := [0x5031, 0x5032, 0x4531, 0x4532, 0x4533, 0x534E, 0x4C47].getD area 0xFFFF

/-- Slots of a sector, of a snapshot group one; the frame log fills its sectors by size (R316, R319, R320, R321). -/
def ringSlots (area : Nat) : Nat := [341, 341, 170, 16, 16, 1].getD area 4096

/-- Sectors that are opened together: a snapshot group takes 4. -/
def ringUnit (area : Nat) : Nat := if area = 5 then 4 else 1

/-- Area of a sector, where it belongs to one. -/
def areaOf (sector : Nat) : Option Nat :=
  (List.range 7).find? (fun a => decide ((ringPlace a).1 ≤ sector ∧ sector < (ringPlace a).1 + (ringPlace a).2))

/-- The sector opened last in an area. -/
def headTag (area : Nat) (s : State) : Option SectorTag := (s.ar.tags.filter (fun t => t.area == area)).getLast?

/-- The sector, the first one of its group, that follows in an area, past those that are unusable (R327). -/
def nextSector (area after : Nat) (s : State) : Nat :=
  let (base, n) := ringPlace area
  let u := ringUnit area
  let place := fun (i : Nat) => base + (after - base + u * i) % n
  ((List.range (n / u)).map (fun i => place (i + 1))).find? (fun c =>
    (List.range u).all (fun i => !s.ar.unusable.contains (c + i))) |>.getD base

/-- The sector that an area opens next. -/
def openNext (area : Nat) (s : State) : Nat :=
  match headTag area s with
  | some t => nextSector area t.sector s
  | none => nextSector area ((ringPlace area).1 + (ringPlace area).2 - ringUnit area) s

/-- The civil minute of the next slot of a sector of minute or quarter-hour records (R316). -/
def nextMinute (unit : Nat) (t : SectorTag) : Nat := t.tstart / 3932160 + unit * t.slots.length

/-- The head of an area takes another record: it is open and has a free slot. -/
def headTakes (area : Nat) (s : State) : Bool :=
  (headTag area s).any (fun t => !t.closed && decide (t.slots.length < ringSlots area))

/-- Bytes that an entry of the cluster store takes (Table 14.8). -/
def CsEntry.size (e : CsEntry) : Nat := 28 + 4 * ceilDiv e.payload.length 4

/-! ## The job of the controller -/

/-- The area of a job's record; full records by their kind (R320). -/
def ArcJob.area : ArcJob → Option Nat
  | .minuteRec _ => some 0
  | .quarterRec _ => some 1
  | .event _ => some 2
  | .fullRec a => some (if ([3, 4, 5, 9, 0xA] : List Nat).contains a.kind then 4 else 3)
  | .snapshot _ => some 5
  | .entry _ _ => some 6
  | _ => none

/-- The writer of a job (R312). -/
def ArcJob.owner : ArcJob → ArcOwner
  | .minuteRec _ | .fullRec _ | .quarterRec _ => .registrar
  | .eraseSector n => sectorOwner n
  | .ledger | .sealedSlot => .warden
  | _ => .curator

/-- A job is an erase. -/
def ArcJob.erases : ArcJob → Bool
  | .eraseSector _ => true
  | _ => false

/-- A job programs a record, which the erase that it makes room by does not. -/
def ArcJob.programs (j : ArcJob) : Bool := !j.erases

/-- A job whose bytes carry no state of R314: those of a patch bank. -/
def ArcJob.plain : ArcJob → Bool
  | .patch _ _ _ => true
  | _ => false

/-- What the operation is (`ARCSTAT.OP`, R314). -/
def ArcRun.op (r : ArcRun) : ArcOp :=
  if r.job.erases then .erase
  else if r.job.plain then .program
  else if r.step = 0 ∨ r.ops < r.step then .stateProgram
  else .program

/-- What the controller does. -/
def arcOp (s : State) : ArcOp := match s.ar.run with | some r => r.op | none => .idle

/-- An erase is suspended (`ARCSTAT.SUSP`). -/
def eraseSuspended (s : State) : Bool := s.ar.paused.any (fun r => r.job.erases)

/-- The first record of an area needs a sector to be opened (R316): there is none, it is full or closed, or the record is of another
minute than the next slot. -/
def needsOpen (j : ArcJob) (s : State) : Bool :=
  match j.area with
  | none => false
  | some a =>
    !headTakes a s || (match j, headTag a s with
      | .minuteRec m, some t => nextMinute 1 t != m.minute
      | .quarterRec m, some t => nextMinute 15 t != m.minute
      | .entry _ size, some t => decide (4096 < t.used + size)
      | _, _ => false)

/-- A record waits for the erase of the sector that it opens. -/
def awaitsErase (j : ArcJob) (s : State) : Bool :=
  needsOpen j s && (match j.area with
    | some a => s.ar.jobs.contains (.eraseSector (openNext a s))
    | none => false)

/-! ## Frames -/

/-- Bytes that the frames of a sector take. -/
def FrameSector.used (x : FrameSector) : Nat := (x.frames.map (·.len)).sum

/-- The frames of one object. -/
def framesOf (obj sub : Nat) (l : List FrameSector) : List Frame :=
  (l.flatMap (·.frames)).filter (fun f => f.obj == obj && f.sub == sub)

/-- The version that the next frame of an object carries (Table 12.10). -/
def nextVer (obj sub : Nat) (l : List FrameSector) : Nat := maxL ((framesOf obj sub l).map (·.ver)) + 1

/-- The current frame of an object: the newest committed one by `FVER`, the later copy of two (R323). -/
def currentFrame (obj sub : Nat) (l : List FrameSector) : Option (Nat × Frame) :=
  (l.flatMap (fun x => (x.frames.filter (fun f => f.obj == obj && f.sub == sub && f.state == .committed)).map (fun f => (x.sector, f)))).foldl
    (fun b f => match b with | some g => if g.2.ver ≤ f.2.ver then some f else b | none => some f) none

/-- The live frames of a sector: those that are the current value of their object. -/
def liveFrames (x : FrameSector) (l : List FrameSector) : List Frame :=
  x.frames.filter (fun f => f.state == .committed && (currentFrame f.obj f.sub l).any (fun g => g.1 == x.sector && g.2.ver == f.ver))

/-- Erased sectors of a frame area: neither holding frames, nor unusable, nor awaiting an erase. -/
def freeSectors (base n : Nat) (l : List FrameSector) (s : State) : List Nat :=
  ((List.range n).map (base + ·)).filter (fun c =>
    !l.any (fun x => x.sector == c) && !s.ar.unusable.contains c && !s.ar.jobs.contains (.eraseSector c))

/-- Erase count of a sector. -/
def eraseCount (sector : Nat) (s : State) : Nat := ((s.ar.erases.find? (fun x => x.1 == sector)).map (·.2)).getD 0

/-- The free sector with the fewest erases, the lowest of equal ones (R326, log 148). -/
def leastErased (l : List Nat) (s : State) : Option Nat :=
  l.foldl (fun b c => match b with | some x => if eraseCount c s < eraseCount x s then some c else b | none => some c) none

/-- A frame begins in the newest sector of a frame area, or in a free one where it does not fit or the newest is closed (R323, R325). -/
def placeFrame (f : Frame) (base n : Nat) (l : List FrameSector) (s : State) : List FrameSector :=
  match l.getLast? with
  | some x =>
    if !x.closed && decide (x.used + f.len ≤ 4096) then l.dropLast ++ [{ x with frames := x.frames ++ [f] }]
    else (match leastErased (freeSectors base n l s) s with
      | some c => l ++ [{ sector := c, frames := [f] }]
      | none => l)
  | none => (match leastErased (freeSectors base n l s) s with
      | some c => l ++ [{ sector := c, frames := [f] }]
      | none => l)

/-- The newest frame of an object is committed. -/
def sealFrame (obj sub : Nat) (l : List FrameSector) : List FrameSector :=
  let v := maxL ((framesOf obj sub l).map (·.ver))
  match l.getLast? with
  | some x => l.dropLast ++ [{ x with frames := x.frames.map (fun f =>
      if f.obj = obj ∧ f.sub = sub ∧ f.ver = v then { f with state := .committed } else f) }]
  | none => l

/-- The Warden area: 16 sectors from 32256 (Table 12.6). -/
def wardenPlace : Nat × Nat := (32256, 16)

/-- The object log: 445 sectors from 32323. -/
def logPlace : Nat × Nat := (32323, 445)

/-- Length on the die of a frame with a payload: header and `FCRC`, padded to 16 bytes (R323, R325, R487). -/
def frameLen (payload : Nat) : Nat := 16 * ceilDiv (16 + 4 * ceilDiv payload 4 + 4) 16

/-- Program operations of a body of so many bytes (Table 12.5a, R488). -/
def bodyOps (bytes : Nat) : Nat := max 1 (ceilDiv bytes 256)

/-- A frame of the Warden area, written at once in a guaranteed operation, or by its item (R325). -/
def wardenFrame (obj payload : Nat) (state : SlotState) (s : State) : State :=
  { s with ar.warden := placeFrame { obj, ver := nextVer obj 0 s.ar.warden, mono := tlmono s, len := frameLen payload, state }
                          wardenPlace.1 wardenPlace.2 s.ar.warden s }

/-- Erased bytes of the Warden area: the free sectors and the rest of the newest one. -/
def wardenErased (s : State) : Nat :=
  4096 * (freeSectors wardenPlace.1 wardenPlace.2 s.ar.warden s).length
    + (match s.ar.warden.getLast? with | some x => if x.closed then 0 else 4096 - x.used | none => 0)

/-- The Warden must erase a superseded sector: less erased space than two sealed-slot frames and one ledger-record frame
(R325). -/
def wardenEraseDue (s : State) : Bool := decide (wardenErased s < 2 * frameLen 256 + frameLen 628)

/-- The oldest Warden-area sector whose frames have all been superseded (R325); the newest one takes frames still. -/
def wardenVictim (s : State) : Option Nat :=
  ((s.ar.warden.dropLast).find? (fun x => (liveFrames x s.ar.warden).isEmpty)).map (·.sector)

end Sys2Proof.Machine
end

