-- ==== Sys2Proof/Machine/Seats.lean ====
section
/-! DEFINITION. The AON monitor and the Chairlift: sampling (R122, R125, R146), requests, evaluation, admission, drops
and releases (R128 to R132), and what an admission or a drop does to the unit that asked. -/

namespace Sys2Proof.Machine

/-! ## The AON monitor -/

/-- `VRES_LOW` − 300 mV, the abort level of R125. -/
def abortLevel (s : State) : Nat := s.cat.chair.vresLow - 300

/-- Units that hold seats, as a bit mask. -/
def heldMask (s : State) : Nat := maskOf (s.cl.held.map (·.unit))

/-- VRES below `VRES_LOW` with a seat held: 0x0102 once per excursion, `VRESLOWCNT` (R125). -/
def checkVresLow (vres : Nat) (s : State) : State :=
  if s.cat.chair.vresLow ≤ vres then { s with pw.lowSeen := false }
  else if s.pw.lowSeen || s.cl.held.isEmpty then s
  else { s with pw.lowSeen := true, r.pwr.vreslowcnt := inc16 s.r.pwr.vreslowcnt, ln.lowSeenAt := some (tlmono s) }
        |> logEvent 0x0102 [(heldMask s : Int)]

/-- Emissive fall-back is armed below `TGLASS` or on a glass failure, disarmed 3 °C above (R405). -/
def checkFallback (s : State) : State :=
  if s.cat.disp.dtype != .glass then { s with dp.fallback := false }
  else if dieTemp s < s.cat.disp.tglass * 10 ∨ s.r.dsp.dspstatGlassfail = true then { s with dp.fallback := true }
  else if dieTemp s ≥ s.cat.disp.tglass * 10 + 30 then { s with dp.fallback := false }
  else s

/-- The die temperature has moved 2 K since the last LPRC calibration (R149). -/
def checkLprc (s : State) : State :=
  if (dieTemp s - s.ck.lprcTemp).natAbs ≥ 20 then { s with ck.lprcDue := true } else s

/-- Die temperature has moved by `CALDT` or more from `TDCCALTEMP` (R182). -/
def movedCaldt (s : State) : Bool := decide (s.cat.tdc.caldt * 10 ≤ (dieTemp s - s.r.tdc.tdccaltemp.toInt).natAbs)

/-- A sample shows the move of R182, which the one before it did not: a calibration is requested, merged with one that waits or
runs, and held until the end of a start. Before the first calibration there is no temperature to move from (log 132). -/
def checkCaldt (before s : State) : State :=
  if movedCaldt s && !movedCaldt before && s.r.tdc.tdccalok != 0 && (s.operating || s.starting) && !s.cal.run && s.cal.wait.isNone then
    { s with cal.wait := some 3 }
  else s

/-- One sample of the AON monitor (R122, R125, R146). -/
def sample (x : Sample) (s : State) : State :=
  segmented (fun s =>
    { s with r.pwr.vbatmv := BitVec.ofNat 16 x.vbat
             r.pwr.vresmv := BitVec.ofNat 16 x.vres
             r.pwr.vresmin := BitVec.ofNat 16 (min x.vres s.r.pwr.vresmin.toNat)
             r.clk.dietemp := BitVec.ofInt 16 x.temp }) s
    |> checkVresLow x.vres |> checkFallback |> checkLprc |> checkCaldt s
    |> fun s =>
      if abortLevel s ≤ x.vres then { s with pw.aboveAbort := true, cl.held := s.cl.held.map (fun y => { y with above := true }) }
      else { s with pw.aboveAbort := false }

/-! ## The Chairlift -/

/-- Priority of a unit (Table 5.6). -/
def unitPriority : Nat → Nat
  | 0 | 1 | 2 => 1
  | 3 => 2
  | 4 => 3
  | 5 => 4
  | 6 => 5
  | 7 => 6
  | _ => 7

/-- Last VBAT and VRES samples, mV. -/
def vbat (s : State) : Nat := s.r.pwr.vbatmv.toNat

/-- Last VRES sample, mV. -/
def vres (s : State) : Nat := s.r.pwr.vresmv.toNat

/-- The floor f of R129 for a unit. -/
def seatFloor (u : Nat) (s : State) : Nat :=
  if u ≤ 2 then min s.cat.chair.vresLow (vbat s - 200) else s.cat.chair.vresLow

/-- Capacitance in use (R127), in 10^−5 of 0.1 mF: C_est as it was computed, or `CRES`. -/
def cres (s : State) : Nat := if s.cl.cest = 0 then s.cat.chair.cres * 100000 else s.cl.cest

/-- free of R129, 0.1 mA; a commit that runs counts as a held seat of 5 mA (R128). -/
def seatFree (s : State) : Nat :=
  s.cat.chair.ibatlim - ((s.cl.held.map (·.cls)).sum + (if s.cl.commit.isSome then 50 else 0))

/-- Charge that a seat may still draw from the reservoir, in 0.1 nC (0.1 mA × 1 µs). -/
def outstanding (now : Nat) (x : Seat) : Nat := x.excess * (x.hold - (now - x.at_))

/-- The commit that runs as a seat (R128): 5 mA for 2.3 ms. -/
def commitOutstanding (s : State) : Nat :=
  match s.cl.commit with
  | some (t, e) => outstanding s.now { unit := 1, cls := 50, hold := 2300, at_ := t, excess := e }
  | none => 0

/-- q of R129 for a unit, in pC (1 mV × 10^−5 of 0.1 mF). -/
def seatCharge (u : Nat) (s : State) : Nat := cres s * (min (vres s) s.cat.chair.vresOk - seatFloor u s)

/-- avail of R129 for a unit, in pC. -/
def seatAvail (u : Nat) (s : State) : Int :=
  (seatCharge u s : Int) - ((100 * ((s.cl.held.map (outstanding s.now)).sum + commitOutstanding s) : Nat) : Int)

/-- Demand d of R129, in pC. -/
def seatDemand (x : Seat) (s : State) : Nat := 100 * ((x.cls - seatFree s) * x.hold)

/-- `CLAVAIL`: avail in µC, floored at 0 (Table 5.8); how the fraction of a µC is rounded is open (log 5). -/
def clAvail (av : Int) : BitVec 16 := sat 16 (roundOpen ((max 0 av : Int) / 1000000 : Rat)).toNat

/-- The order of the queue: priority, then the earlier deadline, then the earlier request (R129). -/
def seatBefore (a b : Seat) : Bool :=
  let key := fun (x : Seat) => (unitPriority x.unit, (match x.deadline with | some d => d | none => 2 ^ 80), x.order)
  let (p, d, o) := key a
  let (p', d', o') := key b
  decide (p < p') || (p == p' && (decide (d < d') || (d == d' && decide (o < o'))))

/-- Head of a queue. -/
def seatHead : List Seat → Option Seat
  | [] => none
  | x :: xs => some (xs.foldl (fun b y => if seatBefore y b then y else b) x)

/-- A measurement of the Piste holds its seat. -/
def measureSeat (s : State) : Bool :=
  s.cl.held.any (fun x => match x.work with
    | .shots _ | .zeroCheck _ | .temperature _ | .pressure _ => true
    | _ => false)

/-- Requests that the Warden puts before the Chairlift: a calibration is placed only after the measurement's seat has been
released (R26). -/
def placedSeats (s : State) : List Seat := if measureSeat s then s.cl.waiting.filter (fun x => decide (x.unit < 8)) else s.cl.waiting

/-- A unit has a request waiting or a seat held. -/
def hasSeat (u : Nat) (s : State) : Bool := s.cl.waiting.any (·.unit == u) || s.cl.held.any (·.unit == u)

/-- A unit holds a seat. -/
def holds (u : Nat) (s : State) : Bool := s.cl.held.any (·.unit == u)

/-- What a unit holds its seat for. -/
def heldWork (u : Nat) (s : State) : Option Work := (s.cl.held.find? (·.unit == u)).map (·.work)

/-! ## What an admission and a drop do -/

/-- `FAULT` of a port's last check. -/
def portFault (n : Nat) (s : State) : Nat := (vget s.r.port n {}).xdpstatFault.toNat

/-- A path is withheld while a port of it carries `FAULT` 1 to 4 (R448). -/
def withheldPath (k : Nat) (s : State) : Bool :=
  ([2 * k, 2 * k + 1] : List Nat).any (fun n => decide (1 ≤ portFault n s ∧ portFault n s ≤ 4))

/-- Paths of an ARG mask that may be fired: configured and not withheld. -/
def firePaths (mask : Nat) (s : State) : List Nat :=
  (List.range 4).filter (fun k => mask.testBit k && s.cat.hasPath k && !withheldPath k s)

/-- Boost target of R193, mV, for the paths of a step. -/
def boostTarget (ks : List Nat) (s : State) : Nat :=
  max (maxL (ks.map (fun k => (s.cat.pathRec k).vdrvset)) * 100) (vres s + 200)

/-- The TDC domain is switched on: every channel that was Off is Idle (Table 7.4). -/
def tdcIdle (s : State) : State :=
  domOn [.tdc] { s with ch := s.ch.map (fun c => if c.st == .off then { c with st := .idle } else c) }

/-- A channel's tables are loaded into the engine, and their CRC checked (R187): one that fails is replaced by the copy of Archive
SYSTEM, with event 0x0304; no table where that copy fails too. -/
def loadTable (s : State) (n : Nat) : State :=
  let c := vget s.ch n {}
  match c.table with
  | none => s
  | some t =>
    if tdcCrc t = c.crc then s
    else
      let good := c.copy.any (fun u => tdcCrc u == c.copyCrc)
      { s with ch := vupd s.ch n (fun c => { c with table := if good then c.copy else none, crc := c.copyCrc }) }
        |> logEvent 0x0304 [(n : Int), if good then 0 else 1]

/-- `ASSIGN` code of a channel. -/
def assignCode (n : Nat) (s : State) : Nat := (s.cat.tdc.assign >>> (2 * n)) % 4

/-- A channel has lost the tables it held: a code-0 or code-1 channel, or one that has passed since the cold start (R187). -/
def tableLost (s : State) (n : Nat) : Bool :=
  let c := vget s.ch n {}
  (decide (assignCode n s ≤ 1) || decide (0 < c.lastPass)) && c.table.isNone

/-- The TDC domain is switched on for work on a calibrated engine: every channel's tables are loaded, and where the Archive copy of
one fails too a calibration is requested at once (R187). -/
def tdcUp (s : State) : State :=
  let s := ([0, 1, 2, 3] : List Nat).foldl loadTable (tdcIdle s)
  if (List.range 4).any (tableLost s) && s.cal.wait.isNone && !s.cal.run && s.operating then { s with cal.wait := some 7 } else s

/-- The TDC domain is switched off: a run in progress is lost (Table 7.4). -/
def tdcDown (s : State) : State := domOff [.tdc] s

/-- Run-fast (R110): +0.3 V forward bias on SIG, then the Signal core clock above 96 MHz (192 MHz, Table 6.2); as one step, the
10 µs of settling included. -/
def runFast (s : State) : State := { s with pw.fast := true }

/-- The Signal core clock is at 96 MHz or below again, then the bias is removed (R110). -/
def runNormal (s : State) : State := { s with pw.fast := false }

/-- A step of shots begins: domains, boost (R192, R193), and an empty set of pairs. -/
def beginShots (step : Nat) (s : State) : State :=
  let ks := firePaths (s.cat.step step).arg s
  let due := ((s.ps.waiting.find? (fun w => w.1 == step)).map (·.2)).getD s.now
  { s with ps.run := some { step, due, fast := s.ps.fast }
           ps.waiting := s.ps.waiting.filter (fun w => w.1 != step)
           r.drv.xdstatBooston := !ks.isEmpty
           r.drv.xdstatVdrvok := false
           r.drv.vdrvtgt := if ks.isEmpty then s.r.drv.vdrvtgt else sat 16 (boostTarget ks s)
           path := s.path.map (fun p => { p with pairs := [], fired := [], retried := [], snapUp := none, snapDown := none }) }
    |> domOn [.sig, .tx, .rx] |> runFast |> tdcUp

/-- A measurement of temperature or pressure leaves the list of waiting steps. -/
def beginStep (step : Nat) (s : State) : State :=
  let due := ((s.ps.waiting.find? (fun w => w.1 == step)).map (·.2)).getD s.now
  { s with ps.run := some { step, due, fast := s.ps.fast }, ps.waiting := s.ps.waiting.filter (fun w => w.1 != step) }

/-- A record is queued in its writer's RAM for programming (R486). -/
def addJob (j : ArcJob) (s : State) : State := { s with ar.jobs := s.ar.jobs ++ [j] }

/-- A job is already queued. -/
def hasJob (j : ArcJob) (s : State) : Bool := s.ar.jobs.contains j

/-- An object of the SYSTEM object log is to be written (R323), once. -/
def writeObject (id : Nat) (s : State) : State := if hasJob (.object id) s then s else addJob (.object id) s

/-- Jobs of one writer. -/
def jobsOf (o : ArcOwner) (s : State) : List ArcJob := s.ar.jobs.filter (fun j => j.owner == o)

/-- A result waits for the Registrar, or a seal or its erase is incomplete: the REG domain is on (R20, R452). -/
def registrarBusy (s : State) : Bool :=
  !s.fl.slots.isEmpty || !(jobsOf .registrar s).isEmpty || (s.ar.run.toList ++ s.ar.paused).any (fun r => r.owner == .registrar)

/-- What a writer does next: what it has begun and what was interrupted; the first job of its queue, past which the erase goes that the
job's record waits for, with the quarter-hour records that must be written before it (R317, R318); the oldest queued event. -/
def nextRun (o : ArcOwner) (s : State) : Option ArcRun :=
  match s.ar.paused.find? (fun r => r.owner == o) with
  | some r => some r
  | none =>
    let js := jobsOf o s
    let free := js.find? (fun j => !awaitsErase j s && (j.erases || (match j with | .quarterRec _ => true | _ => false)))
    let job := match js.head? with
      | some j => if awaitsErase j s then some (free.getD j) else some j
      | none => if o = ArcOwner.curator then s.evq.head?.map ArcJob.event else none
    job.map (fun j => { job := j, owner := o, step := if j.plain then 1 else 0 })

/-- The next operation of a writer is an erase. -/
def nextErases (o : ArcOwner) (s : State) : Bool := (nextRun o s).any (fun r => r.job.erases)

/-- An accession record, a ledger record or a guaranteed commit is to be programmed: a suspended erase of the Curator resumes only
after it (R312). -/
def accessionDue (s : State) : Bool :=
  s.cl.commit.isSome || s.ar.ledgerDue || (jobsOf .registrar s).any (fun j => j.programs)
    || s.ar.paused.any (fun r => r.owner == .registrar && r.job.programs)

/-- The controller takes up an operation. -/
def takeRun (r : ArcRun) (s : State) : State :=
  { s with ar.run := some r, ar.paused := s.ar.paused.filter (fun x => x.job != r.job) }

/-- The idle controller takes up a Warden commit that runs, before all else; then the work whose seat is held: the accession record
first, then the Warden's, then what the Curator programs or erases (R17, R312). -/
def startOps (s : State) : State :=
  if s.ar.run.isSome then s
  else if s.cl.commit.isSome then takeRun { job := .sealedSlot, owner := .warden } s
  else
    let next := fun (o : ArcOwner) => match nextRun o s with | some r => takeRun r s | none => s
    match heldWork 1 s, heldWork 5 s with
    | some .seal, _ => next .registrar
    | some .ledger, _ => takeRun { job := .ledger, owner := .warden } s
    | some .wardenErase, _ =>
      (match s.ar.paused.find? (fun r => r.owner == .warden), wardenVictim s with
       | some r, _ => takeRun r s
       | none, some c => takeRun { job := .eraseSector c, owner := .warden } s
       | none, none => s)
    | _, some .archive => if nextErases .curator s && eraseSuspended s && accessionDue s then s else next .curator
    | _, _ => s

/-- The operation under way stops where it stands, with its seat's end, with a reset or for a Warden commit (R312, R486): an erase is
suspended, which `ARCSUSPCNT` counts; a record keeps its step. -/
def pauseRun (s : State) : State :=
  match s.ar.run with
  | none => s
  | some r =>
    let s := { s with ar.run := none, ar.paused := s.ar.paused ++ [r] }
    if r.job.erases then { s with r.mem.arcsuspcnt := inc16 s.r.mem.arcsuspcnt } else s

/-- A guaranteed commit begins (R128): ARC is switched on without a seat (R18), and the commit counts as a held seat of 5 mA,
its demand by R129 at this moment. An erase in progress is suspended for it, and a program in progress completes first (R312). -/
def beginCommit (s : State) : State :=
  let s := { domOn [.arc] s with cl.commit := some (s.now, 50 - seatFree s) }
  startOps (if arcOp s == .erase then pauseRun s else s)

/-- Domains that a start-up stage works with (Table 4.1). -/
def stageDoms (n : Nat) : List Dom :=
  match n with
  | 3 | 4 | 5 | 7 => [.cur]
  | 6 => [.cur, .arc]
  | 8 => [.cur, .mod]
  | 9 => [.cur, .vit, .tdc]
  | 10 => [.cur, .sig, .tdc]
  | 11 => [.cur, .sig, .tx, .rx, .tdc]
  | 12 => [.cur, .sig, .tmp, .tdc]
  | 13 => [.cur, .rf, .lnk]
  | 14 => [.cur, .reg]
  | _ => []

/-- Stage whose domains a Hibernate step works with (Table 4.3 beside Table 4.1). -/
def stepStage (n : Nat) : Nat :=
  match n with
  | 4 => 6 | 6 => 8 | 7 => 10 | 8 => 11 | 9 => 12 | 10 => 13 | 11 => 14 | n => if n ≤ 5 then 3 else 15

/-- Supplies of the module ports that a list names on, the others as they were (R44). -/
def portsOn (ns : List Nat) (s : State) : State :=
  { s with mp := Vector.ofFn (fun (n : Fin 7) => { s.mp[n] with vson := s.mp[n].vson || ns.contains n.val }) }

/-- Every module port's supply off (R37). -/
def portsOff (s : State) : State := { s with mp := s.mp.map (fun m => { m with vson := false }) }

/-- The Vitrine is switched on and its heater driven (Table 6.3 step V1). -/
def beginVitrine (s : State) : State := { s with ck.run := some { on := s.tl.monoUs } } |> domOn [.vit]

/-- What a start-up stage, or a Hibernate step by its code 0x81 to 0x8B, switches on with its seat: its domains (Table 4.1), every
module port at stage 8 (R74), the Vitrine at stage 9 and the engine's channels; step H6 does the work of stages 8 and 9. -/
def beginStageWork (n : Nat) (s : State) : State :=
  if 0x80 < n then
    let s := domOn (stageDoms (stepStage (n - 0x80))) { s with start.wait := .none }
    match n - 0x80 with
    | 6 => s |> portsOn (List.range 7) |> tdcIdle |> beginVitrine
    | 7 | 8 | 9 => tdcIdle s
    | _ => s
  else
    let s := domOn (stageDoms n) { s with start.wait := .none }
    match n with
    | 8 => portsOn (List.range 7) s
    | 9 => s |> tdcIdle |> beginVitrine
    | 10 | 11 | 12 => tdcIdle s
    | _ => s

/-- The unit's work begins with its seat. The Signal core wakes with the measurements it evaluates, the Link core with the
frames it sends itself, and the Curator with the work that is its own (R15, R19, R20). -/
def onAdmit (w : Work) (s : State) : State :=
  match w with
  | .startStage n => beginStageWork n s
  | .seal | .ledger | .wardenErase => s |> domOn [.arc] |> startOps
  | .archive => s |> domOn [.cur, .arc] |> startOps
  | .shots n | .zeroCheck n => beginShots n s
  | .temperature n =>
    { beginStep n s with tp.got := [], tp.open_ := false } |> domOn [.tmp, .sig] |> tdcUp
  | .pressure n => beginStep n s |> portsOn [3] |> domOn [.cur, .mod]
  | .moduleCheck => s |> portsOn ((List.range 7).filter (fun n => (s.cat.modRec n).isSome)) |> domOn [.cur, .mod]
  | .receive _ => s |> domOn [.rf, .lnk]
  | .display => s |> domOn [.cur, .dsp]
  | .bistable _ => { s with dp.railsOk := true } |> domOn [.cur, .dsp]
  | .emissive => { s with dp.emDriving := true, dp.emBlink := false } |> domOn [.cur, .dsp]
  | .service => s |> domOn [.cur]
  | .transmit .fault | .transmit .alarm => s |> domOn [.rf]
  | .transmit _ => s |> domOn [.rf, .lnk]
  | .vitrine => s |> tdcUp |> beginVitrine
  | .tdcCal =>
    let s := tdcUp s
    let cause := s.cal.wait.getD 0
    { s with cal.run := true, cal.blocks := 0, cal.abandoned := 0
             r.tdc.tdccalAbandon := 0
             r.tdc.tdccalCause := BitVec.ofNat 4 cause
             r.tdc.tdccalRetry := if cause = 5 then BitVec.ofNat 4 (min 3 (s.r.tdc.tdccalRetry.toNat + 1)) else 0
             cal.wait := none
             ch := s.ch.map (fun c => { c with st := if c.st == .idle then .calibrating else c.st,
                                               hist := ⟨List.replicate 64 0, List.replicate 25 0, 0⟩ }) }
      |> domOn [.sig]
  | .other => s

/-- The unit is told that its request was dropped (R131). -/
def onDrop (w : Work) (s : State) : State :=
  match w with
  | .shots n | .zeroCheck n | .temperature n | .pressure n =>
    { s with ps.waiting := s.ps.waiting.filter (fun x => x.1 != n) }
  | .emissive => { s with r.dsp.emwait := inc16 s.r.dsp.emwait }
  | .vitrine => { s with ck.run := none }
  | .tdcCal => { s with cal.wait := none }
  | _ => s

/-- A request leaves the queue as dropped: `CLMISS`, `CLDROP`, and its unit told (R131). -/
def dropRequest (x : Seat) (reason : Nat) (s : State) : State :=
  { s with cl.waiting := s.cl.waiting.filter (fun y => y.order != x.order)
           cl.told := x.work :: s.cl.told
           r.pwr.clmiss := vupd s.r.pwr.clmiss x.unit inc16
           r.pwr.cldropUnit := BitVec.ofNat 4 x.unit
           r.pwr.cldropReason := BitVec.ofNat 4 reason }
    |> onDrop x.work

/-- A waiting request whose deadline has passed (R131). -/
def Seat.late (now : Nat) (x : Seat) : Bool := x.deadline.any (fun d => decide (d < now))

/-- Requests whose deadline has passed before they were admitted are dropped (R131); of a start-up stage's, which its stage is told,
STAGE_SEAT_TIMEOUT and SEAT_DEADLINE_DROP tell. -/
def dropLate (s : State) : State :=
  (s.cl.waiting.filter (fun x => x.unit != 0 && x.late s.now)).foldl (fun s x => dropRequest x 1 s) s

/-- One evaluation of R129 (R130: at most one admission each 20 µs, so an evaluation admits at most once); none admits a request
whose deadline has passed (R131). -/
def evaluate (s : State) : State := head (dropLate s)
where
  /-- The head of the queue is looked at. -/
  head (s : State) : State :=
    match seatHead ((placedSeats s).filter (fun x => !x.late s.now)) with
    | none => { s with r.pwr.clfree := sat 16 (seatFree s) }
    | some x =>
      match s.cl.lastAdm with
      | some t => if s.now < t + 20 then s else go x s
      | none => go x s
  /-- The head is admitted, or keeps waiting. -/
  go (x : Seat) (s : State) : State :=
    let av := seatAvail x.unit s
    let s' := { s with r.pwr.clavail := clAvail av, r.pwr.clfree := sat 16 (seatFree s) }
    if (seatDemand x s : Int) ≤ av then
      { s' with cl.waiting := s.cl.waiting.filter (fun y => y.order != x.order)
                cl.held := { x with at_ := s.now, excess := x.cls - seatFree s, above := s.pw.aboveAbort } :: s.cl.held
                cl.lastAdm := some s.now }
        |> onAdmit x.work
    else s'

/-- Whether a request could never be admitted (R131). -/
def oversize (u cls hold : Nat) (s : State) : Bool :=
  decide ((cls - s.cat.chair.ibatlim) * hold > s.cat.chair.cres * 1000 * (s.cat.chair.vresOk - seatFloor u s))

/-- A unit's request joins the queue (R128), or is dropped at once (R131); a unit that has one waiting or held requests no
other. -/
def postSeat (u cls hold : Nat) (deadline : Option Nat) (w : Work) (s : State) : State :=
  if hasSeat u s then s
  else
    let x : Seat := { unit := u, cls, hold, deadline, at_ := s.now, order := s.cl.order, work := w }
    let s := { s with cl.order := s.cl.order + 1 }
    if oversize u cls hold s then
      dropRequest x 2 s |> logEvent 0x0104 [(u : Int), (cls / 10 : Nat), ((hold % 65536 : Nat) : Int), (hold / 65536 : Nat)]
    else { s with cl.waiting := s.cl.waiting ++ [x] }

/-- The requests that `f` makes fall in one cycle: one evaluation follows over all of them (R129, R485). -/
def requestsTogether (f : State → State) (s : State) : State :=
  let t := f s
  if t.cl.order = s.cl.order then t else evaluate t

/-- A request that is alone in its cycle (R129). -/
def requestSeat (u cls hold : Nat) (deadline : Option Nat) (w : Work) (s : State) : State :=
  requestsTogether (postSeat u cls hold deadline w) s

/-- A unit releases its seat: its class and its demand leave the sums, and the queue is evaluated at once (R130, R132).
The Warden may choose the next state (R112). -/
def releaseSeat (u : Nat) (s : State) : State :=
  if holds u s then
    evaluate { s with cl.held := s.cl.held.filter (fun x => x.unit != u), pw.choose := true }
  else s

/-- Longest hold of a seat, up to `want` µs, that is not oversize for the unit (R131). -/
def fitHold (u cls want : Nat) (s : State) : Nat :=
  let excess := cls - s.cat.chair.ibatlim
  if excess = 0 then want else min want (s.cat.chair.cres * 1000 * (s.cat.chair.vresOk - seatFloor u s) / excess)

/-- Hold of a 5 mA erase seat: 100 ms, or the longest that is not oversize (R486). -/
def eraseHold (u : Nat) (s : State) : Nat := fitHold u 50 100000 s

/-! ## Unit 6: the display and the Curator's service -/

/-- Unit 6 gives up its service seat, or the request for one, to display work: it has one seat at a time (R128), and the Curator
serves the ports under either. -/
def yieldService (s : State) : State :=
  if heldWork 6 s == some .service then releaseSeat 6 s
  else { s with cl.waiting := s.cl.waiting.filter (fun x => x.work != .service) }

/-- Display work asks for the seat of unit 6. -/
def displaySeat (cls hold : Nat) (w : Work) (s : State) : State := requestSeat 6 cls hold none w (yieldService s)

/-- The Curator's service of a port or of the keys asks for the seat of unit 6 (R128): class 5 mA, 40 ms at a time (log 78). -/
def serviceSeat (s : State) : State := requestSeat 6 50 (fitHold 6 50 40000 s) none .service s

/-- Work of the Curator, for which its domain is on. -/
def Work.curator : Work → Bool
  | .startStage _ | .archive | .display | .service | .bistable _ | .emissive | .moduleCheck | .pressure _ | .vitrine => true
  | _ => false

/-- CUR is off while none of the Curator's work holds a seat and no calibration waits for its step V8 (R18, R20). -/
def restCurator (s : State) : State :=
  if s.cl.held.any (fun x => x.work.curator) || s.ck.run.isSome then s else domOff [.cur] s

end Sys2Proof.Machine
end

