-- ==== Sys2Proof/Machine/Panel.lean ====
section
/-! DEFINITION. The display: the module's map (R396, R408, R436), rendering (R398, R414), the bistable regions and their
park (R409 to R412), and the read-back (R413). -/

namespace Sys2Proof.Machine

/-! ## The map -/

/-- Sections of a display map: ID and data; none when a length runs past the end. -/
def mapSections : Nat → List Byte → Option (List (Nat × List Byte))
  | 0, _ => some []
  | fuel + 1, bs =>
    if bs.length < 4 then some []
    else if u8 bs 0 = 0 then some []
    else
      let n := u16 bs 2
      if bs.length < 4 + n then none
      else (mapSections fuel (bs.drop (4 + n))).map ((u8 bs 0, slice bs 4 n) :: ·)

/-- A waveform set from its 84 bytes (Table 15.2). -/
def parseSet (d : List Byte) : WaveformSet :=
  { wtmax := i8 d 0
    trans := (List.range 4).map (fun t =>
      let o := 4 + 20 * t
      { phases := (List.range (u8 d o)).map (fun i => (u8 d (o + 4 + i) / 64, u8 d (o + 4 + i) % 64)),
        commit := u8 d (o + 1) }) }

/-- Net drive of a transition in 10 ms (R408). -/
def netDrive (ps : List (Nat × Nat)) : Int :=
  ps.foldl (fun a p => if p.1 = 1 then a + p.2 else if p.1 = 2 then a - p.2 else a) 0

/-- Total duration of a transition, 10 ms. -/
def totalTicks (ps : List (Nat × Nat)) : Nat := (ps.map (·.2)).sum

/-- A transition obeys R408. -/
def transitionOk (t : WaveformTransition) : Bool :=
  netDrive t.phases == 0 && decide (totalTicks t.phases ≤ 400) && t.phases.all (fun p => p.1 != 3 && decide (1 ≤ p.2))
    && decide (t.phases.length ≤ 16) && decide (t.commit ≤ t.phases.length)

/-- First set and transition that R408 rejects. -/
def badTransition (sets : List WaveformSet) : Option (Nat × Nat) :=
  ((List.range sets.length).flatMap (fun i => (List.range 4).map (fun t => (i, t)))).find? (fun x =>
    match sets[x.1]? with
    | some w => !(transitionOk (w.trans.getD x.2 ⟨[], 0⟩))
    | none => false)

/-- Segment numbers that a display type has (R436). -/
def segLimit (c : DisplayRec) : Nat :=
  match c.dtype with
  | .none => 0 | .glass => c.duty * 48 | .bistable => 64 | .emissive => 128

/-- A segment number, or none. -/
def segOk (c : DisplayRec) (n : Nat) : Bool := n == 0xFFFF || decide (n < segLimit c)

/-- The map of a calibration block of class 0x04, when its structure and its references hold (R436). -/
def parseMap (c : DisplayRec) (cal : List Byte) : Option DispMap :=
  match mapSections 64 cal with
  | none => none
  | some ss =>
    let sec := fun (i : Nat) => ((ss.find? (fun x => x.1 == i)).map (·.2))
    let d1 := (sec 1).getD []
    let d2 := (sec 2).getD []
    let chars := (List.range (d1.length / 16)).map (fun i => (List.range 8).map (fun k => u16 d1 (16 * i + 2 * k)))
    let symbols := (List.range (d2.length / 2)).map (fun i => u16 d2 (2 * i))
    let d6 := (sec 6).getD []
    let m : DispMap :=
      { chars, symbols
        screens := match sec 3 with
          | some d => (List.range (d.length / 8)).map (fun i =>
              { quantity := u8 d (8 * i), first := u8 d (8 * i + 1), digits := u8 d (8 * i + 2),
                decimals := u8 d (8 * i + 3), scale := u8 d (8 * i + 4),
                symbols := [u8 d (8 * i + 5), u8 d (8 * i + 6), u8 d (8 * i + 7)] })
          | none => []
        evPos := (sec 4).map (fun d => u8 d 0)
        vcom := match sec 5 with | some d => i16 d 0 | none => 0
        regionOf := match sec 5 with | some d => (List.range 64).map (fun i => u8 d (2 + i)) | none => []
        sets := (List.range (d6.length / 84)).map (fun i => parseSet (slice d6 (84 * i) 84)) }
    let ok := (sec 3).isSome && !m.screens.isEmpty &&
      (chars.flatten ++ symbols).all (segOk c) &&
      m.screens.all (fun x => decide (1 ≤ x.digits ∧ x.digits ≤ 12) && decide (x.first + x.digits ≤ chars.length)
        && decide (1 ≤ x.quantity ∧ x.quantity ≤ 21)
        && x.symbols.all (fun y => y == 0xFF || decide (y < symbols.length))) &&
      (match m.evPos with | some p => decide (p + 5 ≤ chars.length) | none => true) &&
      (c.dtype != .bistable || ((sec 5).isSome && (sec 6).isSome && decide (1 ≤ m.sets.length ∧ m.sets.length ≤ 4)
        && m.regionOf.all (fun r => r == 0xFF || decide (r < 8))))
    if ok then some m else none

/-- Calibration block of the record that a port last gave. -/
def calBlock (p : Nat) (s : State) : List Byte :=
  let r := (vget s.mp p {}).record
  slice r 32 (u16 r 16)

/-- The display becomes unavailable (R396): cause 1 no matching module, 2 map, 3 waveform sets. -/
def displayUnavailable (cause : Nat) (s : State) : State :=
  if s.r.dsp.dspstatNomap then { s with dp.mapOk := false }
  else { s with dp.mapOk := false, r.dsp.dspstatNomap := true, r.flt.unavail := s.r.flt.unavail ||| 1 }
        |> domOff [.dsp] |> logEvent 0x0E07 [(cause : Int)]

/-- The display map is taken from the module on MP4 (R396, R408). `matched`: the module matches under Table 3.4. -/
def loadMap (matched : Bool) (s : State) : State :=
  if s.cat.disp.dtype == .none then s
  else if !matched then displayUnavailable 1 s
  else match parseMap s.cat.disp (calBlock 4 s) with
    | none => displayUnavailable 2 s
    | some m =>
      match if s.cat.disp.dtype == .bistable then badTransition m.sets else none with
      | some (i, t) =>
        { s with r.dsp.dspstatTblbad := true } |> logEvent 0x0E06 [(i : Int), (t : Int)] |> displayUnavailable 3
      | none =>
        { s with dp.map := m, dp.mapOk := true, r.dsp.dspstatNomap := false, r.dsp.dspstatTblbad := false
                 r.flt.unavail := s.r.flt.unavail &&& 0xE }

/-! ## Rendering -/

/-- Segments a to g of a hexadecimal digit, as bits 0 to 6 (PRESUMED, log 24). -/
def sevenSeg (d : Nat) : Nat :=
  [0x3F, 0x06, 0x5B, 0x4F, 0x66, 0x6D, 0x7D, 0x07, 0x7F, 0x6F, 0x77, 0x7C, 0x39, 0x5E, 0x79, 0x71].getD d 0

/-- Segments of a character position that a pattern lights; 0xFFFF is no segment. -/
def charSegs (m : DispMap) (pos pat : Nat) : List Nat :=
  (List.range 8).filterMap (fun k =>
    let n := (m.chars.getD pos []).getD k 0xFFFF
    if pat.testBit k && n != 0xFFFF then some n else none)

/-- Register copies that a screen reads (R27). -/
def postedValue (q : Nat) (s : State) : Int :=
  let p := s.rg.posted
  let l := p.legal
  let verify := s.cat.profile == .verify
  match q with
  | 1 => if verify then p.tvfwd else l.vfwd
  | 2 => if verify then p.tvrev else l.vrev
  | 3 => if verify then p.tenet else l.eheat
  | 4 => l.ecool
  | 5 => l.etar[0] | 6 => l.etar[1] | 7 => l.etar[2] | 8 => l.etar[3]
  | 9 => l.vbfwd | 10 => l.vbrev
  | 11 => s.r.flow.qraw.toInt
  | 12 => s.r.tblk.thflow.toInt | 13 => s.r.tblk.thret.toInt | 14 => s.r.tblk.deltat.toInt
  | 15 => l.terr | 16 => l.toper
  | 20 => l.audit
  | 21 => s.cat.legalver
  | _ => 0

/-- Gregorian date (year from 2000, month, day) of a day counted from 2000-01-01, by the civil calendar of 400 years. -/
def civilDate (d : Nat) : Nat × Nat × Nat :=
  let z := d + 730425
  let era := z / 146097
  let doe := z % 146097
  let yoe := (doe - doe / 1460 + doe / 36524 - doe / 146096) / 365
  let doy := doe - (365 * yoe + yoe / 4 - yoe / 100)
  let mp := (5 * doy + 2) / 153
  let day := doy - (153 * mp + 2) / 5 + 1
  let month := if mp < 10 then mp + 3 else mp - 9
  let year := yoe + era * 400 + (if month ≤ 2 then 1 else 0)
  (year - 2000, month, day)

/-- Digits, least significant first, of a quantity, and the positions of decimal points counted from the right. -/
def screenDigits (x : Screen) (s : State) : List Nat × List Nat :=
  let dec := fun (n w : Nat) => (List.range w).map (fun i => n / 10 ^ i % 10)
  if x.quantity = 17 then
    let (y, m, d) := civilDate (localDay s)
    (dec (y % 100) 2 ++ dec m 2 ++ dec d 2, [2, 4])
  else if x.quantity = 18 then
    (dec (localMinute s % 60) 2 ++ dec (localMinute s / 60) 2, [])
  else if x.quantity = 19 then
    ((List.range x.digits).map (fun i => s.cat.ident.idnum / 16 ^ i % 16), [])
  else
    let n := (truncQ ((postedValue x.quantity s : Rat) / (10 ^ x.scale : Nat))).natAbs
    let w := max (x.decimals + 1) ((List.range x.digits).foldl (fun a i => if n / 10 ^ i > 0 then i + 1 else a) 1)
    (dec n (min x.digits w), if x.decimals = 0 then [] else [x.decimals])

/-- Segments of the screen shown. -/
def screenImage (s : State) : List Nat :=
  let m := s.dp.map
  match m.screens[s.dp.screen]? with
  | none => []
  | some x =>
    let (ds, pts) := screenDigits x s
    ((List.range (min x.digits ds.length)).flatMap (fun i =>
        charSegs m (x.first + x.digits - 1 - i) (sevenSeg (ds.getD i 0) + (if pts.contains i then 0x80 else 0))))
      ++ x.symbols.filterMap (fun y => if y = 0xFF then none else
          let n := m.symbols.getD y 0xFFFF
          if n = 0xFFFF then none else some n)

/-- `DSPEVT` (R414): `SBEVT` in safe-beacon, else the most recent standing event. -/
def dspEvt (s : State) : Nat :=
  if s.safe then s.r.sys.sbevt.toNat
  else match s.flt.standing with
    | x :: _ => x.code
    | [] => 0

/-- Character positions of the event field. -/
def eventPositions (s : State) : List Nat :=
  let f := s.dp.map.evPos.getD ((s.dp.map.screens.head?.map (·.first)).getD 0)
  (List.range 5).map (f + ·)

/-- Segments of the event code: "E" and four hexadecimal digits, high byte first (R11). -/
def eventImage (code : Nat) (s : State) : List Nat :=
  let pos := eventPositions s
  (List.range 5).flatMap (fun i =>
    charSegs s.dp.map (pos.getD i 0) (if i = 0 then sevenSeg 0xE else sevenSeg (code / 16 ^ (4 - i) % 16)))

/-- All segments of the event field. -/
def eventField (s : State) : List Nat :=
  (eventPositions s).flatMap (fun p => (s.dp.map.chars.getD p []).filter (· != 0xFFFF))

/-- Every segment that the map names. -/
def mapSegs (s : State) : List Nat := (s.dp.map.chars.flatten ++ s.dp.map.symbols).filter (· != 0xFFFF)

/-- The image as it would be rendered now: steady segments, and segments in blink group B; every segment while both keys'
test lasts (R439). -/
def renderImage (s : State) : List Nat × List Nat :=
  let base := screenImage s
  let e := dspEvt s
  if s.dp.segTest then (mapSegs s, [])
  else if e = 0 then (base, [])
  else
    let rest := base.filter (fun n => !((eventField s).contains n))
    if s.safe || s.cat.disp.dtype == .bistable then (rest ++ eventImage e s, []) else (rest, eventImage e s)

/-! ## Bistable regions -/

/-- A display that works: a type other than NONE with a valid map. -/
def State.hasDisplay (s : State) : Bool := s.cat.disp.dtype != .none && s.dp.mapOk

/-- Segments of a region. -/
def regionSegs (r : Nat) (s : State) : List Nat :=
  (List.range 64).filter (fun g => s.dp.map.regionOf.getD g 0xFF == r)

/-- The waveform set for the present die temperature: the first whose `WTMAX` is not below it, or the last (R408). -/
def chooseSet (s : State) : Nat :=
  match s.dp.map.sets.findIdx? (fun w => decide (dieTemp s ≤ w.wtmax * 10)) with
  | some i => i
  | none => s.dp.map.sets.length - 1

/-- Transition of a segment in an update of region `r` (R408, R409): 0 light to light, 1 light to dark, 2 dark to light,
3 dark to dark; after a POR the old state counts as the opposite of the new. -/
def segTransition (r g : Nat) (s : State) : Nat :=
  let x := vget s.dp.regions r {}
  let new := x.content.contains g
  let old := if x.known then s.dp.dark.contains g else !new
  (if old then 2 else 0) + (if new then 1 else 0)

/-- Phases of a segment's transition. -/
def segPhases (r g : Nat) (s : State) : WaveformTransition :=
  let x := vget s.dp.regions r {}
  match s.dp.map.sets[x.set]? with
  | some w => w.trans.getD (segTransition r g s) ⟨[], 0⟩
  | none => ⟨[], 0⟩

/-- Phases of a transition that have ended `t` ticks after phase 0 began. -/
def phasesDone (ps : List (Nat × Nat)) (t : Nat) : Nat :=
  match ps with
  | [] => 0
  | p :: rest => if p.2 ≤ t then phasesDone rest (t - p.2) + 1 else 0

/-- Net drive in ms that a transition has applied `ms` after phase 0 began. -/
def driveApplied (ps : List (Nat × Nat)) (ms : Nat) : Int :=
  match ps with
  | [] => 0
  | p :: rest =>
    let d := min ms (p.2 * 10)
    (if p.1 = 1 then (d : Int) else if p.1 = 2 then -(d : Int) else 0) + driveApplied rest (ms - d)

/-- Ticks of compensation that a region needs (R411). -/
def regionComp (r : Nat) (s : State) : Nat :=
  ceilDiv (maxL ((regionSegs r s).map (fun g => (vget s.dp.ledger g 0).natAbs))) 10

/-- Length of a region's update in ticks, the compensation included. -/
def regionTicks (r : Nat) (s : State) : Nat :=
  (vget s.dp.regions r {}).comp + maxL ((regionSegs r s).map (fun g => totalTicks (segPhases r g s).phases))

/-- Ticks that a region still needs. -/
def regionLeft (r : Nat) (s : State) : Nat := regionTicks r s - (vget s.dp.regions r {}).tick

/-- One region changed. -/
def updRegion (r : Nat) (f : Region → Region) (s : State) : State :=
  { s with dp.regions := vupd s.dp.regions r f }

/-- Regions in a set of states. -/
def regionsIn (ss : List RegionState) (s : State) : List Nat :=
  (List.range 8).filter (fun r => ss.contains (vget s.dp.regions r {}).st)

/-- After `t` more ticks every phase boundary of the regions is met (R410: a seat covers whole phases). -/
def atBoundary (rs : List Nat) (t : Nat) (s : State) : Bool :=
  rs.all (fun r =>
    let x := vget s.dp.regions r {}
    let e := x.tick + t
    decide (e = x.comp) || decide (regionTicks r s ≤ e) || (decide (x.comp < e) && (regionSegs r s).all (fun g =>
      let ps := (segPhases r g s).phases
      let n := phasesDone ps (e - x.comp)
      decide (totalTicks (ps.take n) = e - x.comp) || decide (totalTicks ps ≤ e - x.comp))))

/-- Ticks of the next seat: whole phases totalling at most 1 s; 1 s, or what is left, where the regions share no
boundary within it (log 25). -/
def seatTicks (rs : List Nat) (s : State) : Nat :=
  let left := maxL (rs.map (fun r => regionLeft r s))
  let best := (List.range 101).foldl (fun b t => if 1 ≤ t && decide (t ≤ left) && atBoundary rs t s then t else b) 0
  if best = 0 then min 100 left else best

/-- The bistable regions ask for their next seat: unit 6, class 5 mA (R410). -/
def requestPanelSeat (s : State) : State :=
  let rs := regionsIn [.starting, .running, .paused] s
  if rs.isEmpty then s
  else displaySeat 50 (max 1 (seatTicks rs s) * 10000) (.bistable (rs.getD 0 0)) s

/-- An update of a region is requested (Table 15.3). -/
def regionRequest (r : Nat) (content : List Nat) (s : State) : State :=
  let x := vget s.dp.regions r {}
  let content := content.filter (fun g => (regionSegs r s).contains g)
  match x.st with
  | .idle =>
    let set := chooseSet s
    let s := updRegion r (fun y => { y with st := .starting, content, tick := 0, set }) s
    { updRegion r (fun y => { y with comp := regionComp r s }) s with r.dsp.epdset := BitVec.ofNat 2 set }
      |> requestPanelSeat
  | .starting => updRegion r (fun y => { y with content }) s
  | .running | .paused =>
    onlyIf x.queued.isSome (fun s => { s with r.dsp.epddrop := inc16 s.r.dsp.epddrop })
      (updRegion r (fun y => { y with queued := some content }) s)

/-- The ledger of a segment, saturated (R411). -/
def setLedger (g : Nat) (v : Int) (s : State) : State :=
  let v := max (-32767) (min 32767 v)
  let old := (vget s.dp.ledger g 0).natAbs
  onlyIf (decide (v.natAbs > 2000) && decide (old ≤ 2000)) (logEvent 0x0E08 [(g : Int), v])
    { s with dp.ledger := vupd s.dp.ledger g (fun _ => v) }

/-- Drive in ms that a segment has received in its region's update up to `ms` after the compensation began. -/
def segDrive (r g ms : Nat) (s : State) : Int :=
  let x := vget s.dp.regions r {}
  let l := vget s.dp.ledger g 0
  if ms < x.comp * 10 then
    let d : Int := ((min ms l.natAbs : Nat) : Int)
    if l > 0 then -d else d
  else driveApplied (segPhases r g s).phases (ms - x.comp * 10)

/-- The states of one region are recorded at a park (R411, R412). -/
def parkRegion (r : Nat) (s : State) : State :=
  let x := vget s.dp.regions r {}
  let ms := if x.st == .running then x.tick * 10 + min 10 ((s.now - s.dp.tickAt + 500) / 1000) else x.tick * 10
  let segs := regionSegs r s
  let shown := fun (g : Nat) =>
    let w := segPhases r g s
    decide (w.commit ≤ phasesDone w.phases (ms / 10 - x.comp)) && decide (x.comp * 10 ≤ ms)
  let old := fun (g : Nat) => if x.known then s.dp.dark.contains g else !(x.content.contains g)
  let darkNow := segs.filter (fun g => if shown g then x.content.contains g else old g)
  let s' := segs.foldl (fun t g => setLedger g (vget s.dp.ledger g 0 + segDrive r g ms s) t) s
  { s' with dp.dark := s.dp.dark.filter (fun g => !segs.contains g) ++ darkNow
            r.dsp.epdold := if segs.all shown then s'.r.dsp.epdold
                            else s'.r.dsp.epdold ||| BitVec.ofNat 8 (1 <<< r) }
    |> updRegion r (fun y => { y with st := .idle, known := true, tick := 0 })

/-- Whether a park is needed: a region is Starting, Running or Paused (Table 17.4). -/
def parkNeeded (s : State) : Bool :=
  s.cat.disp.dtype == .bistable && !(regionsIn [.starting, .running, .paused] s).isEmpty

/-- A park starts (R412 step 1): every phase stops, the states are recorded, 0x0E05 is logged. `cause`: 1 brownout,
2 Off entry, 3 seat abort, 0 a watchdog reset, for which Table 15.7 states no cause and the item is a free value
(log 27). After a brownout or at Off entry queued content is lost. -/
def parkStart (cause : Nat) (s : State) : State :=
  if !parkNeeded s then s
  else
    let (item, s) := if cause = 0 then draw s else (cause, s)
    let rs := regionsIn [.starting, .running, .paused] s
    let s' := rs.foldl (fun t r => parkRegion r t) s
    let s' := if cause = 1 ∨ cause = 2 then { s' with dp.regions := s'.dp.regions.map (fun x => { x with queued := none }) }
              else s'
    { s' with dp.park := some cause, dp.seatLeft := 0, r.dsp.epdpark := inc16 s'.r.dsp.epdpark }
      |> logEvent 0x0E05 [(maskOf rs : Int), (item : Int)]

/-- Step 2 of a park: every line to GND, both rails discharged (R412); queued content becomes a request again
(Table 15.3). -/
def parkEnd (s : State) : State :=
  match s.dp.park with
  | none => s
  | some _ =>
    let s := { s with dp.park := none, dp.railsOk := false, r.dsp.epdvp := 0, r.dsp.epdvn := 0 }
    (List.range 8).foldl (fun t r =>
      match (vget t.dp.regions r {}).queued with
      | some c => regionRequest r c (updRegion r (fun y => { y with queued := none }) t)
      | none => t) s

/-- The Curator renders the image (R398); with BISTABLE each region whose segments change is updated. -/
def render (s : State) : State :=
  if !s.hasDisplay then s
  else
    let (a, b) := renderImage s
    let s := { s with dp.image := a, dp.imageB := b, dp.renderDue := false, dp.renderNow := false, dp.evtShown := dspEvt s }
    match s.cat.disp.dtype with
    | .bistable =>
      (List.range 8).foldl (fun t r =>
        let segs := regionSegs r t
        let want := segs.filter (fun g => a.contains g)
        let x := vget t.dp.regions r {}
        let target := match x.queued with
          | some q => q
          | none => if x.st == RegionState.idle then t.dp.dark.filter (fun g => segs.contains g) else x.content
        if segs.isEmpty then t
        else if x.st == RegionState.idle && !x.known then regionRequest r want t
        else if segs.all (fun g => target.contains g == want.contains g)
          && !(x.st == RegionState.idle && segs.any (fun g => vget t.dp.ledger g 0 != 0)) then t
        else regionRequest r want t) { s with dp.lastRender := some s.now }
    | .glass => { s with dp.glassOn := true, dp.stopReq := false } |> domOn [.dsp]
    | _ => s

/-- The screen shown reads the copy of R27. -/
def registerScreen (s : State) : Bool :=
  match s.dp.map.screens[s.dp.screen]? with
  | some x => decide (x.quantity ≤ 10) || x.quantity == 15 || x.quantity == 16 || x.quantity == 20
  | none => false

/-- A render is wanted (R398): after a key press, a change of the event field, or a posted copy while a register screen is
shown, with BISTABLE at most once per 60 s. -/
def wantsRender (s : State) : Bool :=
  s.hasDisplay && (s.dp.renderNow || dspEvt s != s.dp.evtShown || (s.dp.renderDue &&
    (s.cat.disp.dtype != .bistable || (match s.dp.lastRender with | some t => decide (t + 60000000 ≤ s.now) | none => true))))

/-! ## Read-back (R413) -/

/-- Consecutive failing checks after which a pin is faulty, and passing ones after which it is sound (Table 15.5). -/
def rbLimits (s : State) : Nat × Nat := if s.cat.disp.dtype == .bistable then (2, 2) else (4, 64)

/-- A count kept by pin. -/
def pinCount (l : List (Nat × Nat)) (p : Nat) : Nat := ((l.find? (fun x => x.1 == p)).map (·.2)).getD 0

/-- A count by pin replaced. -/
def setPin (l : List (Nat × Nat)) (p n : Nat) : List (Nat × Nat) :=
  let rest := l.filter (fun x => x.1 != p)
  if n = 0 then rest else (p, n) :: rest

/-- `RBFAIL` bit of a pin. -/
def rbFaulty (p : Nat) (s : State) : Bool := (vget s.r.dsp.rbfail (p / 16) 0).getLsbD (p % 16)

/-- One check of one pin. -/
def rbCheckPin (ok : Bool) (p : Nat) (s : State) : State :=
  let (bad, good) := rbLimits s
  let nb := if ok then 0 else min bad (pinCount s.dp.rbBad p + 1)
  let ng := if ok then min good (pinCount s.dp.rbGood p + 1) else 0
  let s := { s with dp.rbBad := setPin s.dp.rbBad p nb, dp.rbGood := setPin s.dp.rbGood p ng }
  let bit : BitVec 16 := BitVec.ofNat 16 (1 <<< (p % 16))
  if !rbFaulty p s && nb == bad then
    { s with r.dsp.rbfail := vupd s.r.dsp.rbfail (p / 16) (· ||| bit) } |> logEvent 0x0E01 [(p : Int)]
  else if rbFaulty p s && ng == good then
    { s with r.dsp.rbfail := vupd s.r.dsp.rbfail (p / 16) (· &&& ~~~bit) } |> logEvent 0x0E02 [(p : Int)]
  else s

/-- Faulty pins. -/
def faultyPins (s : State) : List Nat := (List.range 65).filter (fun p => rbFaulty p s)

/-- `DSPSTAT.GLASSFAIL`: a COM line in use is faulty, or 4 or more SEG lines are (R413). -/
def glassFail (s : State) : State :=
  if s.cat.disp.dtype != .glass then s
  else
    let f := faultyPins s
    let fail := f.any (fun p => decide (p < s.cat.disp.duty)) || decide ((f.filter (fun p => decide (16 ≤ p ∧ p < 64))).length ≥ 4)
    onlyIf (fail && !s.r.dsp.dspstatGlassfail) (logEvent 0x0E03 [(f.length : Int)]) { s with r.dsp.dspstatGlassfail := fail }
      |> checkFallback

/-- A read-back check of the pins given, with its result. -/
def readBack (checks : List (Nat × Bool)) (s : State) : State :=
  let bad := (checks.filter (fun c => !c.2)).map (·.1)
  let s := { s with r.dsp.rblast := Vector.ofFn (fun (w : Fin 5) =>
                      BitVec.ofNat 16 (maskOf ((bad.filter (fun p => p / 16 == w.val)).map (· % 16)))) }
  let s := onlyIf (!bad.isEmpty) (fun s => { s with r.dsp.rbfailcnt := inc16 s.r.dsp.rbfailcnt }) s
  checks.foldl (fun t c => rbCheckPin c.2 c.1 t) s |> glassFail

end Sys2Proof.Machine
end

