-- ==== Sys2Proof/Machine/Airwave.lean ====
section
/-! DEFINITION. What goes on the air: channels, rates and airtimes (Tables 13.1 to 13.3), the regulatory ledgers (R346 to
R350), EN 13757-4 frames (R391, R392, R456, R104), and the queue of transmissions. -/

namespace Sys2Proof.Machine

/-! ## Channels and rates -/

/-- Channels of a band (Table 13.2). -/
def channelCount (band : Nat) : Nat := if band = 0 then 6 else if band = 1 then 8 else if band = 2 then 7 else 50

/-- Frequency of a Mogal channel, Hz. -/
def channelHz (band n : Nat) : Nat :=
  match band with
  | 0 => 169406250 + 12500 * n
  | 1 => 433175000 + 200000 * n
  | 2 => [868100000, 868300000, 868500000, 868800000, 868950000, 869100000, 869525000].getD n 0
  | _ => 903000000 + 500000 * n

/-- Transmit frequency of an EN 13757-4 mode, Hz (Table 13.3). -/
def modeHz (mode : Nat) : Nat := if mode ≤ 1 then 868300000 else if mode ≤ 5 then 868950000 else 169431250

/-- Bit rate of a Mogal rate code: 0 base, 1 bulk, 2 wake (Table 13.2). -/
def rateBps (band rate : Nat) : Nat :=
  match rate, band with
  | 0, 0 => 2400 | 0, 1 => 4800 | 0, _ => 50000
  | 1, 0 => 4800 | 1, 1 => 50000 | 1, 2 => 200000 | 1, _ => 150000
  | _, _ => 2400

/-- Time of a Mogal frame with a PSDU of `n` octets, µs: 8 octets of preamble, 2 of SFD, 2 of PHR. -/
def mogalTime (band rate n : Nat) : Nat := ceilDiv ((n + 12) * 8 * 1000000) (rateBps band rate)

/-- The two ramps of R340, µs: airtime runs over both (R346, log 33). -/
def ramps : Nat := 40

/-- t_sfd of R373: 10 octets at the base rate, µs. -/
def tSfd (band : Nat) : Nat := 80000000 / rateBps band 0

/-- Octets of a format-A or format-B frame with its CRC blocks, from its octets without (PRESUMED from the standard,
log 34). -/
def crcLength (formatA : Bool) (n : Nat) : Nat :=
  if formatA then n + 2 + 2 * ceilDiv (n - 10) 16 else n + 2 * ceilDiv n 126

/-- Time on air of an EN 13757-4 frame of `n` octets without CRCs, µs. The 48 chips of T1 follow from the example of
R457. -/
def modeTime (mode n : Nat) : Nat :=
  if mode ≤ 1 then ceilDiv ((Config.preambleChips mode + 16 * crcLength true n) * 1000000) 32768
  else if mode ≤ 3 then (48 + 12 * crcLength true n) * 10
  else if mode ≤ 5 then (Config.preambleChips mode + 8 * crcLength false n) * 10
  else ceilDiv ((Config.preambleChips mode + 8 * crcLength false n) * 1000000) 4800

/-! ## The regulatory ledgers -/

/-- Sub-band of a channel or mode (Table 13.4); 5 stands for the dwell ledgers. -/
def subBand (r : RadioRec) (channel : Option Nat) (mode : Nat) : Nat :=
  match r.band, channel with
  | 0, _ => 0
  | 1, _ => 1
  | 2, some n => if n ≤ 2 then 2 else if n ≤ 5 then 3 else 4
  | 2, none => if mode ≤ 1 then 2 else 3
  | _, _ => 5

/-- Hourly allowance of a duty ledger, ms. -/
def allowance (code : Nat) : Nat := if code = 2 then 36000 else if code = 3 then 3600 else 360000

/-- Cap on `TXPWR`, dBm. -/
def powerCap (code : Nat) : Int := ([16, 10, 14, 14, 16, 16] : List Int).getD code 16

/-- Sum of the 61 bins of a duty ledger at a minute, ms (R347). -/
def dutySum (code minute : Nat) (s : State) : Nat :=
  let l := vget s.rad.duty code []
  ((List.range 61).map (fun i => if minute < i then 0 else
    ceilDiv ((l.filter (fun x => x.1 == minute - i)).map (·.2)).sum 1000)).sum

/-- Airtime recorded on a channel within an interval, µs (R348). -/
def dwellIn (ch lo hi : Nat) (s : State) : Nat :=
  (s.rad.dwell.map (fun x => if x.1 = ch then min hi x.2.2 - max lo x.2.1 else 0)).sum

/-- The earliest time, as `monoUs`, at which a duty ledger permits airtime `a` µs. -/
def dutyEarliest (code a : Nat) (s : State) : Nat :=
  let m := tlmono s / 60
  let ok := fun i => decide (dutySum code (m + i) s * 1000 + a ≤ allowance code * 1000)
  if ok 0 then s.tl.monoUs else
    match (List.range 62).find? ok with
    | some i => (m + i) * 60000000
    | none => (m + 62) * 60000000

/-- Walk over past transmissions, oldest first, until `need` µs of them lie before the window's start. -/
def dwellWalk (lo need : Nat) : List (Nat × Nat) → Nat
  | [] => lo
  | x :: xs =>
    let b := max lo x.1
    if need ≤ x.2 - b then b + need else dwellWalk (max lo x.2) (need - (x.2 - b)) xs

/-- The earliest time, as `monoUs`, at which a channel's dwell ledger permits airtime `a` µs (R348). -/
def dwellEarliest (ch a : Nat) (s : State) : Nat :=
  let t := s.tl.monoUs
  let lo := t + a - 20000000
  let used := dwellIn ch lo (t + a) s
  if used + a ≤ 400000 then t
  else
    let old := ((s.rad.dwell.filter (fun x => x.1 == ch)).map (·.2)).reverse
    max t (dwellWalk lo (used + a - 400000) old + 20000000 - a)

/-- When a transmission is permitted, as `monoUs` (R347, R348). -/
def permittedAt (code : Nat) (channel : Option Nat) (a : Nat) (s : State) : Nat :=
  if code = 5 then dwellEarliest (channel.getD 0) a s else dutyEarliest code a s

/-- A transmission is charged (R346, R349); what lies outside the ledgers' spans is forgotten. -/
def charge (code : Nat) (channel : Option Nat) (a : Nat) (s : State) : State :=
  let t := s.tl.monoUs
  let m := tlmono s / 60
  if code = 5 then
    { s with rad.dwell := (channel.getD 0, (t, t + a)) :: s.rad.dwell.filter (fun x => decide (t < x.2.2 + 20000000)) }
  else
    { s with rad.duty := vupd s.rad.duty code (fun l => (m, a) :: l.filter (fun x => decide (m ≤ x.1 + 60))) }

/-! ## EN 13757-4 frames -/

/-- A frame of the autonomous TX sequencer takes the factory link defaults (R104, R456): in safe-beacon without a governing
Catalogue, and wherever the radio has not passed stage 13. -/
def factoryLink (s : State) : Bool :=
  match s.phase with
  | .safeBeacon alone => alone || !s.governs || !s.start.radioOk
  | .operating => !s.start.radioOk
  | _ => false

/-- Radio record in use for a frame. -/
def enRadio (s : State) : RadioRec := if factoryLink s then { region := 0, band := 2, txpwr := 10 } else s.cat.radio

/-- `LEGMODE` in use for a frame. -/
def enMode (s : State) : Nat := if factoryLink s then 2 else s.cat.link.legmode

/-- Identity in use for a frame. -/
def enIdent (s : State) : Identity :=
  if factoryLink s then { mfct := Config.otpIdent 0, idnum := Config.otpIdent 1, version := Config.otpIdent 2,
                          devtype := Config.otpIdent 3 }
  else s.cat.ident

/-- The `KIND` 3 key with the lowest `KEYID` (R392). -/
def enKey (s : State) : Option KeyRec :=
  if factoryLink s then none
  else ((s.cat.keys.filter (fun k => k.kind == 3)).foldl (fun (b : Option KeyRec) k => match b with
    | some x => if k.keyid < x.keyid then some k else b
    | none => some k) none)

/-- CRC of the blocks of an EN 13757-4 frame (PRESUMED from the standard, log 34): polynomial 0x3D65, complemented. -/
def enCrc (bs : List Byte) : BitVec 16 :=
  ~~~(bs.foldl (fun (c : BitVec 16) b => (List.range 8).foldl (fun (c : BitVec 16) i =>
    (c <<< 1) ^^^ (if c.msb != b.getMsbD i then 0x3D65 else 0)) c) 0)

/-- Blocks of at most `n` octets, each with its CRC. -/
def enBlocks (n : Nat) : Nat → List Byte → List Byte
  | 0, _ => []
  | fuel + 1, bs =>
    if bs.isEmpty then [] else bs.take n ++ beBytes 2 (enCrc (bs.take n)).toNat ++ enBlocks n fuel (bs.drop n)

/-- The data-link frame of EN 13757-4 (R334): the L-field, then the frame from its C-field on, in the CRC blocks of format A or B; in
format B the L-field counts the CRCs (PRESUMED from the standard, log 34). -/
def linkLayer (formatA : Bool) (frame : List Byte) : List Byte :=
  let n := frame.length
  if formatA then
    let bs := leBytes 1 n ++ frame
    enBlocks 10 1 (bs.take 10) ++ enBlocks 16 n (bs.drop 10)
  else enBlocks 126 (n + 1) (leBytes 1 (crcLength false (n + 1) - 1) ++ frame)

/-- Format of a mode's frames (Table 13.3). -/
def formatA (mode : Nat) : Bool := decide (mode ≤ 3)

/-- The octets of an EN 13757-4 frame as it goes out: as legacy carriage a format-A frame forms the PSDU (R336). -/
def enOctets (s : State) (frame : List Byte) : List Byte :=
  let b := (enRadio s).band
  linkLayer (b == 1 || b == 3 || formatA (enMode s)) frame

/-- Airtime of an EN 13757-4 frame or of its legacy carriage (R336), µs. -/
def enAirtime (s : State) (frame : List Byte) : Nat :=
  let b := (enRadio s).band
  let n := 1 + frame.length
  ramps + (if b = 1 ∨ b = 3 then mogalTime b 0 (crcLength true n + 4) else modeTime (enMode s) n)

/-- The chip codes of 3-out-of-6, by the nibble (PRESUMED from the standard, log 34). -/
def threeOfSix : List (BitVec 6) :=
  [0b010110, 0b001101, 0b001110, 0b001011, 0b011100, 0b011001, 0b011010, 0b010011,
   0b101100, 0b100101, 0b100110, 0b100011, 0b110100, 0b110001, 0b110010, 0b101001]

/-- Chips of an octet, the most significant bit first: Manchester in S, 3-out-of-6 in T, as it is in C and N (Table 13.3). -/
def octetChips (mode : Nat) (b : Byte) : List Bool :=
  let bits := (List.range 8).map (fun i => b.getMsbD i)
  if mode ≤ 1 then bits.flatMap (fun x => [!x, x])
  else if mode ≤ 3 then
    ([b.toNat / 16, b.toNat % 16] : List Nat).flatMap (fun v => (List.range 6).map (fun i => (threeOfSix.getD v 0).getMsbD i))
  else bits

/-- Chips of a frame in an EN 13757-4 mode: preamble and synchronisation word, then the coded octets (R334). -/
def enChips (mode : Nat) (octets : List Byte) : List Bool :=
  (List.range (if mode = 2 ∨ mode = 3 then 48 else Config.preambleChips mode)).map (Config.preambleChip mode)
    ++ octets.flatMap (octetChips mode)

/-- Signed octets of a value, least significant first. -/
def leInt (n : Nat) (v : Int) : List Byte := leBytes n (v % (2 ^ (8 * n) : Int)).toNat

/-- Type F date and time of a civil time in local zone (PRESUMED from the standard, log 34). -/
def typeF (civ : Nat) (zone : Int) : List Byte :=
  let t := ((civ : Int) + zone * 900).toNat
  let (y, m, d) := civilDate (t / 86400)
  let mi := t % 3600 / 60
  let h := t % 86400 / 3600
  [BitVec.ofNat 8 mi, BitVec.ofNat 8 h, BitVec.ofNat 8 (d + (y % 8) * 32), BitVec.ofNat 8 (m + (y / 8 % 16) * 16)]

/-- A record of Table 14.10 with an 8-octet value, divided by 1000 and truncated. -/
def rec8 (head : List Byte) (v : Int) : List Byte := head ++ leInt 8 (v.tdiv 1000)

/-- The data records of Table 14.10, from the copy of R27. -/
def telegramRecords (s : State) : List Byte :=
  let l := s.rg.posted.legal
  let p := s.cat.profile
  ([0x04, 0x6D] : List Byte) ++ typeF (s.rg.posted.regtime / 65536) s.tl.zone
    ++ rec8 [0x07, 0x10] l.vfwd ++ rec8 [0x07, 0x90, 0x3C] l.vrev
    ++ (if p == .heat || p == .heatcool then rec8 [0x07, 0x03] l.eheat else [])
    ++ (if p == .cool || p == .heatcool then rec8 [0x87, 0x40, 0x03] l.ecool else [])
    ++ (if s.cat.reg.tarmode = 0 then [] else
          rec8 [0x87, 0x10, 0x03] l.etar[0] ++ rec8 [0x87, 0x20, 0x03] l.etar[1]
          ++ rec8 [0x87, 0x30, 0x03] l.etar[2] ++ rec8 [0x87, 0x80, 0x10, 0x03] l.etar[3])
    ++ (if p == .gas then rec8 [0x07, 0xFF, 0x01] l.vbfwd ++ rec8 [0x07, 0xFF, 0x02] l.vbrev else [])
    ++ [0x04, 0x24] ++ leBytes 4 l.toper ++ [0x04, 0xFF, 0x03] ++ leBytes 4 l.terr
    ++ [0x04, 0xFF, 0x04] ++ leBytes 4 l.audit ++ [0x02, 0xFD, 0x17] ++ leBytes 2 s.rg.posted.rstat.toNat

/-- The configuration field of the security mode (PRESUMED from the standard, log 34). -/
def configField (s : State) (n : Nat) : List Byte :=
  match enKey s with
  | none => [0x00, 0x00]
  | some k => if k.keyid % 2 = 0 then leBytes 2 (0x0500 + 16 * (ceilDiv (n + 2) 16 % 16)) else [0x00, 0x07]

/-- The records under the security mode (R392): mode 5 by AES-128 CBC over 0x2F 0x2F and the records, padded with 0x2F, the first
vector from the address and the access number (PRESUMED from the standard, log 34); mode 7 with the key's message counter. -/
def secureRecords (address : List Byte) (access : Nat) (records : List Byte) (s : State) : List Byte :=
  match enKey s with
  | none => records
  | some k =>
    if k.keyid % 2 = 0 then
      let n := ceilDiv (records.length + 2) 16
      let msg := [0x2F, 0x2F] ++ records ++ List.replicate (16 * n - records.length - 2) (0x2F : Byte)
      cbcSeal k.key n (address ++ List.replicate 8 (BitVec.ofNat 8 access)) msg
    else Config.mode7 k.key (vget s.ln.ctrs k.keyid {}).ctr records

/-- An EN 13757-4 frame from its C-field on (R391, R392); VERIFY sets status bit 7 (R460). -/
def enFrame (access status : Nat) (records : List Byte) (s : State) : List Byte :=
  let i := enIdent s
  let address := leBytes 2 i.mfct ++ leBytes 4 i.idnum ++ leBytes 1 i.version ++ leBytes 1 i.devtype
  ([0x44] : List Byte) ++ address ++ [0x7A]
    ++ leBytes 1 access ++ leBytes 1 (status + (if s.cat.profile == .verify then 128 else 0))
    ++ configField s records.length ++ secureRecords address access records s

/-- Status byte of R391. -/
def enStatus (s : State) : Nat :=
  (if s.safe || s.phase == .extest then 8 else 0) + (if s.rg.posted.rstat.getLsbD 14 then 16 else 0)

/-- A further record that holds an event code (R444, R456). -/
def eventRecord (code : Nat) : List Byte := [0x02, 0xFF, 0x05] ++ leBytes 2 code

/-- The reservation of a key's counter moves where the counter has come within 2^12 of it, or resumes at it after a POR, which 0x0C0D
tells (R364): object 0x0D is to be written. -/
def reserve (s : State) (keyid : Nat) : State :=
  let c := vget s.ln.ctrs keyid {}
  let por := c.res != 0 && c.ctr == c.res
  let res := if por then c.res + 65536 else if c.res ≤ c.ctr + 4096 then c.ctr + 65536 else c.res
  if res = c.res then s
  else
    { s with ln.ctrs := vupd s.ln.ctrs keyid (fun _ => { c with res }), ln.obj.res := vupd s.ln.obj.res keyid (fun _ => res) }
      |> writeObject 0x0D |> onlyIf por (logEvent 0x0C0D [(keyid : Int)])

/-- The keys of the image are unwrapped into LNK RAM (R360), each with a reservation of its counter (R364). -/
def loadKeys (s : State) : State :=
  s.cat.keys.foldl (fun s k => reserve s k.keyid) { s with ln.loaded := s.cat.keys.map (·.keyid) }

/-- The committed reservations cover every counter value that a loaded key has taken (R364): until then no frame goes out (log 36). -/
def reserved (s : State) : Bool :=
  s.ln.loaded.all (fun k => decide ((vget s.ln.ctrs k {}).ctr ≤ vget s.ln.objCopy.res k 0))

/-- The next counter value of a key (R363), and the reservation that follows it (R364). -/
def takeCtr (keyid : Nat) (s : State) : Nat × State :=
  let s := reserve s keyid
  let c := vget s.ln.ctrs keyid {}
  let s := reserve { s with ln.ctrs := vupd s.ln.ctrs keyid (fun _ => { c with ctr := c.ctr + 1 }) } keyid
  (c.ctr, onlyIf (c.ctr + 1 == 0xFFFFFFFF) (logEvent 0x0C0E [(keyid : Int)]) s)

/-- Message counter of security mode 7 moves with a frame (R392). -/
def stepMessageCounter (s : State) : State :=
  match enKey s with
  | some k => if k.keyid % 2 = 0 then s else (takeCtr k.keyid s).2
  | none => s

/-- The alarm frame is built (R456): date and time, forward volume, heat energy or forward base volume, error time, error
flags, and 0x1004. -/
def buildAlarmFrame (s : State) : State :=
  let l := s.rg.posted.legal
  let rs : List Byte := ([0x04, 0x6D] : List Byte) ++ typeF (s.rg.posted.regtime / 65536) s.tl.zone ++ rec8 [0x07, 0x10] l.vfwd
    ++ (if s.cat.profile == .gas then rec8 [0x07, 0xFF, 0x01] l.vbfwd else rec8 [0x07, 0x03] l.eheat)
    ++ [0x04, 0xFF, 0x03] ++ leBytes 4 l.terr ++ [0x02, 0xFD, 0x17] ++ leBytes 2 s.rg.posted.rstat.toNat
    ++ eventRecord 0x1004
  let acc := (s.ln.access + 1) % 256
  stepMessageCounter { s with ln.access := acc
                              flt.alarm := some { access := acc, built := tlmono s, regtime := s.rg.posted.regtime,
                                                  bytes := enFrame acc 8 rs s } }

/-- An EN 13757-4 frame as it waits for the air. -/
def enTx (use : TxUse) (frame : List Byte) (s : State) : TxFrame :=
  { use, channel := none, rate := 0x10 + enMode s, airtime := enAirtime s frame, bytes := enOctets s frame }

/-- The next telegram of R391, with an event record where `extra` names a code (R444). -/
def telegram (use : TxUse) (extra : Option Nat) (s : State) : TxFrame × State :=
  let acc := (s.ln.access + 1) % 256
  let rs := telegramRecords s ++ (match extra with | some c => eventRecord c | none => [])
  (enTx use (enFrame acc (enStatus s) rs s) s, stepMessageCounter { s with ln.access := acc })

/-- The fault telegram of R104: error status, the frozen volume and energy registers of the sealed slot (Table 11.1), `SBEVT` and
`FAILS`; the layout of its records is log 35. -/
def faultTelegram (s : State) : TxFrame × State :=
  let l := ((s.ar.sealedSlot.map (·.legal)).getD {})
  let acc := (s.ln.access + 1) % 256
  let rs := rec8 [0x07, 0x10] l.vfwd ++ rec8 [0x07, 0x90, 0x3C] l.vrev ++ rec8 [0x07, 0x03] l.eheat
    ++ rec8 [0x87, 0x40, 0x03] l.ecool ++ rec8 [0x87, 0x10, 0x03] l.etar[0] ++ rec8 [0x87, 0x20, 0x03] l.etar[1]
    ++ rec8 [0x87, 0x30, 0x03] l.etar[2] ++ rec8 [0x87, 0x80, 0x10, 0x03] l.etar[3] ++ rec8 [0x07, 0xFF, 0x01] l.vbfwd
    ++ rec8 [0x07, 0xFF, 0x02] l.vbrev ++ eventRecord s.r.sys.sbevt.toNat ++ [0x01, 0xFF, 0x06]
    ++ leBytes 1 s.r.sys.sbstatFails.toNat
  (enTx .fault (enFrame acc (enStatus s) rs s) s, stepMessageCounter { s with ln.access := acc })

/-! ## The queue of transmissions -/

/-- Class of a unit-7 seat, 0.1 mA (Table 5.6). -/
def txClass (s : State) : Nat := if (enRadio s).txpwr ≤ 10 then 250 else 500

/-- A frame joins the queue of transmissions. -/
def queueTx (f : TxFrame) (s : State) : State := { s with rad.queue := s.rad.queue ++ [f] }

/-- A frame of the sequencer. -/
def TxUse.sequencer : TxUse → Bool
  | .fault | .alarm => true
  | _ => false

/-- A transmission that waits for a Vitrine calibration under R148: one of the Link core that no deadline binds (log 69). -/
def TxUse.deferrable : TxUse → Bool
  | .poll | .join | .handover | .wake | .legacy | .fallback | .upload => true
  | _ => false

/-- The Link core holds the transceiver: it receives, transmits, or holds the seat of a transmission (R345). -/
def linkHolds (s : State) : Bool :=
  s.rad.owner == .link && (s.rad.mode == .rx || s.rad.mode == .tx || holds 7 s)

/-- Band of a frequency (Table 13.1). -/
def bandOf (hz : Nat) : Nat := if hz < 300000000 then 0 else if hz < 600000000 then 1 else if hz < 900000000 then 2 else 3

/-- The synthesizer calibrates on a band (R337, R338, R343). -/
def calibrateSynth (band : Nat) (s : State) : State := { s with rad.synTemp := dieTemp s, rad.synBand := band }

/-- The oscillator band is calibrated anew before a use where the band has changed or the die has moved 10 K (R337). -/
def recalibrate (hz : Nat) (s : State) : State :=
  if bandOf hz ≠ s.rad.synBand ∨ 100 ≤ (dieTemp s - s.rad.synTemp).natAbs then calibrateSynth (bandOf hz) s else s

/-- The synthesizer is set for a use (R333, R337, R352): frequency, channel and rate words; the setting is offset by the
predicted XRF error in steps of 40 MHz / 2^24 (log 70). -/
def tune (hz num rate : Nat) (s : State) : State :=
  let q : Rat := (hz : Rat) / (1 + (predXrf s).1 / 100000000)
  let steps := roundNear (q * 16777216 / 40000000)
  recalibrate hz { s with
    r.rf.rffreq := BitVec.ofInt 32 (roundOpen ((steps : Rat) * 40000000 / 16777216))
    r.rf.rfchanNum := BitVec.ofNat 8 num, r.rf.rfchanRate := BitVec.ofNat 8 rate, r.rf.rfstatLock := true, rad.synFails := 0 }

/-- The receiver's setting for a use. -/
def tuneTo (t : Tuning) (s : State) : State := tune t.hz t.num t.rate s

/-- The link is up: the role's radio works, no state silences it, and the Link core does not wait to restart (R103, R345,
Table 4.2 stage 13). -/
def linkUp (s : State) : Bool := s.operating && !s.rad.unavailable && s.flt.proc.isNone && !s.rad.linkRestart

/-- The die temperature lies between two populated bins, whatever their distance: those whose XT32 error is valid (R150). -/
def betweenPopulated (s : State) : Bool :=
  let bins := validBins (s.ck.bins.toList.map (·.xt32))
  bins.any (fun x => decide (binCentre x.1 ≤ dieTemp s)) && bins.any (fun x => decide (dieTemp s ≤ binCentre x.1))

/-- A 169 MHz prediction is good enough (R148): die temperature within 3 K of the last successful XRF gate, or between two
populated bins. -/
def xrfGood (s : State) : Bool :=
  s.cat.radio.band != 0 || betweenPopulated s
    || s.ck.xrfTemp.any (fun t => decide ((dieTemp s - t).natAbs ≤ 30))

/-- The first frame that may go now: not one whose permitted time lies ahead, nor, while VITWAIT, a deferrable one. -/
def nextTx (s : State) : Option TxFrame :=
  s.rad.queue.find? (fun f => decide (f.notBefore.getD 0 ≤ s.tl.monoUs) && (!s.r.rf.rfstatVitwait || !f.use.deferrable))

/-- A frame of an exchange. -/
def TxUse.exchange : TxUse → Bool
  | .poll | .join => true
  | _ => false

/-- The seat of the next transmission: unit 7, its airtime as the hold, that of all attempts for the frame of an exchange (Table 5.6,
R375). While the sequencer holds the transceiver the Link core's requests wait (R345). -/
def pumpTx (s : State) : State :=
  if s.rad.air.isSome || hasSeat 7 s || s.starting then s
  else match nextTx s with
  | none => s
  | some f =>
    if !f.use.sequencer && !(linkUp s && reserved s) then s
    else if f.use.sequencer && s.rad.owner == .link then s
    else if !f.use.sequencer && s.rad.owner == .sequencer then s
    else
      { s with rad.owner := if f.use.sequencer then .sequencer else .link }
        |> postSeat 7 (txClass s) (if f.use.exchange then 4 * f.airtime else f.airtime) f.deadline (.transmit f.use)

/-- The Warden gives a frame to the autonomous TX sequencer; the command waits while the Link core holds the transceiver
(R344, R345). -/
def sequencerSend (f : TxFrame) (s : State) : State :=
  if linkHolds s then { s with rad.seqCmd := some (s.now, f) }
  else requestsTogether pumpTx { s with rad.owner := .sequencer, rad.queue := f :: s.rad.queue, rad.seqCmd := none
                                        cl.waiting := s.cl.waiting.filter (fun x => x.unit != 7) }

/-- A command of the sequencer that waited proceeds once the Link core has released the transceiver (R345). -/
def pumpSequencer (s : State) : State :=
  match s.rad.seqCmd with
  | some (_, f) => if linkHolds s then s else sequencerSend f s
  | none => s

/-- The sequencer has the alarm frame. -/
def alarmUnderWay (s : State) : Bool :=
  (s.rad.queue ++ s.rad.air.toList ++ (s.rad.seqCmd.map (·.2)).toList).any (fun f => f.use == .alarm)

/-- The alarm frame as the sequencer sends it. -/
def alarmTx (s : State) : TxFrame := enTx .alarm ((s.flt.alarm.map (·.bytes)).getD []) s

end Sys2Proof.Machine
end

