-- ==== Sys2Proof/Machine/Procs.lean ====
section
/-! DEFINITION. What the Warden does of itself: Archive jobs, wakes and state entries (R110 to R121), the shadow commit
and the ledger record, watchdog resets (R453 to R455), the starts, and safe-beacon (R102 to R106). -/

namespace Sys2Proof.Machine

/-- An event whose code the spec does not state is logged without a class (R443, log 26). -/
def logPlain (k : Nat) (args : List Int) (s : State) : State :=
  enqueueEvent (mkEvent (Config.eventCode k) args s) (flushDrops s)

/-- The two fields of a 32-bit item of an event (R319). -/
def w32 (n : Nat) : List Int := [((n % 65536 : Nat) : Int), ((n / 65536 % 65536 : Nat) : Int)]

/-! ## Archive jobs -/

/-- The Archive can be programmed: after stage 6 or step H4, in safe-beacon where it has passed (R93). -/
def archiveUp (s : State) : Bool :=
  match s.phase with
  | .cold n => decide (7 ≤ n)
  | .hib n => decide (5 ≤ n)
  | .operating | .extest => true
  | .safeBeacon false => s.start.arcOk
  | _ => false

/-- Seats for the queued jobs: unit 1 for the Registrar's records, unit 5 for the Curator's (R312, R486), no two
programs at once, the accession record first (R17). -/
def pumpArchive (s : State) : State :=
  if !archiveUp s || s.starting || s.flt.proc.isSome then s
  else
    let s := match nextRun .registrar s with
      | some r => postSeat 1 50 (if r.job.erases then eraseHold 1 s else 12000) none .seal s
      | none =>
        if s.ar.ledgerDue then postSeat 1 50 12000 none .ledger s
        else if s.ar.eraseDue then postSeat 1 50 (eraseHold 1 s) none .wardenErase s
        else s
    match nextRun .curator s with
    | some r => postSeat 5 50 (if r.job.erases then eraseHold 5 s else 1000) none .archive s
    | none => s

/-! ## Wakes and entries -/

/-- Segments that Standby retains (R120): AON, REG, and those that `RETBANK` and `RETSB` select; a bank that replaces a
retired one takes its bit. -/
def retainedInStandby (s : State) (code : Nat) : Bool :=
  let base := fun (c : Nat) =>
    if c = 0 ∨ c = 5 then true
    else if c ≤ 4 then s.pw.retbank.getLsbD 0
    else if c ≤ 13 then s.pw.retbank.getLsbD 1
    else if c ≤ 15 then s.pw.retbank.getLsbD 2
    else if c = 16 then s.pw.retbank.getLsbD 3
    else s.pw.retsb.getLsbD (c - 17)
  let x := vget s.seg code {}
  if x.subst then base x.peer else base code

/-- Segments lose power: their content is gone (R296). -/
def losePower (codes : List Nat) (s : State) : State :=
  let codes := codes.filter (fun c => !(vget s.seg c {}).retired)
  let sig := codes.any (fun c => decide (6 ≤ c ∧ c ≤ 13))
  { s with pw.uncleared := codes
           xb := if codes.contains 16 then [] else s.xb
           xbBad := if codes.contains 16 then [] else s.xbBad
           fl := if codes.contains 16 then { s.fl with slots := [], lastPosted := none } else s.fl
           tp := if codes.contains 16 then { s.tp with last := none, prev := none, lastValid := none, lastT0 := none } else s.tp
           rg.pressure := if codes.contains 16 then none else s.rg.pressure
           ln.loaded := if codes.any (fun c => decide (c = 14 ∨ c = 15)) then [] else s.ln.loaded
           path := if sig then s.path.map (fun p => { p with tpl := p.copy }) else s.path
           ch := if sig then s.ch.map (fun c => { c with table := if c.table.isSome then c.copy else none, crc := c.copyCrc }) else s.ch }

/-- `TCOARSE` at a wake (R147): 7.8125 ns / (1 + e). -/
def tcoarseNow (s : State) : Nat := (roundOpen (7812500 / (1 + (predHfrc s).1 / 1000000))).toNat

/-- Run is reached by a wake (R111, R113, R147, R360): `WAKESRC`, `TCOARSE`, the HFRC trim of R144. No domain comes on with the wake
itself: each does with the seat of its work (R18, R20), and clears what was not retained (R296). -/
def toRun (code : Nat) (s : State) : State :=
  { s with pw.st := .run, pw.choose := false, pw.wokeAt := some s.now
           r.pwr.wakesrc := BitVec.ofNat 8 code
           r.clk.tcoarse := BitVec.ofNat 32 (tcoarseNow s)
           r.clk.hfrctrim := s.ck.trimNext.getD s.r.clk.hfrctrim
           ck.trimNext := none, ck.pllFails := 0 }
    |> onlyIf (s.ln.loaded.isEmpty) loadKeys

/-- Table 5.2: whether a source wakes a state. -/
def wakes (code : Nat) (t : PState) : Bool :=
  match t with
  | .doze | .standby => decide (1 ≤ code ∧ code ≤ 7)
  | .hibernate => decide (code = 4 ∨ code = 5 ∨ code = 6)
  | _ => false

/-- Start words that every start resets (R108, R461), with its cause. -/
def startWords (cause : Nat) (s : State) : State :=
  { s with r.sys.startcause := BitVec.ofNat 4 cause
           r.sys.stageFailstg := 0, r.sys.startevt := 0, r.sys.stagewarn := 0, r.sys.startdur := 0
           r.sys.vreswait := 0, r.sys.xtwait := 0
           r.sys.restsrcSealok := false, r.sys.restsrcShok := 0, r.sys.restsrcSrc := 0
           r.sys.otpkeyFirst := false
           r.pwr.vresmin := 0xFFFF
           r.flt.unavail := 0, r.flt.pinflt := 0
           pw.heldReq := none, pw.request := none, pw.issuer := none
           start := { began := s.now } }

/-- Class of a stage's seat, 0.1 mA (Table 4.1). -/
def stageClass (n : Nat) : Nat := if n = 13 then 250 else if n = 10 ∨ n = 11 then 100 else 50

/-- A Hibernate step begins, each but the last once its seat is admitted, as the stage whose work it repeats (R18, log 99). -/
def beginHibStep (n : Nat) (s : State) : State :=
  if 12 ≤ n then { s with phase := .hib n, start.wait := .none }
  else requestSeat 0 (stageClass (stepStage n)) 10000 (some (s.now + 10000000)) (.startStage (0x80 + n))
    { s with phase := .hib n, start.wait := .seat, start.waitFrom := s.now }

/-- What a reset leaves of the Archive: the flash. The operation under way is cut off; what waits in the writers' RAM is lost with the
RAM, and the Curator reads object 0x05 and the states of the patch banks again (R75, R315, R322). -/
def keptFlash (s : State) : Archive :=
  { s.ar with run := none, paused := s.ar.paused ++ s.ar.run.toList, jobs := [], ledgerDue := false, eraseDue := false
              lastDigest := s.ar.digestCopy, moduleCrc := s.ar.moduleCopy
              banks := Vector.ofFn (fun (i : Fin 2) => { s.ar.banks[i] with state := s.ar.bankCopy[i] }) }

/-- A wake from Hibernate: the Hibernate start begins at step H1 (R99, R121); every segment but AON is cleared. -/
def hibernateStart (code : Nat) (s : State) : State :=
  toRun code (losePower ((List.range 33).filter (· != 0)) s)
    |> startWords 7
    |> fun s => beginHibStep 1 { s with ar := keptFlash s, pw.uncleared := [], r.sys.nhib := inc16 s.r.sys.nhib, ps := s.ps.stopped, ck.run := none
                                        cat := {}, governs := false }

/-- An entry to Hibernate or Off is under way: sources that do not wake the target are handled as it handles them (R117). -/
def State.deepEntry (s : State) : Bool := s.pw.target == some .hibernate || s.pw.target == some .off

/-- Number of the XT32 cycle in which a time of `State.now` lies. -/
def xtCycle (t : Nat) : Nat := t * 32768 / 1000000

/-- A source falls in the XT32 cycle of the wake just made: the lowest code is the one recorded (R113). -/
def sameCycleWake (code : Nat) (s : State) : State :=
  if decide (1 ≤ code ∧ code ≤ 7) && s.pw.wokeAt.any (fun t => xtCycle t == xtCycle s.now) then
    { s with r.pwr.wakesrc := BitVec.ofNat 8 (min code s.r.pwr.wakesrc.toNat) }
  else s

/-- A wake event (R113, R117). During an entry it is latched, the lowest code kept. -/
def wake (code : Nat) (s : State) : State :=
  match s.pw.target with
  | some t =>
    if wakes code t then { s with pw.latched := some (min code (s.pw.latched.getD code)) } else s
  | none =>
    if wakes code s.pw.st then (if s.pw.st == .hibernate then hibernateStart code s else toRun code s)
    else if s.pw.st == .run then sameCycleWake code s else s

/-- Service mode of a port ends: event 0x0F02 with its cause (R429); a slot or patch write ends with it unless a pending
command of it runs (R57, R430, log 80). -/
def endService (p : Port) (cause : Nat) (s : State) : State :=
  if s.service p then
    let s := if s.sv.pendStatus = 1 then s else { s with sv.slotW := none, sv.patchW := none }
    updSes p (fun x => { x with service := false }) s |> logEvent 0x0F02 [(p.code : Int), (cause : Int)]
  else s

/-- Service mode ends on both ports. -/
def endServiceAll (cause : Nat) (s : State) : State := s |> endService .optical cause |> endService .host cause

/-- Fast sequence ends; its time goes to `FASTTIME` (R216). -/
def endFast (s : State) : State :=
  if s.ps.fast then { s with ps.fast := false, ps.fastUs := s.ps.fastUs + (s.now - s.ps.fastFrom) } else s

/-- `FASTTIME`: the stays in Fast since the last cold start, the present one included, in whole s (R216). -/
def fastSeconds (s : State) : Nat := sat32 ((s.ps.fastUs + (if s.ps.fast then s.now - s.ps.fastFrom else 0)) / 1000000)

/-! ## The ledger record and the shadow commit -/

/-- Sum of the charges of one minute, in ms, rounded up (Table 12.11a). -/
def dutyBin (l : List (Nat × Nat)) (minute : Nat) : Nat :=
  ceilDiv ((l.filter (fun x => x.1 == minute)).map (·.2)).sum 1000

/-- Minute of `TLMONO`. -/
def monoMinute (s : State) : Nat := tlmono s / 60

/-- The ledger record as it would be written now (R487, Table 12.11a): `TLTIME`, `TLMONO`; with `REGION` = 1 the duty bins hold 0. -/
def ledgerNow (s : State) : LedgerRecord :=
  { time := tltime s, mono := tlmono s, base := monoMinute s
    duty := s.rad.duty.toList.map (fun l => (List.range 61).map (fun i =>
      if s.cat.radio.region = 1 ∨ monoMinute s < i then 0 else dutyBin l (monoMinute s - i))) }

/-- A ledger record is written (R156): its frame of 656 bytes. -/
def writeLedger (s : State) : State := wardenFrame 2 628 .committed { s with ar.ledger := some (ledgerNow s) }

/-- Copy 2 is newer than copy 1: by the integration number, and for equal numbers by what only grows between two writes, the seal
number and the audit counter (log 143). -/
def secondNewer (a b : Accession) : Bool :=
  decide (a.legal.intnum < b.legal.intnum)
    || (a.legal.intnum == b.legal.intnum
      && (decide (a.legal.aseal < b.legal.aseal) || (a.legal.aseal == b.legal.aseal && decide (a.legal.audit < b.legal.audit))))

/-- The newer one of two copies, each of which may be absent. -/
def newerOf : Option Accession → Option Accession → Option Accession
  | some a, some b => if secondNewer a b then some b else some a
  | some a, none => some a
  | none, b => b

/-- The newer shadow copy that passes its CRC. -/
def newerShadow (s : State) : Option Accession := newerOf (s.rg.sh1.filter (·.crcOk)) (s.rg.sh2.filter (·.crcOk))

/-- The commit of Table 17.4 can run: VRES ≥ 2.0 V and a copy that passes its CRC. -/
def commitReady (s : State) : Bool := decide (2000 ≤ vres s) && (newerShadow s).isSome

/-- The shadow goes to the sealed slot, with a ledger record (R156, R453); ARC is on for the commit alone, without a seat
(R18), and off again at its end. What the controller has under way stands aside (R312); where the commit runs within one command, a
record goes on from the step it was in (log 150). -/
def commitShadow (s : State) : State :=
  let s := match s.ar.run with
    | some r => if r.job = ArcJob.sealedSlot then { s with ar.run := none } else pauseRun s
    | none => s
  wardenFrame 1 256 .committed { s with ar.sealedSlot := newerShadow s } |> writeLedger

/-- A need is missing: 0x1006, `GOPSKIP` (Table 17.4). -/
def skipCommit (s : State) : State :=
  { s with r.flt.gopskip := inc16 s.r.flt.gopskip } |> logEvent 0x1006 [(vres s : Int)]

/-- A commit that has begun completes. -/
def finishCommit (s : State) : State := if (newerShadow s).isSome then commitShadow s else skipCommit s

/-- The whole commit, or its skip. -/
def commitOrSkip (s : State) : State := if commitReady s then commitShadow s else skipCommit s

/-! ## Starts -/

/-- Words that a cold start leaves as they are: those held in AON RAM or in Archive SYSTEM, the clocks, which keep
running, and the last samples (R108, R133, R160, R263, R393, R441, R461). -/
def coldRegs (r : Regs) : Regs :=
  { sys := { startcause := r.sys.startcause, wdstart := r.sys.wdstart,
             sbstatFails := r.sys.sbstatFails, sbtel := r.sys.sbtel, sbevt := r.sys.sbevt,
             ncold := r.sys.ncold, nhib := r.sys.nhib }
    pwr := { vbatmv := r.pwr.vbatmv, vresmv := r.pwr.vresmv, borcnt := r.pwr.borcnt }
    clk := { r.clk with calok := 0, calfail := 0, clkstatVitrdy := false, clkstatPllvit := false }
    tmp := { swapcnt := r.tmp.swapcnt }
    mem := { erasemax := r.mem.erasemax, spareblk := r.mem.spareblk }
    lnk := { pardays := r.lnk.pardays }
    dsp := { epdold := r.dsp.epdold }
    io := { pi0cnt := r.io.pi0cnt, pi1cnt := r.io.pi1cnt, poback0 := r.io.poback0, poback1 := r.io.poback1 }
    flt := { fltstatTamper := r.flt.fltstatTamper, fltstatAlarm := r.flt.fltstatAlarm,
             fltstatRevsusp := r.flt.fltstatRevsusp, wdstatStep := r.flt.wdstatStep, wdstatCause := r.flt.wdstatCause,
             wdtime := r.flt.wdtime, wdcnt := r.flt.wdcnt, lastalarm := r.flt.lastalarm,
             lasttamper := r.flt.lasttamper, tamptime := r.flt.tamptime, revdays := r.flt.revdays,
             gopskip := r.flt.gopskip } }

/-- A cold start without a POR begins at stage 1 (R87): what AON RAM and the Archive hold stays (R94), the correction table
comes from Archive SYSTEM (R150), and everything else is as at reset. Where a reset of another cause than boundary scan ends an
EXTEST, the cold start takes IDCODE as the current instruction of the test access port (log 116). The ledger's segment ends where
the table's copy changes the residual class (R155). -/
def coldStart (cause : Nat) (s : State) : State := accounted s (freshStart cause s)
where
  /-- The state at stage 1. -/
  freshStart (cause : Nat) (s : State) : State :=
  { now := s.now, free := s.free, pending := s.pending, phase := .cold 1, nv := s.nv
    sb := { s.sb with retry := cause == 6 || (cause == 3 && s.sb.retry) }
    start := { began := s.now, noXt32 := !s.r.clk.clkstatXt32ok }
    r := { coldRegs s.r with sys := { (coldRegs s.r).sys with startcause := BitVec.ofNat 4 cause,
                                                               mfloor := s.ar.floorCopy, ncold := inc16 s.r.sys.ncold } }
    pw := { dom := 1, seen := s.pw.seen }
    ck := { bins := s.ck.binsCopy, binsCopy := s.ck.binsCopy, lastOk := s.ck.lastOk, everOk := s.ck.everOk,
            staleLogged := s.ck.staleLogged, okTemp := s.ck.okTemp, xrfTemp := s.ck.xrfTemp, predErr := s.ck.predErr,
            fallbackAt := s.ck.fallbackAt, lprcAt := s.ck.lprcAt, lprcTemp := s.ck.lprcTemp, xtRun := s.ck.xtRun }
    tl := s.tl
    rg := { sh1 := s.rg.sh1, sh2 := s.rg.sh2, bins := s.rg.bins, binStart := s.rg.binStart, lsHist := s.rg.lsHist }
    ar := keptFlash s
    evq := s.evq, evDrop := s.evDrop
    ch := s.ch.map (fun c => { copy := c.copy, copyCrc := c.copyCrc })
    cal := { tempCopy := s.cal.tempCopy }
    path := s.path.map (fun p => { tpl := p.copy, copy := p.copy, chofs := p.chofsCopy, chofsCopy := p.chofsCopy })
    fl := { classCopy := s.fl.classCopy, seq := s.fl.seq, day := s.fl.day }
    tp := { swap := s.tp.swapCopy, swapCopy := s.tp.swapCopy }
    rad := { duty := s.rad.duty, dwell := s.rad.dwell, calStored := s.rad.calStored, calAt := s.rad.calAt }
    ln := { ctrs := Vector.ofFn (fun (i : Fin 16) => { s.ln.ctrs[i] with res := s.ln.objCopy.res[i] }), marks := s.ln.marks, obj := s.ln.objCopy, objCopy := s.ln.objCopy, store := s.ln.store, csNext := s.ln.csNext,
            qlink := s.ln.qlink, borSeen := s.ln.borSeen, lowSeenAt := s.ln.lowSeenAt, access := s.ln.access }
    dp := { regions := s.dp.regions.map (fun x => { known := x.known }), dark := s.dp.dark, ledger := s.dp.ledger }
    sv := { opt := { fails := s.sv.opt.fails, lockLen := s.sv.opt.lockLen, lockUntil := s.sv.opt.lockUntil }
            hst := { fails := s.sv.hst.fails, lockLen := s.sv.hst.lockLen, lockUntil := s.sv.hst.lockUntil } }
    io := { vddio := s.io.vddio, rstLow := s.io.rstLow, tmpRaw := s.io.tmpRaw, tmp := s.io.tmp, tmpAt := s.io.tmpAt,
            tmpHib := s.io.tmpHib, modCheckAt := s.tl.monoUs, cs := s.io.cs
            tap := if s.io.tap = .extest then .idcode else s.io.tap }
    flt := { sigHist := s.flt.sigHist, lnkHist := s.flt.lnkHist, regHist := s.flt.regHist, alarm := s.flt.alarm,
             alarmHeld := s.flt.alarmHeld, reported := s.flt.reported, dayStart := s.flt.dayStart } }

/-- What Archive SYSTEM gives back after a POR: the ledger of R156 with `TLUNC` unknown, the duty bins without ageing
(R351), reservations and marks (R364, R366), the correction table (R150), the counters of object 0x0B and the metrology floor. -/
def porStart (s : State) : State :=
  let rec? := s.ar.ledger
  let civ := (rec?.map (fun x => ceilDiv (x.time / 2 * 1000000000) 32768)).getD 0
  let mono := (rec?.map (fun x => x.mono * 1000000)).getD 0
  let n := s.ar.counters
  { now := s.now, free := s.free, pending := s.pending, phase := .cold 1, start := { began := s.now }, nv := s.nv
    sb := { entered := s.sb.entered }
    r := { sys := { startcause := 1, mfloor := s.ar.floorCopy, sbstatFails := n.fails, ncold := inc16 n.ncold, nhib := n.nhib }
           pwr := { borcnt := n.borcnt }
           clk := { xt32loss := n.xt32loss, tlsteps := n.tlsteps, tlstatLost := true }
           tmp := { swapcnt := n.swapcnt }
           mem := { erasemax := s.r.mem.erasemax, spareblk := s.r.mem.spareblk }
           lnk := { pardays := s.r.lnk.pardays } }
    ck := { bins := s.ck.binsCopy, binsCopy := s.ck.binsCopy, everOk := s.ck.everOk, lastOk := mono }
    tl := { civNs := civ, monoUs := mono, segStart := mono, zone := n.zone }
    rg := { binStart := mono }
    ar := keptFlash s
    ch := s.ch.map (fun c => { copy := c.copy, copyCrc := c.copyCrc })
    cal := { tempCopy := s.cal.tempCopy }
    path := s.path.map (fun p => { tpl := p.copy, copy := p.copy, chofs := p.chofsCopy, chofsCopy := p.chofsCopy })
    fl := { classCopy := s.fl.classCopy
            day := localDay { s with tl := { s.tl with civNs := civ, monoUs := mono, zone := n.zone } } }
    tp := { swap := s.tp.swapCopy, swapCopy := s.tp.swapCopy }
    rad := { calStored := s.rad.calStored, calAt := s.rad.calAt
             duty := Vector.ofFn (fun (c : Fin 5) =>
               match rec? with
               | some x => (List.range 61).filterMap (fun i =>
                   let v := (x.duty.getD c.val []).getD i 0
                   if v = 0 ∨ x.base < i then none else some (x.base - i, v * 1000))
               | none => []) }
    ln := { obj := s.ln.objCopy, objCopy := s.ln.objCopy, marks := s.ln.objCopy.marks, store := s.ln.store, csNext := s.ln.csNext
            qlink := s.ln.qlink
            ctrs := Vector.ofFn (fun (i : Fin 16) => { ctr := s.ln.objCopy.res[i], res := s.ln.objCopy.res[i] }) }
    io := { vddio := s.io.vddio, rstLow := s.io.rstLow, modCheckAt := mono, cs := s.io.cs } }

/-- Every module supply, pulse, pin function and drive that the device holds by itself is gone: no output is driven and no
engine works (R35, R45). -/
def quiet (s : State) : State :=
  { s with ps := {}, ck.run := none, cal.run := false, cal.wait := none, bg := none
           ch := s.ch.map (fun c => { c with st := .off })
           mp := s.mp.map (fun m => { m with vson := false })
           rad.mode := .off, rad.air := none, rad.queue := [], rad.seqCmd := none, rad.ctl0 := false, rad.ctl1 := false
           dp.glassOn := false, dp.emUntil := none, dp.emDriving := false, dp.emBlink := false, dp.park := none, dp.railsOk := false
           io.irUntil := none, io.tap := .idcode, flt.alarmPulse := false
           rad.replyDue := false, r.rf.rfstatLock := false
           ln.exch := none, ln.search := none, ln.session := none, ln.rxSince := none, ln.sync := .none, ln.ackOpen := false
           ln.listenDue := none, ln.listening := false, ln.helloDue := false, ln.rxWait := none, ln.slot := none
           ar := keptFlash s }

/-- The device is Off (R119, Table 5.1): only OTP, the Archive and the configuration memory persist; time stands, and every
ball is high-impedance (R35). -/
def enterOff (ph : Phase) (s : State) : State :=
  { quiet s with phase := ph, pw := { st := .off, dom := 0, seen := 0 }, cl := {}, flt.proc := none, evq := [], sv := {} }

/-! ## Safe-beacon -/

/-- Entry to safe-beacon (R102, R103, Table 17.4): commit unless the restore of this start has not run, park, halt, 0x00D0
with the event that caused it. A reload whose switch still waits stays in progress (log 123). -/
def enterSafeBeacon (event : Nat) (alone : Bool) (s : State) : State :=
  let s := if s.starting && !s.start.restored then s else commitOrSkip s
  let s := parkStart 3 s |> endServiceAll 3 |> endFast
  { s with phase := .safeBeacon alone
           rad.replyDue := false, ln.rxSince := none, ln.listenDue := none, ln.listening := false, ln.helloDue := false
           ln.ackOpen := false, ln.rxWait := none, ln.slot := none
           r.sys.sbevt := BitVec.ofNat 16 event
           r.sys.sbtel := 0
           r.io.hirqSbchg := true
           rg.stopped := true
           sb := { retryFrom := s.now, telFrom := s.now, first := true, entered := true }
           ps := s.ps.stopped, ck.run := none, cal.run := false, cal.wait := none
           cl := { s.cl with waiting := [], held := [] }
           r.drv.xdstatBooston := false, r.drv.xdstatVdrvok := false
           ln.search := none, ln.exch := none, ln.sync := .none, ln.session := none, ln.ho := {}
           rad.mode := .off, rad.air := none, rad.queue := []
           pw.st := .run, pw.target := none, pw.pend := none, pw.request := none, pw.heldReq := none
           mp := s.mp.map (fun m => { m with vson := false })
           flt.alarmDue := none }
    |> domOff [.sig, .tx, .rx, .vit, .tmp, .rf, .lnk] |> tdcDown
    |> logEvent 0x00D0 [(event : Int)] |> render

/-- A start ends in safe-beacon (Table 4.5): `FAILS` counts by the cause of the start; one that R98 ends counts as a fatal
finding of the retry that led to it. Causes that Table 4.5 does not name are log 142. -/
def failStart (event : Nat) (alone : Bool) (s : State) : State :=
  let cause := if s.sb.retry then 6 else s.r.sys.startcause.toNat
  let s := if cause = 6 then
      let n := min 3 (s.r.sys.sbstatFails.toNat + 1)
      { s with r.sys.sbstatFails := BitVec.ofNat 4 n } |> logEvent 0x00D1 []
        |> onlyIf (n == 3) (logEvent 0x00D2 [])
    else if cause = 5 then { s with r.sys.sbstatFails := 1 } |> logEvent 0x00D1 []
    else s
  enterSafeBeacon event alone s |> writeObject 0x0B

/-- The first fatal finding of a start is recorded (R92), in the place of the step that an abandoned Hibernate start left (log 118). -/
def recordFatal (stage event : Nat) (s : State) : State :=
  if s.r.sys.stageFailstg = 0 ∨ 0x81 ≤ s.r.sys.stageFailstg.toNat then
    { s with r.sys.stageFailstg := BitVec.ofNat 8 stage, r.sys.startevt := BitVec.ofNat 16 event } else s

/-- A fatal finding of a start (R92): its event, the first one recorded, and safe-beacon. -/
def fatal (stage event : Nat) (args : List Int) (s : State) : State :=
  failStart event (event == 0x0011) (recordFatal stage event (logEvent event args s))

/-- A Hibernate start is abandoned for a cold start with cause 0x8 (R100); `STAGE.FAILSTG` and `STARTEVT` tell the step and its
event until the cold start has a fatal finding of its own (log 118). -/
def fallBack (step event : Nat) (s : State) : State :=
  { coldStart 8 s with r.sys.stageFailstg := BitVec.ofNat 8 (0x80 + step), r.sys.startevt := BitVec.ofNat 16 event }

/-- The finding's event is logged, and the Hibernate start is abandoned. -/
def abandonHib (step event : Nat) (args : List Int) (s : State) : State := fallBack step event (logEvent event args s)

/-- A stage is told that its request was dropped (R91): it fails with 0x00E0; a Hibernate step likewise (R100). -/
def stageTold (s : State) : State :=
  match s.phase with
  | .cold n => fatal n 0x00E0 [(n : Int)] s
  | .hib n => abandonHib n 0x00E0 [((0x80 + n : Nat) : Int)] s
  | _ => s

/-- A stage's request passes its deadline (R91, R131): it is dropped. -/
def stageSeatDropped (x : Seat) (s : State) : State := stageTold (dropRequest x 1 s)

/-- A warning of a stage (R92). -/
def warn (stage event : Nat) (args : List Int) (s : State) : State :=
  { s with r.sys.stagewarn := s.r.sys.stagewarn ||| BitVec.ofNat 14 (1 <<< (stage - 1)) } |> logEvent event args

/-! ## Watchdog resets (R454) -/

/-- Every engine but the Warden stops, and every domain but AON goes off (R454 step 6, R126, R46, R49); what they had under way
is lost, and the legal registers stay as they are. -/
def stopEngines (s : State) : State :=
  let s := endFast s
  { s with ps := s.ps.stopped, ck.run := none, cal.run := false, cal.wait := none, rg.stopped := true, bg := none
           r.drv.xdstatBooston := false, r.drv.xdstatVdrvok := false
           ch := s.ch.map (fun c => { c with st := .off })
           rad.air := none, rad.queue := [], rad.seqCmd := none, rad.mode := .off, rad.owner := .none, rad.replyDue := false
           rad.ctl0 := false, rad.ctl1 := false, r.rf.rfstatLock := false
           ln.exch := none, ln.search := none, ln.session := none, ln.rxSince := none, ln.listening := false, ln.helloDue := false
           ln.listenDue := none, ln.ackOpen := false, ln.rxWait := none, ln.slot := none, ln.sync := .none, ln.boundary := none
           dp.glassOn := false, dp.emUntil := none, dp.emDriving := false, dp.emBlink := false
           ar := (pauseRun s).ar
           sv := { opt := { s.sv.opt with open_ := false, service := false, challenge := none }
                   hst := { s.sv.hst with open_ := false, service := false, challenge := none } }
           mp := s.mp.map (fun m => { m with vson := false })
           cl := { cest := s.cl.cest }, pw := { s.pw with dom := 1, fast := false, target := none, pend := none, latched := none, st := .run } }

/-- A request held under R459 is cancelled (cause 1 service session, 2 reload). -/
def cancelHeld (cause : Nat) (s : State) : State :=
  if s.pw.heldReq.isSome then { s with pw.heldReq := none } |> logEvent 0x1007 [(cause : Int)] else s

/-- Step 6 (R454): every domain but AON off; cause 7 holds the device while RST_N is low (R46), the others start cold with
`STARTCAUSE` 3, or 4 for cause 8; a brownout that joined gives 9 and waits for VBAT. A watchdog reset of another cause ends an
EXTEST that is current, with IDCODE (log 116). -/
def procFinish (cause : Nat) (s : State) : State :=
  let s := { s with r.flt.wdstatStep := 6, flt.proc := none, cl.commit := none
                    io.tap := if cause ≠ 9 ∧ s.io.tap = .extest then .idcode else s.io.tap }
  if cause = 9 then { stopEngines s with phase := .brownout }
  else if cause = 7 then (if s.io.rstLow then { stopEngines s with phase := .resetHold } else coldStart 2 s)
  else coldStart (if cause = 8 then 4 else 3) s

/-- The alarm frame is held (R457). -/
def holdAlarm (cause : Nat) (s : State) : State :=
  if s.flt.alarm.isSome then { s with flt.alarmHeld := some cause } else s

/-- The front end supports the configured band (R435), by the record that its port gave. -/
def bandSupported (c : Cat) (cal : List Byte) : Bool := (u8 cal 0).testBit c.radio.band

/-- The front-end module leaves the Warden without a telegram (R435, R451). -/
def radioSilent (s : State) : Bool :=
  match s.cat.modRec 5 with
  | some _ => (vget s.r.mp 5 {}).mpstatFault != 0 || ((vget s.r.mp 5 {}).mpstatMatch && !bandSupported s.cat (calBlock 5 s))
  | none => false

/-- Step 5 (R454): the alarm telegram for causes 1 to 6, when a frame is present; its seat is asked for unit 7 (R457). -/
def procAlarm (cause : Nat) (s : State) : State :=
  if decide (1 ≤ cause ∧ cause ≤ 6) && s.flt.alarm.isSome && !radioSilent s then
    { s with r.flt.wdstatStep := 5, flt.proc := some ⟨cause, .alarm⟩, flt.alarmCause := cause
             rad.owner := .sequencer, rad.air := none, rad.queue := [alarmTx s] }
      |> requestSeat 7 (txClass s) (alarmTx s).airtime none (.transmit .alarm)
      |> fun t => if hasSeat 7 t then t else procFinish cause (holdAlarm cause t)
  else procFinish cause s

/-- The alarm telegram will not be sent: the procedure that waits for it goes on to step 6. -/
def endAlarm (s : State) : State :=
  match s.flt.proc with
  | some ⟨c, .alarm⟩ => procFinish c s
  | _ => s

/-- The park has completed, or none was needed (R454: steps 3 and 4 before step 5). -/
def procAfterCommit (cause : Nat) (s : State) : State :=
  if s.dp.park.isSome then { s with r.flt.wdstatStep := 4, flt.proc := some ⟨cause, .park⟩ }
  else procAlarm cause s

/-- How another instruction than EXTEST becomes current (R47, R49): a TAP reset, one of the other three instructions, or a code
that is not implemented. -/
inductive TapLoad where | reset | idcode | bypass | sample | unimplemented
  deriving DecidableEq, Repr

/-- The load that a free value stands for. -/
def openLoad (v : Nat) : TapLoad :=
  match v % 5 with
  | 0 => .reset | 1 => .idcode | 2 => .bypass | 3 => .sample | _ => .unimplemented

/-- The instruction that a load makes current (R47): IDCODE after a TAP reset, BYPASS for a code that is not implemented. -/
def tapInstr : TapLoad → TapInstr
  | .reset | .idcode => .idcode
  | .bypass | .unimplemented => .bypass
  | .sample => .sample

/-- A trigger of a watchdog reset (R454 step 1): its words and event 0x1001; a start that it ends before stage 15 is counted,
once for the procedure (R98). -/
def resetTrigger (cause : Nat) (s : State) : State :=
  { s with r.flt.wdstatCause := BitVec.ofNat 8 cause, r.flt.wdstatStep := 1
           r.flt.wdtime := BitVec.ofNat 32 (tlmono s), r.flt.wdcnt := vupd s.r.flt.wdcnt (cause - 1) inc16
           r.sys.wdstart := if cause = 7 then 0 else if s.starting && s.phase != .cold 15 && s.flt.proc.isNone then
             BitVec.ofNat 2 (min 3 (s.r.sys.wdstart.toNat + 1)) else s.r.sys.wdstart }
    |> logEvent 0x1001 [(cause : Int), 1]

/-- The watchdog reset procedure (R454): steps 1 and 2, the commit begun, the park alongside. A trigger that arrives during
a procedure joins it (R455). -/
def watchdogReset (cause : Nat) (s : State) : State :=
  let s := resetTrigger cause s
  match s.flt.proc with
  | some p => { s with flt.proc := some { p with cause } }
  | none =>
    let s := endFast s
    let s := { s with ps := s.ps.stopped, ck.run := none, r.flt.wdstatStep := 2, pw.target := none, pw.pend := none,
                      pw.st := .run, rad.air := none, rad.mode := .idle, rad.ctl0 := false, rad.ctl1 := false
                      r.rf.rfstatLock := false, ln.rxSince := none, ln.rxWait := none }
    let s := parkStart 0 { s with r.flt.wdstatStep := 3 }
    if commitReady s then { beginCommit s with flt.proc := some ⟨cause, .commit⟩ }
    else procAfterCommit cause (skipCommit s)

/-- The Curator executes and serves: no procedure, and its domain on under the seat of its work (R18, R418); in a cold start
from the end of stage 3 (R97), in a Hibernate start from step H1, in which the Curator executes (the rule names no step: log
125). -/
def State.serving (s : State) : Bool :=
  s.flt.proc.isNone && (match s.phase with
    | .operating | .safeBeacon false => s.pw.st == .run && s.pw.target.isNone && s.isOn .cur
    | .cold n => decide (4 ≤ n)
    | .hib _ => s.isOn .cur
    | _ => false)

end Sys2Proof.Machine
end

