-- ==== Sys2Proof/Machine/Acoustic.lean ====
section
/-! DEFINITION. The routing and conversion of the time-interval engine (R164 to R169), the geometry of an acoustic path
(R195, R200, R204, R205, R221), and the Piste's requests (R210 to R217). -/

namespace Sys2Proof.Machine

/-- The nearest integer, ties to even (R166). -/
def roundEven (q : Rat) : Int :=
  let f := q.floor
  let r := q - f
  if r < 1 / 2 then f else if r = 1 / 2 then (if f % 2 = 0 then f else f + 1) else f + 1

/-! ## Channels (R162 to R164, R143) -/

/-- Channels of a code, ascending. -/
def channelsOf (code : Nat) (s : State) : List Nat := (List.range 4).filter (fun n => assignCode n s == code)

/-- A channel is withdrawn (R186). -/
def withdrawn (n : Nat) (s : State) : Bool := (vget s.ch n {}).withdrawn

/-- Code-2 channels that are not withdrawn. -/
def generalChannels (s : State) : List Nat := (channelsOf 2 s).filter (fun n => !withdrawn n s)

/-- First acoustic channel. -/
def acA (s : State) : Nat := (channelsOf 0 s).headD 0

/-- Second acoustic channel, when one exists. -/
def acB (s : State) : Option Nat :=
  match channelsOf 0 s with
  | _ :: b :: _ => some b
  | _ => (generalChannels s).head?

/-- Channel for temperature discharges. -/
def tempCh (s : State) : Nat :=
  match channelsOf 1 s, generalChannels s, channelsOf 0 s with
  | a :: _, _, _ => a
  | [], b :: _, _ => b
  | [], [], cs => cs.getLastD 0

/-- Channel for the Vitrine gates (R143): the lowest code-2 channel that passed its last calibration. -/
def gateCh (s : State) : Nat :=
  match (generalChannels s).filter (fun n => (vget s.r.ch n {}).calresultCode == 1) with
  | a :: _ => a
  | [] => tempCh s

/-! ## Conversion (R166 to R169) -/

/-- Fine position in 2^−18 of a coarse period (R166); 0 where the vernier counts are all 0 (log 32). -/
def fine18 (t : TdcTable) (f : FineCode) : Rat :=
  if f.m < 64 then
    let v2 := 2 * (t.g.take f.v).sum + t.g.getD f.v 0
    ((t.h.take f.m).sum : Rat) + (t.h.getD f.m 0 : Rat) * (v2 : Rat) / (2 * (t.g.sum : Rat))
  else ((t.h.take 64).sum : Rat) + (t.s : Rat) / 2

/-- Fine position in 2^−16 of a coarse period. -/
def fine16 (t : TdcTable) (f : FineCode) : Int := roundEven (fine18 t f / 4)

/-- Coarse period in use, fs. -/
def tcoarse (s : State) : Nat := s.r.clk.tcoarse.toNat

/-- Time of a stop, fs (R168). -/
def stopTime (x : Nat) (s : State) : Rat := (x : Rat) * (tcoarse s : Rat) / 65536

/-- A stop record as its 48-bit word (Table 7.3). -/
def stopWord (r : StopRec) : BitVec 48 :=
  BitVec.ofNat 48 ((if r.short then 2 ^ 47 else 0) + (if r.sat then 2 ^ 46 else 0) + (if r.edge then 2 ^ 45 else 0)
    + r.x % 2 ^ 40)

/-- Hold-off in force, coarse periods (R173): `HOLDOFF` ns rounded up, at most 256. -/
def holdPeriods (c : TdcRec) : Nat := min 256 (ceilDiv (c.holdoff * 10000) 78125)

/-- One channel and its words changed. -/
def updCh (n : Nat) (f : TdcChannel → TdcChannel) (g : TdcChRegs → TdcChRegs) (s : State) : State :=
  { s with ch := vupd s.ch n f, r.ch := vupd s.r.ch n g }

/-- A run is configured on a channel (R175, Table 7.4): only on one that holds tables, that is Idle or Calibrating. -/
def armChannel (n : Nat) (cfg : RunCfg) (s : State) : State :=
  let c := vget s.ch n {}
  if c.table.isSome && (c.st == .idle || c.st == .calibrating) then
    updCh n (fun c => { c with st := .armed, cfg, startF := 0, stops := [], lastX := none
                               acc := match cfg.stat with | some (starts, _) => { left := starts } | none => c.acc })
      (fun w => { w with chstatSync := cfg.sync, chstatSlope := BitVec.ofNat 2 cfg.slope.code
                         chcfgThr := BitVec.ofNat 8 cfg.thr, stopmax := BitVec.ofNat 7 cfg.stopmax
                         wopen := BitVec.ofNat 24 cfg.wopen, wwidth := BitVec.ofNat 24 cfg.wwidth }) s
  else s

/-- A run is withdrawn by its requester: an Armed channel is Idle again and nothing is counted (Table 7.4). -/
def disarm (n : Nat) (s : State) : State :=
  updCh n (fun c => if c.st == .armed then { c with st := .idle } else c) id s

/-! ## Paths -/

/-- The GAS profile. -/
def State.gas (s : State) : Bool := s.cat.profile == .gas

/-- `PRE`, `POST` and the noise segment's length (Table 9.1). -/
def capGeom (s : State) : Nat × Nat × Nat := if s.gas then (320, 640, 240) else (192, 384, 112)

/-- `CAPLEN`. -/
def capLen (s : State) : Nat := if s.gas then 960 else 576

/-- Bounds of the speed of sound, m/s (R205). -/
def cBounds (s : State) : Nat × Nat := if s.gas then (250, 1400) else (1250, 1800)

/-- Gas class in force; 0 outside GAS. -/
def gasClass (s : State) : Nat := if s.gas then s.r.gas.gasstatClass.toNat else 0

/-- The class record of a class. -/
def gasRec (c : Nat) (s : State) : GasClass := s.cat.gas.getD c {}

/-- `FREQ` in force of a path, kHz (R245). -/
def freqNow (k : Nat) (s : State) : Nat := (vget s.r.path k {}).freqnow.toNat

/-- Rate exponent k of R200. -/
def rateK (k : Nat) (s : State) : Nat :=
  ((List.range 5).find? (fun e => decide (24000 ≤ 32 * freqNow k s * 2 ^ e))).getD 5

/-- Ts of R220, fs. -/
def tsFs (k : Nat) (s : State) : Rat := (2 ^ rateK k s : Nat) * (16 / 3) * (tcoarse s : Rat)

/-- T_cap of R221, fs. -/
def tcapFs (k : Nat) (s : State) : Rat := (capLen s : Rat) * tsFs k s

/-- Dead time of the transducer on a port, fs: the calibration block of the record accepted from MP0 or MP1, units of
0.1 ps, unsigned (Table 16.6). -/
def deadTime (n : Nat) (s : State) : Int := ((u32 (calBlock (n / 4) s) (12 * (n % 4)) : Nat) : Int) * 100

/-- Increment k of the phase accumulator (R195). -/
def burstInc (k : Nat) (s : State) : Nat := ceilDiv (2 ^ 32 * freqNow k s) (48000 * (s.cat.pathRec k).periods)

/-- Samples of a burst (R195). -/
def burstSamples (k : Nat) (s : State) : Nat := ceilDiv (2 ^ 32) (max 1 (burstInc k s))

/-- Sample n of a path's burst (R195): the square wave of `WAVE` = 0xFF, or the table stretched over the burst. -/
def burstCode (k n : Nat) (s : State) : Nat :=
  let p := s.cat.pathRec k
  let acc := n * burstInc k s
  if p.wave = 0xFF then (if acc * p.periods % 2 ^ 32 < 2 ^ 31 then 255 else 1)
  else
    let l := ((s.cat.wave.find? (fun w => w.index == p.wave)).map (·.samples)).getD []
    (l.getD (acc * l.length / 2 ^ 32) 0).toNat

/-- A − B of a transmitting port for a code, in µV (R194); code 0 is output as code 1. -/
def driveUv (k code : Nat) (s : State) : Rat :=
  ((s.cat.pathRec k).vdrvset : Rat) * 100000 * (((max 1 code : Nat) : Rat) - 128) / 127

/-- Duration of a burst, fs. -/
def burstFs (k : Nat) (s : State) : Rat := (burstSamples k s : Rat) * 62500000 / 3

/-- End of the acquisition window of a path, fs (R205). -/
def acqEnd (k : Nat) (s : State) : Rat :=
  (11 : Rat) / 10 * ((s.cat.pathRec k).length : Rat) * 1000000000 / ((cBounds s).1 : Rat)
    + ((deadTime (2 * k) s + deadTime (2 * k + 1) s : Int) : Rat)

/-- Start of the acquisition window, fs. -/
def acqOpen (k : Nat) (s : State) : Rat :=
  (9 : Rat) / 10 * ((s.cat.pathRec k).length : Rat) * 1000000000 / ((cBounds s).2 : Rat)

/-- Window of a path's acoustic runs in coarse periods: `WOPEN` and `WWIDTH` (R205). A window that would open within 1 µs of the last
burst sample opens there: in tracking with its own width, in acquisition up to the end that the rule fixes (log 31). -/
def pathWindow (k : Nat) (s : State) : Nat × Nat :=
  let tc : Rat := max 1 (tcoarse s)
  let earliest := ((burstFs k s + 1000000000) / tc).ceil.toNat
  let (o, w) := match (vget s.path k {}).texp with
    | some t => (max earliest (7 / 8 * t / tc).floor.toNat, max 256 (t / 4 / tc).ceil.toNat)
    | none =>
      let o := max earliest (acqOpen k s / tc).floor.toNat
      (o, (acqEnd k s / tc).ceil.toNat - o)
  (min o (2 ^ 24 - 1), min w (2 ^ 24 - 1))

/-- t_exp of R204, or the acquisition window's end. -/
def texpOrEnd (k : Nat) (s : State) : Rat := ((vget s.path k {}).texp).getD (acqEnd k s)

/-- Shot period of R204, in 10 µs. -/
def shotPeriod (k : Nat) (s : State) : Nat :=
  ((3 * texpOrEnd k s + tcapFs k s + 50000000000) / 10000000000).ceil.toNat

/-- R164 leaves no second acoustic channel: simultaneous paths fire sequentially. -/
def noAcB (s : State) : Bool := (acB s).isNone

/-- A path fires sequentially (R203). -/
def pathSeq (k : Nat) (s : State) : Bool := (s.cat.pathRec k).fire == 1 || noAcB s

/-- Pair period of R204, in 10 µs. -/
def pairPeriod (k : Nat) (s : State) : Nat := (if pathSeq k s then 2 else 1) * shotPeriod k s

/-- Paths configured. -/
def pathsOf (s : State) : List Nat := (List.range 4).filter (fun k => s.cat.hasPath k)

/-- One path's words and core changed. -/
def updPath (k : Nat) (f : PathCore → PathCore) (s : State) : State := { s with path := vupd s.path k f }

/-- t_exp changes: the window mode, `TEXP` and `PAIRPER` follow (R204, R205). -/
def setTexp (k : Nat) (t : Option Rat) (s : State) : State :=
  let s := updPath k (fun p => { p with texp := t }) s
  { s with r.path := vupd s.r.path k (fun w => { w with
             pathstatAcq := t.isNone
             texp := match t with | some q => sat 32 (roundOpen (q / 1000000)).toNat | none => 0
             pairper := sat 16 (pairPeriod k s) }) }

/-- A path starts afresh: gain, frequency and acquisition, and no last valid values (R201, R205, R234, R245). In class 0 its frequency is
`FREQ` of its record, also where class 0 has been changed back to (log 147). -/
def initPath (k : Nat) (s : State) : State :=
  let p := s.cat.pathRec k
  let f := if gasClass s = 0 then p.freq else (gasRec (gasClass s) s).cfreq
  let s := { s with r.path := vupd s.r.path k (fun w => { w with
                      pathstatGain := BitVec.ofNat 8 p.gain, freqnow := BitVec.ofNat 16 f })
                    path := vupd s.path k (fun c => { c with last := none }) }
  let s := setTexp k none s
  { s with r.path := vupd s.r.path k (fun w => { w with burstlen := sat 16 (roundOpen ((burstSamples k s : Rat) * 10 / 48)).toNat }) }

/-! ## The Piste -/

/-- The Chairlift unit of an action (Table 8.4). -/
def actionUnit : Nat → Nat
  | 0 | 5 => 2 | 1 | 2 => 4 | 3 => 8 | 4 => 9 | _ => 1

/-- Interval of a step in force, µs (R213). -/
def stepInterval (i : Nat) (s : State) : Nat :=
  let p := s.cat.step i
  (if s.ps.fast && p.fast != 0 then p.fast else p.normal) * 125000

/-- The smallest due time of a step after `t` on its grid (R213). -/
def nextDue (i t : Nat) (s : State) : Nat :=
  match s.ps.epoch with
  | none => 0
  | some e =>
    let o := e + (s.cat.step i).phase * 125000
    let n := max 1 (stepInterval i s)
    if t < o then o else o + ((t - o) / n + 1) * n

/-- Every step's next due time anew, after `t`. -/
def regrid (t : Nat) (s : State) : State :=
  { s with ps.next := (List.range s.cat.steps.length).map (fun i => nextDue i t s) }

/-- The class in force, as Archive SYSTEM keeps it, comes back at a start; outside GAS none is kept (R245). -/
def restoreClass (s : State) : State :=
  if s.gas then { s with r.gas.gasstatClass := BitVec.ofNat 3 s.fl.classCopy }
  else { s with r.gas.gasstatClass := 0, fl.classCopy := 0 }

/-- The `FREQ` in force of a path, and with it its burst, rate and pair period (R200, R245). -/
def useFreq (k f : Nat) (s : State) : State :=
  let s := { s with r.path := vupd s.r.path k (fun w => { w with freqnow := BitVec.ofNat 16 f }) }
  let s := { s with r.path := vupd s.r.path k (fun w => { w with
               burstlen := sat 16 (roundOpen ((burstSamples k s : Rat) * 10 / 48)).toNat }) }
  setTexp k (vget s.path k {}).texp s

/-- What an image that begins to govern at a start sets in the words of its paths (R201, R205, R245). -/
def initPaths (s : State) : State := (pathsOf s).foldl (fun s k => initPath k s) (restoreClass s)

/-- Every path's pair period anew (R204): the routing, or the dead times of the transducers, may have changed. -/
def renewPairs (s : State) : State := (pathsOf s).foldl (fun s k => setTexp k (vget s.path k {}).texp s) s

/-- The Piste starts, at entry to Run or after a reload switch: E is the first 1/8 s boundary after now (R213). -/
def startPiste (s : State) : State :=
  let e := (s.now / 125000 + 1) * 125000
  let s := { s with ps := { s.ps.stopped with epoch := some e, cals := s.ps.cals } }
  { s with ps.next := (List.range s.cat.steps.length).map (fun i => e + (s.cat.step i).phase * 125000) }

/-- Class of a step's seat, in 0.1 mA (Table 5.6, R193). -/
def stepClass (i : Nat) (s : State) : Nat :=
  if actionUnit (s.cat.step i).action = 2 then
    (if maxL ((firePaths (s.cat.step i).arg s).map (fun k => (s.cat.pathRec k).vdrvset)) ≤ 60 then 100 else 250)
  else 50

/-- Hold of a step's seat, µs (Table 5.6, R206). -/
def stepHold (i : Nat) (s : State) : Nat :=
  match (s.cat.step i).action with
  | 1 => 1000 + 500 * s.cat.t.avg
  | 2 => 5000
  | 5 => 600 + 2 * s.cat.flow.npairs * ((firePaths (s.cat.step i).arg s).map (fun k => pairPeriod k s)).sum * 10
  | _ => 600 + s.cat.flow.npairs * ((firePaths (s.cat.step i).arg s).map (fun k => pairPeriod k s)).sum * 10

/-- What a step does under its seat. -/
def stepWork (i : Nat) (s : State) : Work :=
  match (s.cat.step i).action with
  | 1 => .temperature i | 2 => .pressure i | 5 => .zeroCheck i | _ => .shots i

/-- Order of the steps due in one wake (R214). -/
def stepBefore (s : State) (a b : Nat × Nat) : Bool :=
  let key := fun (x : Nat × Nat) => (unitPriority (actionUnit (s.cat.step x.1).action), (s.cat.step x.1).action, x.1)
  let (p, q, r) := key a
  let (p', q', r') := key b
  decide (p < p') || (p == p' && (decide (q < q') || (q == q' && decide (r < r'))))

/-- The first waiting step. -/
def firstStep (s : State) : Option (Nat × Nat) :=
  match s.ps.waiting with
  | [] => none
  | x :: xs => some (xs.foldl (fun b y => if stepBefore s y b then y else b) x)

/-- A step's seat is waiting or held. -/
def stepSeat (s : State) : Bool :=
  (s.cl.waiting ++ s.cl.held).any (fun x => match x.work with
    | .shots _ | .zeroCheck _ | .temperature _ | .pressure _ => true
    | _ => false)

/-- Gates that run on a code-0 channel hold shot pairs back until step V7 (R143). -/
def gatesHoldShots (s : State) : Bool := s.r.clk.clkstatPllvit && assignCode (gateCh s) s == 0

/-- Vitrine gates occupy the channel of the temperature discharges from step V3 to step V7 (R143). -/
def gatesHoldTemp (s : State) : Bool := s.r.clk.clkstatPllvit && gateCh s == tempCh s

/-- A step on a channel that Vitrine gates occupy waits for step V7 (R143, R253). -/
def gateBlocks (i : Nat) (s : State) : Bool :=
  match (s.cat.step i).action with
  | 1 => gatesHoldTemp s
  | 0 | 5 => gatesHoldShots s
  | _ => false

/-- A calibration that steps of action 3 or 4 ask for waits or runs. -/
def calPending (action : Nat) (s : State) : Bool :=
  if action = 3 then s.ck.heldReq || hasSeat 8 s || s.ck.run.isSome else s.cal.wait.isSome || hasSeat 9 s || s.cal.run

/-- The calibration of a step of action 3 or 4 waits or runs (R215). -/
def calStep (i : Nat) (s : State) : Bool := s.ps.cals.contains i && calPending (s.cat.step i).action s

/-- The Piste step that is running (R218): the one that holds the Piste, or one whose calibration holds its seat. -/
def runningStep (s : State) : Option Nat :=
  match s.ps.run with
  | some x => some x.step
  | none => s.ps.cals.find? (fun i => if (s.cat.step i).action = 3 then s.ck.run.isSome else s.cal.run)

/-- Metering steps end with their seat released. -/
def endStep (u : Nat) (s : State) : State := releaseSeat u { s with ps.run := none, ps.burst := none }

/-! ## Calibration requests -/

/-- A Vitrine calibration is requested: merged with one that waits or runs, held until the end of a start (R140). -/
def requestVitrine (s : State) : State :=
  if s.ck.run.isSome || hasSeat 8 s then s else { s with ck.heldReq := true }

/-- A request of R140 that is no retry: where none is pending, waits or runs, its calibration has all its retries (R145). -/
def newVitrine (s : State) : State :=
  requestVitrine (if s.ck.retryAt.isNone && s.ck.run.isNone && !hasSeat 8 s && !s.ck.heldReq then { s with ck.retries := 0 } else s)

/-- A TDC calibration is requested: merged with one that waits or runs (R182). -/
def requestTdcCal (cause : Nat) (s : State) : State :=
  if s.cal.run || s.cal.wait.isSome then s else { s with cal.wait := some cause }

/-- The seats of waiting calibrations: after the measurements due in the same wake (R26); the one that began first
completes, and the other waits for it (R185). -/
def requestCals (s : State) : State :=
  if !s.operating || s.flt.proc.isSome || s.ps.run.isSome || !s.ps.waiting.isEmpty then s
  else
    let s := if s.ck.heldReq && !hasSeat 9 s then
        postSeat 8 50 20000 none .vitrine { s with ck.heldReq := false } else s
    if s.cal.wait.isSome && !hasSeat 8 s then postSeat 9 100 25000 none .tdcCal s else s

end Sys2Proof.Machine
end

