-- ==== Sys2Proof/Machine/Engine.lean ====
section
/-! DEFINITION. The time-interval engine beneath its commands (R162 to R188): runs, stops and statistics, the configuration of a run
during a calibration, and what a calibration leaves. -/

namespace Sys2Proof.Machine

/-! ## Runs -/

/-- Largest coarse count of a run (R176). -/
def coarseLimit : Nat := 2 ^ 24 - 1

/-- The window's end in force (R175). -/
def windowEnd (c : RunCfg) : Nat := min (c.wopen + c.wwidth) coarseLimit

/-- The comparator of a stop input (R170, R172): code k lies (k − 128) × 3.125 mV from mid-rail; the output goes high above the
threshold by half of `HYST`, low below it by half, and stays as it was between. Levels in µV. -/
def comparator (thr hyst : Nat) (was : Bool) (uv : Int) : Bool :=
  let t : Int := ((thr : Int) - 128) * 3125
  if t + 500 * hyst < uv then true else if uv < t - 500 * hyst then false else was

/-- Mean of a statistics run in fs (R181, R168); none where nothing was accepted. -/
def statMean (a : StatAcc) (s : State) : Option Rat :=
  if a.count = 0 then none
  else some (((a.xref : Rat) + (a.sum : Rat) / (a.count : Rat)) * (tcoarse s : Rat) / 65536)

/-- Variance of a statistics run in fs² (R181, R168); none below two accepted starts. -/
def statVariance (a : StatAcc) (s : State) : Option Rat :=
  if a.count ≤ 1 then none
  else some (((a.sumsq : Rat) - (a.sum : Rat) * (a.sum : Rat) / (a.count : Rat)) / ((a.count : Rat) - 1)
    * ((tcoarse s : Rat) / 65536) ^ 2)

/-- A stop input moves to a level: whether its comparator switches, and to what (R172); its output follows. -/
def switchEdge (n : Nat) (level : Int) (s : State) : Option Bool × State :=
  let c := vget s.ch n {}
  let high := comparator c.cfg.thr s.cat.tdc.hyst c.out level
  if high = c.out then (none, s) else (some high, updCh n (fun c => { c with out := high }) id s)

/-- One start of a statistics run (R180). -/
def statStep (x? : Option StopRec) (a : StatAcc) : StatAcc :=
  match x? with
  | none => { a with rejected := a.rejected + 1 }
  | some r =>
    if r.short then { a with rejected := a.rejected + 1 }
    else
      let ref := if a.count = 0 then r.x else a.xref
      let d : Int := (r.x : Int) - ref
      if 8388608 ≤ d.natAbs then { a with rejected := a.rejected + 1, xref := ref }
      else { a with count := a.count + 1, xref := ref, sum := a.sum + d, sumsq := a.sumsq + d.natAbs * d.natAbs
                    dmin := min a.dmin d, dmax := max a.dmax d }

/-- The last completed statistics run as the map shows it (R181). -/
def statWords (n stop : Nat) (a : StatAcc) (w : TdcChRegs) : TdcChRegs :=
  { w with statn := sat 16 a.count, statrej := sat 16 a.rejected, statsum := BitVec.ofInt 48 a.sum
           statsq := BitVec.ofNat 64 a.sumsq, statref := BitVec.ofNat 40 a.xref, statmin := BitVec.ofInt 32 a.dmin
           statmax := BitVec.ofInt 32 a.dmax, statreq := sat 16 n, statstop := BitVec.ofNat 6 stop }

/-- A run ends (R176): `NSTOPS`, `NOHIT`, and the statistics of the run; a statistics run arms again for its next
start. -/
def endRun (n : Nat) (s : State) : State :=
  let c := vget s.ch n {}
  let s := updCh n (fun c => { c with st := .idle })
    (fun w => { w with chstatNstops := BitVec.ofNat 7 c.stops.length
                       nohit := if c.stops.isEmpty then inc16 w.nohit else w.nohit }) s
  match c.cfg.stat with
  | none => s
  | some (cnt, i) =>
    let a := statStep c.stops[i]? { c.acc with left := c.acc.left - 1 }
    if a.left = 0 then
      updCh n (fun c => { c with acc := a, mean := statMean a s, variance := statVariance a s }) (statWords cnt i a) s
    else updCh n (fun c => { c with st := .armed, acc := a, startF := 0, stops := [], lastX := none }) id s

/-- A stop is accepted (R169, R178): its record, the counters, `FIRSTHIT`, and the end of the run at `STOPMAX`. -/
def acceptStop (n : Nat) (x : Int) (sat rising : Bool) (s : State) : State :=
  let c := vget s.ch n {}
  let short := decide ((x : Rat) * (tcoarse s : Rat) / 65536 < 1200000)
  let r : StopRec := { short, sat, edge := rising, x := if short then 10066 else x.toNat % 2 ^ 40 }
  let s := updCh n (fun c => { c with stops := c.stops ++ [r], lastX := some x })
    (fun w => { w with shortcnt := if short then inc16 w.shortcnt else w.shortcnt
                       satcnt := if sat then inc16 w.satcnt else w.satcnt
                       firsthit := if c.stops.isEmpty then stopWord r else w.firsthit }) s
  if c.cfg.stopmax ≤ c.stops.length + 1 then endRun n s else s

/-- A crossing of a run at interval x (R173, R174): ignored within the hold-off, lost within the dead time, or accepted. -/
def takeStop (n : Nat) (x : Int) (sat rising : Bool) (s : State) : State :=
  match (vget s.ch n {}).lastX with
  | some l =>
    if x - l < (holdPeriods s.cat.tdc : Int) * 65536 then s
    else if ((x - l : Int) : Rat) * (tcoarse s : Rat) / 65536 < 12000000 then
      updCh n id (fun w => { w with deadlost := inc16 w.deadlost }) s
    else acceptStop n x sat rising s
  | none => acceptStop n x sat rising s

/-- A stop crossing in a running run (R173 to R178). -/
def runningStop (n count : Nat) (f : FineCode) (rising : Bool) (s : State) : State :=
  let c := vget s.ch n {}
  let fits := match c.cfg.slope with | .rising => rising | .falling => !rising | .both => true
  if !fits || decide (count < c.cfg.wopen) then s
  else if windowEnd c.cfg ≤ count then endRun n s
  else match c.table with
  | none => s
  | some t =>
    takeStop n ((count : Int) * 65536 + c.startF - fine16 t f) (decide (64 ≤ f.m)) rising s

/-! ## Calibration -/

/-- Edges of a whole calibration. -/
def calEdges : Nat := 2 ^ 18

/-- The result code of a channel (R186): 1 pass, 2 tap width, 3 vernier width, 4 span. -/
def calCode (t : TdcTable) : Nat :=
  if !(t.h.all (fun h => decide (122 * calEdges ≤ h * 15625) && decide (h * 15625 ≤ 366 * calEdges))) then 2
  else if !(t.g.all (fun g => decide (4 * 64 * (calEdges - t.s) ≤ g * 15625) && decide (g * 15625 ≤ 16 * 64 * (calEdges - t.s)))) then 3
  else if 2 * calEdges < 100 * t.s then 4
  else 1

/-- The least of a list of naturals, 0 for none. -/
def minL (l : List Nat) : Nat :=
  match l with
  | [] => 0
  | x :: xs => xs.foldl min x

/-- The words that report a histogram (Table 7.6), each rounded to the nearest (log 30). -/
def calWords (t : TdcTable) (w : TdcChRegs) : TdcChRegs :=
  let tap := fun (h : Nat) => sat 16 (roundNear ((h : Rat) * 781250 / (calEdges : Rat))).toNat
  let ver := fun (g : Nat) => if t.s < calEdges then
    sat 16 (roundNear ((g : Rat) * 1220703125 / 10000 / ((calEdges - t.s : Nat) : Rat))).toNat else 0xFFFF
  { w with tapmin := tap (minL t.h), tapmax := tap (maxL t.h), vermin := ver (minL t.g), vermax := ver (maxL t.g)
           tapsumdev := satI 16 (roundNear (-((t.s : Rat) * 100000 / (calEdges : Rat)))), calsat := sat 16 t.s }

/-- A channel passes: its new tables, and a withdrawn one returns to service (R186). -/
def channelPasses (n : Nat) (s : State) : State :=
  let c := vget s.ch n {}
  updCh n (fun c => { c with table := some c.hist, crc := tdcCrc c.hist, withdrawn := false, lastPass := tlmono s, noPassLogged := false })
    (fun w => calWords c.hist { w with calresultCode := 1, calresultFails := 0 }) s
    |> onlyIf c.withdrawn (logEvent 0x0307 [(n : Int)])

/-- A channel fails with a result code (R186). -/
def channelFails (n code : Nat) (s : State) : State :=
  let c := vget s.ch n {}
  updCh n id (fun w =>
    let w := { w with calresultCode := BitVec.ofNat 4 code, calresultFails := BitVec.ofNat 4 (min 15 (w.calresultFails.toNat + 1)) }
    if code ≤ 4 then calWords c.hist w else w) s

/-- The routing has changed (R164, R204). -/
def reroute (s : State) : State :=
  let s := renewPairs s
  let mask := maskOf ((pathsOf s).filter (fun k => (s.cat.pathRec k).fire == 0))
  if noAcB s && mask != 0 && !s.cal.seqLogged then { s with cal.seqLogged := true } |> logEvent 0x0305 [(mask : Int)] else s

/-- The outcome of each channel, and whether every code-0 and code-1 channel passes. -/
def judgeChannels (codes : List Nat) (s : State) : State :=
  (List.range 4).foldl (fun s n => if codes.getD n 0 = 1 then channelPasses n s else channelFails n (codes.getD n 0) s) s

/-- Channels of code 0 and 1. -/
def measuring (s : State) : List Nat := (List.range 4).filter (fun n => decide (assignCode n s ≤ 1))

/-- Events of the failures of a calibration in operation (R186): 0x0301 by result code, 0x0303, and 0x0302 for a code-2 channel when it
is withdrawn; one that is withdrawn already logs nothing more (log 145). -/
def reportFailures (codes : List Nat) (s : State) : State :=
  let bad := (measuring s).filter (fun n => codes.getD n 0 != 1)
  let s := ([2, 3, 4, 5, 6] : List Nat).foldl (fun s c =>
    let l := bad.filter (fun n => codes.getD n 0 == c)
    onlyIf (!l.isEmpty) (logEvent 0x0301 [(maskOf l : Int), (c : Int)]) s) s
  let s := bad.foldl (fun (s : State) (n : Nat) => onlyIf ((vget s.r.ch n {}).calresultFails == 3) (logEvent 0x0303 [(n : Int)]) s) s
  ((channelsOf 2 s).filter (fun n => codes.getD n 0 != 1 && !withdrawn n s)).foldl (fun (s : State) (n : Nat) =>
    updCh n (fun c => { c with withdrawn := true }) id s |> logEvent 0x0302 [(n : Int), (codes.getD n 0 : Int)]) s

/-- A calibration is successful or not (R186): its words, the copy in Archive SYSTEM (R187). -/
def countCal (codes : List Nat) (s : State) : State :=
  if (measuring s).all (fun n => codes.getD n 0 == 1) then
    { s with r.tdc.tdccaltemp := s.r.clk.dietemp, r.tdc.tdccaltime := BitVec.ofNat 32 (tlmono s)
             r.tdc.tdccalok := inc16 s.r.tdc.tdccalok, cal.lastOk := s.tl.monoUs } |> writeObject 0x07
  else { s with r.tdc.tdccalfail := inc16 s.r.tdc.tdccalfail }

/-- The retry that follows a calibration in which any channel failed. -/
def planRetry (codes : List Nat) (s : State) : State :=
  if codes.all (· == 1) then { s with r.tdc.tdccalRetry := 0, cal.retryAt := none }
  else { s with cal.retryAt := if s.r.tdc.tdccalRetry.toNat < 3 then some (s.now + 600000000) else none }

/-- A calibration in operation ends with a result for each channel; the seat goes back. -/
def endCal (codes : List Nat) (s : State) : State :=
  { s with cal.run := false, ch := s.ch.map (fun c => if c.st == .calibrating then { c with st := .idle } else c) }
    |> judgeChannels codes |> reportFailures codes |> countCal codes |> planRetry codes |> reroute |> releaseSeat 9

/-- Two histograms added (R183). -/
def addHist (a b : TdcTable) : TdcTable :=
  { h := List.zipWith (· + ·) a.h b.h, g := List.zipWith (· + ·) a.g b.g, s := a.s + b.s }

/-- Hit counts of one block that the jitter source gives a channel that reports none. -/
def noHits : TdcTable := ⟨List.replicate 64 0, List.replicate 25 0, 0⟩

/-- A block is abandoned on every channel (R184): its counts are not added, and the 32nd ends the calibration with result 5. -/
def interruptBlock (s : State) : State :=
  if !s.cal.run || !s.ch.any (fun c => c.st == .calibrating) then s
  else
    let s := { s with cal.abandoned := s.cal.abandoned + 1
                      r.tdc.tdccalAbandon := BitVec.ofNat 6 (min 32 (s.cal.abandoned + 1))
                      ch := s.ch.map (fun c => if c.st == .calibrating then { c with st := .idle } else c) }
    if 32 ≤ s.cal.abandoned then endCal [5, 5, 5, 5] s else s

/-- A block begins once no run is pending (R183, R184): the jitter source is connected to every idle channel. -/
def resumeBlock (s : State) : State :=
  if s.cal.run && decide (s.cal.blocks < 16) && s.ch.all (fun c => c.st == .idle) then
    { s with ch := s.ch.map (fun c => { c with st := .calibrating }) }
  else s

/-- A requester configures a run (Table 7.4, R175, R184): a calibration block in progress is abandoned for it. -/
def configureRun (n : Nat) (cfg : RunCfg) (s : State) : State :=
  if (vget s.ch n {}).st == .calibrating && (vget s.ch n {}).table.isSome then armChannel n cfg (interruptBlock s)
  else armChannel n cfg s

/-- A start reaches a channel (R179, Table 7.4): an Armed one begins counting, a running one ignores it and counts `STARTLOST`. -/
def startChannel (n startF : Nat) (s : State) : State :=
  match (vget s.ch n {}).st with
  | .armed => updCh n (fun c => { c with st := .running, startF }) id s
  | .running => updCh n id (fun w => { w with startlost := inc16 w.startlost }) s
  | _ => s

/-! ## The end of a step that times runs -/

/-- An acoustic step ends: the boost stops, its domains are switched off unless other work needs them, and the seat goes
back (R192, R193). -/
def endShots (s : State) : State :=
  { s with r.drv.xdstatBooston := false, r.drv.xdstatVdrvok := false } |> runNormal |> domOff [.tx, .rx]
    |> onlyIf (!s.cal.run) (domOff [.sig])
    |> endStep 2

/-- A measurement ends: its channel, domain and seat. -/
def endTemperature (s : State) : State :=
  disarm (tempCh s) s |> domOff [.tmp] |> onlyIf (!s.cal.run) (domOff [.sig]) |> endStep 4

end Sys2Proof.Machine
end

