-- ==== Sys2Proof/Machine/RegistrarOps.lean ====
section
/-! DEFINITION. The Registrar's arithmetic: spans and increments (R270 to R281), minute and full records (R282 to R288),
the posted copy and its pulses (R27, R437), and the restore (R96, R289, R290). -/

namespace Sys2Proof.Machine

/-! ## Increments -/

/-- Interval in force of the first step with an action, µs (log 44). -/
def actionInterval (a : Nat) (s : State) : Nat :=
  match s.cat.steps.findIdx? (fun x => x.action == a) with
  | some i => stepInterval i s
  | none => 0

/-- 2^e for any integer e. -/
def pow2 (e : Int) : Rat := if 0 ≤ e then ((2 ^ e.toNat : Nat) : Rat) else 1 / ((2 ^ (-e).toNat : Nat) : Rat)

/-- The IEEE 754 binary64 number nearest to a rational, ties to even (R271): 53 bits of significand, or a whole multiple of
2^−1074. Magnitudes that round to 2^1024 or more do not occur (log 48). -/
def binary64 (q : Rat) : Rat :=
  if q = 0 then 0
  else
    let a := absQ q
    let e := (a.num.natAbs.log2 : Int) - (a.den.log2 : Int)
    let e := if pow2 e ≤ a then e else e - 1
    let u := pow2 (max (e - 52) (-1074))
    let v := (roundEven (a / u) : Rat) * u
    if q < 0 then -v else v

/-- A binary64 product. -/
def mul64 (a b : Rat) : Rat := binary64 (a * b)

/-- A binary64 quotient; 0 for a zero divisor, which no image has. -/
def div64 (a b : Rat) : Rat := binary64 (a / b)

/-- An increment of a magnitude goes through its residue (R271): the integer part to move, and the residue. The rounding
of a binary64 number to 2^−32 is open (log 48). -/
def accrue (inc : Rat) (res : Nat) : Nat × Nat :=
  let n := (roundOpen (inc * 4294967296)).toNat + res
  (n / 4294967296, n % 4294967296)

/-- A 64-bit register saturates at 2^63 − 1 (R267). -/
def sat63 (i : Int) : Int := max (-(2 ^ 63)) (min i (2 ^ 63 - 1))

/-- A count of seconds from a time in µs and its fraction: whole seconds, and the fraction kept. -/
def secsOf (k us : Nat) (s : State) : Nat × State :=
  let n := vget s.rg.fracs k 0 + us
  (n / 1000000, { s with rg.fracs := vupd s.rg.fracs k (fun _ => n % 1000000) })

/-- A counter of seconds of Table 11.6 grows and saturates at 0xFFFF (R291). -/
def plusSecs (c : BitVec 32) (n : Nat) : BitVec 32 := BitVec.ofNat 32 (min 0xFFFF (c.toNat + n))

/-- Value of an IEEE 754 binary32 pattern that is finite (record 0x0881). -/
def binary32 (b : BitVec 32) : Rat :=
  let n := b.toNat
  let e := n / 2 ^ 23 % 256
  let m : Nat := n % 2 ^ 23
  let p := fun (k : Nat) => ((2 ^ k : Nat) : Rat)
  let v : Rat := if e = 0 then (m : Rat) / p 149
    else if 150 ≤ e then ((m + 2 ^ 23 : Nat) : Rat) * p (e - 150) else ((m + 2 ^ 23 : Nat) : Rat) / p (150 - e)
  if b.msb then -v else v

/-- A temperature in 0.1 mK clamped to a range in °C. -/
def clampT (lo hi t : Int) : Int := max (lo * 10000) (min t (hi * 10000))

/-- Exponents of the terms of record 0x0881, ordered by i, then by j. -/
def glycolExps (order : Nat) : List (Nat × Nat) :=
  (List.range (order + 1)).flatMap (fun i => (List.range (order + 1 - i)).map (fun j => (i, j)))

/-- k of water by the exact formulation (R275), from the clamped flow, return and volume temperatures. -/
def exactHeat (f r v : Int) : Rat :=
  if (f - r).natAbs < 100 then Config.waterCapacity f / Config.waterVolume v
  else (Config.waterEnthalpy f - Config.waterEnthalpy r) / (((f - r : Int) : Rat) / 10000 * Config.waterVolume v)

/-- k of water as the Registrar computes it: within 10 ppm of the exact formulation (R275). -/
def waterHeat (f r v : Int) : Rat :=
  let k := exactHeat f r v
  let e := absQ k / 100000
  max (k - e) (min (k + e) (Config.computedHeat k))

/-- The heat coefficient k in kJ/(m³·K) for a temperature result (R275, R276). -/
def heatCoef (t : TempResult) (s : State) : Rat :=
  if s.cat.reg.medium = 1 then
    let g := s.cat.glycol.getD {}
    let f : Rat := (clampT (-30) 130 t.flow : Rat) / 10000
    let r : Rat := (clampT (-30) 130 t.ret : Rat) / 10000
    sumQ (((glycolExps g.order).zip g.terms).map (fun x => binary32 x.2 * f ^ x.1.1 * r ^ x.1.2))
  else
    let v := ((t.theta.find? (fun x => x.1 == s.cat.t.retch)).map (·.2)).getD t.ret
    waterHeat (clampT 0 180 t.flow) (clampT 0 180 t.ret) (clampT 0 180 v)

/-- The temperature result in use for a flow result: the one posted most recently before it (R273). -/
def tempInUse (f : FlowResult) (s : State) : Option TempResult :=
  match s.tp.last with
  | some t => if t.posted ≤ f.posted then some t else s.tp.prev
  | none => none

/-- The first failing condition of R273, 0 when all hold. -/
def energyCondition (f : FlowResult) (s : State) : Nat :=
  match tempInUse f s with
  | none => 1
  | some t =>
    if !t.valid then 1
    else if t.posted + 4 * actionInterval 1 s < f.posted then 2
    else if t.halt then 3
    else if heatCoef t s ≤ 0 then 4
    else 0

/-- Heat or cooling by the profile (R274; VERIFY as HEATCOOL, R281): ΔT in 0.1 mK. -/
def energySense (p : Profile) (dt : Int) : Option Bool :=
  match p with
  | .heat => if 0 < dt then some true else none
  | .cool => if dt < 0 then some false else none
  | .heatcool | .verify => if 500 ≤ dt then some true else if dt ≤ -500 then some false else none
  | .gas => none

/-- Profiles that integrate energy into legal registers. -/
def Profile.thermal : Profile → Bool
  | .heat | .cool | .heatcool => true
  | _ => false

/-- The tariff index (R277): the boundaries that x has reached. `e` in mWh, `tau` in µs. -/
def tariffIndex (f : FlowResult) (t : TempResult) (e : Rat) (tau : Nat) (s : State) : Nat :=
  let x : Int := match s.cat.reg.tarmode with
    | 1 => ((((f.time / 65536 : Nat) : Int) + s.tl.zone * 900) % 86400) / 60
    | 2 => max 0 (t.flow / 100)
    | _ => if tau = 0 then 0 else roundNear (e * 3600000 / (tau : Rat))
  (s.cat.reg.tarb.filter (fun b => decide ((b : Int) ≤ x))).length

/-- An energy increment goes to its registers (R274, R277, R281). -/
def addEnergy (heat : Bool) (e : Rat) (f : FlowResult) (t : TempResult) (tau : Nat) (s : State) : State :=
  let (n, res) := accrue e s.rg.legal.resE
  let s := { s with rg.legal.resE := res }
  if s.cat.profile == .verify then
    { s with rg.tenet := sat63 (s.rg.tenet + (if heat then (n : Int) else -(n : Int))) }
  else
    let s := if heat then { s with rg.legal.eheat := sat63 (s.rg.legal.eheat + n), rg.acc.eheat := s.rg.acc.eheat + e
                                   rg.acc.daux := s.rg.acc.daux + n }
      else { s with rg.legal.ecool := sat63 (s.rg.legal.ecool + n), rg.acc.ecool := s.rg.acc.ecool + e
                    rg.acc.daux := s.rg.acc.daux - n }
    if s.cat.reg.tarmode ≠ 0 ∧ (heat ∨ s.cat.profile == .cool) then
      let i := tariffIndex f t e tau s
      { s with rg.legal.etar := vupd s.rg.legal.etar i (fun x => sat63 (x + n)), rg.tariff := i
               rg.acc.tariffs := i :: s.rg.acc.tariffs.filter (· != i) }
    else s

/-- One extreme: the first value, or one beyond it (log 45). -/
def extreme (i : Nat) (low : Bool) (v : Int) (time : Nat) (s : State) : State :=
  { s with rg.legal.text := vupd s.rg.legal.text i (fun x =>
      if x.2 = 0 || (if low then decide (v < x.1) else decide (x.1 < v)) then (v, time) else x) }

/-- Extremes of R283. -/
def extremes (t : TempResult) (s : State) : State :=
  s |> extreme 0 true t.flow t.time |> extreme 1 false t.flow t.time
    |> extreme 2 true t.ret t.time |> extreme 3 false t.ret t.time

/-- Energy stops or resumes (R273). -/
def energyStop (cond : Nat) (s : State) : State :=
  match s.rg.estop with
  | none => if cond = 0 then s else { s with rg.estop := some (tlmono s) } |> logEvent 0x0803 [(cond : Int)]
  | some t => if cond = 0 then { s with rg.estop := none } |> logEvent 0x0804 (w32 (tlmono s - t)) else s

/-- The energy increment of R274 in mWh, each operation in binary64 (R271): ΔV in µL, ΔT in 0.1 mK. -/
def energyOf (k dv : Rat) (dt : Int) : Rat :=
  div64 (mul64 (mul64 (binary64 k) dv) (binary64 ((dt.natAbs : Rat) / 10000))) 3600000

/-- Energy of a span with ΔV > 0 (R273 to R277): the failing condition, and the state. -/
def integrateEnergy (f : FlowResult) (dv : Rat) (tau : Nat) (s : State) : Nat × State :=
  let cond := energyCondition f s
  match tempInUse f s with
  | none => (cond, energyStop cond s)
  | some t =>
    let k := heatCoef t s
    let s := if t.valid then { s with r.rgr.heatk := sat 32 (roundOpen (k * 1000)).toNat } else s
    let s := energyStop cond s
    if cond ≠ 0 then (cond, s)
    else
      let s := { s with rg.legal.tseq := t.seq } |> onlyIf s.cat.profile.thermal (extremes t)
      let dt := t.flow - t.ret
      match energySense s.cat.profile dt with
      | some heat => (0, addEnergy heat (energyOf k dv dt) f t tau s)
      | none => (0, s)

/-! ## Gas -/

/-- The temperature result that θ_g comes from with `TSOURCE` = 1 (R278). -/
def gasResult (s : State) : Option TempResult :=
  if s.cat.g.tsource = 0 then none
  else s.tp.lastT0.bind (fun t => if s.tl.monoUs ≤ t.posted + 4 * actionInterval 1 s then some t else none)

/-- θ_g in 0.01 °C and p in Pa in use (R278, R280), and what is unavailable: 1 temperature, 2 pressure, 3 both. -/
def gasConditions (s : State) : Rat × Nat × Nat :=
  let g := s.cat.g
  let th : Option Rat := if g.tsource = 0 then some ((dieTemp s : Rat) * 10) else
    (gasResult s).bind (fun t => (t.theta.find? (fun x => x.1 == 0)).map (fun x => (x.2 : Rat) / 100))
  let p : Option Nat := if g.psource = 0 then some g.pfixed else
    match s.rg.lastValidP with
    | some x => if s.tl.monoUs ≤ x.at_ + 4 * actionInterval 2 s then some x.pa else none
    | none => none
  match th, p with
  | some t, some p => (t, p, 0)
  | t, p => ((g.tbase : Rat), g.pfixed, (if t.isNone then 1 else 0) + (if p.isNone then 2 else 0))

/-- The conversion factor of R280, in binary64 (R271). -/
def convFactor (th : Rat) (p : Nat) (s : State) : Rat :=
  let g := s.cat.g
  mul64 (div64 (p : Rat) (g.pbase : Rat))
    (div64 (binary64 (((g.tbase : Rat) + 27315) / 100)) (binary64 ((th + 27315) / 100)))

/-- Base volume of a span (R280): what is unavailable, and the state; the temperature result it uses is recorded (R269). -/
def integrateGas (dv : Rat) (s : State) : Nat × State :=
  let (th, p, why) := gasConditions s
  let c := convFactor th p s
  let (n, res) := accrue (absQ (mul64 c dv)) s.rg.legal.resB
  let signed : Int := if dv < 0 then -(n : Int) else n
  let s := { s with rg.legal.resB := res, rg.legal.convf := sat32 (roundOpen (c * 16777216)).toNat
                    rg.legal.tseq := match gasResult s with | some t => t.seq | none => s.rg.legal.tseq
                    r.rgr.thgas := satI 16 (roundOpen th), r.rgr.presspa := sat 32 p
                    rg.acc.daux := s.rg.acc.daux + signed }
  let s := if why ≠ 0 then { s with rg.legal.vbdist := sat63 (s.rg.legal.vbdist + signed) }
    else if dv < 0 then { s with rg.legal.vbrev := sat63 (s.rg.legal.vbrev + n) }
    else { s with rg.legal.vbfwd := sat63 (s.rg.legal.vbfwd + n) }
  match s.rg.gdist with
  | none => (why, if why = 0 then s else { s with rg.gdist := some (tlmono s) } |> logEvent 0x0805 [(why : Int)])
  | some t => (why, if why = 0 then { s with rg.gdist := none } |> logEvent 0x0806 (w32 (tlmono s - t)) else s)

/-! ## Records -/

/-- `RSTAT` without `FROZEN` (Table 11.5). -/
def rstatNow (s : State) : BitVec 16 :=
  BitVec.ofNat 16 ((if s.rg.errrun then 0x4000 else 0) + (if s.rg.elost then 0x2000 else 0) + (if s.rg.etemp then 0x1000 else 0)
    + (if s.rg.ehalt then 0x800 else 0) + (if s.rg.egas then 0x400 else 0) + s.rg.tariff % 4 * 256
    + s.cat.profile.code * 32 + s.cat.reg.medium % 2 * 16)

/-- A record of Table 11.3 as it would be sealed now, for the image given (R285, R287). -/
def mkAccession (kind : Nat) (a0 a1 : Int) (c : Cat) (s : State) : Accession :=
  { kind, flags := rstatNow s, time := tltime s, zone := s.tl.zone, mono := tlmono s, mdigest := c.mdigest, seq := c.seq
    arg0 := a0, arg1 := a1
    legal := if kind = 0 then s.rg.legal else { s.rg.legal with fseq := none, tseq := 0 } }

/-- A full record is sealed (R287): it is formed now, takes the next `ASEAL`, and waits for its seat. -/
def sealFullFor (c : Cat) (kind : Nat) (a0 a1 : Int) (s : State) : State :=
  let s := { s with rg.legal.aseal := min 0xFFFFFFFF (s.rg.legal.aseal + 1) }
  addJob (.fullRec (mkAccession kind a0 a1 c s)) s

/-- A full record for the image in force. -/
def sealFull (kind : Nat) (a0 a1 : Int) (s : State) : State := sealFullFor s.cat kind a0 a1 s

/-- Reason mask of a minute that needs a full record (R287, its bits in the order of the rule, log 43). -/
def fullReasons (s : State) : Nat :=
  let a := s.rg.acc
  maskOf ([(0, decide (0 < a.vfwd ∧ 0 < a.vrev)), (1, decide (0 < a.eheat ∧ 0 < a.ecool)), (2, decide (1 < a.tariffs.length)),
    (3, a.egas), (4, decide (2147483647 < a.dvol.natAbs ∨ 2147483647 < a.daux.natAbs))].filterMap
      (fun x => if x.2 then some x.1 else none))

/-- An increment saturated to its field of a minute record. -/
def satField (i : Int) : Int := max (-2147483647) (min i 2147483647)

/-- Minute maxima (R282). -/
def minuteMaxima (m : Nat) (s : State) : State :=
  let a := s.rg.acc
  if a.lost || s.cat.profile == .verify then s
  else
    let q := roundNear ((a.vfwd - a.vrev) * 60 / 1000)
    let p := (roundNear ((a.eheat + a.ecool) * 60 / 1000)).toNat
    let at_ := (m + 1) * 60 * 65536 % 2 ^ 48
    let s := if s.rg.legal.qmax.natAbs < q.natAbs then
        { s with rg.legal.qmax := max (-2147483648) (min q 2147483647), rg.legal.qmaxt := at_ } else s
    if s.cat.profile.thermal && decide (s.rg.legal.pmax < p) then
      { s with rg.legal.pmax := sat32 p, rg.legal.pmaxt := at_ } else s

/-- The minute record of minute `m` is sealed (R286, R287), with the full records that its boundary asks for. -/
def sealMinute (m : Nat) (s : State) : State := sealCut m s |> onlyIf ((m + 1) % 60 == 0) (sealFull 1 0 0)
where
  /-- The record of a minute and the full record that its increments ask for. -/
  sealCut (m : Nat) (s : State) : State :=
  let a := s.rg.acc
  let why := fullReasons s
  let flags := (if why = 0 then 0 else 1) + (if a.err then 2 else 0) + (a.tariffs.headD 0 % 4) * 4 + (if a.lost then 16 else 0)
    + (if a.etemp then 32 else 0) + (if a.egas then 64 else 0) + (if a.subst then 128 else 0)
  let s := minuteMaxima m s
  { s with rg.acc := { minute := some (m + 1) } }
    |> addJob (.minuteRec { minute := m, dvol := satField a.dvol, daux := satField a.daux, flags := BitVec.ofNat 16 flags
                            intlo := BitVec.ofNat 16 s.rg.legal.intnum, place := s.rg.legal.aseal })
    |> onlyIf (why != 0) (sealFull 2 why 0)

/-- `n` minutes from `m` on are sealed. -/
def sealMinutes : Nat → Nat → State → State
  | 0, _, s => s
  | n + 1, m, s => sealMinutes n (m + 1) (sealMinute m s)

/-- Every minute that ended before the civil minute `upTo` is sealed (R268 step 1, R286). -/
def sealUpTo (upTo : Nat) (s : State) : State :=
  match s.rg.acc.minute with
  | none => { s with rg.acc.minute := some upTo }
  | some m => sealMinutes (upTo - m) m s

/-- A civil-time step (R288) out of the civil minute `was`: the minutes that ended before it, the interrupted minute with the
integrations so far, whose hour has not been reached, a record of kind 0x09, and the grid from the stepped time. -/
def timeStepped (was : Nat) (d : Int) (s : State) : State :=
  if s.rg.stopped then s
  else
    let s := sealUpTo was s
    let s := sealMinute.sealCut ((s.rg.acc.minute).getD was) s
    { sealFull 9 d 0 s with rg.acc := { minute := some (civMin s) } }

/-! ## The posted copy -/

/-- Register and weight of a pulse function (Table 16.7). -/
def pulseSource (fn : Nat) (p : Posted) : Option (Int × Nat) :=
  let l := p.legal
  match fn with
  | 1 => some (l.vfwd, 1000000) | 2 => some (l.vfwd, 10000000) | 3 => some (l.vfwd, 100000)
  | 4 => some (l.vrev, 1000000) | 5 => some (l.eheat, 1000000) | 6 => some (l.eheat, 100000)
  | 7 => some (l.ecool, 100000) | 8 => some (l.ecool, 1000000) | 9 => some (l.vbfwd, 1000000)
  | 10 => some (l.vbfwd, 10000000) | 11 => some (p.tvfwd, 10000)
  | _ => none

/-- Pulses that a move of the registers queues on an output (R437). -/
def pulsesOf (fn : Nat) (old new : Posted) : Nat :=
  match pulseSource fn old, pulseSource fn new with
  | some a, some b => (b.1 / (b.2 : Int) - a.1 / (a.2 : Int)).toNat
  | _, _ => 0

/-- Pulses are queued on an output; the queue saturates at 65 535 and then 0x0F0B is logged. -/
def queuePulses (o n : Nat) (s : State) : State :=
  if o = 0 then
    onlyIf (decide (65535 < s.r.io.poback0.toNat + n)) (logEvent 0x0F0B [0])
      { s with r.io.poback0 := sat 16 (s.r.io.poback0.toNat + n) }
  else
    onlyIf (decide (65535 < s.r.io.poback1.toNat + n)) (logEvent 0x0F0B [1])
      { s with r.io.poback1 := sat 16 (s.r.io.poback1.toNat + n) }

/-- The shadow copy with the higher `AINT` is copy 2. -/
def shadowNewer (s : State) : Bool :=
  let num : Option Accession → Nat := fun a => match a with | some a => a.legal.intnum | none => 0
  decide (num s.rg.sh1 < num s.rg.sh2)

/-- `SHSTAT.OK`. -/
def shadowOk (s : State) : Nat :=
  let ok : Option Accession → Bool := fun a => a.any (fun a => a.crcOk)
  (if ok s.rg.sh1 then 1 else 0) + (if ok s.rg.sh2 then 2 else 0)

/-- The valid reading is older than R278 allows. -/
def pressureStale (s : State) : Bool :=
  match s.rg.lastValidP with
  | some x => decide (x.at_ + 4 * actionInterval 2 s < s.tl.monoUs)
  | none => false

/-- `AVDEF`: 10^6 × (1 − `AVOK` / `AVSCHED`), rounded up. -/
def avDef (s : State) : Nat :=
  let sched := (s.rg.bins.map (·.sched)).sum
  let ok := (s.rg.bins.map (·.ok)).sum
  if sched = 0 then 0 else ceilDiv ((sched - ok) * 1000000) sched

/-- A seal waits for its seat (`ACCSTAT.PEND`). -/
def sealPending (s : State) : Bool :=
  s.ar.jobs.any (fun j => match j with | .minuteRec _ | .fullRec _ | .quarterRec _ => true | _ => false) && !holds 1 s

/-- Table 11.6 as it stands (R291). -/
def regStatus (s : State) : RegStatus :=
  { regs := s.r.rgr, pend := sealPending s, newer := shadowNewer s, shOk := shadowOk s
    sealnum := (s.ar.sealedSlot.map (fun a => a.legal.intnum)).getD 0
    avsched := (s.rg.bins.map (·.sched)).sum, avok := (s.rg.bins.map (·.ok)).sum, avdef := avDef s
    stale := pressureStale s }

/-- The posted copy of R27. -/
def postCopy (s : State) : State :=
  { s with rg.posted := { legal := s.rg.legal, regtime := s.rg.regtime, rstat := rstatNow s
                          tvfwd := s.rg.tvfwd, tvrev := s.rg.tvrev, tenet := s.rg.tenet, status := regStatus s }
           dp.renderDue := s.dp.renderDue || registerScreen s }
    |> fillXb (0x1000 + 0x400 * (s.rg.legal.intnum % 2)) 0x400

/-- The posted copy after an integration, with the pulses that its registers queue. -/
def postAndPulse (s : State) : State :=
  let old := s.rg.posted
  let s := postCopy s
  s |> queuePulses 0 (pulsesOf s.cat.po0fn old s.rg.posted) |> queuePulses 1 (pulsesOf s.cat.po1fn old s.rg.posted)

/-! ## Integration -/

/-- The older shadow copy is written (R285). -/
def writeShadow (s : State) : State :=
  let x := mkAccession 0 0 0 s.cat s
  match s.rg.sh1.filter (·.crcOk), s.rg.sh2.filter (·.crcOk) with
  | none, _ => { s with rg.sh1 := some x }
  | _, none => { s with rg.sh2 := some x }
  | some a, some b => if secondNewer a b then { s with rg.sh1 := some x } else { s with rg.sh2 := some x }

/-! ## The audit counter -/

/-- The audit counter counts one record, with its event (R81, R82). -/
def countRecord (s : State) (x : Nat × Nat) : State :=
  let n := min 0xFFFFFFFF (s.rg.legal.audit + 1)
  logPlain 0 ((x.1 : Int) :: (x.2 : Int) :: w32 n) { s with rg.legal.audit := n }

/-- The first image accepted counts one in total (R82). -/
def countFirst (s : State) : State :=
  logPlain 1 [] { s with rg.legal.audit := min 0xFFFFFFFF (s.rg.legal.audit + 1) }

/-- A change of records that are not counted is logged once, with the new `SEQUENCE` (R83). -/
def logOtherChange (c : Cat) (s : State) : State :=
  if s.ar.currentOther = c.other then s else logPlain 2 (w32 c.seq) s

/-- The legally relevant records of an accepted image become the current copy (R78, R82), with the counter as it then stands. -/
def acceptCopy (c : Cat) (s : State) : State :=
  { s with ar.current := some (c.mdigest, c.legal), ar.currentOther := c.other, ar.currentAudit := s.rg.legal.audit
           ar.pendingCopy := none }

/-- The switch record of a reload is committed (R78): the changes count now, once, with their events (R82, R83), the pending copy
becomes the current one, and the counter goes to the shadow (R81). -/
def countSwitch (s : State) : State :=
  match s.sv.reload with
  | some x =>
    let s := x.changes.foldl countRecord s
    onlyIf x.changes.isEmpty (logOtherChange x.cat) s |> acceptCopy x.cat |> writeShadow
  | none => s

/-- Start of a span, µs of `monoUs` (R270): the previous result's first shot, or the Piste epoch. -/
def spanStart (f : FlowResult) (s : State) : Nat :=
  match s.rg.prev with
  | some t => t
  | none => match s.ps.epoch with
    | some e => s.tl.monoUs - (s.now - e)
    | none => f.mono

/-- Span to integrate and its excess, µs (R270). -/
def spanOf (f : FlowResult) (s : State) : Nat × Nat :=
  let tau := f.mono - spanStart f s
  let cap := 4 * actionInterval 0 s
  if cap ≠ 0 ∧ cap < tau then (cap, tau - cap) else (tau, 0)

/-- Volume of a span (R271, R281). -/
def addVolume (dv : Rat) (s : State) : State :=
  let (n, res) := accrue (absQ dv) s.rg.legal.resV
  let s := { s with rg.legal.resV := res }
  if s.cat.profile == .verify then
    (if dv < 0 then { s with rg.tvrev := sat63 (s.rg.tvrev + n) } else { s with rg.tvfwd := sat63 (s.rg.tvfwd + n) })
  else if dv < 0 then
    { s with rg.legal.vrev := sat63 (s.rg.legal.vrev + n), rg.acc.vrev := s.rg.acc.vrev - dv, rg.acc.dvol := s.rg.acc.dvol - n }
  else
    { s with rg.legal.vfwd := sat63 (s.rg.legal.vfwd + n), rg.acc.vfwd := s.rg.acc.vfwd + dv, rg.acc.dvol := s.rg.acc.dvol + n }

/-- Error and operating time of a span (R270, R272). -/
def addTimes (tau excess : Nat) (lost etemp egas : Bool) (s : State) : State :=
  let te := if lost || etemp || egas then tau else 0
  let (a, s) := secsOf 0 (te + excess) s
  let (b, s) := secsOf 1 (tau + excess) s
  let (c, s) := secsOf 2 (if lost then tau else 0) s
  let (d, s) := secsOf 3 (if etemp then tau else 0) s
  let (e, s) := secsOf 4 (if egas then tau else 0) s
  let (f, s) := secsOf 5 excess s
  { s with rg.legal.terr := sat32 (s.rg.legal.terr + a), rg.legal.toper := sat32 (s.rg.legal.toper + b)
           r.rgr.teflow := plusSecs s.r.rgr.teflow c, r.rgr.tetemp := plusSecs s.r.rgr.tetemp d
           r.rgr.tegas := plusSecs s.r.rgr.tegas e, r.rgr.tespan := plusSecs s.r.rgr.tespan f }

/-- An interval with a valid or substituted result counts in the newest availability bin (R284). -/
def countOk (s : State) : State :=
  match s.rg.bins with
  | b :: rest => { s with rg.bins := { b with ok := b.ok + 1 } :: rest }
  | [] => s

/-- A scheduled interval counts in the newest availability bin (R284). -/
def countScheduled (s : State) : State :=
  match s.rg.bins with
  | b :: rest => { s with rg.bins := { b with sched := b.sched + 1 } :: rest }
  | [] => s

/-- The volume increment of R271 in µL, each operation in binary64: `QINT` in mL/h, τ in µs. -/
def volumeOf (qint : Int) (tau : Nat) : Rat := div64 (mul64 (qint : Rat) (binary64 ((tau : Rat) / 1000000))) (binary64 (36 / 10))

/-- Steps 1 to 4 and 6 of R268 for a flow result that is to be integrated. -/
def integrateResult (f : FlowResult) (s : State) : State :=
  let s := sealUpTo (f.time / 65536 / 60) s
  let (tau, excess) := spanOf f s
  let lost := f.status == 3
  let dv : Rat := if lost then 0 else volumeOf f.qint tau
  let s := addVolume dv { s with rg.prev := some f.mono }
  let verify := s.cat.profile == .verify
  let heatLike := s.cat.profile.thermal || (verify && s.cat.temp.isSome)
  let (cond, s) := if heatLike && decide (0 < dv) then integrateEnergy f dv tau s else (0, s)
  let (why, s) := if s.cat.profile == .gas then integrateGas dv s else (0, s)
  let etemp := cond != 0 && !verify
  let egas := why != 0
  let s := addTimes tau excess lost etemp egas s
  let err := lost || etemp || egas || excess != 0
  let halt := heatLike && (match tempInUse f s with | some t => t.halt | none => false)
  { s with rg.errrun := err, rg.elost := lost || excess != 0, rg.etemp := cond != 0, rg.ehalt := halt, rg.egas := egas
           rg.acc.err := s.rg.acc.err || err, rg.acc.lost := s.rg.acc.lost || lost, rg.acc.etemp := s.rg.acc.etemp || etemp
           rg.acc.egas := s.rg.acc.egas || egas, rg.acc.subst := s.rg.acc.subst || f.status == 2
           rg.legal.intnum := sat32 (s.rg.legal.intnum + 1), rg.legal.fseq := some f.seq, rg.regtime := tltime s }
    |> onlyIf (f.status == 1 || f.status == 2) countOk |> writeShadow |> postAndPulse

/-- How far a sequence number lies after another, modulo 2^16. -/
def seqAfter (a b : Nat) : Nat := (b + 65536 - a % 65536) % 65536

/-- The result in the first slot is processed (R268, R269) and its slot acknowledged. -/
def integrateSlot (s : State) : State :=
  match s.fl.slots with
  | [] => s
  | f :: rest =>
    let s := { s with fl.slots := rest, pw.choose := true }
    let d := match s.rg.legal.fseq with | some q => seqAfter q f.seq | none => 1
    if d = 0 ∨ 32768 ≤ d then s
    else
      let s := if d = 1 then s else
          { s with r.rgr.seqgap := inc16 s.r.rgr.seqgap }
            |> logEvent 0x0808 [(((s.rg.legal.fseq.getD 0 + 1) % 65536 : Nat) : Int), (f.seq : Int)]
      integrateResult f s

/-! ## Availability (R284) -/

/-! ## The restore -/

/-- Minute records sealed after the last full record (R289). -/
def minutesAfter (a : Accession) (s : State) : List MinuteRec := s.ar.minutes.filter (fun m => decide (a.legal.aseal ≤ m.place))

/-- An integration number extended from a low half (R286): the first at or after `n`. -/
def extendInt (n : Nat) (lo : BitVec 16) : Nat := n + (lo.toNat + 65536 - n % 65536) % 65536

/-- The last full record: of those in either ring the one with the highest `ASEAL` (R320). -/
def lastFull (s : State) : Option Accession :=
  match s.ar.fulls.getLast?, s.ar.audits.getLast? with
  | some a, some b => if a.legal.aseal < b.legal.aseal then some b else some a
  | some a, none => some a
  | none, b => b

/-- A of R96: the integration number of the last accession record, 0 for none. -/
def lastAccession (s : State) : Nat :=
  match lastFull s with
  | none => (s.ar.minutes).foldl (fun n m => extendInt n m.intlo) 0
  | some a => (minutesAfter a s).foldl (fun n m => extendInt n m.intlo) a.legal.intnum

/-- `DVOL` and `DAUX` of a minute record are added to the registers (R289); which registers take `DAUX` is log 46. -/
def addMinute (c : Cat) (l : Legal) (m : MinuteRec) : Legal :=
  let l := { l with intnum := extendInt l.intnum m.intlo }
  let l := if m.dvol < 0 then { l with vrev := sat63 (l.vrev - m.dvol) } else { l with vfwd := sat63 (l.vfwd + m.dvol) }
  match c.profile with
  | .gas =>
    if m.flags.getLsbD 6 then { l with vbdist := sat63 (l.vbdist + m.daux) }
    else if m.daux < 0 then { l with vbrev := sat63 (l.vbrev - m.daux) } else { l with vbfwd := sat63 (l.vbfwd + m.daux) }
  | .verify => l
  | p =>
    let t := m.flags.toNat / 4 % 4
    let tar := fun (l : Legal) (n : Int) => if c.reg.tarmode = 0 then l else { l with etar := vupd l.etar t (fun x => sat63 (x + n)) }
    if m.daux < 0 then
      let l := { l with ecool := sat63 (l.ecool - m.daux) }
      if p == .cool then tar l (-m.daux) else l
    else tar { l with eheat := sat63 (l.eheat + m.daux) } m.daux

/-- The state that the accession records give (R289). -/
def fromRecords (s : State) : Option (Legal × Nat) :=
  (lastFull s).map (fun a =>
    ((minutesAfter a s).foldl (addMinute s.cat) { a.legal with resV := 0, resE := 0, resB := 0, fseq := none, tseq := 0 }, a.mono))

/-- A shadow copy is kept (R96). -/
def shadowKept (x : Option Accession) (s : State) : Bool :=
  match x with
  | some a => a.crcOk && decide (lastAccession s ≤ a.legal.intnum)
  | none => false

/-- The restore source of R96, as `RESTSRC.SRC`, with the registers and the `TLMONO` of the restored state. -/
def restoreSource (s : State) : Option (Nat × Legal × Nat) :=
  let kept := fun (x : Option Accession) => x.filter (fun a => shadowKept (some a) s)
  match kept s.rg.sh1, kept s.rg.sh2 with
  | some a, some b => if secondNewer a b then some (2, b.legal, b.mono) else some (1, a.legal, a.mono)
  | some a, none => some (1, a.legal, a.mono)
  | none, some b => some (2, b.legal, b.mono)
  | none, none =>
    match s.ar.sealedSlot with
    | some a => if a.crcOk && decide (lastAccession s ≤ a.legal.intnum) then some (3, a.legal, a.mono)
                else (fromRecords s).map (fun x => (4, x.1, x.2))
    | none => (fromRecords s).map (fun x => (4, x.1, x.2))

/-- The registers of a restore; the test registers are 0 at every start (R281), the grid of minutes goes on from now. -/
def loadLegal (l : Legal) (s : State) : State :=
  { s with rg.legal := l, rg.tvfwd := 0, rg.tvrev := 0, rg.tenet := 0, rg.prev := none, rg.fracs := Vector.replicate 6 0
           rg.acc := { minute := some (civMin s) }, rg.estop := none, rg.gdist := none
           rg.errrun := false, rg.elost := false, rg.etemp := false, rg.ehalt := false, rg.egas := false, rg.tariff := 0 }

/-- The highest metrological audit counter that a shadow copy, the sealed slot, the last full record or the current copy of the
legally relevant records holds (R81, log 143). -/
def auditFloor (s : State) : Nat :=
  maxL (s.ar.currentAudit
    :: ([s.rg.sh1, s.rg.sh2, s.ar.sealedSlot, lastFull s].filterMap id).map (fun a => if a.crcOk then a.legal.audit else 0))

/-- The restore of stage 14 and of step H11 (R96, R289, R290); none when it fails with 0x00C1. The audit counter never decreases
(R81). A result number kept with the registers is continued (log 50). -/
def restoreRegistrar (s : State) : Option State :=
  let sealOk := match s.ar.sealedSlot with | some a => a.crcOk | none => false
  let s := { s with r.sys.restsrcSealok := sealOk
                    r.sys.restsrcShok := BitVec.ofNat 2 ((if shadowKept s.rg.sh1 s then 1 else 0)
                                                          + (if shadowKept s.rg.sh2 s then 2 else 0)) }
  match restoreSource s with
  | none => none
  | some (src, l, mono) =>
    let s := { loadLegal { l with audit := max l.audit (auditFloor s) } s with
                                  r.sys.restsrcSrc := BitVec.ofNat 4 src, rg.stopped := false
                                  fl.seq := match l.fseq with
                                    | some q => if s.fl.seq = 1 then (q + 1) % 65536 else s.fl.seq
                                    | none => s.fl.seq }
    if src ≤ 2 then some (postCopy s)
    else
      let gap := tlmono s - mono
      some ({ s with rg.legal.terr := sat32 (s.rg.legal.terr + gap), rg.legal.toper := sat32 (s.rg.legal.toper + gap)
                     r.rgr.tegap := plusSecs s.r.rgr.tegap gap }
        |> logEvent 0x0807 ((src : Int) :: w32 gap) |> sealFull 8 src gap |> postCopy)

end Sys2Proof.Machine
end

