-- ==== Sys2Proof/Machine/LinkOps.lean ====
section
/-! DEFINITION. What the Mogal link shares: identifiers and keys (R358 to R366), Slalom and slots (R367, R368), guards
(R373), the cluster store (R382), member table (R380, R381), roles (R355), searches (R376), and offers of time (R157). -/

namespace Sys2Proof.Machine

/-! ## Time offered (R157) -/

/-- An offer of time: `ts` in 2^−16 s, `us` in µs, from a source of `TLSTAT.SRC`. Answers whether it was adopted. -/
def offerTime (src ts us : Nat) (s : State) : Bool × State :=
  if tlunc s ≤ us then (false, s)
  else
    let d : Int := (ts : Int) - tltime s
    let g := segmentGain s
    let was := civMin s
    let s := { s with tl.contu := sat32 (s.tl.contu + g), tl.unc := us, tl.segStart := s.tl.monoUs
                      r.clk.tlstatLost := false, r.clk.tlstatSrc := BitVec.ofNat 3 src }
    if d.natAbs ≤ 65536 then (true, { s with tl.slew := d * 1000000000 / 65536 })
    else (true, { s with tl.civNs := ts * 1000000000 / 65536, tl.slew := 0, r.clk.tlsteps := inc16 s.r.clk.tlsteps }
      |> logEvent 0x0208 (w32 (roundOpen ((d : Rat) / 65536) % 4294967296).toNat ++ [(src : Int)])
      |> timeStepped was (roundOpen ((d : Rat) / 65536)))

/-! ## Identifiers, keys and frames -/

/-- A link ID from the octets of `SERIAL` (R358). -/
def linkIdOf (serial : BitVec 64) : Nat :=
  let v := leNat ((beBytes 32 (sha256 (leBytes 8 serial.toNat)).toNat).take 4)
  if v = 0 ∨ v = 0xFFFFFFFF then v ^^^ 1 else v

/-- The device's link ID. -/
def linkId : Nat := linkIdOf Config.serial

/-- The broadcast address. -/
def broadcast : Nat := 0xFFFFFFFF

/-- A Mogal frame by its fields (Table 14.2); `body` is the payload. -/
structure LinkFrame where
  typ : Nat
  ackreq : Bool
  more : Bool
  kind : Nat
  keyid : Nat
  dst : Nat
  src : Nat
  ctr : Nat
  body : List Byte
  mic : List Byte
  deriving DecidableEq, Repr

/-- A PSDU taken apart; none where R359 discards it. -/
def parseFrame (p : List Byte) : Option LinkFrame :=
  let b0 := u8 p 0
  let b1 := u8 p 1
  let t := b0 / 16
  if p.length < 22 ∨ 251 < p.length ∨ b0 / 4 % 4 ≠ 0 ∨ b1 / 16 % 4 ≠ 0 ∨ t < 1 ∨ 6 < t then none
  else some { typ := t, ackreq := b0.testBit 1, more := b0.testBit 0, kind := b1 / 64, keyid := b1 % 16
              dst := u32 p 2, src := u32 p 6, ctr := u32 p 10
              body := slice p 14 (p.length - 22), mic := slice p (p.length - 8) 8 }

/-- The nonce of a frame (R362): octets 2 to 13, then octet 1. -/
def frameNonce (p : List Byte) : List Byte := slice p 2 12 ++ slice p 1 1

/-- A loaded key by kind and `KEYID`. -/
def loadedKey (kind keyid : Nat) (s : State) : Option KeyRec :=
  if s.ln.loaded.contains keyid then s.cat.keys.find? (fun k => k.keyid == keyid && k.kind == kind) else none

/-- The key that a received frame names, by the conditions of R361. -/
def receiveKey (f : LinkFrame) (s : State) : Option KeyRec :=
  match loadedKey f.kind f.keyid s with
  | none => none
  | some k =>
    if f.kind = 0 then some k
    else if f.kind = 1 then (if k.peer = f.src then some k else none)
    else if f.kind = 2 then (if k.peer = 0 ∨ k.peer = f.src then some k else none)
    else none

/-- Marks kept for a kind of key (R365): `CLSIZE` sources under the cluster keys, one under each pairwise key, the 8 most
recent readers. -/
def markRoom (kind : Nat) (s : State) : Nat := if kind = 0 then s.cat.link.clsize else if kind = 1 then 1 else 8

/-- The sources of a list of marks, each once, in its order. -/
def markSources : List Mark → List Nat
  | [] => []
  | m :: ms => m.src :: (markSources ms).filter (fun x => x != m.src)

/-- A frame's mark is set, the newest first; those of the oldest source beyond the room are forgotten (R365). -/
def setMark (f : LinkFrame) (s : State) : State :=
  let same := fun (m : Mark) => m.kind == f.kind && (f.kind != 1 || m.keyid == f.keyid)
  let rest := s.ln.marks.filter (fun m => !(m.src == f.src && m.kind == f.kind && m.keyid == f.keyid))
  let all : List Mark := ⟨f.src, f.kind, f.keyid, f.ctr, f.mic⟩ :: rest.filter same
  let kept := (markSources all).take (markRoom f.kind s)
  { s with ln.marks := all.filter (fun m => kept.contains m.src) ++ rest.filter (fun m => !same m) }

/-- What the receiver makes of a frame. -/
inductive Received where
  /-- Dropped, ignored or discarded -/
  | nothing
  /-- A repeat: acknowledged again, not delivered -/
  | again (f : LinkFrame)
  /-- Delivered, with its payload decrypted -/
  | deliver (f : LinkFrame)
  deriving DecidableEq, Repr

/-- A MIC failure (R365): counted, and 0x0C12 when `RXMIC` has grown by 16 within 3600 s, at most once per hour. -/
def micFailure (src : Nat) (s : State) : State :=
  let t := tlmono s
  let h := t :: (s.ln.micHist.filter (fun x => decide (t < x + 3600))).take 15
  let s := { s with r.lnk.rxmic := inc16 s.r.lnk.rxmic, ln.micHist := h }
  let quiet := match s.ln.micLogged with | some x => decide (t < x + 3600) | none => false
  if h.length ≥ 16 ∧ !quiet then { s with ln.micLogged := some t } |> logEvent 0x0C12 (w32 src) else s

/-- A frame is received (R334, R339, R359, R361, R365). -/
def receive (x : RxFrame) (s : State) : Received × State :=
  if !x.good then (.nothing, { s with r.rf.rxerr := inc16 s.r.rf.rxerr })
  else
    let s := { s with r.rf.rxcnt := inc16 s.r.rf.rxcnt, r.rf.rfrssi := satI 16 x.rssi, r.rf.rffei := satI 16 x.fei }
    match parseFrame x.psdu with
    | none => (.nothing, { s with r.lnk.rxbad := inc16 s.r.lnk.rxbad })
    | some f =>
      if f.dst ≠ linkId ∧ f.dst ≠ broadcast then (.nothing, s)
      else match receiveKey f s with
      | none => (.nothing, { s with r.lnk.rxnokey := inc16 s.r.lnk.rxnokey })
      | some k =>
        let m := s.ln.marks.find? (fun m => m.src == f.src && m.kind == f.kind && m.keyid == f.keyid)
        let old := { s with r.lnk.rxold := inc16 s.r.lnk.rxold }
        if (match m with | some m => decide (f.ctr < m.ctr) | none => false) then (.nothing, old)
        else match ccmOpen k.key (frameNonce x.psdu) (x.psdu.take 14) f.body f.mic with
        | none => (.nothing, micFailure f.src s)
        | some body =>
          match m with
          | some m =>
            if f.ctr = m.ctr then
              (if f.mic = m.mic then (.again { f with body }, { s with r.lnk.rxrepeat := inc16 s.r.lnk.rxrepeat })
               else (.nothing, old))
            else (.deliver { f with body }, setMark f s)
          | none => (.deliver { f with body }, setMark f s)

/-- A key's transmit counter is not exhausted (R363). -/
def usable (s : State) (k : KeyRec) : Bool :=
  s.ln.loaded.contains k.keyid && decide ((vget s.ln.ctrs k.keyid {}).ctr < 0xFFFFFFFF)

/-- The `KIND` 0 key with the highest `KEYID` (R361). -/
def clusterKey (s : State) : Option KeyRec :=
  (s.cat.keys.filter (fun k => k.kind == 0 && usable s k)).foldl (fun (b : Option KeyRec) k => match b with
    | some x => if x.keyid < k.keyid then some k else b
    | none => some k) none

/-- The key of a POLL or HANDOVER to `dst` (R361). -/
def pairKey (dst : Nat) (s : State) : Option KeyRec :=
  match s.cat.keys.find? (fun k => k.kind == 1 && k.peer == dst && usable s k) with
  | some k => some k
  | none => clusterKey s

/-- The `KIND` 2 key with the lowest `KEYID` (R388). -/
def readerKey (s : State) : Option KeyRec :=
  (s.cat.keys.filter (fun k => k.kind == 2 && usable s k)).foldl (fun (b : Option KeyRec) k => match b with
    | some x => if k.keyid < x.keyid then some k else b
    | none => some k) none

/-- A frame is built and secured (R359 to R363): its PSDU without the FCS, its counter, and the state that has taken the
counter. -/
def secureFrame (typ : Nat) (ackreq more : Bool) (k : KeyRec) (dst : Nat) (body : List Byte) (s : State) :
    List Byte × Nat × State :=
  let (ctr, s) := takeCtr k.keyid s
  let head := leBytes 1 (typ * 16 + (if ackreq then 2 else 0) + (if more then 1 else 0))
    ++ leBytes 1 (k.kind * 64 + k.keyid) ++ leBytes 4 dst ++ leBytes 4 linkId ++ leBytes 4 ctr
  let (ct, tag) := ccmSeal 8 k.key (frameNonce head) head body
  (head ++ ct ++ tag, ctr, s)

/-! ## Slalom, slots and guards -/

/-- One step of the generator of R368. -/
def slalomNext (x : BitVec 32) : BitVec 32 :=
  let x := x ^^^ (x <<< 13)
  let x := x ^^^ (x >>> 17)
  x ^^^ (x <<< 5)

/-- The permutation of R368, by exchanges from n − 1 down to 1. -/
def slalomPerm (clusterid n : Nat) : List Nat :=
  let x : BitVec 32 := if clusterid = 0 then 0x9640 else BitVec.ofNat 32 clusterid
  ((List.range (n - 1)).foldl (fun (acc : BitVec 32 × List Nat) t =>
    let i := n - 1 - t
    let x := slalomNext acc.1
    let j := x.toNat % (i + 1)
    let a := acc.2.getD i 0
    let b := acc.2.getD j 0
    (x, (acc.2.set i b).set j a)) (x, List.range n)).2

/-- Channel of superframe `sfn` (R368). -/
def slalom (sfn : Nat) (s : State) : Nat :=
  let n := channelCount s.cat.radio.band
  (slalomPerm s.cat.link.clusterid n).getD (sfn % n) 0

/-- Channel of the k-th bulk frame of superframe `sfn`. -/
def bulkChannel (sfn k : Nat) (s : State) : Nat :=
  if s.cat.radio.band = 2 then 6 else slalom (sfn + 1 + k) s

/-- Superframe length, µs (R367). -/
def superframe : Nat := 32000000

/-- Slot length of a band, µs (Table 14.4). -/
def slotLen (band : Nat) : Nat := if band = 0 then 500000 else if band = 1 then 250000 else 125000

/-- First bulk slot of a band. -/
def firstBulk (band : Nat) : Nat := if band = 0 then 34 else 66

/-- The time, as one of `State.now`, from which a bulk frame and its acknowledgement that take `need` µs fit the bulk slots of a
superframe (R384). -/
def bulkFrom (need : Nat) (s : State) : Nat :=
  match s.ln.boundary with
  | none => s.now
  | some b =>
    let first := b + firstBulk s.cat.radio.band * slotLen s.cat.radio.band
    if s.now < first then first else if s.now + need ≤ b + superframe then s.now else first + superframe

/-- Current superframe number. -/
def sfnNow (s : State) : Nat := s.r.lnk.sfn.toNat

/-- Airtime of a Mogal frame with a payload of `n` octets at the base rate, µs, without ramps. -/
def baseTime (n : Nat) (s : State) : Nat := mogalTime s.cat.radio.band 0 (n + 26)

/-- Airtime of a PSDU given without its FCS, µs. -/
def psduTime (rate : Nat) (p : List Byte) (s : State) : Nat := mogalTime s.cat.radio.band rate (p.length + 4)

/-- r_own of R159 for a time `d` in s since the last contact, 0.1 ppm. -/
def ownResidAt (d : Nat) (s : State) : Nat := max (if d = 0 then 0 else ceilDiv (tlcontu s * 10) d) (rtcResid s)

/-- r_own now. -/
def ownResid (s : State) : Nat := ownResidAt (tlmono s - s.tl.contact) s

/-- Guard G of R373 for a boundary at `t` of `State.now`, in 10 µs, capped at 8 s. -/
def guardAt (t : Nat) (s : State) : Nat :=
  let d := (s.tl.monoUs + (t - s.now)) / 1000000 - s.tl.contact
  min 800000 (ceilDiv (5000 + 2 * (ownResidAt d s + s.ln.bres.getD 20) * d) 100)

/-- A contact (R159, R370): `TLCONTU` clears. -/
def contact (s : State) : State :=
  { s with tl.unc := sat32 (s.tl.unc + segmentGain s), tl.contu := 0, tl.segStart := s.tl.monoUs
           tl.contact := tlmono s, r.lnk.lastcont := BitVec.ofNat 32 (tlmono s) }

/-! ## Receiver and exchanges -/

/-- Reader keys are loaded: listen windows open (R386). -/
def listens (s : State) : Bool := s.cat.keys.any (fun k => k.kind == 2 && s.ln.loaded.contains k.keyid)

/-- The receiver's setting for a Mogal channel at a rate code. -/
def channelTuning (n rate : Nat) (s : State) : Tuning := { hz := channelHz s.cat.radio.band n, num := n, rate }

/-- The setting for the channel of a superframe at the base rate. -/
def slalomTuning (sfn : Nat) (s : State) : Tuning := channelTuning (slalom sfn s) 0 s

/-- The transmitter is in use: a frame in the air, or the sequencer holds the transceiver (R342, R345). -/
def transmitterBusy (s : State) : Bool := s.rad.air.isSome || s.rad.owner == .sequencer

/-- Receiver on under a unit-3 seat that is held. -/
def receiverOn (t : Tuning) (s : State) : State :=
  { s with rad.mode := .rx, rad.owner := .link, rad.ctl1 := true, ln.rxSince := some s.tl.monoUs, ln.rxWait := none }
    |> domOn [.rf, .lnk] |> tuneTo t

/-- The receiver went off at `at_` of `monoUs`: its on-time is charged to `QLINK` at 5.2 mA (R381). -/
def receiverOffAt (at_ : Nat) (s : State) : State :=
  match s.ln.rxSince with
  | some t => { s with rad.mode := .idle, rad.owner := .none, rad.ctl1 := false, ln.rxSince := none, r.rf.rfstatLock := false
                       ln.qlink := if s.ln.member then s.ln.qlink + (at_ - t) * 5200 else s.ln.qlink }
  | none => s

/-- The receiver goes off now. -/
def receiverOff (s : State) : State := receiverOffAt s.tl.monoUs s

/-- A window's seat is asked for ahead of it (R128): its length and 0.6 ms, as far as one seat goes, by 400 µs before its start. -/
def askWindow (u : RxUse) (start len : Nat) (s : State) : State :=
  postSeat 3 100 (fitHold 3 100 (len + 600) s) (some (start - 400)) (.receive u) s

/-- The seat of unit 3 serves its next window. -/
def relabel (u : RxUse) (s : State) : State :=
  { s with cl.held := s.cl.held.map (fun x => if x.unit = 3 then { x with work := .receive u } else x) }

/-- A deadline-bound receive window starts (R128, R474): under its seat the receiver turns on, or waits for the transmitter (R342,
R345). One whose seat is not held is not opened: its request is dropped at its deadline, which has passed (R131). -/
def openWindow (u : RxUse) (len : Nat) (t : Tuning) (s : State) : State :=
  if vres s < 2000 then dropRequest { unit := 3, cls := 100, hold := len + 600, work := .receive u } 1 s
  else if holds 3 s then
    let s := relabel u s
    if transmitterBusy s then { s with ln.rxWait := some { use := u, tuning := t } } else receiverOn t s
  else if hasSeat 3 s then dropLate s
  else evaluate (askWindow u s.now len s)

/-- The receiver turns off; the seat of unit 3 goes back, and a request for it is withdrawn. -/
def closeWindow (s : State) : State :=
  releaseSeat 3 (receiverOff { s with ln.rxWait := none, cl.waiting := s.cl.waiting.filter (fun x => x.unit != 3) })

/-- The seat of unit 7 for a use goes back, and a request for it is withdrawn. -/
def closeTransmit (u : TxUse) (s : State) : State :=
  let s := { s with cl.waiting := s.cl.waiting.filter (fun x => x.work != .transmit u) }
  if heldWork 7 s == some (.transmit u) then releaseSeat 7 s else s

/-- Length of an ACK window with the ACK that it extends to, µs (R374). -/
def ackWindow (s : State) : Nat := 400 + tSfd s.cat.radio.band + baseTime 6 s

/-- An exchange ends: both seats of R375 are released. -/
def endExchange (s : State) : State :=
  { s with ln.exch := none, ln.ackOpen := false, rad.queue := s.rad.queue.filter (fun f => !f.use.exchange) }
    |> closeWindow |> closeTransmit .poll |> closeTransmit .join

/-- A Mogal frame of an exchange is queued at the base rate on the channel of a superframe. -/
def sendBase (u : TxUse) (sfn : Nat) (p : List Byte) (notBefore : Nat) (s : State) : State :=
  queueTx { use := u, channel := some (slalom sfn s), rate := 0, airtime := psduTime 0 p s + ramps, bytes := p
            notBefore := some notBefore } s

/-- A time of `State.now` as one of `TLMONO`, µs. -/
def monoAt (t : Nat) (s : State) : Nat := s.tl.monoUs + t - s.now

/-- The use of an exchange's frame. -/
def ExKind.use (k : ExKind) : TxUse := if k == .join then .join else .poll

/-- An exchange in slot `slot` of the superframe at `b` is set up (R374, R375, R377): its frame 2.0 ms and `delay` after the slot starts,
and before it the seats of unit 7 for all attempts and of unit 3 for every ACK window and the listen window, both by 400 µs
before the first ACK window. A slot that is past gives way to that of the next superframe (R377), whose seats are asked for then. -/
def startExchange (kind : ExKind) (p : List Byte) (ctr b slot delay : Nat) (s : State) : State :=
  let this := b + slot * slotLen s.cat.radio.band
  let ahead := if s.now ≤ this + 2000 + delay then 0 else 1
  let start := this + ahead * superframe
  let air := psduTime 0 p s + ramps
  let by_ := start + 2000 + delay + air + 400
  let ask := fun (s : State) =>
    postSeat 7 (txClass s) (4 * air) (some by_) (.transmit kind.use)
      (postSeat 3 100 (fitHold 3 100 (4 * ackWindow s + 1800) s) (some by_) (.receive .ack) s)
  { s with rad.owner := .link, ln.exch := some { kind, frame := p, ctr, slotEnd := start + slotLen s.cat.radio.band } }
    |> sendBase kind.use (sfnNow s + ahead) p (monoAt (start + 2000 + delay) s)
    |> onlyIf (ahead == 0) (requestsTogether ask)

/-- One random value 0 to 7 (R374). -/
def drawK (s : State) : Nat × State := let (v, s) := draw s; (v % 8, s)

/-! ## Poll payload and reserve score -/

/-- Reserve score (R381). -/
def reserveScore (s : State) : Nat :=
  let l := match s.ln.lowSeenAt with | some t => decide (tlmono s < t + 86400) | none => false
  1000 - ceilDiv s.ln.qlink (500 * 3600000000) - (if l then 200 else 0)

/-- The payload of Table 14.6. -/
def pollPayload (kind event : Nat) (s : State) : List Byte :=
  let p := s.rg.posted
  let l := p.legal
  let other := match s.ln.other with
    | some (i, t) => if tlmono s < t + 86400 then i else 0
    | none => 0
  let (e1, e2) : Int × Int := match s.cat.profile with
    | .gas => (l.vbfwd, l.vbrev)
    | .verify => (0, 0)
    | _ => (l.eheat, l.ecool)
  leBytes 1 kind ++ leBytes 1 ((if s.r.clk.tlstatLost then 1 else 0) + (if other = 0 then 0 else 2))
    ++ leBytes 2 (reserveScore s) ++ leBytes 2 s.cat.link.telday ++ leBytes 4 other ++ leBytes 6 p.regtime
    ++ leBytes 2 p.rstat.toNat ++ leBytes 4 l.audit ++ leInt 8 l.vfwd ++ leInt 8 l.vrev ++ leInt 8 e1 ++ leInt 8 e2
    ++ leBytes 4 l.terr ++ leBytes 4 l.toper ++ leBytes 2 event

/-- Uploads fall due in superframes with SFN mod U = m mod U (R372). -/
def uploadDue (m telday sfn : Nat) : Bool :=
  let u := 2700 / max 1 telday
  sfn % u == m % u

/-! ## Cluster store (R382) -/

/-- Every entry changed. -/
def csMap (f : CsEntry → CsEntry) (s : State) : State := { s with ln.store := s.ln.store.map (fun l => l.map f) }

/-- An entry is accepted for the store, and the Curator's Archive work programs it under unit 5 (R17, R128, R382). -/
def csAdd (e : CsEntry) (s : State) : State :=
  addJob (.entry e.num e.size) { s with ln.queued := s.ln.queued ++ [e] }

/-- A new entry under the next `CENUM`. -/
def csStore (kind src ctr : Nat) (payload : List Byte) (s : State) : State :=
  csAdd { kind, num := s.ln.csNext, src, ctr, time := tltime s, payload } { s with ln.csNext := s.ln.csNext + 1 }

/-- An entry of the parent's own, which no frame carries: it takes the next counter of the cluster key, so that no other entry of this
device has its `CESRC` and `CECTR` (R366, log 155). -/
def csOwn (kind : Nat) (payload : List Byte) (s : State) : State :=
  let (c, s) := match clusterKey s with
    | some k => takeCtr k.keyid s
    | none => (s.ln.csNext, s)
  csStore kind linkId c payload s

/-- An entry as its bytes (Table 14.8), in the committed state. -/
def CsEntry.bytes (e : CsEntry) : List Byte :=
  let mid := leBytes 1 e.kind ++ leBytes 2 e.payload.length ++ leBytes 4 e.num ++ leBytes 4 e.src ++ leBytes 4 e.ctr
    ++ leBytes 6 e.time
  let pad := List.replicate (4 * ceilDiv e.payload.length 4 - e.payload.length) (0xFF : Byte)
  leBytes 1 0 ++ mid ++ leBytes 1 e.coll ++ leBytes 1 e.flags ++ e.payload ++ pad
    ++ leBytes 4 (crc32 (mid ++ leBytes 1 e.flags ++ e.payload)).toNat

/-! ## Members and roles -/

/-- A member heard within 24 h. -/
def Member.recent (s : State) (m : Member) : Bool := decide (tlmono s < m.heard + 86400)

/-- The member with the highest RS among those heard within 24 h; a tie goes to the lower index (R381). -/
def bestMember (s : State) : Option Member :=
  (s.ln.members.filter (fun m => m.id != linkId && m.recent s)).foldl (fun (b : Option Member) m => match b with
    | some x => if x.rs < m.rs ∨ (x.rs = m.rs ∧ m.index < x.index) then some m else b
    | none => some m) none

/-- Link state object 0x0D follows the role, membership and superframe number, with the `TLMONO` of its boundary (R355, log 154). -/
def saveLink (s : State) : State :=
  writeObject 0x0D { s with ln.obj.role := some s.ln.role, ln.obj.member := s.ln.member, ln.obj.index := s.ln.index
                            ln.obj.clusterid := s.cat.link.clusterid, ln.obj.sfn := sfnNow s
                            ln.obj.boundary := s.ln.boundary.map (fun b => monoAt b s) }

/-- The device is parent (R355, R378, R384): its own row stands in the member table, and beacons follow from the next
boundary. -/
def becomeParent (cause : Nat) (s : State) : State :=
  let me : Member := { id := linkId, index := s.ln.index, telday := s.cat.link.telday, rs := reserveScore s, heard := tlmono s }
  { s with ln.role := .parent, ln.member := true, ln.sync := .none, ln.search := none, ln.deputy := false
           ln.members := me :: s.ln.members.filter (fun m => m.id != linkId)
           ln.boundary := some ((s.ln.boundary).getD s.now), r.lnk.parentid := BitVec.ofNat 32 linkId
           ln.nextSearch := none, ln.nextFallback := none, ln.backoff := 0, ln.exch := none, ln.asked := none }
    |> logEvent 0x0C06 [(cause : Int)] |> saveLink

/-- A search begins (R376): targeted where a superframe is tracked or `TLUNC` is below 8 s, blind otherwise and once the
backoff has reached 1440 min. -/
def beginSearch (s : State) : State :=
  let targeted := (s.ln.boundary.isSome || decide (tlunc s < 8000000)) && decide (s.ln.backoff < 1440)
  let k : SyncState := if targeted then .targeted else .blind
  { s with ln.search := some k, ln.sync := k, r.lnk.searchn := inc16 s.r.lnk.searchn, ln.nextSearch := none, ln.asked := none }

/-- The held Hibernate or Off request is due again once the parent role or a hand-over has ended (R459): HELD_REQUEST_REISSUE
issues it. The device is an endpoint of its cluster (R384, R385). -/
def becomeEndpoint (search : Bool) (s : State) : State :=
  { s with ln.role := .endpoint, ln.members := [], ln.ho := { s.ln.ho with leaving := false }, ln.deputy := false
           ln.sync := if search then .none else .synced }
    |> onlyIf search beginSearch |> saveLink

/-- Tracking by object 0x0D: the superframe that runs by now, counted from the recorded one, and its boundary (R355, R367, log 154). -/
def resumeTracking (o : LinkObject) (s : State) : State :=
  let t := o.boundary.getD s.tl.monoUs
  let n := (s.tl.monoUs - t) / superframe
  { s with r.lnk.sfn := BitVec.ofNat 32 (o.sfn + n), ln.boundary := some (s.now + (t + n * superframe) - s.tl.monoUs) }

/-- The role starts (R355) at entry to Run, or at a reload switch that changes record 0x0C01. -/
def startRole (s : State) : State :=
  let c := s.cat.link
  let o := s.ln.obj
  let recorded := o.member && o.clusterid == c.clusterid && (o.role == some .endpoint || o.role == some .parent)
  let s := loadKeys { s with
    ln.cfg := none, ln.members := [], ln.exch := none, ln.search := none, ln.sync := .none, ln.session := none, ln.ho := {}
    ln.boundary := none, ln.nextFallback := none, ln.nextSearch := none, ln.backoff := 0, ln.deputy := false, ln.owed := false
    ln.promote := false, ln.gotBeacon := none, ln.listening := false, ln.listenDue := none, ln.helloDue := false
    ln.slot := none, ln.asked := none, ln.ackOpen := false, rad.replyDue := false } |> closeWindow
  match c.role with
  | .silent | .reader | .legacy => { s with ln.role := c.role, ln.member := false } |> saveLink
  | r =>
    if recorded then
      let s := resumeTracking o { s with ln.role := o.role.getD r, ln.member := true, ln.index := o.index }
      if s.ln.role == .endpoint then { s with ln.sync := .synced, r.lnk.missrun := 0 } else beginSearch s
    else { s with ln.role := r, ln.member := false } |> beginSearch

/-- The link record that waits changes the role or the cluster, which a hand-over precedes (R356). -/
def cfgChangesRole (s : State) : Bool :=
  s.ln.cfg.any (fun x => x.1.role != s.cat.link.role || x.1.clusterid != s.cat.link.clusterid)

/-- Link record and keys that waited take effect (R356). -/
def applyCfg (s : State) : State :=
  match s.ln.cfg with
  | some (c, ks) =>
    loadKeys { s with cat.link := c, cat.keys := ks, ln.cfg := none }
  | none => s

/-- A parent that leaves its role at once, without a hand-over (R383): the cluster dissolves. A role that a reload changed
starts (R356). -/
def dissolve (s : State) : State :=
  match s.ln.cfg with
  | some _ => startRole (applyCfg s)
  | none =>
    { s with ln.role := .endpoint, ln.member := false, ln.members := [], ln.ho := {}, ln.boundary := none }
      |> beginSearch |> saveLink

/-- A forced hand-over begins (R383): its announcement, H at least 300 s after the next beacon; without a member heard
within 24 h the cluster dissolves. -/
def forceHandover (s : State) : State :=
  if s.ln.role != .parent then s
  else match bestMember s with
  | none => dissolve s
  | some m =>
    let h := (sfnNow s + 1 + ceilDiv 300 32 + 7) / 8 * 8
    { s with ln.ho := { st := .announced, forced := true, succ := m.id, h }
             r.lnk.hosucc := BitVec.ofNat 32 m.id, r.lnk.hosfn := BitVec.ofNat 32 h }

/-! ## Radio reports of alarm events (R444) -/

/-- A code counts as reported by radio. -/
def markReported (code : Nat) (s : State) : State :=
  { s with flt.reported := (code, tlmono s) :: s.flt.reported.filter (fun x => x.1 != code && decide (tlmono s < x.2 + 3600)) }

/-- Alarm codes that wait are reported as the role in force has it. -/
def reportAlarms (s : State) : State :=
  if !s.operating || s.ln.alarms.isEmpty then s
  else
    let fallback := s.ln.role == .endpoint && s.ln.sync == .fallback
    match s.ln.role with
    | .parent =>
      s.ln.alarms.foldl (fun s c => markReported c (csOwn 3 (pollPayload 3 c s) s)) { s with ln.alarms := [] }
    | .silent | .reader => { s with ln.alarms := [] }
    | _ =>
      if fallback || s.ln.role == .legacy then
        s.ln.alarms.foldl (fun s c =>
          let (f, s) := telegram (if fallback then .fallback else .legacy) (some c) s
          markReported c (queueTx f s)) { s with ln.alarms := [] }
      else s

end Sys2Proof.Machine
end

