-- ==== Sys2Proof/Machine/Windows.lean ====
section
/-! DEFINITION. The receive windows that the Link core keeps by itself: the seats asked for ahead of beacon windows and of the
parent's slots (R128, R373, R375, R379), and the receiver that stays on in those slots, in a blind search (R376), in the bulk slots of
a transfer (R384) and in the READER role (R390). -/

namespace Sys2Proof.Machine

/-! ## Settings -/

/-- Channel of the k-th exchange of a reader session (R388): in band 3 it hops from the channel of the wake; a wake on the
frequency of an EN 13757-4 mode keeps that frequency. -/
def sessionChannel (c0 k : Nat) (s : State) : Option Nat :=
  if s.cat.radio.band = 3 then some ((slalomPerm s.cat.link.clusterid 50).getD ((c0 + k) % 50) 0)
  else if c0 = 0xFF then none else some c0

/-- The setting of an exchange of a session. -/
def sessionTuning (c0 k : Nat) (s : State) : Tuning :=
  match sessionChannel c0 k s with
  | some n => channelTuning n 0 s
  | none => { hz := modeHz (enMode s), num := 0xFF, rate := 0 }

/-- The setting of a READER (R390): that of its session, the Slalom of `CLUSTERID`, or the one that R390 names. -/
def readerTuning (s : State) : Tuning :=
  match s.ln.run with
  | some x => if x.challenge.isEmpty then base s else sessionTuning x.c0 x.k s
  | none => base s
where
  /-- Outside a session. -/
  base (s : State) : Tuning :=
    if s.cat.link.clusterid ≠ 0 then slalomTuning (sfnNow s) s
    else if s.cat.radio.band = 0 ∨ s.cat.radio.band = 2 then
      { hz := modeHz s.cat.link.legmode, num := 0xFF, rate := 0x10 + s.cat.link.legmode }
    else channelTuning 0 0 s

/-- The setting of the k-th bulk frame of the running superframe (R368), `rate` 1 for the frame and 0 for its acknowledgement; k moves on
with an acknowledgement (log 159). -/
def bulkTuning (rate : Nat) (s : State) : Tuning := channelTuning (bulkChannel (sfnNow s) s.ln.ho.k s) rate s

/-! ## Beacon windows of an endpoint and of a targeted search -/

/-- The lead with which seats are asked for ahead of a window, µs, beside the 400 µs of the deadline (log 156). -/
def windowLead : Nat := 5000

/-- Airtime of a beacon, µs. -/
def beaconTimeOnAir (s : State) : Nat := baseTime 33 s

/-- Whether the beacon of superframe `n` is tried (R371, R372, R376, R384). -/
def beaconTried (n : Nat) (s : State) : Bool :=
  n % 8 == 0 || uploadDue s.ln.index s.cat.link.telday n || s.r.lnk.missrun != 0 || s.ln.owed
    || s.ln.search == some .targeted || (s.ln.ho.gotEnd && n == s.ln.ho.h + 4)

/-- The device opens beacon windows: a synchronised endpoint, or a targeted search. -/
def followsBeacons (s : State) : Bool :=
  s.ln.search == some .targeted || (s.ln.role == .endpoint && s.ln.sync == .synced)

/-- A beacon window: its boundary, its start and its length, and its setting (R373, R376). -/
structure BeaconWindow where
  boundary : Nat
  start : Nat
  len : Nat
  tuning : Tuning
  /-- Guard in 10 µs, of a tracked boundary -/
  guard : Option Nat

/-- A beacon window (R373, R376): that of the next tracked boundary, or in a targeted search without one that of the `n`-th multiple of
32 s of civil time, `n` by the civil time in µs and the half-width. -/
def beaconWindow (n : Nat → Nat → Nat) (s : State) : Option BeaconWindow :=
  if !followsBeacons s then none
  else match s.ln.boundary with
  | some b =>
    let t := b + superframe
    let g := guardAt t s
    if beaconTried (sfnNow s + 1) s then
      some { boundary := t, start := t - 10 * g, len := 20 * g + beaconTimeOnAir s, tuning := slalomTuning (sfnNow s + 1) s, guard := some g }
    else none
  | none =>
    if s.ln.search != some .targeted then none else
    let half := min 8000000 (tlunc s + 500)
    let civ := s.tl.civNs / 1000
    let n := n civ half
    let t := s.now + n * superframe - civ
    some { boundary := t, start := t - half, len := 2 * half + beaconTimeOnAir s, tuning := slalomTuning n s, guard := none }

/-- The next beacon window that can still be asked for. -/
def nextBeaconWindow (s : State) : Option BeaconWindow := beaconWindow (fun civ half => ceilDiv (civ + half + 400) superframe) s

/-- The beacon window that starts now. -/
def openingWindow (s : State) : Option BeaconWindow := beaconWindow (fun civ half => ceilDiv (civ - half) superframe) s

/-- Use of a beacon window's receiver. -/
def windowUse (s : State) : RxUse := if s.ln.search.isSome then .search else .beacon

/-- The seat of the next beacon window is asked for within the lead, once (R128, R373). -/
def askBeacon (s : State) : State :=
  match nextBeaconWindow s with
  | none => s
  | some w =>
    if s.ln.asked == some w.boundary || hasSeat 3 s || decide (s.now + windowLead + 400 < w.start) || decide (w.start < s.now + 400) then s
    else askWindow (windowUse s) w.start w.len { s with ln.asked := some w.boundary }

/-! ## The parent's slots (R375, R379) -/

/-- The device acts as parent. -/
def actsAsParent (s : State) : Bool := s.operating && s.ln.role == .parent && s.ln.search.isNone && !s.rad.unavailable && !s.rad.linkRestart

/-- Slots of the running superframe in which the parent receives (R379): the open slot, and those of members with an upload due. -/
def dueSlots (s : State) : List Nat :=
  1 :: (s.ln.members.filter (fun m => m.id != linkId && uploadDue m.index m.telday (sfnNow s))).map (fun m => 2 + m.index)

/-- Start of a slot of the superframe at `b`. -/
def slotStart (b n : Nat) (s : State) : Nat := b + n * slotLen s.cat.radio.band

/-- The slot to be served next, in ascending order (R375): the first due one that has not been asked for and is not past. -/
def nextSlot (s : State) : Option (Nat × Nat) :=
  match s.ln.boundary with
  | none => none
  | some b =>
    ((dueSlots s).map (fun n => (n, slotStart b n s))).foldl (fun (best : Option (Nat × Nat)) x =>
      if s.ln.asked.any (fun t => decide (x.2 ≤ t)) || decide (x.2 + 100 < s.now) then best
      else match best with
        | some y => if x.2 < y.2 then some x else some y
        | none => some x) none

/-- Airtime of a poll, µs. -/
def pollTime (s : State) : Nat := baseTime 64 s

/-- The parent's receiving in a slot is over at this time of `State.now` (R379): the open slot 11.0 ms after its start, a poll slot
10.8 ms after its last ACK, otherwise at its end. -/
def slotOver (x : Slot) (s : State) : Nat :=
  if x.number = 1 then max (x.start + 11000) (x.ackEnd.getD 0)
  else min (x.start + slotLen s.cat.radio.band) ((x.ackEnd.map (· + 10800)).getD (x.start + slotLen s.cat.radio.band))

/-- The slot has ended: a due upload without an accepted poll counts (R379); both seats go back. In the open slot the model waits for a
frame that may still be arriving at 11.0 ms (log 157). -/
def endSlot (x : Slot) (s : State) : State :=
  receiverOffAt (min s.tl.monoUs (monoAt (slotOver x s) s))
    { s with rad.owner := if s.rad.owner == .link then .none else s.rad.owner, ln.slot := none
             r.lnk.upmiss := if x.number = 1 ∨ x.accepted then s.r.lnk.upmiss else inc16 s.r.lnk.upmiss }
    |> closeWindow |> closeTransmit .ackFrame

/-- The slot in service, if any, ends. -/
def endServedSlot (s : State) : State := match s.ln.slot with | some x => endSlot x s | none => s

/-- Start of the poll slot that has just ended, where its upload was due and its seats were never asked for. -/
def unservedSlot (s : State) : Option Nat :=
  s.ln.boundary.bind (fun b =>
    let n := (s.now - b - 1) / slotLen s.cat.radio.band
    let t := slotStart b n s
    if 2 ≤ n ∧ (dueSlots s).contains n ∧ !s.ln.asked.any (fun x => decide (t ≤ x)) then some t else none)

/-- The seats of a slot are asked for, both by 400 µs before its receiver turns on (R128, R375). -/
def askSlot (x : Nat × Nat) (s : State) : State :=
  { s with rad.owner := .link, ln.slot := some { number := x.1, start := x.2 }, ln.asked := some x.2 }
    |> askWindow .poll (x.2 + 500) (if x.1 = 1 then 10500 + pollTime s else slotLen s.cat.radio.band - 500)
    |> postSeat 7 (txClass s) (4 * (baseTime 6 s + ramps)) (some (x.2 + 100)) (.transmit .ackFrame)

/-- A seat of a slot was refused or dropped: the other goes back, and the slot is skipped (R375). -/
def skipSlot (s : State) : State :=
  match s.ln.slot with
  | some x => { s with ln.slot := some { x with skipped := true } } |> closeWindow |> closeTransmit .ackFrame
  | none => s

/-- The slot in service ends when it is over; the next one's seats are asked for within the lead. -/
def serveSlots (s : State) : State :=
  if !actsAsParent s then s
  else
    let s := match s.ln.slot with
      | some x =>
        let late := if x.number = 1 ∧ x.ackEnd.isNone ∧ !x.skipped then pollTime s else 0
        if slotOver x s + late ≤ s.now ∧ s.rad.air.isNone then endSlot x s else s
      | none => s
    match s.ln.slot, nextSlot s with
    | none, some x =>
      if decide (x.2 ≤ s.now + windowLead) && !hasSeat 3 s && !hasSeat 7 s then askSlot x s else s
    | _, _ => s

/-- The receiver of the slot in service: on from 0.5 ms after its start, both seats held; off for its ACKs alone. -/
def slotReceive (s : State) : State :=
  match s.ln.slot with
  | none => s
  | some x =>
    if x.skipped || s.ln.rxSince.isSome || transmitterBusy s || s.rad.queue.any (fun f => f.use == .ackFrame)
      || decide (s.now < x.start + 500) || heldWork 3 s != some (.receive .poll) then s
    else if !holds 7 s && x.ackEnd.isNone then skipSlot s
    else
      let since := if x.ackEnd.isNone then x.start + 500 else s.now
      let s := receiverOn (slalomTuning (sfnNow s) s) s
      { s with ln.rxSince := some (monoAt since s) }

/-! ## The receiver that stays on -/

/-- The first bulk slot of the running superframe has begun, and the superframe has not ended. -/
def bulkTime (s : State) : Bool :=
  s.ln.boundary.any (fun b => decide (slotStart b (firstBulk s.cat.radio.band) s ≤ s.now ∧ s.now < b + superframe))

/-- The successor receives in the bulk slots from H on, until 120 s after the boundary of H (R384). -/
def successorReceives (s : State) : Bool :=
  s.ln.role == .endpoint && s.ln.bsucc == linkId && s.ln.bflags.testBit 1 && !s.ln.ho.gotEnd && decide (s.ln.bhsfn ≤ sfnNow s)
    && bulkTime s && s.ln.boundary.any (fun b => decide (s.now < b + 120000000 - (sfnNow s - s.ln.bhsfn) * superframe))

/-- The use under which the receiver stays on, and its setting: a READER (R390), a blind search on p[0] (R376), a successor (R384). -/
def standingUse (s : State) : Option (RxUse × Tuning) :=
  if !linkUp s then none
  else if s.ln.role == .reader then some (.reader, readerTuning s)
  else if s.ln.search == some .blind then some (.search, slalomTuning 0 s)
  else if successorReceives s then some (.transfer, bulkTuning 1 s)
  else none

/-- A READER ends its seat while a unit-1 or unit-2 request waits (Table 17.6). -/
def readerYields (s : State) : Bool :=
  s.ln.role == .reader && s.cl.waiting.any (fun x => x.unit == 1 || x.unit == 2)

/-- A seat whose hold is over is given back and asked for again: consecutive seats (R128). -/
def renewSeat (u : RxUse) (s : State) : State :=
  let spent := s.cl.held.any (fun x => x.work == .receive u && decide (x.at_ + x.hold ≤ s.now))
  if spent then releaseSeat 3 (receiverOff s) else s

/-- The receiver stays on under consecutive seats; a frame that waits goes between two of them (R342). -/
def standingReceive (s : State) : State :=
  match standingUse s with
  | none =>
    if heldWork 3 s == some (.receive .reader) && s.ln.session.isNone || heldWork 3 s == some (.receive .transfer) then closeWindow s else s
  | some (u, t) =>
    if transmitterBusy s then s
    else if readerYields s then (if s.ln.rxSince.isSome then closeWindow s else s)
    else
      let s := renewSeat u s
      if (nextTx s).isSome then s
      else
      let s := requestSeat 3 100 (fitHold 3 100 1000000 s) none (.receive u) s
      if heldWork 3 s == some (.receive u) && s.ln.rxSince.isNone && decide (2000 ≤ vres s) then receiverOn t s else s

/-- A receive request that waited for the transmitter is served (R342, R345). -/
def pumpRx (s : State) : State :=
  match s.ln.rxWait with
  | some w => if transmitterBusy s then s else if holds 3 s then receiverOn w.tuning s else { s with ln.rxWait := none }
  | none => s

/-- A frame that has just ended arrived in the slot in service (R379): received whole, in the open slot begun by 11.0 ms after its
start. -/
def inSlot (f : RxFrame) (s : State) : Bool :=
  let air := psduTime 0 f.psdu s
  match s.ln.slot with
  | some x => heldWork 3 s == some (.receive .poll) && s.ln.rxSince.any (fun t => decide (t + air ≤ s.tl.monoUs))
      && (x.number != 1 || decide (s.now ≤ x.start + 11000 + air))
  | none => false

/-- What the Link core's receiver does by now, before a frame that has just ended is looked at. -/
def followReceiver (s : State) : State :=
  if s.pw.st == .run && s.pw.target.isNone && s.flt.proc.isNone then s |> pumpRx |> slotReceive |> standingReceive else s

/-- The seats of windows to come are asked for. -/
def askWindows (s : State) : State := if linkUp s then serveSlots (askBeacon s) else s

/-- A frame that took `air` µs and has just ended was received whole. -/
def heardWhole (air : Nat) (s : State) : Bool := s.ln.rxSince.any (fun t => decide (t + air ≤ s.tl.monoUs))

end Sys2Proof.Machine
end

