-- ==== Sys2Proof/Machine/Settle.lean ====
section
/-! DEFINITION. The standing work at the end of a command: what a dropped request means to its unit, waiting reports,
frames, records, steps and calibrations that ask for their seats, and the Warden's choice of the next power state (R112,
R114, R115, R118). -/

namespace Sys2Proof.Machine

/-! ## Requests that were dropped (R131) -/

/-- A reader session closes (R388): event 0x0C11 with its cause (log 39) and the frames exchanged. -/
def closeSession (cause : Nat) (s : State) : State :=
  match s.ln.session with
  | none => s
  | some x => { s with ln.session := none, ln.helloDue := false, ln.lastResp := [] } |> closeWindow
      |> logEvent 0x0C11 [(cause : Int), (x.k : Int)]

/-- A beacon is withdrawn (R369): cause 1 seat, 2 ledger. -/
def withdrawBeacon (cause : Nat) (s : State) : State :=
  let quiet := match s.ln.bcnLogged with | some t => decide (tlmono s < t + 3600) | none => false
  let s := { s with r.lnk.bcnskip := inc16 s.r.lnk.bcnskip }
  if quiet then s else { s with ln.bcnLogged := some (tlmono s) } |> logEvent 0x0C0A (w32 (sfnNow s + 1) ++ [(cause : Int)])

/-- An upload fails or is not sent. -/
def uploadFailed (s : State) : State := { s with r.lnk.pollfail := inc16 s.r.lnk.pollfail }

/-- The Link core restarts after a frame of the sequencer that had taken its transceiver (R345, R452). -/
def restartLink (s : State) : State :=
  if s.rad.linkRestart && s.operating && s.flt.proc.isNone then startRole { s with rad.linkRestart := false } else s

/-- A frame that will not be sent leaves the queue, and its requester acts (R131, R338, R369, R375, R388, R457). -/
def txDropped (f : TxFrame) (s : State) : State :=
  let s := { s with rad.queue := s.rad.queue.erase f, rad.owner := .none }
  match f.use with
  | .beacon => closeWindow (withdrawBeacon 1 s)
  | .poll => endExchange (uploadFailed s)
  | .join => endExchange s
  | .handover | .legacy | .fallback => closeWindow s
  | .session | .hello => closeSession 4 s
  | .alarm => restartLink (holdAlarm s.flt.alarmCause s)
  | _ => s

/-- What a unit does when it is told of a drop, beyond `onDrop`. -/
def heedDrop (s : State) (w : Work) : State :=
  match w with
  | .transmit u =>
    (match s.rad.queue.find? (fun f => f.use == u) with
     | some f => txDropped f s
     | none => if u == .ackFrame then skipSlot s else s)
  | .receive .ack =>
    (match s.ln.exch with
     | some x => endExchange (if x.kind == .join then s else uploadFailed s)
     | none => s)
  | .receive .reader => closeSession 4 s
  | .receive .listen | .receive .reply =>
    let s := { s with ln.listenDue := none, rad.replyDue := false }
    (match s.rad.queue.find? (fun f => f.use == .beacon) with
     | some f => txDropped f s |> closeTransmit .beacon
     | none => s)
  | .receive .poll => skipSlot s
  | _ => s

/-- Every drop since the last command is heeded, oldest first. -/
def heedDrops (s : State) : State := s.cl.told.reverse.foldl heedDrop { s with cl.told := [] }

/-- Requests past their deadline are dropped, and their units told (R131). -/
def heedLate (s : State) : State := heedDrops (dropLate s)

/-! ## The next state (R112 to R118) -/

/-- Rows of Table 5.3 that refuse a target, in order: refuser and reason. A patch-bank write in progress refuses as a slot write does,
since R430 writes it in the same way (log 144). -/
def refusers (t : PState) (s : State) : List (Nat × Nat) :=
  let deep := t == .hibernate || t == .off
  let any := t != .doze
  let other := match s.pw.issuer with
    | some p => (s.sv.ses (Port.other p)).open_
    | none => false
  [ (1, 0x11, any && (s.sv.reload.isSome || s.sv.reloadRun || s.sv.slotW.isSome || s.sv.patchW.isSome)),
    (1, 0x12, any && s.start.wait == .otp),
    (1, 0x13, deep && other),
    (2, 0x21, any && (heldWork 1 s == some .seal || !(jobsOf .registrar s).isEmpty || (deep && !s.fl.slots.isEmpty && !s.rg.stopped))),
    (2, 0x22, t == .standby && !s.fl.slots.isEmpty && !s.rg.stopped),
    (3, 0x31, any && (s.ps.run.any (fun x => !([2, 6] : List Nat).contains (s.cat.step x.step).action) || s.cal.run)),
    (4, 0x41, any && (s.rad.air.isSome || s.ln.rxSince.isSome)),
    (4, 0x42, deep && s.ln.role == .parent && s.operating),
    (4, 0x43, deep && (s.ln.ho.st == .announced || s.ln.ho.st == .transferring)),
    (5, 0x51, any && s.ar.run.isSome),
    (6, 0x61, any && (s.dp.emDriving || !(regionsIn [.starting, .running, .paused] s).isEmpty)),
    (7, 0x71, any && s.io.cs && !s.r.flt.pinflt.getLsbD 6) ].filterMap
      (fun x => if x.2.2 then some (x.1, x.2.1) else none)

/-- A record of the Archive is still open: an operation under way, or a record that waits for its seat. An erase that waits is none
(log 93). -/
def recordsOpen (s : State) : Bool :=
  s.ar.run.isSome || !s.evq.isEmpty || s.ar.jobs.any (·.programs) || s.ar.paused.any (fun r => r.job.programs)

/-- Port that issued the request being entered, as an event item. -/
def issuerCode (s : State) : Int := match s.pw.issuer with | some p => (p.code : Int) | none => 0

/-- What an entry to Hibernate begins with (Table 5.4, R116): service mode ends (R429), the Registrar seals an accession record, and
0x0106 is logged among the records that the Curator completes. -/
def beginHibernate (s : State) : State :=
  endServiceAll 4 s |> sealFull 7 (issuerCode s) 0 |> logEvent 0x0106 [issuerCode s]

/-- What an entry to Off begins with (Table 5.4, R156): service mode ends, the shadow commit and the ledger record of an Off entry, the
park, and 0x0105, which the Curator writes with the other records. -/
def beginOff (s : State) : State := endServiceAll 4 s |> commitOrSkip |> writeLedger |> parkStart 2 |> logEvent 0x0105 [issuerCode s]

/-- What an entry begins with. -/
def beginEntryTo (t : PState) (s : State) : State :=
  match t with
  | .hibernate => beginHibernate s
  | .off => beginOff s
  | _ => s

/-- A request is evaluated against the refusers (R115): an entry begins, or the refusals are counted. -/
def evaluateRequest (t : PState) (s : State) : State :=
  match (refusers t s).getLast? with
  | none => beginEntryTo t { s with pw.target := some t, pw.latched := none, pw.choose := false }
  | some (u, reason) =>
    let who := (List.range 8).filter (fun u => (refusers t s).any (fun x => x.1 == u))
    { s with r.pwr.pwrefcnt := who.foldl (fun v u => vupd v (u - 1) inc16) s.r.pwr.pwrefcnt
             r.pwr.pwrefuseRefuser := BitVec.ofNat 4 u, r.pwr.pwrefuseTarget := BitVec.ofNat 4 t.code
             r.pwr.pwrefuseReason := BitVec.ofNat 8 reason, pw.choose := false }

/-- A state request reaches the transition machine (R114, Table 5.5). -/
def stateRequest (t : PState) (s : State) : State :=
  match s.pw.target with
  | some x =>
    if x = t then { s with r.pwr.pendrepl := inc16 s.r.pwr.pendrepl }
    else { s with pw.pend := some t
                  r.pwr.pendrepl := if s.pw.pend.isSome then inc16 s.r.pwr.pendrepl else s.r.pwr.pendrepl }
  | none => if s.pw.st = t then s else evaluateRequest t s

/-- Engines report pending work; an open service session counts as pending work between its unit-6 seats (log 78). -/
def busy (s : State) : Bool :=
  s.ps.run.isSome || !s.ps.waiting.isEmpty || s.ck.run.isSome || s.cal.run || !s.ar.jobs.isEmpty || s.ar.run.isSome || !s.ar.paused.isEmpty
    || s.rad.air.isSome || s.ln.rxSince.isSome || s.ln.exch.isSome || !s.fl.slots.isEmpty || !s.cl.waiting.isEmpty
    || s.sv.pendStatus == 1 || s.sv.opt.open_ || s.sv.hst.open_ || s.flt.proc.isSome

/-- A time of `TLMONO`, in µs, that lies ahead, as a time of `State.now`. -/
def aheadMono (t : Nat) (s : State) : Option Nat := if s.tl.monoUs ≤ t then some (s.now + (t - s.tl.monoUs)) else none

/-- Times of the link: the next boundary with the beacon request before it, the next beacon window, the slots of the superframe that
this device uses and the bulk slots of a transfer, the end of an exchange, search retries and fallback telegrams, and windows that
follow a frame at once. A window or slot of the receiver falls due when its seat is asked for (log 156). -/
def linkItems (s : State) : List Nat :=
  let bulk := s.ln.ho.st == .announced || s.ln.ho.st == .transferring || s.ln.bflags.testBit 1
  let slots := fun (b : Nat) => (match s.ln.role with
    | .parent => (dueSlots s).map (fun n => slotStart b n s - windowLead)
    | .endpoint => [1, 2 + s.ln.index].map (fun n => slotStart b n s)
    | _ => []) ++ (if bulk then [slotStart b (firstBulk s.cat.radio.band) s] else [])
  (match s.ln.boundary with
    | some b => (b + superframe) :: ((if s.ln.role == .parent then [b + superframe - 5000] else []) ++ slots b)
    | none => [])
    ++ ((nextBeaconWindow s).map (fun w => w.start - 400 - windowLead)).toList
    ++ [s.ln.exch.map (·.slotEnd), s.ln.nextSearch, s.ln.nextFallback].filterMap id
    ++ (if s.ln.listenDue.isSome || s.rad.replyDue || s.ln.helloDue then [s.now] else [])

/-- Times of frames that wait for their permitted time, and of the TX sequencer's. -/
def frameItems (s : State) : List Nat :=
  s.rad.queue.filterMap (fun f => f.notBefore.bind (fun t => aheadMono t s))
    ++ [s.rad.seqCmd.map (·.1), s.flt.alarmDue].filterMap id

/-- A civil time in s that lies ahead, as a time of `State.now`. -/
def aheadCivil (t : Nat) (s : State) : Option Nat :=
  if s.tl.civNs ≤ t * 1000000000 then some (s.now + (t * 1000000000 - s.tl.civNs) / 1000) else none

/-- Telegrams of the daily schedule of a LEGACY device (R391): those of the running civil day, and the first of the next. -/
def legacyItems (s : State) : List Nat :=
  let n := s.cat.link.telday
  if s.ln.role != .legacy || n = 0 then []
  else
    let day := civS s / 86400 * 86400
    (List.range (n + 1)).filterMap (fun k => aheadCivil (day + k * 86400 / n + linkId % (86400 / n)) s)

/-- Other timers that wake an engine: the end of a fast sequence (R216), the background pass (R305), and every hour the copy of the
marks (R366) and the ledger record (R156), which the model counts in `TLMONO` (log 144). -/
def timerItems (s : State) : List Nat :=
  (if s.ps.fast then [s.ps.fastTimer + 30000000] else [])
    ++ (if s.operating && decide (0 < s.cat.bgtest) && s.bg.isNone && !s.bgReq then
          (aheadMono (s.r.mem.bglast.toNat * 1000000 + s.cat.bgtest * 3600000000) s).toList else [])
    ++ (aheadMono ((tlmono s / 3600 + 1) * 3600000000) s).toList

/-- The minute-seal timer: 5 s after the boundary of the running minute (R286). -/
def sealItem (s : State) : Option Nat :=
  if s.rg.stopped then none
  else s.rg.acc.minute.map (fun m => s.now + (((m + 1) * 60 + 5) * 1000000000 - s.tl.civNs) / 1000)

/-- Due times of the items of R112, as times of `State.now`. -/
def dueItems (s : State) : List Nat :=
  (if s.ps.epoch.isSome then s.ps.next else []) ++ linkItems s ++ frameItems s ++ legacyItems s ++ timerItems s
    ++ [s.cal.retryAt, s.ck.retryAt, sealItem s].filterMap id
    ++ (if s.operating then [aheadMono (s.ck.lastOk + s.cat.vitcal * 60000000) s, aheadMono (s.cal.lastOk + s.cat.tdc.calint * 3600000000) s,
          aheadMono (s.io.modCheckAt + 86400000000) s].filterMap id else [])
    ++ (if s.safe then [s.sb.telFrom + s.cat.sbint * 60000000, s.sb.retryFrom + 86400000000] else [])

/-- Doze when the earliest due item is less than 2 ms away, Standby otherwise (R112). -/
def wardenChoice (s : State) : PState :=
  if (dueItems s).any (fun t => decide (s.now ≤ t ∧ t < s.now + 2000)) then .doze else .standby

/-- The Warden's choice at a release or completion after which no seat is held and no work is pending; a pending slot is
evaluated in its place (R112, R118). -/
def chooseState (s : State) : State :=
  if s.pw.choose && (s.operating || s.safe) && s.pw.st == .run && s.pw.target.isNone && s.cl.held.isEmpty && !busy s then
    let s := { s with pw.choose := false }
    match s.pw.pend with
    | some t =>
      let s' := stateRequest t { s with pw.pend := none }
      if s'.pw.target.isSome then s' else stateRequest (wardenChoice s') s'
    | none => stateRequest (wardenChoice s) s
  else s

/-- A shot of a path has been fired and is not processed: its capture is open. -/
def PathCore.capturing (p : PathCore) : Bool :=
  p.fired.any (fun x => !p.pairs.any (fun q => q.pair == x.1
    && (if x.2 then q.up else q.down).any (fun sh => sh.retry || !p.retried.contains x)))

/-- An acoustic capture is open. -/
def captureOpen (s : State) : Bool := s.ps.run.isSome && s.path.toList.any (·.capturing)

/-- A temperature measurement runs. -/
def measuringTemp (s : State) : Bool := match heldWork 4 s with | some (.temperature _) => true | _ => false

/-- A temperature discharge is open: its run on the temperature channel has started and not ended. -/
def dischargeOpen (s : State) : Bool := measuringTemp s && (vget s.ch (tempCh s) {}).st == .running

/-- An acoustic capture or a temperature discharge is open: the Vitrine heater keeps its drive level, and the boost and the
display charge pumps pause (R25). -/
def quietWindow (s : State) : Bool := captureOpen s || dischargeOpen s

/-- An acoustic capture, a temperature discharge, a radio frame or a receive window is open (R142). -/
def windowOpen (s : State) : Bool := quietWindow s || s.rad.air.isSome || s.ln.rxSince.isSome

/-- The Vitrine is off and the PLL references HFRC again (step V7); the seat goes back. -/
def vitrineOff (s : State) : State :=
  disarm (gateCh s) { s with r.clk.clkstatPllvit := false, r.clk.clkstatVitrdy := false } |> domOff [.vit] |> releaseSeat 8

/-- The run of a Vitrine gate on its channel (R141). -/
def gateRun : RunCfg := { sync := false, wwidth := 2 ^ 24 - 1 }

/-- The switches of the PLL reference, each deferred while a window is open (R142): step V3 once `VITRDY` is set, with the gate
channel armed, and the return of step V7 once the gates are complete. -/
def switchReference (s : State) : State :=
  match s.ck.run with
  | some x =>
    if windowOpen s then s
    else if x.done then (if s.r.clk.clkstatPllvit then vitrineOff s else s)
    else if x.ready.isSome && !s.r.clk.clkstatPllvit then configureRun (gateCh s) gateRun { s with r.clk.clkstatPllvit := true }
    else s
  | none => s

/-- An action-6 step runs (R210, R214): the Registrar seals an additional accession record under unit 1; the step is over once the
record is committed. -/
def beginRecord (i due : Nat) (s : State) : State :=
  sealFull 6 i 0 { s with ps.run := some { step := i, due, fast := s.ps.fast }, ps.waiting := s.ps.waiting.filter (fun w => w.1 != i) }

/-- The additional record of an action-6 step has been committed: its step is over. -/
def endRecord (s : State) : State :=
  if s.ps.run.any (fun x => (s.cat.step x.step).action == 6)
      && !s.ar.jobs.any (fun j => match j with | .fullRec a => a.kind == 6 | _ => false) then { s with ps.run := none }
  else s

/-- A measurement waits for a Vitrine gate: counted once in `TWAITV` (R253). -/
def waitForGate (i due : Nat) (s : State) : State :=
  if s.tp.waited = some (i, due) then s else { s with tp.waited := some (i, due), r.tmp.twaitv := inc16 s.r.tmp.twaitv }

/-- The Warden requests the seat of the next waiting step once the previous one has released its own (R214). A wait for a
Vitrine gate is counted in `TWAITV` (R253). -/
def pisteRequest (s : State) : State :=
  if !s.operating || s.ps.run.isSome || stepSeat s || s.flt.proc.isSome then s
  else match firstStep s with
  | none => s
  | some (i, due) =>
    if (s.cat.step i).action = 6 then beginRecord i due s
    else if gateBlocks i s then onlyIf (decide ((s.cat.step i).action = 1)) (waitForGate i due) s
    else postSeat (actionUnit (s.cat.step i).action) (stepClass i s) (stepHold i s)
      (some (due + stepInterval i s / 4)) (stepWork i s) s

/-- A channel is connected in 4-wire form; TREF (4) always is (R249, R250). -/
def fourWire (n : Nat) (s : State) : Bool := n == 4 || s.cat.t.fourwire.testBit n

/-- Run of a temperature discharge (R251). -/
def tempRun : RunCfg := { sync := true, slope := .falling, thr := 32, wwidth := 40960, stopmax := 1 }

/-- The probe channels that a measurement takes: those of `ARG` of the step that runs (Table 8.4), every enabled one in the check of a
start (R258). -/
def measuredMask (s : State) : Nat :=
  match heldWork 4 s with
  | some (.temperature i) => (s.cat.step i).arg &&& s.cat.t.enmask
  | _ => s.cat.t.enmask

/-- Their numbers, ascending. -/
def measuredChannels (s : State) : List Nat := (List.range 4).filter (fun n => (measuredMask s).testBit n)

/-- The discharges of a measurement of `avg` cycles (R252): channel (4 for TREF), and whether it starts from the half level. -/
def dischargePlan (avg : Nat) (s : State) : List (Nat × Bool) :=
  let chs := measuredChannels s
  (List.range avg).flatMap (fun c =>
    (4, false) :: (if c % 2 = 0 then chs else chs.reverse).map (fun n => (n, false)) ++ [(4, true)])

/-- The discharge that is due or under way (R251, R252). -/
def nextDischarge (s : State) : Option (Nat × Bool) := (dischargePlan s.cat.t.avg s)[s.tp.got.length]?

/-- A discharge begins with its run on the temperature channel and is over with it: what the run accepted is kept (R251, R252);
the start of the first one gives `TRTIME`, and `TRDUR` runs from it (R263). -/
def followDischarge (s : State) : State :=
  if !measuringTemp s then s
  else
    let c := vget s.ch (tempCh s) {}
    match s.tp.open_, c.st == .running, nextDischarge s with
    | false, true, some _ =>
      { s with tp.open_ := true, tp.startT := if s.tp.got.isEmpty then tltime s else s.tp.startT
               tp.started := if s.tp.got.isEmpty then s.tl.monoUs else s.tp.started }
    | true, false, some (n, half) =>
      { s with tp.open_ := false
               tp.got := s.tp.got ++ [{ ch := n, half, stop := c.stops.head?, servoLimit := false }] }
    | _, _, _ => s

/-- While a measurement has a discharge to come its channel stands armed for it (R251, R253), a calibration block giving way (R184);
while Vitrine gates occupy the channel the discharge waits for step V7 (R143). -/
def armMeasure (s : State) : State :=
  if !(measuringTemp s && (nextDischarge s).isSome) then s
  else if gatesHoldTemp s then
    (match s.ps.run with | some x => waitForGate x.step x.due s | none => s)
  else configureRun (tempCh s) tempRun s

/-- Steps of action 3 and 4 whose calibration is over are done (R215). -/
def restCals (s : State) : State := { s with ps.cals := s.ps.cals.filter (fun i => calPending (s.cat.step i).action s) }

/-- Work that needs the time-interval engine. -/
def Work.timesEdges : Work → Bool
  | .startStage _ | .shots _ | .zeroCheck _ | .temperature _ | .vitrine | .tdcCal => true
  | _ => false

/-- Channels that the runs of a piece of work use (R164, R204). -/
def Work.runChannels (w : Work) (s : State) : List Nat :=
  match w with
  | .shots _ | .zeroCheck _ => acA s :: (acB s).toList
  | .temperature _ => [tempCh s]
  | _ => []

/-- Where a channel is left without tables, the runs of the wake that would use it are abandoned (R187): the step ends without a
result. -/
def abandonRuns (s : State) : State :=
  match s.cl.held.find? (fun x => (x.work.runChannels s).any (tableLost s)) with
  | some x => (match x.work with | .temperature _ => endTemperature s | _ => endShots s)
  | none => s

/-- The Warden switches TDC off when no work that needs the engine holds a seat, which withdraws every armed run, and no channel is
Running or Calibrating (Table 7.4, R18). -/
def restTdc (s : State) : State :=
  if !s.isOn .tdc || s.starting || s.cl.held.any (fun x => x.work.timesEdges) then s
  else
    let s := ([0, 1, 2, 3] : List Nat).foldl (fun s n => disarm n s) s
    if s.ch.any (fun c => c.st == .running || c.st == .calibrating) then s else tdcDown s

/-- The Curator keeps the alarm frame (R456): it builds one where none stands, and again when the frame is older than 900 s and
a newer copy has been posted; a frame that the sequencer has is left as it is. -/
def keepAlarmFrame (s : State) : State :=
  if !s.operating || !s.isOn .cur || alarmUnderWay s then s
  else match s.flt.alarm with
  | none => buildAlarmFrame s
  | some a => if a.built + 900 < tlmono s ∧ a.regtime < s.rg.posted.regtime then buildAlarmFrame s else s

/-- A wanted render runs under a unit-6 seat of 40 ms (R398, log 75), or under the service seat that is held; its own seat goes
back as soon as it is done. Outside operation it runs in safe-beacon alone (R103). -/
def renderService (s : State) : State :=
  if !(s.operating || s.phase == .safeBeacon false) then s
  else
    let s := if wantsRender s && heldWork 6 s != some .service then displaySeat 50 40000 .display s else s
    if heldWork 6 s == some .display then render (releaseSeat 6 s)
    else if heldWork 6 s == some .service && wantsRender s then render s
    else s

/-- `IR_EN` is driven: a session is open on the optical port, or its time after a wake is not over. -/
def irEnabled (s : State) : Bool := s.sv.opt.open_ || s.io.irUntil.any (fun t => decide (s.now < t))

/-- The Curator serves a port: a transaction or a session is open, the optical port listens, or a pending command runs. -/
def portInUse (s : State) : Bool :=
  (s.operating || s.phase == .safeBeacon false)
    && (s.io.cs || s.sv.hst.open_ || irEnabled s || s.sv.pendStatus == 1)

/-- The seat of unit 6 for the ports: asked for while one is in use, and given back when none is or its hold is over (Table 5.6,
log 78). -/
def portService (s : State) : State :=
  let spent := s.cl.held.any (fun x => x.work == .service && decide (x.at_ + x.hold ≤ s.now))
  let s := if heldWork 6 s == some .service && (spent || !portInUse s) then releaseSeat 6 s else s
  if portInUse s then serviceSeat s else s

/-- The standing work that follows every command: units heed their drops, alarm events are reported, and what waits asks
for its seats while the device is in Run (log 38); during an entry to Hibernate or Off the Archive's records do (R116). -/
def settle (s : State) : State :=
  let s := s |> heedLate |> reportAlarms
  let s := if s.pw.st == .run && s.pw.target.isNone && s.flt.proc.isNone then
      s |> switchReference |> endRecord |> restCals
        |> requestsTogether (fun s => s |> pisteRequest |> pumpTx |> pumpArchive |> requestCals |> askWindows)
        |> abandonRuns |> followDischarge |> armMeasure |> resumeBlock |> restTdc |> keepAlarmFrame |> pumpSequencer |> followReceiver |> renderService |> portService |> restCurator
    else if s.deepEntry && s.flt.proc.isNone && recordsOpen s then requestsTogether pumpArchive s
    else s
  chooseState s

/-- A meaning that ends in the next state with its standing work done. -/
def done (s : State) : Host.Outcome State Fault Refusal := .next (settle s)

/-- The device is operating in a power state that a timer reaches (Table 5.2: an RTC compare has no effect in
Hibernate, nor during an entry to it, R117). -/
def State.timed (s : State) : Bool :=
  s.operating && s.flt.proc.isNone && (s.pw.st == .run || s.pw.st == .doze || s.pw.st == .standby) && !s.deepEntry

/-- A timer of the operating device: it wakes the device (code 1), its work runs, and the Warden may choose the next
state once the work is complete (R112, R113). -/
def onTimer (f : State → State) (s : State) : Host.Outcome State Fault Refusal :=
  if s.timed then done (f { wake 1 s with pw.choose := true }) else .next s

end Sys2Proof.Machine
end

