-- ==== Sys2Proof/Machine/Clocks.lean ====
section
/-! DEFINITION. Clocks, the Vitrine and the time ledger (R135 to R161). -/

namespace Sys2Proof.Machine

/-! ## Shared steps -/

/-- `monoUs` of the last LPRC calibration while it is at most 1 h old (Table 6.4). -/
def lprcFresh (s : State) : Option Nat := s.ck.lprcAt.filter (fun t => decide (s.tl.monoUs ≤ t + 3600000000))

/-- The RTC moves from XT32 to LPRC, or to HFRC ÷ 500 when LPRC is unavailable too (R151, R152): `XT32LOSS`, the events,
and the ledger's segment. A calibration of LPRC older than 1 h counts no more (Table 6.4). -/
def loseXt32 (code : Nat) (args : List Int) (s : State) : State :=
  let both := !s.r.clk.clkstatLprcok
  segmented (fun s => { s with r.clk.clkstatXt32ok := false, r.clk.clkstatRtcsrc := if both then 2 else 1
                               r.clk.xt32loss := inc16 s.r.clk.xt32loss
                               ck.fallbackAt := some (s.ck.fallbackAt.getD (tlmono s))
                               ck.lprcAt := lprcFresh s
                               ck.restoring := false }) s
    |> writeObject 0x0B |> logEvent code args |> onlyIf both (logEvent 0x0203 [])

/-- A calibration fails (R145): no correction changes, `CALFAIL`, the result, a retry in 10 min. -/
def vitrineFails (result : Nat) (s : State) : State :=
  { s with ck.run := none, ck.restoring := false
           ck.retryAt := if s.ck.retries < 3 then some (s.now + 600000000) else none
           r.clk.vitstatResult := BitVec.ofNat 4 result, r.clk.calfail := inc16 s.r.clk.calfail }
    |> vitrineOff

/-- The calibration of a start is abandoned: its result waits for the end of the stage or step, which judges it and logs its own
event in place of 0x0205 (R145). -/
def failStartVitrine (result : Nat) (s : State) : State := vitrineOff { s with ck.run := none, start.vitFail := result }

/-- A calibration fails (R139, R142, R145, R153): outside a start 0x0205 is logged. -/
def vitrineFailed (result : Nat) (s : State) : State :=
  if s.starting then failStartVitrine result s else vitrineFails result s |> logEvent 0x0205 [(result : Int)]

/-- Nominal duration of a gate, fs (Table 6.3). -/
def gateNominal : Gate → Nat
  | .xt32 => 7812500000000 | .xrf => 3276800000000 | .hfrc => 1024000000000

/-- Duration of a gate, fs: its interval x in coarse periods of the PLL on the Vitrine, nominally 7.8125 ns, the Vitrine corrected by
its OTP offset (R141, R144, R168). -/
def gateFs (x : Nat) : Rat := (max 1 x : Nat) * 7812500 / 65536 / (1 + Config.vitrineOffset)

/-- The error that a gate measures, scaled (R144): `unit` 10^8 for 0.01 ppm, 10^6 for ppm. -/
def gateError (unit : Nat) (g : GateRun) : Rat := ((gateNominal g.gate : Rat) / gateFs g.x - 1) * (unit : Rat)

/-- A count that fits 16 bits in two's complement. -/
def fit16 (q : Rat) : Int := max (-32768) (min (roundNear q) 32767)

/-- The bin of a die temperature changed. -/
def updBin (t : Int) (f : ClockBin → ClockBin) (s : State) : State :=
  { s with ck.bins := vupd s.ck.bins (binOf t) (fun b => { f b with stamp := tlmono s }) }

/-- The XT32 error of a calibration (R144, R151): the error of the prediction for the die temperature at the gate, the bin of that
temperature, ±250 ppm. -/
def applyXt32 (g : GateRun) (s : State) : State :=
  let q := gateError 100000000 g
  let e := fit16 q
  let pred := (roundOpen (absQ (q - (predict (s.ck.bins.toList.map (·.xt32)) g.temp).1))).toNat
  let s := segmented (fun s => updBin g.temp (fun b => { b with xt32 := some e })
    { s with ck.predErr := (some pred :: s.ck.predErr).take 24, r.clk.xt32err := BitVec.ofInt 16 e }) s
  if 25000 < absQ q then
    (if s.r.clk.clkstatXt32ok then loseXt32 0x020A [e] s else { s with ck.restoring := false } |> logEvent 0x020A [e])
  else if !s.r.clk.clkstatXt32ok && s.ck.restoring then
    let t := tlmono s - s.ck.fallbackAt.getD (tlmono s)
    segmented (fun s => { s with r.clk.clkstatXt32ok := true, r.clk.clkstatRtcsrc := 0, ck.fallbackAt := none
                                 ck.restoring := false, ck.xtRun := true }) s |> logEvent 0x0202 (w32 t)
  else s

/-- The HFRC error of a calibration (R144): bin, and one trim step of 0.05 % per code toward zero beyond ±0.025 % (the
sense of the code is log 41). -/
def applyHfrc (g : GateRun) (s : State) : State :=
  let q := gateError 1000000 g
  let e := fit16 q
  let n := roundNear (q / 500)
  let trim : Int := max 0 (min 63 ((s.r.clk.hfrctrim.toNat : Int) - n))
  segmented (updBin g.temp (fun b => { b with hfrc := some e }))
    { s with r.clk.hfrcerr := BitVec.ofInt 16 e
             ck.trimNext := if 250 < absQ q then some (BitVec.ofInt 6 trim) else s.ck.trimNext }

/-- The XRF error of a calibration (R144), and the die temperature of the last successful XRF gate (R148). -/
def applyXrf (g : GateRun) (s : State) : State :=
  let e := fit16 (gateError 100000000 g)
  segmented (updBin g.temp (fun b => { b with xrf := some e })) { s with r.clk.xrferr := BitVec.ofInt 16 e, ck.xrfTemp := some g.temp }

/-- One gate's error is applied. -/
def applyGate (g : GateRun) (s : State) : State :=
  match g.gate with
  | .xt32 => applyXt32 g s
  | .hfrc => applyHfrc g s
  | .xrf => applyXrf g s

/-- Each error that the gates give is applied, the XT32's first (R144). -/
def applyGates (l : List GateRun) (s : State) : State :=
  ([.xt32, .hfrc, .xrf] : List Gate).foldl (fun (s : State) (g : Gate) =>
    match l.find? (fun x => x.gate == g) with | some x => applyGate x s | none => s) s

/-- The gates' errors are applied, the XT32's first (R144); a calibration that has no XT32 gate is one of the 24 of R155 without a
prediction error. -/
def applyCalibration (l : List GateRun) (s : State) : State :=
  if l.any (fun g => g.gate == .xt32) then applyGates l s
  else applyGates l (segmented (fun s => { s with ck.predErr := (none :: s.ck.predErr).take 24 }) s)

/-- A calibration succeeds (R144, R145, R149, R150): LPRC is calibrated after it while XT32 runs. -/
def vitrineSucceeds (s : State) : State :=
  segmented (fun s => { s with r.clk.clkstatStale := false }) s
    |> fun s => { s with ck.run := none, ck.retries := 0, ck.retryAt := none, ck.lastOk := s.tl.monoUs, ck.everOk := true
                         ck.staleLogged := false, ck.okTemp := dieTemp s, ck.lprcDue := s.ck.xtRun
                         r.clk.calok := inc16 s.r.clk.calok, r.clk.vitstatResult := 1
                         r.clk.vitlast := BitVec.ofNat 32 (tlmono s), r.rf.rfstatVitwait := false, pw.choose := true }
    |> writeObject 0x08

/-- A Vitrine request arises (R140): merged, or held until the end of a start. -/
def vitrineAsked (s : State) : State := if s.operating || s.starting then newVitrine s else s

/-- The move of R140: 4 K or more since the last success, into a bin without an XT32 error, once in 10 min. -/
def temperatureMove (s : State) : Bool :=
  decide (40 ≤ (dieTemp s - s.ck.okTemp).natAbs) && (vget s.ck.bins (binOf (dieTemp s)) {}).xt32.isNone
    && (match s.ck.tempReqAt with | some t => decide (t + 600000000 ≤ s.now) | none => true)

/-! ## Meanings -/

/-- VITRINE_CAL_DUE (R140). -/
def execVitrineCalDue (cause : VitCause) (smp : Sample) (s : State) : Host.Outcome State Fault Refusal :=
  if !(s.timed || s.starting) then .next s
  else
    let s := sample smp (wake 1 s)
    match cause with
    | .temperature => done (if temperatureMove s then vitrineAsked { s with ck.tempReqAt := some s.now } else s)
    | _ => done (vitrineAsked s)

/-- VITRDY_SET (R139, Table 6.3 step V2). -/
def execVitrdySet (s : State) : Host.Outcome State Fault Refusal :=
  match s.ck.run with
  | some x =>
    if x.done || x.ready.isSome then .next s
    else done { s with ck.run := some { x with ready := some s.tl.monoUs }, r.clk.clkstatVitrdy := true
                       r.clk.vitwarm := sat 16 (roundOpen (((s.tl.monoUs - x.on : Nat) : Rat) / 100)).toNat }
  | none => .next s

/-- VITRDY_LOST (R139): a gate in progress is abandoned, and the PLL references HFRC again until the band is back; the gates already
measured stand (log 40). The silence of R139 on the reference meanwhile is log 144. While the return of step V7 is deferred no gate is in progress. -/
def execVitrdyLost (s : State) : Host.Outcome State Fault Refusal :=
  match s.ck.run with
  | some x =>
    if x.ready.isNone || !s.isOn .vit then .next s
    else
      let s := { s with r.clk.clkstatVitrdy := false }
      if x.done then done s
      else
        done (onlyIf s.r.clk.clkstatPllvit (disarm (gateCh s))
          { s with ck.run := some { x with ready := none }, r.clk.clkstatPllvit := false })
  | none => .next s

/-- VITRDY_TIMEOUT (R138, R145): result 2. -/
def execVitrdyTimeout (s : State) : Host.Outcome State Fault Refusal :=
  match s.ck.run with
  | some x => if x.ready.isNone && !x.done then done (vitrineFailed 2 s) else .next s
  | none => .next s

/-- A reading of the oven sensor above +125 °C, in 0.1 °C: the command says that the limit is exceeded and not by how much (log
140). -/
def ovenReading (v : Nat) : Int := ((1251 + v % 31517 : Nat) : Int)

/-- OVEN_OVERTEMP (R139): the heater off, result 5, 0x0207 with the oven temperature, while the oven is on (step V1 to V7). -/
def execOvenOvertemp (s : State) : Host.Outcome State Fault Refusal :=
  if s.ck.run.isNone || !s.isOn .vit then .next s
  else
    let (v, s) := draw s
    done (s |> logEvent 0x0207 [ovenReading v] |> vitrineFailed 5)

/-- VITRINE_DEFER_LIMIT (R142): step V3 would come later than 20 ms after `VITRDY`; result 3. -/
def execVitrineDeferLimit (s : State) : Host.Outcome State Fault Refusal :=
  match s.ck.run with
  | some x => if x.ready.isSome && !x.done && !s.r.clk.clkstatPllvit then done (vitrineFailed 3 s) else .next s
  | none => .next s

/-- The stop edge of a gate reaches its channel: its interval is the run's one stop, and the run ends. -/
def gateStop (n x : Nat) (s : State) : State :=
  let s := startChannel n 0 s
  if (vget s.ch n {}).st == .running then acceptStop n x false true s else s

/-- The gate that runs (Table 6.3): XT32, XRF, HFRC in turn; a stopped XT32 has none (R144). -/
def gateInTurn (v : VitRun) (s : State) : Option Gate :=
  ((if s.ck.xtRun then [.xt32, .xrf, .hfrc] else [.xrf, .hfrc]) : List Gate).find? (fun g => !v.gates.any (fun x => x.gate == g))

/-- VITRINE_GATE_END (R141): the gates in their order, while the PLL references the Vitrine; `x` is the interval that the gate
channel measures. After the HFRC gate step V7 follows, at once or when the window that defers it closes (R142). -/
def execVitrineGateEnd (gate : Gate) (x : Nat) (s : State) : Host.Outcome State Fault Refusal :=
  match s.ck.run with
  | some v =>
    if !s.r.clk.clkstatPllvit || v.done || gateInTurn v s != some gate then .next s
    else
      let n := gateCh s
      let s := { s with ck.run := some { v with gates := v.gates ++ [⟨gate, x, dieTemp s⟩], done := gate == .hfrc } } |> gateStop n x
      done (if gate == .hfrc then s else configureRun n gateRun s)
  | none => .next s

/-- VITRINE_CAL_COMPUTE (R144, step V8), after step V7. -/
def execVitrineCalCompute (s : State) : Host.Outcome State Fault Refusal :=
  match s.ck.run with
  | some x => if x.done && !s.r.clk.clkstatPllvit && !s.starting then done (vitrineSucceeds (applyCalibration x.gates s)) else .next s
  | none => .next s

/-- VITRINE_CAL_RETRY (R145): 10 min after a failure, up to 3 times. -/
def execVitrineCalRetry (smp : Sample) (s : State) : Host.Outcome State Fault Refusal :=
  if s.ck.retryAt.isNone then .next s
  else onTimer (fun s => requestVitrine { sample smp s with ck.retryAt := none, ck.retries := s.ck.retries + 1 }) s

/-- CAL_STALE_24H (R145): 0x0206 once, `CLKSTAT.STALE`. -/
def execCalStale24h (s : State) : Host.Outcome State Fault Refusal :=
  if !s.aon || s.ck.staleLogged then .next s
  else
    let h := roundOpen (((s.tl.monoUs - s.ck.lastOk : Nat) : Rat) / 3600000000)
    done (segmented (fun s => { s with ck.staleLogged := true, r.clk.clkstatStale := true }) s |> logEvent 0x0206 [h])

/-- XT32_STOP (R151): the RTC goes on from LPRC; 0x0201. An XT32 that had failed only ceases to run. -/
def execXt32Stop (s : State) : Host.Outcome State Fault Refusal :=
  if !s.aon then .next s
  else
    let s := { s with ck.xtRun := false }
    if s.r.clk.clkstatXt32ok then done (loseXt32 0x0201 (w32 (civS s)) s) else .next s

/-- XT32_RESTORE_COUNT (R151 step 1): a Vitrine calibration is asked for the restoration. -/
def execXt32RestoreCount (smp : Sample) (s : State) : Host.Outcome State Fault Refusal :=
  if s.r.clk.clkstatXt32ok || !(s.timed || s.starting) then .next s
  else done (vitrineAsked { sample smp (wake 1 s) with ck.restoring := true, ck.xtRun := true })

/-- LPRC_CHECK (R152): once a second, while one 32 kHz source at least is in use. -/
def execLprcCheck (ok : Bool) (s : State) : Host.Outcome State Fault Refusal :=
  if !s.aon || s.r.clk.clkstatRtcsrc = 2 || ok = s.r.clk.clkstatLprcok then .next s
  else if ok then done { s with r.clk.clkstatLprcok := true }
  else
    let both := !s.r.clk.clkstatXt32ok
    done (segmented (fun s => { s with r.clk.clkstatLprcok := false
                                       r.clk.clkstatRtcsrc := if both then 2 else s.r.clk.clkstatRtcsrc }) s
      |> logEvent 0x020B [s.r.clk.lprcerr.toInt] |> onlyIf both (logEvent 0x0203 []))

/-- CLOCK_RECOVERY_ATTEMPT (R152): every 60 s with both sources out. LPRC that has recovered takes the RTC; XT32 that runs
again is restored by R151 (log 42). -/
def execClockRecoveryAttempt (_xt32 lprc : Bool) (s : State) : Host.Outcome State Fault Refusal :=
  if !s.aon || s.r.clk.clkstatRtcsrc ≠ 2 || !lprc then .next s
  else
    done (segmented (fun s => { s with r.clk.clkstatLprcok := true, r.clk.clkstatRtcsrc := 1, ck.lprcAt := lprcFresh s }) s)

/-- LPRC_CAL_GATE_END (R149): the error in ppm, to `LPRCERR` and Table 6.5; the gate needs a running XT32 (R144), failed or not. -/
def execLprcCalGateEnd (ppm : Int) (s : State) : Host.Outcome State Fault Refusal :=
  if !s.aon || !s.ck.xtRun then .next s
  else
    let e := max (-32768) (min ppm 32767)
    done (segmented (fun s => updBin (dieTemp s) (fun b => { b with lprc := some e })
      { s with r.clk.lprcerr := BitVec.ofInt 16 e, ck.lprcAt := some s.tl.monoUs, ck.lprcTemp := dieTemp s
               ck.lprcDue := false }) s)

/-- LPRC_CAL_1H_EXPIRY (R155, Table 6.4): the residual class changes and a segment ends. -/
def execLprcCal1hExpiry (s : State) : Host.Outcome State Fault Refusal :=
  if !s.aon || s.r.clk.clkstatRtcsrc ≠ 1 then .next s
  else done (segmented (fun s => { s with ck.lprcAt := none }) s)

/-- LEDGER_RECORD_DUE (R156): the Warden writes it under a unit-1 seat. -/
def execLedgerRecordDue (smp : Sample) (s : State) : Host.Outcome State Fault Refusal :=
  if !(s.timed || s.safe || s.starting) then .next s
  else done { sample smp (wake 1 s) with ar.ledgerDue := true }

/-- TLZONE_WRITE (R158): in service mode, −48 to +56, for the next minute boundary. -/
def execTlzoneWrite (port : Port) (value : Word) (s : State) : Host.Outcome State Fault Refusal :=
  if s.serving && s.service port && decide (-48 ≤ value.toInt) && decide (value.toInt ≤ 56) then
    done { s with tl.zoneNext := some value.toInt }
  else .next s

/-- TLZONE_APPLY (R158): the value takes effect, a record of kind 0x05 and 0x0209. -/
def execTlzoneApply (s : State) : Host.Outcome State Fault Refusal :=
  match s.tl.zoneNext with
  | none => .next s
  | some v =>
    let old := s.tl.zone
    done ({ wake 1 s with tl.zone := v, tl.zoneNext := none }
      |> writeObject 0x0B |> onlyIf (!s.rg.stopped) (sealFull 5 old v) |> logEvent 0x0209 [old, v])

/-! ## What AON RAM holds of the ledger and of the correction table -/

/-- Bytes of one copy of the ledger: `TLTIME`, `TLMONO`, `TLUNC`, `TLCONTU` (R154; the layout is log 130). -/
def ledgerBytes (s : State) : List Byte :=
  leBytes 6 (tltime s) ++ leBytes 4 (tlmono s) ++ leBytes 4 (tlunc s) ++ leBytes 4 (tlcontu s)

/-- The two copies of the ledger with their CRC-32s (R154, R484). -/
def ledgerCopies (s : State) : List (List Byte × BitVec 32) :=
  List.replicate 2 (ledgerBytes s, crc32 (ledgerBytes s))

/-- A signed value as two bytes; 0 where it is absent. -/
def field16 (v : Option Int) : List Byte := leBytes 2 (BitVec.ofInt 16 (v.getD 0)).toNat

/-- One entry of Table 6.5 (R150): four errors, the valid flags, and the age in h. -/
def binBytes (b : ClockBin) (now : Nat) : List Byte :=
  let flag := fun (v : Option Int) (w : Nat) => if v.isSome then w else 0
  field16 b.xt32 ++ field16 b.hfrc ++ field16 b.xrf ++ field16 b.lprc
    ++ leBytes 2 (flag b.xt32 1 + flag b.xrf 2 + flag b.hfrc 4 + flag b.lprc 8)
    ++ leBytes 2 (if b.xt32.isSome || b.xrf.isSome || b.hfrc.isSome || b.lprc.isSome then min 65535 ((now - b.stamp) / 3600) else 0)

/-- The correction table as AON RAM holds it, with its CRC-32 (R150). -/
def tableBytes (s : State) : List Byte × BitVec 32 :=
  let b := s.ck.bins.toList.flatMap (fun b => binBytes b (tlmono s))
  (b, crc32 b)

/-- TIME_SLEW_END (R157): d is absorbed; civil time runs at rate 1. -/
def execTimeSlewEnd (s : State) : Host.Outcome State Fault Refusal :=
  if !s.aon then .next s
  else done { s with tl.civNs := ((s.tl.civNs : Int) + s.tl.slew).toNat, tl.slew := 0 }

end Sys2Proof.Machine
end

