-- ==== Sys2Proof/Machine/Display.lean ====
section
/-! DEFINITION. The display's own clocked work (R398 to R414): glass frames, emissive frames, the phase clock of a bistable
panel and its park. -/

namespace Sys2Proof.Machine

/-! ## Glass (R399 to R402, R413) -/

/-- Pins of a glass panel in use (Table 15.1): its commons and every segment line. -/
def glassPins (s : State) : List Nat := List.range s.cat.disp.duty ++ (List.range 48).map (16 + ·)

/-- The source of `VLCD` by the last VBAT sample (R400): the LDO from `VLCD` + 0.2 V, the pump below `VLCD` + 0.1 V. -/
def glassPump (s : State) : Bool :=
  let v := s.cat.disp.vlcdset * 100
  if v + 200 ≤ vbat s then false else if vbat s < v + 100 then true else s.r.dsp.dspstatPump

/-- A `VLCD` sample: below its regulation of −3 % (log 74), 0x0E04 once for each excursion. -/
def glassSample (mv : Nat) (s : State) : State :=
  let low := decide (mv * 100 < s.cat.disp.vlcdset * 100 * 97)
  { s with r.dsp.vlcdmv := sat 16 mv, r.dsp.dspstatVlcdlow := low }
    |> onlyIf (low && !s.r.dsp.dspstatVlcdlow) (logEvent 0x0E04 [(mv : Int)])

/-- A positive frame begins: the new image, and the phase of blink group B (1 Hz, on from each second; R401, R402). -/
def positiveFrame (s : State) : State :=
  { s with dp.applied := if s.dp.emBlink then [] else s.dp.image
           dp.appliedB := if s.dp.emBlink then s.dp.image ++ s.dp.imageB else s.dp.imageB
           dp.groupB := decide (s.tl.civNs % 1000000000 < 500000000) }

/-- GLASS_FRAME: a frame boundary. `failing` are the pins that fail the read-back of the frame. -/
def execGlassFrame (vlcdMv : Nat) (failing : List Nat) (s : State) : Host.Outcome State Fault Refusal :=
  if s.cat.disp.dtype != .glass || !s.dp.glassOn || s.dp.emDriving then .next s
  else
    let s := readBack ((glassPins s).map (fun p => (p, !failing.contains p))) (glassSample vlcdMv s)
    let s := { s with r.dsp.dspstatPump := glassPump s, dp.positive := !s.dp.positive }
    if s.dp.positive then
      (if s.dp.stopReq then .next { s with dp.glassOn := false, dp.stopReq := false, dp.applied := [], dp.appliedB := [] }
       else .next (positiveFrame s))
    else .next s

/-! ## Keys and time (R398, R439) -/

/-- DISPLAY_IDLE_TIMEOUT: 60 s without a key press. -/
def execDisplayIdleTimeout (s : State) : Host.Outcome State Fault Refusal :=
  if !s.hasDisplay || s.dp.screen = 0 then .next s else onTimer (fun s => { s with dp.screen := 0, dp.renderNow := true }) s

/-- SEGMENT_TEST_END: the normal image returns. -/
def execSegmentTestEnd (s : State) : Host.Outcome State Fault Refusal :=
  if s.dp.segTest then
    (if s.timed then onTimer (fun s => { s with dp.segTest := false, dp.renderNow := true }) s
     else done { s with dp.segTest := false, dp.renderNow := true })
  else .next s

/-! ## Emissive drive (R403 to R406) -/

/-- Emissive drive is what shows the image: an EMISSIVE panel, or a glass panel in fall-back. -/
def emissivePanel (s : State) : Bool := s.hasDisplay && (s.cat.disp.dtype == .emissive || (s.cat.disp.dtype == .glass && s.dp.fallback))

/-- LEDs lit in each row of the array (R395, R403, R436). -/
def litRows (s : State) : List Nat :=
  let img := (s.dp.image ++ s.dp.imageB).eraseDups
  let glass := s.cat.disp.dtype == .glass
  (List.range (if glass then s.cat.disp.duty else 8)).map (fun r =>
    (img.filter (fun n => if glass then decide (n / 48 = r ∧ n % 48 < 16) else decide (n / 16 = r))).length)

/-- LEDs that one forward period may light: 24 mA in total (R404). -/
def perPeriod (s : State) : Nat := 48 / max 1 s.cat.disp.emcur

/-- Forward periods of a frame (R404). -/
def forwardPeriods (s : State) : Nat := ((litRows s).map (fun n => max 1 (ceilDiv n (max 1 (perPeriod s))))).sum

/-- Charge-equivalent hold of a frame, µs (R406): its forward-period charge divided by 25 mA. -/
def emissiveHold (s : State) : Nat := ceilDiv ((litRows s).sum * s.cat.disp.emcur * 500) 25

/-- The next frame asks for its seat; while that waits the frame is lost and glass blinks (R406). -/
def emissiveNext (s : State) : State :=
  if s.dp.emUntil.isNone then s
  else
    let s := displaySeat 250 (emissiveHold s) .emissive s
    if heldWork 6 s == some .emissive then s
    else { s with dp.emBlink := true, r.dsp.emwait := inc16 s.r.dsp.emwait }

/-- Emissive drive stops: the seat and a waiting request go back, and glass drive resumes with a positive frame. -/
def emissiveStop (s : State) : State :=
  { s with dp.emUntil := none, dp.emBlink := false, dp.emDriving := false, dp.positive := false
           cl.waiting := s.cl.waiting.filter (fun x => x.work != .emissive) }
    |> onlyIf (heldWork 6 s == some .emissive) (releaseSeat 6)

/-- A key press activates emissive drive for 10 s (R405). -/
def emissivePress (s : State) : State :=
  if emissivePanel s then
    (let run := s.dp.emUntil.isSome
     let s := { s with dp.emUntil := some (s.now + 10000000) }
     if run then s else emissiveNext s)
  else s

/-- Pins checked in an emissive frame: the anodes and the sinks (Table 15.5). -/
def emissivePins (s : State) : List Nat :=
  List.range (if s.cat.disp.dtype == .glass then s.cat.disp.duty else 8) ++ (List.range 16).map (16 + ·)

/-- EMISSIVE_FRAME: a frame is complete, or a frame time has passed while its seat waits. -/
def execEmissiveFrame (smp : Sample) (failing : List Nat) (s : State) : Host.Outcome State Fault Refusal :=
  if s.dp.emUntil.isNone then .next s
  else
    let s := sample smp s
    if s.dp.emDriving then
      let s := readBack ((emissivePins s).map (fun p => (p, !failing.contains p)))
        { s with r.dsp.emframes := inc16 s.r.dsp.emframes, r.dsp.emstatSubper := sat 8 (forwardPeriods s), dp.emDriving := false }
      done (emissiveNext (releaseSeat 6 s))
    else done (emissiveNext (evaluate s))

/-- EMISSIVE_ACTIVITY_END: the 10 s have expired. -/
def execEmissiveActivityEnd (s : State) : Host.Outcome State Fault Refusal :=
  if s.dp.emUntil.isSome then done { emissiveStop s with pw.choose := true } else .next s

/-! ## Bistable regions (R409 to R413) -/

/-- BISTABLE_UPDATE_REQUEST: an update of one region is requested; `content` are the segments to be dark. -/
def execBistableUpdateRequest (region : Fin 8) (content : List Nat) (smp : Sample) (s : State) :
    Host.Outcome State Fault Refusal :=
  if s.hasDisplay && s.cat.disp.dtype == .bistable && (s.operating || s.safe) && s.dp.park.isNone then
    done (regionRequest region.val content (sample smp s))
  else .next s

/-- A region's compensation has ended: its ledgers are 0 (R411). -/
def compDone (r : Nat) (s : State) : State :=
  if (vget s.dp.regions r {}).tick = (vget s.dp.regions r {}).comp then
    (regionSegs r s).foldl (fun (t : State) (g : Nat) => setLedger g 0 t) s
  else s

/-- The last phase of every segment has ended: the new states are recorded, and queued content becomes a request. -/
def regionDone (r : Nat) (s : State) : State :=
  let x := vget s.dp.regions r {}
  let segs := regionSegs r s
  let s := { s with dp.dark := s.dp.dark.filter (fun g => !segs.contains g) ++ x.content
                    r.dsp.epdupd := inc16 s.r.dsp.epdupd
                    r.dsp.epdold := s.r.dsp.epdold &&& ~~~BitVec.ofNat 8 (1 <<< r) }
    |> updRegion r (fun y => { y with st := .idle, known := true, tick := 0, queued := none })
  match x.queued with
  | some c => regionRequest r c s
  | none => s

/-- One running region takes a tick of 10 ms. -/
def regionTick (s : State) (r : Nat) : State :=
  let s := compDone r (updRegion r (fun y => { y with tick := y.tick + 1 }) s)
  if regionTicks r s ≤ (vget s.dp.regions r {}).tick then regionDone r s else s

/-- Unit 6 holds a seat of the bistable panel. -/
def panelHeld (s : State) : Bool := match heldWork 6 s with | some (.bistable _) => true | _ => false

/-- The seat's phases are spent: regions with phases left are Paused, and the next seat is asked for (Table 15.3). -/
def panelSeat (s : State) : State :=
  if panelHeld s && decide (s.dp.seatLeft = 0) then
    let s := (regionsIn [.running] s).foldl (fun (t : State) (r : Nat) => updRegion r (fun y => { y with st := .paused }) t) s
    requestPanelSeat (releaseSeat 6 s)
  else s

/-- Both rails stand at 14.5 V or more (R407). -/
def railsUp (s : State) : Bool := decide (14500 ≤ s.r.dsp.epdvp.toNat) && decide (14500 ≤ s.r.dsp.epdvn.toNat)

/-- A panel seat that has just been admitted covers its hold. -/
def freshSeat (s : State) : State :=
  match s.cl.held.find? (fun x => x.unit == 6) with
  | some ⟨_, _, hold, _, _, _, _, _, .bistable _⟩ =>
    if s.dp.seatLeft = 0 then { s with dp.seatLeft := hold / 10000 } else s
  | _ => s

/-- Regions that the seat admits go on, and regions that start join where their phases fit (Table 15.3, R410). -/
def regionStart (fresh : Bool) (s : State) (r : Nat) : State :=
  let x := vget s.dp.regions r {}
  match x.st with
  | .paused => updRegion r (fun y => { y with st := .running }) s
  | .starting =>
    if railsUp s && (fresh || decide (regionLeft r s ≤ s.dp.seatLeft)) then
      compDone r (updRegion r (fun y => { y with st := .running, tick := 0 }) s)
    else s
  | _ => s

/-- A tick of the common phase clock (R410). -/
def phaseTick (s : State) : State :=
  let running := regionsIn [.running] s
  let s := running.foldl regionTick { s with dp.tickAt := s.now, dp.seatLeft := if running.isEmpty then s.dp.seatLeft else s.dp.seatLeft - 1 }
  let s := if running.isEmpty then s else panelSeat s
  let idle := (regionsIn [.starting, .running, .paused] s).isEmpty
  let panel := panelHeld s
  if idle then onlyIf panel (releaseSeat 6) { s with dp.seatLeft := 0 }
  else if panel then
    let fresh := decide (s.dp.seatLeft = 0)
    let s := freshSeat s
    (regionsIn [.starting, .paused] s).foldl (regionStart fresh) s
  else s

/-- BISTABLE_PHASE_TICK: the rails as measured, in mV, and the read-back checks that fall on the tick (R413). -/
def execBistablePhaseTick (vp vn : Nat) (checks : List (Nat × Bool)) (s : State) : Host.Outcome State Fault Refusal :=
  if s.hasDisplay && s.cat.disp.dtype == .bistable && s.dp.railsOk && s.dp.park.isNone then
    let s := { s with r.dsp.epdvp := sat 16 vp, r.dsp.epdvn := sat 16 vn }
    let s := if checks.isEmpty then s else readBack checks s
    done { phaseTick s with pw.choose := true }
  else .next s

/-- BISTABLE_PARK_DISCHARGE: step 2 of a park; the guaranteed procedure that waited for it goes on (R412, R454). -/
def execBistableParkDischarge (s : State) : Host.Outcome State Fault Refusal :=
  if s.dp.park.isNone then .next s
  else
    let s := parkEnd s
    match s.flt.proc with
    | some ⟨c, .park⟩ => .next (procAlarm c s)
    | _ => done s

end Sys2Proof.Machine
end

