-- ==== Sys2Proof/Machine/Signal.lean ====
section
/-! DEFINITION. The Signal core's arithmetic on one capture: elementary functions (log 52), the Hilbert transform, shot
processing by Table 9.2 (R230), and the building and adaptation of a template (R226, R227). -/

namespace Sys2Proof.Machine

/-! ## Elementary functions -/

/-- Floor of the square root, bit by bit from bit `b` down. -/
def isqrtFrom (n : Nat) : Nat → Nat → Nat
  | 0, r => if (r + 1) * (r + 1) ≤ n then r + 1 else r
  | b + 1, r => isqrtFrom n b (if (r + 2 ^ (b + 1)) * (r + 2 ^ (b + 1)) ≤ n then r + 2 ^ (b + 1) else r)

/-- Floor of the square root of a natural. -/
def isqrt (n : Nat) : Nat := isqrtFrom n (n.log2 / 2 + 1) 0

/-- Square root of a rational to 10^−12 of it (log 52); 0 below 0. -/
def sqrtQ (q : Rat) : Rat :=
  if q ≤ 0 then 0 else ((isqrt (q.num.toNat * q.den * 10 ^ 24) : Nat) : Rat) / ((q.den * 10 ^ 12 : Nat) : Rat)

/-- π. -/
def piQ : Rat := 314159265358979323846 / 100000000000000000000

/-- A rational cut to 10^−18. -/
def cutQ (q : Rat) : Rat := ((q * 1000000000000000000).floor : Rat) / 1000000000000000000

/-- Arc tangent of |z| ≤ 1, in turns: three halvings, then the series (log 52). -/
def atanTurns (z : Rat) : Rat :=
  let half := fun (z : Rat) => cutQ (z / (1 + sqrtQ (1 + z * z)))
  let w := half (half (half z))
  let w2 := cutQ (w * w)
  let series := ([13, 11, 9, 7, 5, 3, 1] : List Nat).foldl (fun (a : Rat) (k : Nat) => cutQ (1 / (k : Rat) - w2 * a)) 0
  8 * w * series / (2 * piQ)

/-- atan2(y, x) in turns. -/
def turns (y x : Rat) : Rat :=
  if x = 0 ∧ y = 0 then 0
  else if absQ y ≤ absQ x then
    let a := atanTurns (y / x)
    if 0 < x then a else if 0 ≤ y then a + 1 / 2 else a - 1 / 2
  else (if 0 < y then 1 / 4 else -1 / 4) - atanTurns (x / y)

/-- cos and sin of x turns: the series for a 64th of the angle, then six doublings (log 52). -/
def cosSin (x : Rat) : Rat × Rat :=
  let a := cutQ (2 * piQ * (x - (x.floor : Rat)) / 64)
  let a2 := cutQ (a * a)
  let c := cutQ (1 - a2 / 2 * (1 - a2 / 12 * (1 - a2 / 30 * (1 - a2 / 56))))
  let s := cutQ (a * (1 - a2 / 6 * (1 - a2 / 20 * (1 - a2 / 42))))
  (List.range 6).foldl (fun (z : Rat × Rat) _ => (cutQ (z.1 * z.1 - z.2 * z.2), cutQ (2 * z.1 * z.2))) (c, s)

/-- A single-bin DFT (R208): Σ x[n] e^(−2πi f n) with f in cycles per sample, by one rotation a sample (log 52). -/
def dftBin (f : Rat) (x : List Rat) : Rat × Rat :=
  let r := cosSin f
  (x.foldl (fun (a : (Rat × Rat) × Rat × Rat) (v : Rat) =>
    ((a.1.1 + v * a.2.1, a.1.2 - v * a.2.2),
     (cutQ (a.2.1 * r.1 - a.2.2 * r.2), cutQ (a.2.1 * r.2 + a.2.2 * r.1)))) ((0, 0), (1, 0))).1

/-- Linear gain of a code in 0.5 dB: 10^(code / 40) (log 52). -/
def gainOf (code : Nat) : Rat := 10 ^ (code / 40) * (1059253725177288761 / 1000000000000000000 : Rat) ^ (code % 40)

/-! ## Signals -/

/-- Largest element of a list, 0 for none. -/
def maxQ (l : List Rat) : Rat := l.foldl (fun a b => if a < b then b else a) 0

/-- Sum of products of two lists. -/
def dot (a b : List Int) : Int := (List.zipWith (· * ·) a b).foldl (· + ·) 0

/-- Hilbert transform of a list, zero outside it (R226). -/
def hilbert (x : List Rat) : List Rat :=
  (List.range x.length).map (fun i => sumQ ((List.range 31).map (fun k =>
    if i + 15 < k then 0 else Config.hilbert k * x.getD (i + 15 - k) 0)))

/-- Squared envelope of a signal and its Hilbert transform. -/
def env2 (x q : List Rat) : List Rat := List.zipWith (fun a b => a * a + b * b) x q

/-- Rationals of a list of integers. -/
def asQ (l : List Int) : List Rat := l.map (fun (i : Int) => (i : Rat))

/-- A sample between two indices, by linear interpolation; 0 outside. -/
def lerp (x : List Rat) (p : Rat) : Rat :=
  let i := p.floor
  let f := p - (i : Rat)
  let g := fun (j : Int) => if j < 0 then (0 : Rat) else x.getD j.toNat 0
  (1 - f) * g i + f * g (i + 1)

/-- Volts at the PGA output of one converter code: ±1.0 V over 16 384 codes (R199, log 56). -/
def voltsPerCode : Rat := 1 / 8192

/-! ## One capture -/

/-- A capture in its place: `PRE`, the noise segment's length, n_fh, the converter start, and the codes from it on. -/
structure Placed where
  pre : Nat
  noise : Nat
  nfh : Int
  start : Int
  codes : List Nat

/-- Code of capture index j (R222); none where the converter had not started. -/
def Placed.code (c : Placed) (j : Nat) : Option Nat :=
  let n := c.nfh - (c.pre : Int) + (j : Int) - c.start
  if n < 0 then none else some (c.codes.getD n.toNat 0)

/-- x of an index: its code about the middle of the range; zero-filled indices hold code 0 (R222, log 56). -/
def Placed.x (c : Placed) (j : Nat) : Int := (((c.code j).getD 0 : Nat) : Int) - 8192

/-- Indices s0 − 32 to s0 + 287. -/
def Placed.span (c : Placed) : List Nat := (List.range 320).map (fun i => c.pre - 80 + i)

/-- Samples of `span`. -/
def Placed.window (c : Placed) : List Int := c.span.map c.x

/-- Step 2 of Table 9.2. -/
def Placed.clips (c : Placed) : Bool := c.span.any (fun j => (c.code j).getD 0 == 0 || (c.code j).getD 0 == 16383)

/-- Whether the converter reached a full-scale code anywhere in the capture (R201). -/
def Placed.fullScale (c : Placed) (len : Nat) : Bool :=
  (List.range len).any (fun j => c.code j == some 0 || c.code j == some 16383)

/-- Squares of the noise samples, zero-filled indices left out (step 3). -/
def Placed.noiseSquares (c : Placed) : List Rat :=
  ((List.range c.noise).filter (fun j => (c.code j).isSome)).map (fun j => ((c.x j * c.x j : Int) : Rat))

/-- Mean square of the noise segment, in codes². -/
def Placed.noise2 (c : Placed) : Rat :=
  let l := c.noiseSquares
  if l.isEmpty then 0 else sumQ l / (l.length : Rat)

/-- SNR below a number of dB (step 8): (A / n)² against 10^(dB / 10), compared in their tenth powers. No echo at all has no
SNR and is below. -/
def snrBelow (a2 n2 : Rat) (db : Nat) : Bool := decide (a2 = 0) || decide (a2 ^ 10 < (10 : Rat) ^ db * n2 ^ 10)

/-- Lags of step 5 in the order of its ties: nearer 0 first, then the negative one. -/
def lagOrder : List Int := 0 :: (List.range 32).flatMap (fun (k : Nat) => [-((k : Int) + 1), (k : Int) + 1])

/-- The first lag at which a function is largest. -/
def bestLag (f : Int → Int) : Int := lagOrder.foldl (fun b l => if f b < f l then l else b) 0

/-- Samples s0 + ℓ to s0 + ℓ + 255 of a window. -/
def atLag (w : List Int) (l : Int) : List Int := (w.drop (l + 32).toNat).take 256

/-- Position of a parabola's peak about its middle point (step 7); `open_` where the three values are equal. -/
def parabola (a b c open_ : Rat) : Rat := if a - 2 * b + c = 0 then open_ else (a - c) / (2 * (a - 2 * b + c))

/-- Steps 4 to 10 for a capture with a template: the shot, and whether it was timed by δp alone. `t0` is t(0) of R223,
`open_` a value for a division that has none. -/
def correlate (c : Placed) (tpl : Template) (snrmin ampmin gain : Nat) (ts t0 open_ : Rat) (sh : Shot) : Shot × Bool :=
  let w := c.window
  let r := fun (l : Int) => dot tpl.t (atLag w l)
  let rq := fun (l : Int) => dot tpl.tq (atLag w l)
  let lp := bestLag r
  let lm := bestLag (fun l => -(r l))
  let neg := decide (r lp < -(r lm))
  let l := if neg then lm else lp
  let sg : Int := if neg then -1 else 1
  if l = -32 ∨ l = 32 then ({ sh with reason := some .unlock, inverted := neg }, false)
  else
    let q := fun (l : Int) => ((sg * r l : Int) : Rat)
    let dp := parabola (q (l - 1)) (q l) (q (l + 1)) open_
    let df := if tpl.fc = 0 then open_ else turns ((sg * rq l : Int) : Rat) (q l) / tpl.fc
    let fb := !decide (absQ (df - dp) ≤ 1 / 2)
    let d := if fb then dp else df
    let t2 : Rat := (dot tpl.t tpl.t : Int)
    let e2 := maxQ (env2 (asQ tpl.t) (asQ tpl.tq))
    let x2 : Rat := (dot (atLag w l) (atLag w l) : Int)
    let a2 := ((r l * r l + rq l * rq l : Int) : Rat) * e2 / (t2 * t2)
    let peak := sqrtQ a2 * voltsPerCode
    let input := peak / gainOf gain
    let ratio := input * 1000000 / tpl.aref
    let sh := { sh with inverted := neg, peak, input, ratio, quiet := c.noise2 = 0, snr2 := a2 / c.noise2
                        rho := q l / sqrtQ (t2 * x2), shift := (l : Rat) + d
                        tmeas := t0 + (((c.pre - 48 : Nat) : Rat) + (l : Rat) + d + tpl.atpl) * ts }
    ({ sh with reason := if snrBelow a2 c.noise2 snrmin then some .snr
                         else if ratio < (ampmin : Rat) / 256 then some .amp else none }, fb)

/-- A capture of a path that is learning (R226): the clip and noise checks, and the envelope peak. Its pair is timed by first hits without
the check of SNR, which decides only whether its echo is collected (log 151). -/
def learnShot (c : Placed) (gain : Nat) (sh : Shot) : Shot :=
  let w := asQ c.window
  let a2 := maxQ ((env2 w (hilbert w)).drop 32 |>.take 256)
  let peak := sqrtQ a2 * voltsPerCode
  { sh with peak, input := peak / gainOf gain, quiet := c.noise2 = 0, snr2 := a2 / c.noise2, tmeas := sh.tfh }

/-- Table 9.2 for a capture whose channel accepted a stop: the shot, and whether δp alone timed it. -/
def processCapture (c : Placed) (tpl : Option Template) (len snrmin ampmin gain : Nat) (ts t0 open_ : Rat) (sh : Shot) :
    Shot × Bool :=
  let sh := { sh with clipped := c.fullScale len, echo := c.window }
  if c.clips then ({ sh with reason := some .clip }, false)
  else if c.noiseSquares.length < 64 then ({ sh with reason := some .noise }, false)
  else match tpl with
    | some t => correlate c t snrmin ampmin gain ts t0 open_ sh
    | none => (learnShot c gain sh, false)

/-! ## Templates -/

/-- Samples s0 to s0 + 255 of a kept window. -/
def echoOf (w : List Int) : List Int := atLag w 0

/-- A tap as its 16-bit value; the rounding is open. -/
def tap (q : Rat) : Int := max (-32768) (min (roundOpen q) 32767)

/-- Quadrature taps of a list of taps. -/
def quadrature (t : List Int) : List Int := (hilbert (asQ t)).map tap

/-- Mean of lists of 256 samples. -/
def meanEcho (l : List (List Rat)) : List Rat :=
  (List.range 256).map (fun i => sumQ (l.map (fun e => e.getD i 0)) / ((max 1 l.length : Nat) : Rat))

/-- Peak position of the correlation of an echo with the first mean, over lags −8 to +8; at an end lag no parabola is
laid (log 53). -/
def echoLag (t1 u : List Rat) : Rat :=
  let r := fun (l : Int) => sumQ ((List.range 256).map (fun (i : Nat) =>
    let j : Int := (i : Int) + l
    if j < 0 then 0 else t1.getD i 0 * u.getD j.toNat 0))
  let l := (lagOrder.filter (fun l => decide (l.natAbs ≤ 8))).foldl (fun b l => if r b < r l then l else b) 0
  if l.natAbs = 8 then (l : Rat) else (l : Rat) + parabola (r (l - 1)) (r l) (r (l + 1)) 0

/-- First position at which an envelope reaches a level, interpolated (R226). -/
def arrival (e : List Rat) (th : Rat) : Rat :=
  match e.findIdx? (fun x => decide (th ≤ x)) with
  | some 0 | none => 0
  | some (i + 1) =>
    let a := e.getD i 0
    (i : Rat) + (th - a) / (e.getD (i + 1) 0 - a)

/-- Envelope-weighted mean instantaneous frequency, cycles per sample (log 53). -/
def centreFreq (t q : List Rat) (e : List Rat) : Rat :=
  let w := e.drop 1
  let num := sumQ ((List.range w.length).map (fun i =>
    let a := t.getD i 0
    let b := q.getD i 0
    let c := t.getD (i + 1) 0
    let d := q.getD (i + 1) 0
    w.getD i 0 * turns (d * a - c * b) (c * a + d * b)))
  if sumQ w = 0 then 0 else num / sumQ w

/-- The template built from the collected echoes (R226); `peaks` in volts at the PGA input. -/
def buildTemplate (echoes : List (List Int)) (peaks : List Rat) : Template :=
  let us := echoes.map asQ
  let t1 := meanEcho us
  let m := meanEcho (us.map (fun u =>
    let p := echoLag t1 u
    (List.range 256).map (fun (i : Nat) => lerp u ((i : Rat) + p))))
  let top := maxQ (m.map absQ)
  let t := m.map (fun x => if top = 0 then 0 else tap (x * 32767 / top))
  let tq := quadrature t
  let e := (env2 (asQ t) (asQ tq)).map sqrtQ
  Template.sealed { t, tq, atpl := arrival e (maxQ e / 10), fc := centreFreq (asQ t) (asQ tq) e
                    aref := sumQ peaks * 1000000 / ((max 1 peaks.length : Nat) : Rat) }

/-- Adaptation by one echo, counted (R227, R228). -/
def adaptTemplate (tpl : Template) (sh : Shot) : Template :=
  let w := asQ sh.echo
  let u := (List.range 256).map (fun (i : Nat) => lerp w (32 + (i : Rat) + sh.shift))
  let u2 := sumQ (u.map (fun x => x * x))
  let k := if u2 = 0 then 0 else sqrtQ ((dot tpl.t tpl.t : Int) / u2)
  let t := List.zipWith (fun (a : Int) (b : Rat) => tap ((a : Rat) + (k * b - (a : Rat)) / 1024)) tpl.t u
  Template.sealed { tpl with t, tq := quadrature t, adapted := tpl.adapted + 1, fresh := true }

/-- The template negated (R235). -/
def negateTemplate (t : Template) : Template := Template.sealed { t with t := t.t.map (- ·), tq := t.tq.map (- ·) }

end Sys2Proof.Machine
end

