-- ==== Sys2Proof/Machine/Tdc.lean ====
section
/-! DEFINITION. The commands of the time-interval engine (R162 to R188): starts, stops, run ends, and its calibration. -/

namespace Sys2Proof.Machine

/-! ## Meanings -/

/-- TDC_START (R179). -/
def execTdcStart (ch : Fin 4) (sync : Bool) (fine : FineCode) (s : State) : Host.Outcome State Fault Refusal :=
  let c := s.ch[ch]
  match c.st, c.table with
  | .armed, some t =>
    if sync = c.cfg.sync then done (startChannel ch.val (if sync then 0 else (fine16 t fine).toNat) s) else .next s
  | .running, _ => done (startChannel ch.val 0 s)
  | _, _ => .next s

/-- TDC_STOP_CROSSING (R172 to R178): the stop input of a channel moves to `level`, in µV from mid-rail; where its comparator
switches, a crossing has come. -/
def execTdcStopCrossing (ch : Fin 4) (count : Nat) (fine : FineCode) (level : Int) (s : State) :
    Host.Outcome State Fault Refusal :=
  if s.ch[ch].st = .off then .next s
  else
    let (edge, s) := switchEdge ch.val level s
    match edge, s.ch[ch].st with
    | some _, .armed => done (updCh ch.val id (fun w => { w with orderr := inc16 w.orderr }) s)
    | some rising, .running => done (runningStop ch.val count fine rising s)
    | _, _ => .next s

/-- TDC_RUN_END (R176). -/
def execTdcRunEnd (ch : Fin 4) (s : State) : Host.Outcome State Fault Refusal :=
  if s.ch[ch].st = .running then done (endRun ch.val s) else .next s

/-- TDC_CAL_DUE (R182): merged; a die-temperature request needs a move of `CALDT`. -/
def execTdcCalDue (cause : Fin 8) (smp : Sample) (s : State) : Host.Outcome State Fault Refusal :=
  if !(s.timed || s.starting) then .next s
  else
    let s := sample smp (wake 1 s)
    if cause = 3 ∧ !movedCaldt s then done s else done (requestTdcCal cause.val s)

/-- TDC_CAL_BLOCK_END (R183, Table 7.4): the counts of a block are added; the channels go on with the next one, or are Idle after the
last. -/
def execTdcCalBlockEnd (hits : List TdcTable) (s : State) : Host.Outcome State Fault Refusal :=
  if !s.cal.run || decide (16 ≤ s.cal.blocks) || !s.ch.any (fun c => c.st == .calibrating) then .next s
  else done { s with cal.blocks := s.cal.blocks + 1
                     ch := Vector.ofFn (fun (n : Fin 4) =>
                       let c := s.ch[n]
                       { c with hist := addHist c.hist (hits.getD n.val noHits)
                                st := if c.st == .calibrating ∧ s.cal.blocks = 15 then .idle else c.st }) }

/-- TDC_CAL_BLOCK_ABANDON (R184): the block in progress is discarded for a run; the 32nd ends the calibration with result 5. -/
def execTdcCalBlockAbandon (s : State) : Host.Outcome State Fault Refusal :=
  if s.cal.run then done (interruptBlock s) else .next s

/-- TDC_CAL_EVALUATE (R186). -/
def execTdcCalEvaluate (s : State) : Host.Outcome State Fault Refusal :=
  if !s.cal.run || decide (s.cal.blocks < 16) then .next s
  else done (endCal (s.ch.toList.map (fun c => calCode c.hist)) s)

/-- TDC_CAL_RETRY (R186). -/
def execTdcCalRetry (smp : Sample) (s : State) : Host.Outcome State Fault Refusal :=
  if s.cal.retryAt.isNone then .next s
  else onTimer (fun s => requestTdcCal 5 { sample smp s with cal.retryAt := none }) s

/-- TDC_NO_PASS_2CALINT (R186): 0x0306 once for a code-0 or code-1 channel. -/
def execTdcNoPass2calint (ch : Fin 4) (s : State) : Host.Outcome State Fault Refusal :=
  if decide (1 < assignCode ch.val s) || s.ch[ch].noPassLogged then .next s
  else onTimer (fun s => updCh ch.val (fun c => { c with noPassLogged := true }) id s
    |> logEvent 0x0306 [(ch.val : Int), roundOpen (((tlmono s - s.ch[ch].lastPass : Nat) : Rat) / 3600)]) s

end Sys2Proof.Machine
end

