-- ==== Sys2Proof/Machine/Shots.lean ====
section
/-! DEFINITION. The Piste's steps and the firing of shots (R193 to R207, R210 to R217), the capture of echoes (R220 to
R224), and the port checks (R208, R209). -/

namespace Sys2Proof.Machine

/-! ## Templates in force -/

/-- The template in force of a path (R225); none while it is learning. -/
def templateOf (k : Nat) (s : State) : Option Template := vget (vget s.path k {}).tpl (gasClass s) none

/-- Learning starts afresh on a path: its template of the class is discarded in SIG RAM and in Archive SYSTEM (R226). -/
def startLearning (k : Nat) (s : State) : State :=
  let none_ := fun (v : Vector (Option Template) 8) => vupd v (gasClass s) (fun _ => none)
  updPath k (fun p => { p with tpl := none_ p.tpl, copy := none_ p.copy, learning := some { ups := [], downs := [] }, learnDue := false }) s
    |> addJob (.template k (gasClass s))

/-- The CRC of the template that a path will use is checked (R229): a failing one is replaced by the copy of Archive SYSTEM, with
event 0x0507, or discarded where that fails too. -/
def checkTemplate (k : Nat) (s : State) : State :=
  match templateOf k s with
  | none => s
  | some t =>
    if t.whole then s
    else
      let copy := (vget (vget s.path k {}).copy (gasClass s) none).bind (fun u => if u.whole then some u else none)
      updPath k (fun p => { p with tpl := vupd p.tpl (gasClass s) (fun _ => copy) }) s
        |> logEvent 0x0507 [(k : Int), if copy.isSome then 0 else 1]

/-- The template that a path will use, checked; a path without a VALID one learns, as does one with a command to (R226, R229), and a
template in force ends a learning of another class. -/
def ensureTemplate (k : Nat) (s : State) : State :=
  let s := onlyIf (vget s.path k {}).learnDue (startLearning k) s |> checkTemplate k
  match templateOf k s with
  | some _ => updPath k (fun p => { p with learning := none }) s
  | none => updPath k (fun p => { p with learning := some (p.learning.getD { ups := [], downs := [] }) }) s

/-- A class change takes effect (R245): frequency and gain of every path. -/
def applyClass (c : Nat) (s : State) : State :=
  let g := gasRec c s
  (pathsOf s).foldl (fun (s : State) (k : Nat) =>
      let s := { s with r.path := vupd s.r.path k (fun w => { w with pathstatGain := BitVec.ofNat 8 (min 120 g.cgain) }) }
      useFreq k g.cfreq (updPath k (fun p => { p with learning := none }) s))
    { s with fl.newClass := none, r.gas.gasstatClass := BitVec.ofNat 3 c, r.gas.gasstatCandn := 0 }

/-- A snapshot is asked for on a path; with one pending the new request is discarded (R224). -/
def requestSnap (k trig event : Nat) (s : State) : State :=
  updPath k (fun p => { p with snap := some (p.snap.getD { trig, event }) }) s

/-- The first action-0 interval of a local day takes the daily snapshot (R224); on the local day of a POR none is taken, since the
device does not know whether that day had one (log 136). -/
def dailySnap (s : State) : State :=
  if s.fl.day = localDay s then s
  else onlyIf (decide (2 ≤ s.cat.snapmode)) (requestSnap 0 3 0) { s with fl.day := localDay s }

/-- An action-0 interval begins: a new gas class takes effect, the daily snapshot, templates. -/
def beginInterval (s : State) : State :=
  let s := match s.fl.newClass with | some c => applyClass c s | none => s
  (pathsOf s).foldl (fun (s : State) (k : Nat) => ensureTemplate k s) (dailySnap s)

/-! ## Firing -/

/-- Action of the step that runs. -/
def runAction (s : State) : Nat := match s.ps.run with | some x => (s.cat.step x.step).action | none => 7

/-- Paths that the running step fires. -/
def runPaths (s : State) : List Nat :=
  match s.ps.run with | some x => firePaths (s.cat.step x.step).arg s | none => []

/-- Pairs of each path: `NPAIRS`, twice as many in a zero check (R211). -/
def pairCount (s : State) : Nat := (if runAction s = 5 then 2 else 1) * s.cat.flow.npairs

/-- The swapped assignment of Table 8.1: every second pair of a zero check (R211). -/
def swappedPair (i : Nat) (s : State) : Bool := runAction s == 5 && i % 2 == 0

/-- Directions of the firings of pair i (R203): both at once, or one after the other, down first in odd pairs. -/
def pairFirings (k i : Nat) (s : State) : List (List Bool) :=
  if pathSeq k s then (if i % 2 = 1 then [[false], [true]] else [[true], [false]]) else [[true, false]]

/-- The firings of the step in their order (R206): path, pair, directions (`true` up). -/
def firings (s : State) : List (Nat × Nat × List Bool) :=
  (List.range (pairCount s)).flatMap (fun i => (runPaths s).flatMap (fun k =>
    (pairFirings k (i + 1) s).map (fun d => (k, i + 1, d))))

/-- A shot has been fired. -/
def shotFired (k i : Nat) (up : Bool) (s : State) : Bool := (vget s.path k {}).fired.contains (i, up)

/-- The next firing of the step. -/
def nextFiring (s : State) : Option (Nat × Nat × List Bool) :=
  (firings s).find? (fun x => x.2.2.any (fun up => !shotFired x.1 x.2.1 up s))

/-- Chain of a shot (Table 8.1): `true` chain A. -/
def chainA (k i : Nat) (up : Bool) (s : State) : Bool :=
  if pathSeq k s then !swappedPair i s else up == !swappedPair i s

/-- Channel of a shot (R199). -/
def shotChannel (k i : Nat) (up : Bool) (s : State) : Nat :=
  if chainA k i up s then acA s else (acB s).getD (acA s)

/-- Port that transmits a shot (R191). -/
def txPort (k : Nat) (up : Bool) : Nat := if up then 2 * k + 1 else 2 * k

/-- Run of an acoustic shot (R171, R205). -/
def shotRun (k : Nat) (s : State) : RunCfg :=
  let (o, w) := pathWindow k s
  let thr := (s.cat.pathRec k).thresh
  { sync := true, slope := if 128 ≤ thr then .rising else .falling, thr, wopen := o, wwidth := w, stopmax := 1 }

/-- The synchronous start of a shot's channel (R197): its run is configured, a calibration block giving way, and started. A run
that still counts there keeps its channel, and the start is lost (R179). -/
def startShot (k i : Nat) (up : Bool) (s : State) : State :=
  let n := shotChannel k i up s
  startChannel n 0 (configureRun n (shotRun k s) (disarm n s))

/-- A burst on a port, in current limit or not (R194). -/
def burst (n : Nat) (limited : Bool) (s : State) : State :=
  let s := { s with r.port := vupd s.r.port n (fun w => { w with xdpstatIlim := limited
                                                                 ilimcnt := if limited then inc16 w.ilimcnt else w.ilimcnt }) }
  if limited && s.ps.limArm.contains n then
    { s with ps.limArm := s.ps.limArm.filter (· != n) } |> logEvent 0x0402 [(n : Int)]
  else s

/-- One firing: the waveform buffer (R196), bursts, and synchronous starts. -/
def fireShots (k i : Nat) (dirs : List Bool) (ilim : List Nat) (s : State) : State :=
  let w := (s.cat.pathRec k).wave
  let s := { s with ps.waveBuf := if w = 0xFF then s.ps.waveBuf else some w
                    ps.burst := some { path := k, pair := i, dirs, at_ := s.now } }
  dirs.foldl (fun (s : State) (up : Bool) =>
    startShot k i up s |> burst (txPort k up) (ilim.contains (txPort k up))
      |> updPath k (fun p => { p with fired := (i, up) :: p.fired })) s

/-- The first shot of a step: its time, and the beginning of an interval. -/
def markFirst (s : State) : State :=
  match s.ps.run with
  | some x =>
    if x.first.isSome then s
    else
      let s := { s with ps.run := some { x with first := some (tltime s, s.tl.monoUs) } }
      if runAction s = 0 then beginInterval s
      else (runPaths s).foldl (fun (s : State) (k : Nat) => ensureTemplate k s) s
  | none => s

/-- An acoustic step that may fire: its seat held, the boost on. -/
def shotStep (s : State) : Bool :=
  (runAction s == 0 || runAction s == 5) && holds 2 s && s.flt.proc.isNone && s.pw.st == .run

/-! ## The ports (R192, R198) -/

/-- Conditions of a transducer port (R192). `receiving`: the bridge off and `TERM` across A and B, with the chain (`true` A) that
the port is connected to, where it receives. -/
inductive PortCond where
  /-- The Reset state of Table 2.2 -/
  | reset
  | idle
  | transmitting
  | receiving (chain : Option Bool)
  deriving DecidableEq, Repr

/-- Port that receives a shot (R191). -/
def rxPort (k : Nat) (up : Bool) : Nat := if up then 2 * k else 2 * k + 1

/-- The last sample of the present burst has been issued (R195): to the next µs of `State.now`, in which the connections of R198
follow. -/
def burstOver (b : Burst) (s : State) : Bool := decide (b.at_ + (burstFs b.path s / 1000000000).ceil.toNat ≤ s.now)

/-- Condition of port n (R192, R198); a port of a path that the running step does not use holds its Reset state (log 134). -/
def portCondition (n : Nat) (s : State) : PortCond :=
  let k := n / 2
  if !(s.isOn .tx && s.isOn .rx) || !(runPaths s).contains k then .reset
  else match s.ps.burst with
  | none => .idle
  | some b =>
    if b.path != k || !(vget s.path k {}).capturing then .idle
    else if burstOver b s then .receiving ((b.dirs.find? (fun up => rxPort k up == n)).map (fun up => chainA k b.pair up s))
    else if b.dirs.any (fun up => txPort k up == n) then .transmitting else .idle

/-- A − B of a port, µV (R194): the sample of the burst that is being issued at 48 MS/s; 0 while the port is idle. -/
def portDrive (n : Nat) (s : State) : Option Rat :=
  match portCondition n s, s.ps.burst with
  | .transmitting, some b => some (driveUv b.path (burstCode b.path ((s.now - b.at_) * 48) s) s)
  | .idle, _ => some 0
  | _, _ => none

/-- The PGA input of a chain is clamped to zero until a port is connected to it (R198). -/
def pgaClamped (a : Bool) (s : State) : Bool := !(List.range 8).any (fun n => portCondition n s == .receiving (some a))

/-- `TERM` of a path across A and B of a port, while it is connected (R198). -/
def termination (n : Nat) (s : State) : Option Nat :=
  match portCondition n s with
  | .receiving _ => some (s.cat.pathRec (n / 2)).term
  | _ => none

/-! ## Captures -/

/-- The converter's first sample for a path (R222): `PRE` samples before the window opens, and never before the first sample
instant after the connection of R198, taken at its limit of 200 ns after the burst (log 135). -/
def converterStart (k : Nat) (s : State) : Nat :=
  let ts := tsFs k s
  let byWindow : Int := (((pathWindow k s).1 : Rat) * (tcoarse s : Rat) / ts).ceil - ((capGeom s).1 : Int)
  max byWindow.toNat (((burstFs k s + 200000000) / ts).floor.toNat + 1)

/-- The shot's capture in its place: it ends with sample n_fh + `POST` − 1 (R222). -/
def placeCapture (c : Capture) (tfh : Rat) (s : State) : Placed :=
  let (pre, post, noise) := capGeom s
  let nfh := roundNear (tfh / tsFs c.path s)
  let start := converterStart c.path s
  { pre, noise, nfh, start, codes := c.codes.take (nfh + (post : Int) - (start : Int)).toNat }

/-- A shot goes into its pair; a retry replaces the shot it repeats (R207), whose full-scale code still counts (R201). -/
def putShot (k i : Nat) (x : Shot) (s : State) : State :=
  let keep := fun (o : Option Shot) => some { x with clipped := x.clipped || o.any (·.clipped) }
  let put := fun (p : PairRes) => if x.up then { p with up := keep p.up } else { p with down := keep p.down }
  let add := fun (l : List PairRes) =>
    if l.any (fun q => q.pair == i) then l.map (fun q => if q.pair = i then put q else q)
    else l ++ [put { pair := i, swapped := swappedPair i s }]
  updPath k (fun p => { p with pairs := add p.pairs }) s

/-- The shot of a pair, as far as it is processed. -/
def getShot (k i : Nat) (up : Bool) (s : State) : Option Shot :=
  match (vget s.path k {}).pairs.find? (fun q => q.pair == i) with
  | some q => if up then q.up else q.down
  | none => none

/-- A snapshot group waits to be written, or another path's captures stand in the buffer in XB: it is occupied (R321). -/
def snapBusy (k : Nat) (s : State) : Bool :=
  s.ar.jobs.any (fun j => match j with | .snapshot _ => true | _ => false)
    || (List.range 4).any (fun j => j != k && ((vget s.path j {}).snapUp.isSome || (vget s.path j {}).snapDown.isSome))

/-- The first pair's shot of a path with a snapshot pending goes to the snapshot buffer: 4096 codes of 16 bits, the up shot
at 0x4000, the down shot at 0x6000 (R224, R321). -/
def snapShot (c : Capture) (hit : Nat) (nfh : Int) (s : State) : State :=
  if runAction s != 0 || c.pair != 1 || (vget s.path c.path {}).snap.isNone || snapBusy c.path s then s
  else
    let codes := (List.range 4096).map (fun i => c.codes.getD i 0)
    let x : SnapShot := { start := converterStart c.path s, nfh := nfh.toNat, hit, codes }
    let s := updPath c.path (fun p => if c.up then { p with snapUp := some x } else { p with snapDown := some x }) s
    putXb (if c.up then 0x4000 else 0x6000) (codes.flatMap (fun v => leBytes 2 v)) s

/-- A processed shot is counted (Table 9.8) and kept. -/
def keepShot (k i : Nat) (x : Shot) (fb : Bool) (s : State) : State :=
  { s with r.pw := vupd s.r.pw k (fun w => { w with
      unlockcnt := if x.reason == some .unlock then inc16 w.unlockcnt else w.unlockcnt
      phasefb := if fb then inc16 w.phasefb else w.phasefb }) } |> putShot k i x

/-- The Signal core processes one capture (R222, R223, R230). -/
def processShot (c : Capture) (s : State) : State :=
  let k := c.path
  let retry := (vget s.path k {}).retried.contains (c.pair, c.up)
  match (vget s.ch (shotChannel k c.pair c.up s) {}).stops.head? with
  | none => keepShot k c.pair { up := c.up, retry, reason := some .nostop } false (snapShot c 0 0 s)
  | some r =>
    let tfh := stopTime r.x s
    let pl := placeCapture c tfh s
    let t0 := ((pl.nfh - (pl.pre : Int) : Int) : Rat) * tsFs k s
                - (Config.adcDelay (if chainA k c.pair c.up s then 0 else 1) (rateK k s) : Rat)
    let (v, s) := draw s
    let (x, fb) := processCapture pl (templateOf k s) (capLen s) s.cat.flow.snrmin s.cat.flow.ampmin
      (vget s.r.path k {}).pathstatGain.toNat (tsFs k s) t0 (v : Rat) { up := c.up, retry, reason := none, tfh }
    keepShot k c.pair x fb (snapShot c (stopWord r).toNat pl.nfh s)

/-! ## Retries -/

/-- A swallowed shot (R230). -/
def swallowed (x : Shot) : Bool := x.reason == some .nostop || x.reason == some .amp

/-- The first swallowed shot of a path that has not been retried. -/
def toRetry (k : Nat) (s : State) : Option (Nat × Bool) :=
  let p := vget s.path k {}
  (p.pairs.flatMap (fun q => [q.up, q.down].filterMap (fun x => match x with
    | some x => if swallowed x && !p.retried.contains (q.pair, x.up) then some (q.pair, x.up) else none
    | none => none))).head?

/-- The budget and the deadline that a retry needs (R207, log 57). -/
def retryFits (k : Nat) (s : State) : Bool :=
  match s.cl.held.find? (·.unit == 2) with
  | some x =>
    let us := shotPeriod k s * 10
    decide ((seatDemand { x with hold := us } s : Int) ≤ seatAvail 2 s)
      && (match x.deadline with | some d => decide (s.now + us ≤ d) | none => true)
  | none => false

/-! ## Port checks -/

/-- Limits of a port from the module's calibration block: ZMIN, ZMAX in Ω, PHMIN, PHMAX in 0.01° (Table 16.6). -/
def portWindow (n : Nat) (s : State) : Int × Int × Int × Int :=
  let b := calBlock (n / 4) s
  let o := 12 * (n % 4)
  ((u16 b (o + 4) : Nat), (u16 b (o + 6) : Nat), i16 b (o + 8), i16 b (o + 10))

/-- Squared magnitude of a DFT bin. -/
def mag2 (z : Rat × Rat) : Rat := z.1 * z.1 + z.2 * z.2

/-- `FREQ` in force of a path in cycles per converter sample. -/
def cyclesPerSample (k : Nat) (s : State) : Rat := (freqNow k s : Rat) * tsFs k s / 1000000000000

/-- The bin at `FREQ` in force of the last 8 periods of a capture (R208 step 4). -/
def checkBin (k : Nat) (codes : List Nat) (s : State) : Rat × Rat :=
  let f := cyclesPerSample k s
  let n := if f = 0 then 0 else (roundNear (8 / f)).toNat
  dftBin f ((codes.drop (codes.length - n)).map (fun v => (v : Rat) - 8192))

/-- |Z|² in Ω² (R208 step 4); none where Vd = Vp and no current flows. -/
def zSquared (c : PortCheck) (s : State) : Option Rat :=
  let d := checkBin (c.port / 2) c.capD s
  let p := checkBin (c.port / 2) c.capP s
  let q := mag2 (d.1 - p.1, d.2 - p.2)
  if q = 0 then none else some (1000000 * mag2 p / q)

/-- Phase in 0.01° from the mean delay of the port crossings against the drive crossings over the last 8 periods (log
58); none without crossings. -/
def zPhase (c : PortCheck) (s : State) : Option Rat :=
  let last := fun (l : List Crossing) => l.drop (l.length - 16)
  let d := List.zipWith (fun (p q : Crossing) => ((p.x : Int) : Rat) - ((q.x : Int) : Rat)) (last c.crossP) (last c.crossD)
  if d.isEmpty then none
  else some (-(sumQ d / (d.length : Rat)) * (tcoarse s : Rat) / 65536 * (freqNow (c.port / 2) s : Rat) * 36000 / 1000000000000)

/-- The first fault of Table 8.3 that applies; pins in 1/1000 of VANA. -/
def checkFault (c : PortCheck) (ph : Rat) (s : State) : Nat :=
  let (zmin, zmax, pmin, pmax) := portWindow c.port s
  if c.pinA < 100 ∨ c.pinB < 100 then 3
  else if 900 < c.pinA ∨ 900 < c.pinB then 4
  else match zSquared c s with
    | none => 1
    | some z2 =>
      if z2 < 100 then 2
      else if 10000000000 < z2 then 1
      else if z2 < (zmin : Rat) ^ 2 ∨ (zmax : Rat) ^ 2 < z2 ∨ ph < (pmin : Rat) ∨ (pmax : Rat) < ph then 5
      else 0

/-- Run of a port check (R171, R208): both slopes at code 128, `STOPMAX` 32. -/
def checkRun : RunCfg := { sync := true, slope := .both, thr := 128, wwidth := 2 ^ 24 - 1, stopmax := 32 }

/-- The run of one signal of a check on an acoustic channel: configured, started, every crossing taken, ended (R208 step 3). -/
def timeCrossings (n : Nat) (l : List Crossing) (s : State) : State :=
  let s := startChannel n 0 (configureRun n checkRun s)
  let s := l.foldl (fun (s : State) (x : Crossing) =>
    match switchEdge n x.level s with
    | (some rising, s) => if (vget s.ch n {}).st == .running then takeStop n x.x false rising s else s
    | (none, s) => s) s
  if (vget s.ch n {}).st == .running then endRun n s else s

/-- The outcome of a check of one port: `FAULT` and the words of Table 8.8 (R209). -/
def portOutcome (port f : Nat) (z ph : Word) (s : State) : State :=
  { s with r.port := vupd s.r.port port (fun w => { w with
             xdpstatFault := BitVec.ofNat 4 f, zmag := z, zphase := ph, ztime := BitVec.ofNat 32 (tlmono s)
             zfailcnt := if f = 0 then 0 else inc16 w.zfailcnt })
           ps.limArm := if f = 0 then port :: s.ps.limArm.filter (· != port) else s.ps.limArm }

/-- One port is checked (R208, R209): the runs of both signals on the acoustic channels, on the one channel in turn where there is
no second. -/
def measurePort (c : PortCheck) (s : State) : State :=
  let (v, s) := draw s
  let s := timeCrossings ((acB s).getD (acA s)) c.crossP (timeCrossings (acA s) c.crossD s)
  let ph := (zPhase c s).getD (v : Rat)
  let z := match zSquared c s with | some q => (roundOpen (sqrtQ q)).toNat | none => 65535
  portOutcome c.port (checkFault c ph s) (sat 16 z) (satI 16 (roundOpen ph)) s

/-- The check of a port on the measurement that the command gives for it; a port it gives none for is checked too, with a free outcome
(log 146). -/
def checkPort (cs : List PortCheck) (port : Nat) (s : State) : State :=
  match cs.find? (fun c => c.port == port) with
  | some c => measurePort c s
  | none =>
    let (f, s) := draw s
    let (z, s) := draw s
    let (ph, s) := draw s
    portOutcome port (f % 6) (BitVec.ofNat 16 z) (BitVec.ofNat 16 ph) s

/-- Ports of the configured paths (R190). -/
def portsUsed (s : State) : List Nat := (pathsOf s).flatMap (fun k => [2 * k, 2 * k + 1])

/-- The check in operation of one port, with its events (R209). -/
def checkInOperation (cs : List PortCheck) (port : Nat) (s : State) : State :=
  let old := portFault port s
  let s := checkPort cs port s
  let new := portFault port s
  if old = 0 ∧ new ≠ 0 then logEvent 0x0403 [(port : Int), (new : Int)] s
  else if old ≠ 0 ∧ new = 0 then logEvent 0x0404 [(port : Int)] s
  else s

/-- The port check at the end of an action-0 step, once 3600 s have passed since the previous one (R208). -/
def portChecks (cs : List PortCheck) (s : State) : State :=
  if s.ps.checkedAt.any (fun t => decide (s.tl.monoUs < t + 3600000000)) then s
  else (portsUsed s).foldl (fun s n => checkInOperation cs n s) { s with ps.checkedAt := some s.tl.monoUs }

/-! ## Meanings -/

/-- A step is skipped (R215): `PSOVER`, 0x0405 at most once an hour. -/
def skipStep (i : Nat) (s : State) : State :=
  let s := { s with r.drv.psover := inc16 s.r.drv.psover }
  let quiet := match s.ps.overAt with | some t => decide (s.now < t + 3600000000) | none => false
  if quiet then s else { s with ps.overAt := some s.now } |> logEvent 0x0405 [(i : Int)]

/-- A step's previous instance waits for its seat or runs. -/
def stepBusy (i : Nat) (s : State) : Bool :=
  s.ps.waiting.any (fun x => x.1 == i) || (match s.ps.run with | some x => x.step == i | none => false)

/-- A due step begins its work, or waits for it (Table 8.4); one whose previous instance waits or runs is skipped (R215). -/
def dueStep (i due : Nat) (s : State) : State :=
  if stepBusy i s || calStep i s then skipStep i s
  else match (s.cat.step i).action with
  | 3 => { newVitrine s with ps.cals := i :: s.ps.cals }
  | 4 => { requestTdcCal 4 s with ps.cals := i :: s.ps.cals }
  | _ => { s with ps.waiting := s.ps.waiting ++ [(i, due)] }

/-- PISTE_STEP_DUE (R213 to R215, R29). -/
def execPisteStepDue (step : Fin 16) (smp : Sample) (s : State) : Host.Outcome State Fault Refusal :=
  if !s.timed || s.ps.epoch.isNone || decide (s.cat.steps.length ≤ step.val) then .next s
  else
    let i := step.val
    let s := sample smp (wake 1 s)
    let due := min (s.ps.next.getD i s.now) s.now
    let s := { s with ps.next := s.ps.next.set i (nextDue i (max s.now due) s), pw.choose := true }
    done (dueStep i due (onlyIf ((s.cat.step i).action == 0) countScheduled s))

/-- BOOST_READY (R193): VDRV has reached 0.98 × the target. -/
def execBoostReady (mv : Nat) (s : State) : Host.Outcome State Fault Refusal :=
  if shotStep s && s.r.drv.xdstatBooston && decide (98 * s.r.drv.vdrvtgt.toNat ≤ 100 * mv) then
    done { s with r.drv.xdstatVdrvok := true }
  else .next s

/-- BOOST_TIMEOUT (R193). -/
def execBoostTimeout (mv : Nat) (s : State) : Host.Outcome State Fault Refusal :=
  match s.ps.run with
  | some x =>
    if shotStep s && s.r.drv.xdstatBooston && !s.r.drv.xdstatVdrvok then
      done ({ s with r.drv.xdstatBooston := false, r.drv.vdrvmv := sat 16 mv, r.drv.boostfail := inc16 s.r.drv.boostfail
                     ps.run := some { x with boostFail := true } }
        |> logEvent 0x0401 [(maskOf (runPaths s) : Int), (mv : Int)])
    else .next s
  | none => .next s

/-- SHOT_FIRE (R193 to R197, R202 to R206): the next shot or simultaneous pair, which waits while gates occupy a code-0 channel
(R143). `mv` is the VDRV sample at its start, `ilim` the ports whose bridge reached its limit. A channel without tables abandons
the runs of the step (R187). -/
def execShotFire (mv : Nat) (ilim : List Nat) (s : State) : Host.Outcome State Fault Refusal :=
  if !shotStep s || !s.r.drv.xdstatVdrvok || gatesHoldShots s then .next s
  else if 100 * mv < 98 * s.r.drv.vdrvtgt.toNat then done { s with r.drv.xdstatVdrvok := false }
  else
    let s := markFirst { s with r.drv.vdrvmv := sat 16 mv }
    match nextFiring s with
    | none => .next s
    | some (k, i, dirs) =>
      if dirs.any (fun up => (vget s.ch (shotChannel k i up s) {}).table.isNone) then
        done (endShots (requestTdcCal 7 s))
      else done (fireShots k i dirs ilim s)

/-- SHOT_CAPTURE_PROCESS (R222, R230): a shot that has been fired and is not processed, or its retry. -/
def execShotCaptureProcess (cap : Capture) (s : State) : Host.Outcome State Fault Refusal :=
  let open_ := match getShot cap.path cap.pair cap.up s with
    | none => true
    | some x => !x.retry && (vget s.path cap.path {}).retried.contains (cap.pair, cap.up)
  if shotStep s && shotFired cap.path cap.pair cap.up s && open_ then done (processShot cap s) else .next s

/-- RETRY_SHOT (R207): a swallowed shot of a sequential path, after the last pair of an action-0 interval; its VDRV is sampled and
tested like that of every shot (R193). -/
def execRetryShot (path : Fin 4) (drive : ShotDrive) (s : State) : Host.Outcome State Fault Refusal :=
  let k := path.val
  if !shotStep s || runAction s != 0 || !pathSeq k s || (nextFiring s).isSome || !retryFits k s || !s.r.drv.xdstatVdrvok
      || gatesHoldShots s then .next s
  else if 100 * drive.mv < 98 * s.r.drv.vdrvtgt.toNat then done { s with r.drv.xdstatVdrvok := false }
  else match toRetry k s with
    | none => .next s
    | some (i, up) =>
      let s := { s with r.drv.vdrvmv := sat 16 drive.mv }
      done (fireShots k i [up] drive.ilim { s with r.path := vupd s.r.path k (fun w => { w with retrycnt := inc16 w.retrycnt }) }
        |> updPath k (fun p => { p with retried := (i, up) :: p.retried }))

/-- FAST_SEQUENCE_TIMEOUT (R216): 30 s without a valid result above `QFAST`. -/
def execFastSequenceTimeout (s : State) : Host.Outcome State Fault Refusal :=
  if !s.ps.fast then .next s
  else onTimer (fun s => let s := endFast s; regrid s.now s) s

end Sys2Proof.Machine
end

