-- ==== Sys2Proof/Machine/Flow.lean ====
section
/-! DEFINITION. From pairs to a path result (R231 to R235), the interval result (R236 to R242), the zero check (R243), gas
quality (R244, R245), bubbles and deposits (R246). -/

namespace Sys2Proof.Machine

/-! ## Pairs -/

/-- Reasons in the order in which a pair is counted (R233). -/
def rejectOrder : List Reject := [.nostop, .clip, .noise, .unlock, .snr, .amp, .invmix, .crange, .mad]

/-- Place of a reason in that order. -/
def rejectRank (r : Reject) : Nat := (rejectOrder.findIdx? (· == r)).getD 9

/-- A pair as R232 sees it: its first reason, corrected and measured times in fs, its sign, its shots. -/
structure PairEval where
  why : Option Reject
  tu : Rat := 0
  td : Rat := 0
  mu : Rat := 0
  md : Rat := 0
  neg : Bool := false
  shots : List Shot := []

/-- Δt of a pair. -/
def PairEval.dt (p : PairEval) : Rat := p.tu - p.td

/-- Speed of sound, m/s, from transit times in fs (R232). -/
def soundSpeed (k : Nat) (tu td : Rat) (s : State) : Rat :=
  ((s.cat.pathRec k).length : Rat) * 1000000000 * (tu + td) / (2 * tu * td)

/-- Velocity, m/s (R232). -/
def velocity (k : Nat) (dt tu td : Rat) (s : State) : Rat :=
  ((s.cat.pathRec k).length : Rat) * 1000000000 * dt / (2 * (((s.cat.pathRec k).costheta : Rat) / 32768) * tu * td)

/-- One pair (R231, R232): `h` half the chain offset in fs, `learning` without the inversion test (R226). -/
def evalPair (k : Nat) (h : Rat) (learning : Bool) (s : State) (p : PairRes) : PairEval :=
  let why := fun (x : Option Shot) => match x with | some x => x.reason | none => some Reject.nostop
  let first := rejectOrder.find? (fun r => why p.up == some r || why p.down == some r)
  match p.up, p.down, first with
  | some u, some d, none =>
    if !learning && u.inverted != d.inverted then { why := some .invmix }
    else
      let dead : Rat := ((deadTime (2 * k) s + deadTime (2 * k + 1) s : Int) : Rat)
      let tu := u.tmeas - dead - h
      let td := d.tmeas - dead + h
      let c := soundSpeed k tu td s
      let b := cBounds s
      if tu ≤ 0 ∨ td ≤ 0 ∨ c < (b.1 : Rat) ∨ (b.2 : Rat) < c then { why := some .crange }
      else { why := none, tu, td, mu := u.tmeas, md := d.tmeas, neg := u.inverted && !learning, shots := [u, d] }
  | _, _, some r => { why := some r }
  | _, _, none => { why := some .nostop }

/-- The pairs of a path result: every pair, the valid ones (R232), and those that remain after the median test (R233);
the raw MAD in fs. -/
structure PathEval where
  all : List PairEval
  valid : List PairEval
  kept : List PairEval
  mad : Rat

/-- The median test of R233; the floor of the MAD is 1 ps. -/
def medianTest (madk : Nat) (all : List PairEval) : PathEval :=
  let valid := all.filter (fun p => p.why.isNone)
  let m := medianQ (valid.map (·.dt))
  let mad := medianQ (valid.map (fun p => absQ (p.dt - m)))
  let lim := (madk : Rat) / 2 * (if mad < 1000 then 1000 else mad)
  { all, valid, mad, kept := valid.filter (fun p => decide (absQ (p.dt - m) ≤ lim)) }

/-- Pairs of a path result counted under one reason (R233). -/
def PathEval.count (e : PathEval) (r : Reject) : Nat :=
  if r = .mad then e.valid.length - e.kept.length else (e.all.filter (fun p => p.why == some r)).length

/-- A withheld path: `NPAIRS` pairs, every one rejected for `NOSTOP` (R448). -/
def withheldEval (n : Nat) : PathEval := { all := List.replicate n { why := some .nostop }, valid := [], kept := [], mad := 0 }

/-- The running interval's pairs of a path, h by R231. -/
def intervalEval (k : Nat) (s : State) : PathEval :=
  if withheldPath k s then withheldEval s.cat.flow.npairs
  else
    let h := if pathSeq k s then 0 else (vget s.path k {}).chofs / 2
    medianTest s.cat.flow.madk ((vget s.path k {}).pairs.map (evalPair k h (templateOf k s).isNone s))

/-! ## One path's interval -/

/-- Medians of the remaining pairs: dt, t_up, t_down, and the measured times. -/
def medDt (e : PathEval) : Rat := medianQ (e.kept.map (·.dt))

/-- Median t_up. -/
def medTu (e : PathEval) : Rat := medianQ (e.kept.map (·.tu))

/-- Median t_down. -/
def medTd (e : PathEval) : Rat := medianQ (e.kept.map (·.td))

/-- Shots of the remaining pairs. -/
def keptShots (e : PathEval) : List Shot := e.kept.flatMap (·.shots)

/-- The path's interval, before its consequences: status (R234), v and c in m/s. -/
structure PathOut where
  status : Nat
  v : Rat
  c : Rat
  learning : Bool
  deriving DecidableEq, Repr

/-- Status, v and c of R234; a lost path without pairs has no speed of sound (log 59: `open_`). -/
def pathOutcome (k : Nat) (e : PathEval) (open_ : Rat) (s : State) : PathOut :=
  let p := vget s.path k {}
  let learning := (templateOf k s).isNone
  let own := fun (st : Nat) => if e.kept.isEmpty then (⟨st, 0, open_, learning⟩ : PathOut)
    else ⟨st, velocity k (medDt e) (medTu e) (medTd e) s, soundSpeed k (medTu e) (medTd e) s, learning⟩
  if s.cat.flow.minvalid ≤ e.kept.length then own 1
  else match p.last with
    | some (v, c) =>
      if (vget s.r.pw k {}).substrun.toNat < s.cat.flow.substmax then ⟨2, v, c, learning⟩ else own 3
    | none => own 3

/-- Consequences of the status (R234): last valid values, substitution run, acoustic loss. -/
def applyStatus (k : Nat) (o : PathOut) (e : PathEval) (s : State) : State :=
  let p := vget s.path k {}
  match o.status with
  | 1 =>
    let t := (medianQ (e.kept.map (·.mu)) + medianQ (e.kept.map (·.md))) / 2
    let s : State := { updPath k (fun p => { p with last := some (o.v, o.c), wasOk := true, loss := none }) s with
               r.pw := vupd s.r.pw k (fun w => { w with substrun := 0 }) }
    let s := match p.loss with | some n => logEvent 0x0502 [(k : Int), (n : Int)] s | none => s
    setTexp k (some t) s
  | 2 => { updPath k (fun p => { p with wasOk := true }) s with
           r.pw := vupd s.r.pw k (fun w => { w with substrun := inc16 w.substrun, substcnt := inc16 w.substcnt }) }
  | _ =>
    if p.wasOk then
      { updPath k (fun p => { p with last := none, wasOk := false, loss := some 1 }) s with
        r.pw := vupd s.r.pw k (fun w => { w with losscnt := inc16 w.losscnt }) }
        |> setTexp k none |> logEvent 0x0501 [(k : Int)]
        |> (fun (s : State) => onlyIf (decide (1 ≤ s.cat.snapmode)) (requestSnap k 1 0x0501) s)
    else updPath k (fun p => { p with loss := p.loss.map (· + 1) }) s

/-- An inverted interval (R235). -/
def isInverted (e : PathEval) : Bool := !e.valid.isEmpty && e.valid.all (·.neg)

/-- Inverted intervals of a path (R235); not while it is learning (R226). -/
def applyInversion (k : Nat) (o : PathOut) (e : PathEval) (s : State) : State :=
  if !o.learning && isInverted e then
    let was := (vget s.path k {}).wasInv
    let run := (vget s.r.pw k {}).invrun.toNat + 1
    let s : State := { updPath k (fun p => { p with wasInv := true }) s with
               r.pw := vupd s.r.pw k (fun w => { w with invrun := if run = 64 then 0 else sat 16 run, invcnt := inc16 w.invcnt }) }
    let s : State := if was then s else
      onlyIf (decide (1 ≤ s.cat.snapmode)) (requestSnap k 2 0x0503) (logEvent 0x0503 [(k : Int)] s)
    if run = 64 then
      updPath k (fun p => { p with tpl := vupd p.tpl (gasClass s) (fun t => t.map negateTemplate) }) s |> logEvent 0x0504 [(k : Int)]
    else s
  else { updPath k (fun p => { p with wasInv := false }) s with
         r.pw := vupd s.r.pw k (fun w => { w with invrun := 0 }) }

/-- The nearest 0.5 dB of 20 log10(0.5 V / A), within ±6 dB, as code steps (R201): the greatest n for which
(0.5 / A)^80 ≥ 10^(2n − 1). -/
def gainStep (a : Rat) : Int :=
  if a ≤ 0 then 12
  else
    let x := (1 / (2 * a)) ^ 80
    let p := fun (n : Int) => if 0 < n then (10 : Rat) ^ (2 * n - 1).toNat else 1 / (10 : Rat) ^ (1 - 2 * n).toNat
    (List.range 25).foldl (fun (b : Int) (i : Nat) => let n : Int := (i : Int) - 12; if p n ≤ x then n else b) (-12)

/-- The gain in force after an interval (R201). -/
def applyGain (k : Nat) (e : PathEval) (s : State) : State :=
  let p := vget s.path k {}
  let g := (vget s.r.path k {}).pathstatGain.toNat
  let clipped := p.pairs.any (fun q => [q.up, q.down].any (fun x => match x with | some x => x.clipped | none => false))
  let peaks := (e.valid.flatMap (·.shots)).map (·.peak)
  let step : Int := if clipped then -12 else if e.valid.isEmpty then 6 else gainStep (medianQ peaks)
  let new := BitVec.ofInt 8 (max 0 (min 120 ((g : Int) + step)))
  let atZero := clipped && g == 0
  let run := if atZero then p.clipRun + 1 else 0
  { updPath k (fun p => { p with clipRun := run }) s with
    r.path := vupd s.r.path k (fun w => { w with pathstatGain := new, pathstatClip := clipped
                                                 clipcnt := if atZero then inc16 w.clipcnt else w.clipcnt }) }
    |> onlyIf (run == 8) (logEvent 0x0406 [(k : Int)])

/-- The template of a path and class is copied to Archive SYSTEM (R228). -/
def copyTemplate (k c : Nat) (s : State) : State :=
  updPath k (fun p => { p with tpl := vupd p.tpl c (fun t => t.map (fun t => { t with fresh := false })) }) s |> addJob (.template k c)

/-- An echo from which the template adapts (R227). -/
def adapts (snrmin : Nat) (x : Shot) : Bool :=
  decide (98 / 100 ≤ x.rho) && (x.quiet || !snrBelow x.snr2 1 (snrmin + 12)) && decide (1 / 2 ≤ x.ratio ∧ x.ratio ≤ 2) && !x.inverted

/-- Adaptation after a valid interval (R227, R228). -/
def applyAdapt (k : Nat) (e : PathEval) (s : State) : State :=
  let l := (keptShots e).filter (adapts s.cat.flow.snrmin)
  let before := (templateOf k s).map (·.adapted / 4096)
  let s := updPath k (fun p => { p with tpl := vupd p.tpl (gasClass s) (fun t => t.map (fun t => l.foldl adaptTemplate t)) }) s
  let s := { s with r.pw := vupd s.r.pw k (fun w => { w with tpladapt := sat 16 (w.tpladapt.toNat + l.length) }) }
  if (templateOf k s).map (·.adapted / 4096) == before then s else copyTemplate k (gasClass s) s

/-- The amplitude trend after a valid interval (R246). -/
def applyTrend (k : Nat) (e : PathEval) (s : State) : State :=
  let p := vget s.path k {}
  let t := p.trend + (medianQ ((keptShots e).map (·.ratio)) - p.trend) / 1024
  let w := sat 16 (roundOpen (t * 256)).toNat
  let s : State := { updPath k (fun p => { p with trend := t }) s with
             r.pw := vupd s.r.pw k (fun x => { x with amptrend := w }) }
  if !p.low ∧ t < 1 / 2 then updPath k (fun p => { p with low := true }) s |> logEvent 0x050A [(k : Int), (w.toNat : Int)]
  else if p.low ∧ 6 / 10 ≤ t then updPath k (fun p => { p with low := false }) s |> logEvent 0x050B [(k : Int)]
  else s

/-- An echo that learning collects (R226). -/
def collects (snrmin : Nat) (x : Shot) : Bool :=
  x.reason.isNone && decide (0 < x.peak) && (x.quiet || !snrBelow x.snr2 1 snrmin)

/-- One echo goes to the collection, up and down alternately, 32 of each (R226). -/
def collect (l : Learning) (x : Shot) : Learning :=
  let own := if x.up then l.ups.length else l.downs.length
  let other := if x.up then l.downs.length else l.ups.length
  if 32 ≤ own ∨ other < own then l
  else if x.up then { l with ups := l.ups ++ [echoOf x.echo], peaks := l.peaks ++ [x.input] }
  else { l with downs := l.downs ++ [echoOf x.echo], peaks := l.peaks ++ [x.input] }

/-- A learning interval of a path (R226): the template is built from 64 echoes, or learning fails after 32 intervals. -/
def applyLearning (k : Nat) (s : State) : State :=
  let p := vget s.path k {}
  let shots := p.pairs.flatMap (fun q => [q.up, q.down].filterMap id)
  let l : Learning := (shots.filter (collects s.cat.flow.snrmin)).foldl collect (p.learning.getD { ups := [], downs := [] })
  let l : Learning := { l with intervals := l.intervals + 1 }
  let n : Nat := l.ups.length + l.downs.length
  if 64 ≤ n then
    let t := buildTemplate (l.ups ++ l.downs) l.peaks
    { updPath k (fun p => { p with learning := none, tpl := vupd p.tpl (gasClass s) (fun _ => some t), trend := 1, low := false }) s with
      r.pw := vupd s.r.pw k (fun w => { w with tpladapt := 0, amptrend := 0x100 }) }
      |> logEvent 0x0505 [(k : Int), (gasClass s : Int)] |> copyTemplate k (gasClass s)
  else if 32 ≤ l.intervals then
    updPath k (fun p => { p with learning := some { ups := [], downs := [] } }) s |> logEvent 0x0506 [(k : Int), (n : Int)]
  else updPath k (fun p => { p with learning := some l }) s

/-- The whole echo side of a path's interval, in the order status, inversion, gain, template. -/
def applyPath (k : Nat) (o : PathOut) (e : PathEval) (s : State) : State :=
  let bubble := o.status == 1 && (decide (0 < e.count .nostop) || decide (0 < e.count .amp) || decide (0 < e.count .unlock))
  let s := s |> applyStatus k o e
    |> onlyIf (o.status == 1 && !o.learning) (fun s => s |> applyAdapt k e |> applyTrend k e)
    |> applyInversion k o e |> applyGain k e
    |> onlyIf bubble (fun s => { s with r.pw := vupd s.r.pw k (fun w => { w with bubblecnt := inc16 w.bubblecnt }) })
  if o.learning then applyLearning k s else s

/-! ## Path words -/

/-- The integer part of log10 of a positive rational. -/
def floorLog10 : Nat → Rat → Int
  | 0, _ => 0
  | f + 1, q => if 10 ≤ q then 1 + floorLog10 f (q / 10) else if q < 1 then floorLog10 f (q * 10) - 1 else 0

/-- Median SNR of the remaining shots in 0.1 dB: 100 log10 of (A / n)², or the mean of two; its rounding is open (log 5).
None where a noise segment is all zero. -/
def snrWord (l : List Shot) : Option Int :=
  let t := sortQ ((l.filter (fun x => !x.quiet)).map (·.snr2))
  let n := t.length
  if l.any (·.quiet) ∨ n = 0 then none
  else
    let a := t.getD ((n - 1) / 2) 1
    let b := t.getD (n / 2) 1
    let q := (a * b) ^ 50
    let n := floorLog10 100000 q
    some (if q = (10 : Rat) ^ n.toNat then n else roundOpen ((n : Rat) + 1 / 2))

/-- Pairs fired in the interval, retries not counted. -/
def pairsFired (k : Nat) (s : State) : Nat :=
  if withheldPath k s then 0 else (((vget s.path k {}).fired.map (·.1)).dedup).length

/-- `PAIRSFIRED` of every path after an interval, whether or not its result finds a slot (R218). -/
def countFired (ks : List Nat) (s : State) : State :=
  ks.foldl (fun (s : State) (k : Nat) =>
    { s with r.path := vupd s.r.path k (fun w => { w with pairsfired := BitVec.ofNat 16 (pairsFired k s) }) }) s

/-- The path words of a result (Table 9.8). Words for which no pair gives a value are free (log 59). -/
def pathWords (k seq : Nat) (o : PathOut) (e : PathEval) (s : State) : State :=
  let f := fun (i : Nat) => Config.freeValue (s.free + i)
  let none_ := e.kept.isEmpty
  let n4 := fun (r : Reject) => BitVec.ofNat 4 (min 15 (e.count r))
  let shots := keptShots e
  let p := vget s.path k {}
  let fired := pairsFired k s
  let i48 := fun (j : Nat) (q : Rat) => if none_ then BitVec.ofNat 48 (f j) else BitVec.ofInt 48 (roundOpen q)
  let w16 := fun (j : Nat) (open_ : Bool) (q : Rat) => if open_ then BitVec.ofNat 16 (f j) else satI 17 (roundOpen q) |>.setWidth 16
  { s with
    free := s.free + 8
    r.pw := vupd s.r.pw k (fun w => { w with
      presStatus := BitVec.ofNat 3 o.status, presInv := !o.learning && isInverted e, presAcq := p.texp.isNone
      presTdconly := o.learning, presRetry := (p.pairs.any (fun q => [q.up, q.down].any (fun x => match x with | some x => x.retry | none => false)))
      presNvalid := BitVec.ofNat 4 (min 15 e.kept.length), presNfired := BitVec.ofNat 4 (min 15 fired), presSeq := BitVec.ofNat 16 seq
      dt := i48 0 (medDt e), tup := i48 1 (medTu e), tdown := i48 2 (medTd e)
      csound := sat 16 (roundOpen (o.c * 10)).toNat, vpath := satI 32 (roundOpen (o.v * 1000000))
      ampr := w16 3 (none_ || o.learning) (medianQ (shots.map (·.ratio)) * 256)
      snrdb := (match snrWord shots with | some n => satI 16 n | none => BitVec.ofNat 16 (f 4))
      rho := w16 5 (none_ || o.learning) (medianQ (shots.map (·.rho)) * 32768)
      madv := if none_ then BitVec.ofNat 16 (f 6) else sat 16 (roundOpen (e.mad / 10)).toNat
      rejaNostop := n4 .nostop, rejaClip := n4 .clip, rejaNoise := n4 .noise, rejaUnlock := n4 .unlock
      rejbSnr := n4 .snr, rejbAmp := n4 .amp, rejbInvmix := n4 .invmix, rejbCrange := n4 .crange, rejcMad := n4 .mad }) }

/-! ## The interval -/

/-- Water table of Table 9.4: °C and mm²/s × 1000. -/
def waterTable : List (Nat × Nat) :=
  [(0, 1792), (10, 1307), (20, 1004), (30, 801), (40, 658), (50, 553), (60, 474), (70, 413), (80, 365), (90, 326),
   (100, 295), (120, 248), (150, 203)]

/-- Linear interpolation in a table of points, clamped at its ends. -/
def tableAt (t : List (Nat × Nat)) (x : Rat) : Rat :=
  match t with
  | [] => 0
  | [p] => (p.2 : Rat)
  | p :: q :: rest =>
    if x ≤ (p.1 : Rat) then (p.2 : Rat)
    else if x ≤ (q.1 : Rat) then
      (p.2 : Rat) + ((q.2 : Rat) - (p.2 : Rat)) * (x - (p.1 : Rat)) / ((q.1 : Rat) - (p.1 : Rat))
    else tableAt (q :: rest) x

/-- Gas viscosity at 15 °C and 101 325 Pa, 0.1 mm²/s (Table 9.5). -/
def gasNu15 (m : Nat) : Nat := [148, 159, 173, 190, 239, 335, 595, 1020].getD m 0

/-- θ_m of Table 9.3 in °C. -/
def thetaMean (s : State) : Rat :=
  match s.tp.lastValid with
  | some t => if s.cat.profile == .verify && s.cat.temp.isNone then 20 else ((t.flow + t.ret : Int) : Rat) / 20000
  | none => 20

/-- θ used, °C, and ν in mm²/s (R238, Table 9.3). -/
def viscosity (s : State) : Rat × Rat :=
  if s.gas then
    let (th, p, _) := gasConditions s
    let t := th / 100
    let x := (t + 27315 / 100) / (28815 / 100)
    (t, (gasNu15 (gasRec (gasClass s) s).cmodel : Rat) / 10 * (x * sqrtQ x * sqrtQ (sqrtQ x)) * 101325 / ((max 1 p : Nat) : Rat))
  else
    let t := thetaMean s
    (t, tableAt waterTable t / 1000)

/-- D in mm (R238): `AREA` is in 0.01 mm². -/
def boreMm (s : State) : Rat := sqrtQ (4 * (s.cat.flow.area : Rat) / 100 / piQ)

/-- Re (R238): v̄ in m/s, D in mm, ν in mm²/s. -/
def reynolds (v nu : Rat) (s : State) : Rat := absQ v * 1000 * boreMm s / nu

/-- Q in mL/h (R239): k in 2^−24, `AREA` in 0.01 mm², v̄ in m/s; nearest integer, saturated. -/
def flowOf (k v : Rat) (s : State) : Int :=
  max (-2147483647) (min 2147483647 (roundNear (k / 16777216 * (s.cat.flow.area : Rat) * v * 36)))

/-- Weight of a path, in 2^−15. -/
def weight (k : Nat) (s : State) : Nat := s.cat.weights.getD k 0

/-- Interval status (R237). -/
def intervalStatus (os : List (Nat × PathOut)) (s : State) : Nat :=
  let l := os.filter (fun x => weight x.1 s != 0)
  if l.any (fun x => x.2.status == 3) then 3 else if l.any (fun x => x.2.status == 2) then 2 else 1

/-- v̄ of R236. -/
def meanVelocity (os : List (Nat × PathOut)) (s : State) : Rat :=
  sumQ (os.map (fun x => (weight x.1 s : Rat) / 32768 * x.2.v))

/-- c̄ of R244: the mean over the valid paths, none without one. -/
def meanSound (os : List (Nat × PathOut)) : Option Rat :=
  let l := os.filter (fun x => x.2.status == 1)
  if l.isEmpty then none else some (sumQ (l.map (fun x => x.2.c)) / (l.length : Rat))

/-- The cut-off state after an interval (R241). -/
def cutAfter (status : Nat) (q : Int) (s : State) : Bool :=
  let cut := s.r.gas.cutstatCut
  if status = 3 then cut
  else if cut then decide (q.natAbs * 100 < s.cat.flow.qcut * (100 + s.cat.flow.qcuthys))
  else decide (q.natAbs < s.cat.flow.qcut)

/-- The candidate class climbs (R244). -/
def classUp (c15 : Rat) (s : State) : Nat → Nat → Nat
  | 0, c => c
  | f + 1, c => if c < 7 ∧ ((gasRec (c + 1) s).c15min : Rat) * 1005 / 1000 ≤ c15 then classUp c15 s f (c + 1) else c

/-- The candidate class falls (R244). -/
def classDown (c15 : Rat) (s : State) : Nat → Nat → Nat
  | 0, c => c
  | f + 1, c => if 0 < c ∧ c15 < ((gasRec c s).c15min : Rat) * 995 / 1000 then classDown c15 s f (c - 1) else c

/-- The candidate class of R244; c15 in 0.1 m/s. -/
def candidate (c15 : Rat) (s : State) : Nat := classDown c15 s 8 (classUp c15 s 8 (gasClass s))

/-- c15 in 0.1 m/s (R244). -/
def c15Of (cm : Rat) (s : State) : Rat := cm * 10 * sqrtQ (28815 / ((gasConditions s).1 + 27315))

/-- Gas quality of a valid interval (R244). -/
def gasQuality (cm : Rat) (s : State) : State :=
  let c15 := c15Of cm s
  let w := sat 16 (roundOpen c15).toNat
  let below := decide (c15 < ((gasRec 0 s).c15min : Rat))
  let cand := candidate c15 s
  let n := if cand = gasClass s then 0
    else if s.r.gas.gasstatCand.toNat = cand then s.r.gas.gasstatCandn.toNat + 1 else 1
  let was := s.r.gas.gasstatBelow
  let s := { s with r.gas.gqiv := w, r.gas.gasstatValid := true, r.gas.gasstatBelow := below
                    r.gas.gasstatCand := BitVec.ofNat 3 cand, r.gas.gasstatCandn := BitVec.ofNat 2 (min 3 n) }
  let s := onlyIf (below && !was) (logEvent 0x0509 [(w.toNat : Int)]) s
  if n = 3 then
    { s with fl.newClass := some cand, r.gas.classchg := inc16 s.r.gas.classchg }
      |> writeObject 0x0A |> logEvent 0x0508 [(gasClass s : Int), (cand : Int), (w.toNat : Int)]
  else s

/-- Fast sequence after a posted result (R216). -/
def fastSequence (status : Nat) (q : Int) (s : State) : State :=
  if status = 1 ∧ s.cat.flow.qfast ≠ 0 ∧ s.cat.flow.qfast < q.natAbs then
    if s.ps.fast then { s with ps.fastTimer := s.now }
    else
      let s := { s with ps.fast := true, ps.fastTimer := s.now, ps.fastFrom := s.now, r.drv.fastcnt := inc16 s.r.drv.fastcnt }
      regrid s.now s
  else s

/-- The result goes to a result slot, unless both are unacknowledged: its number is then consumed and nothing is written
(R21, R242). -/
def postResult (status : Nat) (q qint : Int) (time mono : Nat) (write : State → State) (s : State) : State :=
  let seq := s.fl.seq % 65536
  let s := { s with fl.seq := (s.fl.seq + 1) % 65536 }
  if 2 ≤ s.fl.slots.length then s
  else
    let s := write s
    { s with fl.slots := s.fl.slots ++ [{ seq, status, qint, time, mono, posted := s.tl.monoUs }], fl.lastPosted := some s.tl.monoUs
             r.io.hirqFres := true }
      |> fillXb (0x100 + 0x400 * (seq % 2)) 0x400 |> fastSequence status q

/-- The interval words of Table 9.7. -/
def intervalWords (seq status : Nat) (tdconly cut : Bool) (q qint : Int) (v re k nu th : Rat) (cm gqi : Option Rat) (time : Nat)
    (os : List (Nat × PathOut)) (s : State) : State :=
  let (x, s) := draw s
  let mask := fun (n : Nat) => BitVec.ofNat 4 (maskOf ((os.filter (fun o => o.2.status == n)).map (·.1)))
  let fast := match s.ps.run with | some r => r.fast && (s.cat.step r.step).fast != 0 | none => false
  let cmean := match cm with | some c => sat 16 (roundOpen (c * 10)).toNat | none => BitVec.ofNat 16 x
  { s with r.flow := { s.r.flow with
      fresStatus := BitVec.ofNat 3 status, fresCut := cut, fresFast := fast, fresTdconly := tdconly
      fresPathval := mask 1, fresPathsub := mask 2, fresPathlost := mask 3, fresSeq := BitVec.ofNat 16 seq
      qraw := BitVec.ofInt 32 q, qint := BitVec.ofInt 32 qint, vmean := satI 32 (roundOpen (v * 1000000))
      reyn := sat 32 (roundOpen re).toNat, kfac := sat 32 (roundNear k).toNat, nuvisc := sat 32 (roundOpen (nu * 1000)).toNat
      thetam := satI 16 (roundOpen (th * 100)), cmean, gqi := (match gqi with | some c => sat 16 (roundOpen c).toNat | none => 0)
      frtime := BitVec.ofNat 48 time } }

/-- A snapshot whose two shots are captured is handed to the Curator through the handshake words, as a group that will be committed
(R321). -/
def handSnap (k seq : Nat) (s : State) : State :=
  let p := vget s.path k {}
  match p.snap, p.snapUp, p.snapDown with
  | some q, some u, some d =>
    let c := s.cat.pathRec k
    let time := match s.ps.run with | some x => (x.first.map (·.1)).getD (tltime s) | none => tltime s
    let head := leBytes 1 q.trig ++ leBytes 1 k ++ leBytes 1 (gasClass s) ++ leBytes 2 q.event ++ leBytes 2 seq ++ leBytes 6 time
      ++ leBytes 1 (rateK k s) ++ leBytes 1 (vget s.r.path k {}).pathstatGain.toNat ++ leBytes 2 (freqNow k s) ++ leBytes 1 c.wave
      ++ leBytes 1 c.thresh ++ leBytes 1 (if pathSeq k s then 1 else 0) ++ leBytes 3 0 ++ leBytes 4 u.start ++ leBytes 4 u.nfh
      ++ leBytes 4 d.start ++ leBytes 4 d.nfh ++ leBytes 8 u.hit ++ leBytes 8 d.hit ++ leBytes 4 (tcoarse s) ++ leBytes 192 0
    let bits := (u.codes ++ d.codes).foldr (fun v (n : Nat) => n * 16384 + v % 16384) 0
    let samples := leBytes 14336 bits
    let bytes := 0 :: head ++ leBytes 4 (crc32 (head ++ samples)).toNat ++ samples
    updPath k (fun p => { p with snap := none, snapUp := none, snapDown := none }) s
      |> fillXb 0x20 4 |> addJob (.snapshot { trig := q.trig, path := k, event := q.event, seq, time, cls := gasClass s, bytes })
  | _, _, _ => s

/-- Everything that one action-0 interval gives (R233 to R246): path results, the interval result, and its posting. -/
def postInterval (s : State) : State :=
  let seq := s.fl.seq % 65536
  let ks := pathsOf s
  let (x, s) := draw s
  let evs := ks.map (fun k => (k, intervalEval k s))
  let os := evs.map (fun y => (y.1, pathOutcome y.1 y.2 (x : Rat) s))
  let status := intervalStatus os s
  let (th, nu) := viscosity s
  let v := if status = 3 then 0 else meanVelocity os s
  let re := if status = 3 then 0 else reynolds v nu s
  let k := tableAt s.cat.kre re
  let q := if status = 3 then 0 else flowOf k v s
  let cut := cutAfter status q s
  let qint := if cut then 0 else q
  let tdconly := os.any (fun y => weight y.1 s != 0 && y.2.learning)
  let cm := meanSound os
  let (time, mono) := match s.ps.run with
    | some r => r.first.getD (tltime s, s.tl.monoUs)
    | none => (tltime s, s.tl.monoUs)
  let cq := if s.gas && status == 1 && !tdconly then cm else none
  let gqi := cq.map (fun c => c15Of c s)
  let quality := fun (s : State) => match cq with | some c => gasQuality c s | none => s
  let words := fun (s : State) => (evs.zip os).foldl (fun (s : State) y => pathWords y.1.1 seq y.2.2 y.1.2 s)
    (intervalWords seq status tdconly cut q qint v re k nu th cm gqi time os s)
  let s := (ks.foldl (fun (s : State) (k : Nat) => handSnap k seq s) s)
  let s := postResult status q qint time mono words (countFired ks { s with r.gas.cutstatCut := cut })
  (evs.zip os).foldl (fun (s : State) y => applyPath y.1.1 y.2.2 y.1.2 s) (quality s)

/-- An action-0 interval whose pairs are complete: every planned shot is fired and processed, or none is to be fired
because the boost failed or every path is withheld (R242, R448). -/
def intervalComplete (s : State) : Bool :=
  match s.ps.run with
  | some r =>
    r.boostFail || ((firings s).all (fun x => x.2.2.all (fun up => (getShot x.1 x.2.1 up s).isSome))
      && (runPaths s).all (fun k => (vget s.path k {}).retried.all (fun x =>
            match getShot k x.1 x.2 s with | some y => y.retry | none => false)))
  | none => false

/-! ## The zero check -/

/-- Pairs of one assignment of a path's zero check, with h = 0 (R231, R243). -/
def zeroEval (k : Nat) (swapped : Bool) (s : State) : PathEval :=
  medianTest s.cat.flow.madk
    (((vget s.path k {}).pairs.filter (fun p => p.swapped == swapped)).map (evalPair k 0 (templateOf k s).isNone s))

/-- The result of a zero check on one path (R243); words without pairs are free (log 59). -/
def zeroPath (k time : Nat) (s : State) : State :=
  let n := zeroEval k false s
  let w := zeroEval k true s
  let ok := decide (s.cat.flow.minvalid ≤ n.kept.length) && decide (s.cat.flow.minvalid ≤ w.kept.length)
  let d := (medDt n - medDt w) / 2
  let f := fun (i : Nat) => BitVec.ofNat 32 (Config.freeValue (s.free + i))
  let ps := fun (q : Rat) => satI 32 (roundOpen (q / 10))
  let none_ := n.kept.isEmpty || w.kept.isEmpty
  let old := (vget s.path k {}).chofs
  let s := { s with
    free := s.free + 3
    r.zero := vupd s.r.zero k (fun z => { z with
      zstatAccept := ok, zstatNvaln := BitVec.ofNat 4 (min 15 n.kept.length), zstatNvals := BitVec.ofNat 4 (min 15 w.kept.length)
      zseq := z.zseq + 1, dtn := if n.kept.isEmpty then f 0 else ps (medDt n), dts := if w.kept.isEmpty then f 1 else ps (medDt w)
      zofs := if none_ then f 2 else ps d, ztime := BitVec.ofNat 48 time }) }
  let s := fillXb 0x900 0x200 s
  if ok then
    { updPath k (fun p => { p with chofs := d }) s with r.pw := vupd s.r.pw k (fun x => { x with chofs := ps d }) }
      |> onlyIf (decide (10000 < absQ (d - old))) (logEvent 0x050C ((k : Int) :: w32 (ps old).toNat ++ w32 (ps d).toNat))
      |> onlyIf (d != old) (writeObject 0x0A)
  else logEvent 0x050D [(k : Int), (n.kept.length : Int), (w.kept.length : Int)] s

/-! ## Meanings -/

/-- INTERVAL_RESULT_POST (R233 to R242): the result, then the port check when it is due (R208), then the seat. -/
def execIntervalResultPost (checks : List PortCheck) (s : State) : Host.Outcome State Fault Refusal :=
  if !shotStep s || runAction s != 0 || !intervalComplete s then .next s
  else
    let none_ := match s.ps.run with | some r => r.first.isNone | none => true
    done (onlyIf none_ beginInterval s |> postInterval |> portChecks checks |> endShots)

/-- ZERO_CHECK_RESULT (R243): each path of the step that is not withheld. -/
def execZeroCheckResult (s : State) : Host.Outcome State Fault Refusal :=
  if !shotStep s || runAction s != 5 || !intervalComplete s then .next s
  else
    let time := match s.ps.run with | some x => (x.first.map (·.1)).getD (tltime s) | none => tltime s
    done (endShots ((runPaths s).foldl (fun (s : State) (k : Nat) => zeroPath k time s) s))

/-- Templates of a path, of whatever class, that have adapted since their last copy are copied (R228). -/
def copyFresh (k : Nat) (s : State) : State :=
  (List.range 8).foldl (fun (s : State) (c : Nat) =>
    onlyIf ((vget (vget s.path k {}).tpl c none).any (·.fresh)) (copyTemplate k c) s) s

/-- TEMPLATE_DAILY_COPY (R228): templates adapted since their last copy. -/
def execTemplateDailyCopy (s : State) : Host.Outcome State Fault Refusal :=
  if !s.timed then .next s
  else done ((pathsOf s).foldl (fun (s : State) (k : Nat) => copyFresh k s) s)

end Sys2Proof.Machine
end

