-- ==== Sys2Proof/Machine/Temperature.lean ====
section
/-! DEFINITION. The temperature measurement (R249 to R263): means and faults, resistance and temperature, the result, and
the swap of flow and return. -/

namespace Sys2Proof.Machine

/-! ## From discharges to means -/

/-- What a discharge gives (R250, R254): its time in fs, or the fault its cause counts toward. -/
def discharge (d : Discharge) (s : State) : Rat ⊕ Nat :=
  if d.servoLimit then .inr (if fourWire d.ch s then 5 else 1)
  else match d.stop with
  | none => .inr 1
  | some r => if r.short then .inr 2 else if r.sat then .inr 1 else .inl (stopTime r.x s)

/-- The discharges of a plan as they were reported, in its order; one that is missing gave no stop (R252). -/
def inPlan (plan : List (Nat × Bool)) (ds : List Discharge) : List Discharge :=
  (List.range plan.length).map (fun i =>
    let (n, half) := plan.getD i (4, false)
    match ds[i]? with
    | some d => if d.ch = n ∧ d.half = half then d else { ch := n, half, stop := none, servoLimit := false }
    | none => { ch := n, half, stop := none, servoLimit := false })

/-- The discharges of the measurement in progress, with those at whose end the servo had stood at its limit for 2 µs marked
sense-open (R250). -/
def measured (limits : List Nat) (s : State) : List Discharge :=
  (List.range s.tp.got.length).map (fun i =>
    let d := s.tp.got.getD i ⟨4, false, none, false⟩
    { d with servoLimit := d.servoLimit || limits.contains i })

/-- Usable times of the discharges of a kind. -/
def usableTimes (ds : List Discharge) (ch : Nat) (half : Bool) (s : State) : List Rat :=
  (ds.filter (fun d => d.ch == ch && d.half == half)).filterMap (fun d =>
    match discharge d s with | .inl t => some t | .inr _ => none)

/-- The mean of R254; none with fewer than ceil(`AVG` / 2) usableTimes discharges. -/
def meanTime (l : List Rat) (avg : Nat) : Option Rat :=
  if l.length < ceilDiv avg 2 ∨ l.isEmpty then none else some (sumQ l / (l.length : Rat))

/-- The cause that affected the most discharges of a channel, ties in the order of Table 10.1 (R254). -/
def mostCause (ds : List Discharge) (ch : Nat) (s : State) : Nat :=
  let n := fun (c : Nat) => (ds.filter (fun d => d.ch == ch && (match discharge d s with | .inr x => x == c | .inl _ => false))).length
  ([1, 2] : List Nat).foldl (fun b c => if n b < n c then c else b) 5

/-- ln 3 / ln 2 (log 52). -/
def log2of3 : Rat := 158496250072115618145 / 100000000000000000000

/-- The reference of a measurement: its fault, δ in fs, and t_a − δ (R255, R258). -/
def reference (ds : List Discharge) (avg : Nat) (s : State) : Nat × Option (Rat × Rat) :=
  match meanTime (usableTimes ds 4 false s) avg, meanTime (usableTimes ds 4 true s) avg with
  | some a, some b =>
    let delta := a - (a - b) * log2of3
    let t := a - delta
    (if delta < 0 ∨ 500000000 < delta then 7 else if t < 87890000000 then 2 else if 131830000000 < t then 4 else 0, some (delta, t))
  | _, _ => (mostCause ds 4 s, none)

/-! ## Resistance and temperature -/

/-- R0 of `PROBE`, in mΩ. -/
def probeR0 (s : State) : Nat := [100000, 500000, 1000000].getD s.cat.t.probe 1000000

/-- Coefficients e_n and s_n of a channel, in 0.1 ppm, from a bound probe set; none where it carries none (R257). -/
def coefs (n : Nat) (s : State) : Option (Int × Int) :=
  match s.cat.modRec 2 with
  | some m =>
    let b := calBlock 2 s
    if m.bind = 1 ∧ b ≠ [] ∧ (u8 b 0).testBit n then some (i16 b (4 + 4 * n), i16 b (6 + 4 * n)) else none
  | none => none

/-- IEC 60751 constants of R257. -/
def iecA : Rat := 39083 / 10000000

/-- B. -/
def iecB : Rat := -5775 / 10000000000

/-- C. -/
def iecC : Rat := -4183 / 1000000000000000

/-- Newton refinement below W = 1 (R257), at most `n` steps. -/
def newton (w a : Rat) : Nat → Rat → Rat
  | 0, t => t
  | n + 1, t =>
    let f := 1 + a * t + iecB * t * t + iecC * (t - 100) * t ^ 3 - w
    let d := a + 2 * iecB * t + iecC * (4 * t ^ 3 - 300 * t * t)
    let step := f / d
    let t := cutQ (t - step)
    if absQ step < 1 / 100000 then t else newton w a n t

/-- θ in °C from W and A_n (R257). -/
def thetaOf (w a : Rat) : Rat :=
  let t := (-a + sqrtQ (a * a - 4 * iecB * (1 - w))) / (2 * iecB)
  if 1 ≤ w then t else newton w a 4 t

/-- What one enabled probe channel gives: fault, ratio, R in mΩ, θ in 0.1 mK when it passes. -/
structure ProbeEval where
  fault : Nat
  ratio : Option Rat := none
  res : Option Rat := none
  theta : Option Int := none

/-- One probe channel under a reference that passes (R255 to R258). -/
def evalProbe (ds : List Discharge) (avg n : Nat) (delta tref : Rat) (s : State) : ProbeEval :=
  match meanTime (usableTimes ds n false s) avg with
  | none => { fault := mostCause ds n s }
  | some t =>
    let ratio := (t - delta) / tref
    let r := ratio * 1000000 - (if fourWire n s then 0 else ((s.cat.t.leadr.getD n 0 : Nat) : Rat))
    let r0 : Rat := (probeR0 s : Nat)
    let f := if r < r0 / 2 then 2 else if r0 * 175856 / 100000 < r then 4 else if r < r0 * 80306 / 100000 then 3 else 0
    let (e, sl) := (coefs n s).getD (0, 0)
    let w := r / (r0 * (1 + (e : Rat) / 10000000))
    { fault := f, ratio := some ratio, res := some r
      theta := if f = 0 then some (roundNear (thetaOf w (iecA * (1 + (sl : Rat) / 10000000)) * 10000)) else none }

/-! ## The channel words -/

/-- `NOCOEF`: a channel measured used e = s = 0 (R257). -/
def noCoef (s : State) : Bool := (measuredChannels s).any (fun n => (coefs n s).isNone)

/-- A word of a channel that has no mean is free (log 62). -/
def orFree (i : Nat) (q : Option Rat) (s : State) : BitVec 32 :=
  match q with | some q => sat 32 (roundOpen q).toNat | none => BitVec.ofNat 32 (Config.freeValue (s.free + i))

/-- Words of TREF. -/
def refWords (ds : List Discharge) (avg : Nat) (s : State) : State :=
  let f := (reference ds avg s).1
  let l := usableTimes ds 4 false s
  { s with
    free := s.free + 1
    r.tch := vupd s.r.tch 4 (fun w => { w with
      tchstatFault := BitVec.ofNat 4 f, tchstatEn := true, tchstatFourw := true, tchstatNuse := sat 7 l.length
      tchtime := orFree 0 ((meanTime l avg).map (· / 1000)) s, tchratio := 0, tchres := 1000000
      tfailcnt := if f = 0 then 0 else inc16 w.tfailcnt }) }

/-- Words of one probe channel; `p` is none under a reference fault, and the channel keeps what it last had (R258). -/
def probeWords (ds : List Discharge) (avg n : Nat) (p : Option ProbeEval) (s : State) : State :=
  let l := usableTimes ds n false s
  let (e, sl) := (coefs n s).getD (0, 0)
  { s with
    free := s.free + 3
    r.tch := vupd s.r.tch n (fun w =>
      let w := { w with tchstatEn := true, tchstatFourw := fourWire n s, tchstatNuse := sat 7 l.length
                        tchtime := orFree 0 ((meanTime l avg).map (· / 1000)) s
                        tcoefe := BitVec.ofInt 16 e, tcoefs := BitVec.ofInt 16 sl }
      match p with
      | none => w
      | some p => { w with tchstatFault := BitVec.ofNat 4 p.fault
                           tchratio := orFree 1 (p.ratio.map (· * 268435456)) s, tchres := orFree 2 p.res s
                           tfailcnt := if p.fault = 0 then 0 else inc16 w.tfailcnt }) }

/-- What a measurement gives: the reference fault, δ, and each channel measured unless the reference failed. -/
def evalMeasure (ds : List Discharge) (avg : Nat) (s : State) : Nat × Option Rat × List (Nat × Option ProbeEval) :=
  let (f, r) := reference ds avg s
  (f, r.map (·.1), (measuredChannels s).map (fun n =>
    (n, match f, r with | 0, some (d, t) => some (evalProbe ds avg n d t s) | _, _ => none)))

/-- The channel words of a measurement (Table 10.4). -/
def channelWords (ds : List Discharge) (avg : Nat) (s : State) : State :=
  let (_, _, ps) := evalMeasure ds avg s
  ps.foldl (fun s p => probeWords ds avg p.1 p.2 s)
    (refWords ds avg { s with r.tch := Vector.ofFn (fun (i : Fin 5) => { s.r.tch[i] with
                                tchstatEn := i.val == 4 || (measuredMask s).testBit i.val }) })

/-- `FAULT` of a channel word. -/
def tempFault (n : Nat) (s : State) : Nat := (vget s.r.tch n {}).tchstatFault.toNat

/-- Events of a measurement in operation (R258), against the faults before it. -/
def tempEvents (old : List Nat) (s : State) : State :=
  let s := ([0, 1, 2, 3] : List Nat).foldl (fun (s : State) (n : Nat) =>
    let a := old.getD n 0
    let b := tempFault n s
    if a = 0 ∧ b ≠ 0 then logEvent 0x0701 [(n : Int), (b : Int)] s
    else if a ≠ 0 ∧ b = 0 then logEvent 0x0702 [(n : Int)] s
    else s) s
  let a := old.getD 4 0
  let b := tempFault 4 s
  let s := { s with r.flt.unavail := if b = 0 then s.r.flt.unavail &&& 7 else s.r.flt.unavail ||| 8 }
  if b ≠ 0 ∧ a ≠ b then logEvent 0x0705 ((b : Int) :: w32 (vget s.r.tch 4 {}).tchtime.toNat) s
  else if a ≠ 0 ∧ b = 0 then logEvent 0x0702 [4] s
  else s

/-! ## The result -/

/-- The swapped assignment is in use (R262). -/
def swapActive (s : State) : Bool := s.tp.swap == .swapped

/-- A swap has been detected. -/
def swapDetected (s : State) : Bool := s.tp.swap != .assigned

/-- `TMPSTAT.HALT` (Table 10.2). -/
def swapHalt (s : State) : Bool := s.tp.swap == .flagged && s.cat.t.swappol == 2

/-- Channels of flow and return under the assignment in use. -/
def assignment (s : State) : Nat × Nat :=
  if swapActive s then (s.cat.t.retch, s.cat.t.flowch) else (s.cat.t.flowch, s.cat.t.retch)

/-- Words of a posted result (Table 10.3). θ of a side that did not pass is free (log 62); so is `TRDELAY` where δ does not fit
its field (log 60). -/
def resultWords (avg : Nat) (delta : Option Rat) (thetas : List (Nat × Int)) (s : State) : State :=
  let at_ := fun (n : Nat) => (thetas.find? (fun x => x.1 == n)).map (·.2)
  let (a, b) := assignment s
  let f := fun (i : Nat) => BitVec.ofNat 32 (Config.freeValue (s.free + i))
  let w := fun (i : Nat) (t : Option Int) => match t with | some t => BitVec.ofInt 32 t | none => f i
  let dt := match at_ a, at_ b with | some x, some y => some (x - y) | _, _ => none
  let fits := delta.filter (fun d => decide (0 ≤ d ∧ d ≤ 655350000))
  { s with
    free := s.free + 4
    r.tmp.tmpstatNocoef := noCoef s
    r.tblk := { s.r.tblk with
      tresStatus := if dt.isSome then 1 else 2
      tresSwapact := swapActive s, tresSwapdet := swapDetected s, tresHalt := swapHalt s, tresNocoef := noCoef s
      tresChval := BitVec.ofNat 4 (maskOf (thetas.map (·.1))), tresChen := BitVec.ofNat 4 (measuredMask s)
      tresSeq := s.r.tblk.tresSeq + 1
      thflow := w 0 (at_ a), thret := w 1 (at_ b), deltat := w 2 dt
      thn := Vector.ofFn (fun (n : Fin 4) => match at_ n.val with | some t => BitVec.ofInt 32 t | none => 0x80000000)
      trtime := BitVec.ofNat 48 s.tp.startT
      trdelay := (match fits with | some d => sat 16 (roundOpen (d / 10000)).toNat | none => BitVec.ofNat 16 (Config.freeValue (s.free + 3)))
      travg := BitVec.ofNat 8 avg, trdur := sat 32 ((s.tl.monoUs - s.tp.started) * 1000) }
    r.tmp.tmeascnt := inc16 s.r.tmp.tmeascnt
    r.io.hirqTres := true }

/-- The result as the Registrar reads it (R259). -/
def keepResult (thetas : List (Nat × Int)) (s : State) : State :=
  let (a, b) := assignment s
  let at_ := fun (n : Nat) => (thetas.find? (fun x => x.1 == n)).map (·.2)
  let x : TempResult := { seq := s.r.tblk.tresSeq.toNat, valid := (at_ a).isSome && (at_ b).isSome, halt := swapHalt s
                          flow := (at_ a).getD 0, ret := (at_ b).getD 0, theta := thetas, posted := s.tl.monoUs, time := s.tp.startT }
  { s with tp.prev := s.tp.last, tp.last := some x
           tp.lastValid := if x.valid then some x else s.tp.lastValid
           tp.lastT0 := if (at_ 0).isSome then some x else s.tp.lastT0 }
    |> fillXb (0xB00 + 0x100 * (x.seq % 2)) 0x100
/-! ## Swapped flow and return -/

/-- A flow result qualifies a temperature result (R261). -/
def swapQualifies (s : State) : Bool :=
  (match s.fl.lastPosted with | some t => decide (s.tl.monoUs ≤ t + 2 * actionInterval 0 s) | none => false)
    && (s.r.flow.fresStatus == 1 || s.r.flow.fresStatus == 2) && !s.r.flow.fresCut && decide (0 < s.r.flow.qint.toInt)

/-- Evidence of a ΔT in 0.1 mK (R261): wrong sign, right sign, or neither. -/
def swapEvidence (p : Profile) (dt : Int) : Option Bool :=
  match p with
  | .heat => if dt < -2000 then some true else if 2000 < dt then some false else none
  | .cool => if 2000 < dt then some true else if dt < -2000 then some false else none
  | _ => none

/-- The swap state changes, both counts cleared, and is copied to Archive SYSTEM (R262). -/
def setSwap (x : SwapState) (s : State) : State :=
  { s with tp.swap := x, r.tmp.swaprun := 0, r.tmp.swapok := 0 } |> writeObject 0x0A

/-- Codes of `TMPSTAT.STATE`. -/
def SwapState.code : SwapState → Nat | .assigned => 0 | .flagged => 1 | .swapped => 2

/-- Table 10.2 once a count has moved; `dt` is ΔT in 0.1 mK. -/
def swapStep (dt : Int) (s : State) : State :=
  let run := s.r.tmp.swaprun.toNat
  let ok := s.r.tmp.swapok.toNat
  match s.tp.swap with
  | .assigned =>
    if run = 16 then
      { setSwap (if s.cat.t.swappol = 1 then .swapped else .flagged) s with r.tmp.swapcnt := inc16 s.r.tmp.swapcnt }
        |> writeObject 0x0B |> logEvent 0x0703 ((s.cat.t.swappol : Int) :: w32 (BitVec.ofInt 32 dt).toNat)
    else s
  | .flagged => if ok = 16 then setSwap .assigned s |> logEvent 0x0704 [1] else s
  | .swapped => if run = 16 then setSwap .assigned s |> logEvent 0x0704 [2] else s

/-- A valid result is examined (R261, R262). -/
def examineSwap (s : State) : State :=
  match s.tp.last with
  | some t =>
    let dt := t.flow - t.ret
    match if t.valid && swapQualifies s then swapEvidence s.cat.profile dt else none with
    | some true => swapStep dt { s with r.tmp.swaprun := inc16 s.r.tmp.swaprun, r.tmp.swapok := 0 }
    | some false => swapStep dt { s with r.tmp.swapok := inc16 s.r.tmp.swapok, r.tmp.swaprun := 0 }
    | none => s
  | none => s

/-! ## Meaning -/

/-- TEMPERATURE_RESULT_POST (R252, R254 to R262): the last discharge of the measurement is over. `limits` names the discharges at
which the servo stood at its limit, by their place in the measurement. -/
def execTemperatureResultPost (limits : List Nat) (s : State) : Host.Outcome State Fault Refusal :=
  if !measuringTemp s || s.flt.proc.isSome || s.pw.st != .run || (nextDischarge s).isSome then .next s
  else
    let avg := s.cat.t.avg
    let ds := measured limits s
    let old := s.r.tch.toList.map (fun w => w.tchstatFault.toNat)
    let (_, delta, ps) := evalMeasure ds avg s
    let thetas := ps.filterMap (fun p => (p.2.bind (·.theta)).map (fun t => (p.1, t)))
    done (s |> channelWords ds avg |> tempEvents old |> resultWords avg delta thetas |> keepResult thetas |> examineSwap
      |> endTemperature)

end Sys2Proof.Machine
end

