-- ==== Sys2Proof/Machine/Registrar.lean ====
section
/-! DEFINITION. The Registrar's commands: the doorbell, minute seals, lockstep recovery (R266), availability bins (R284)
and pressure readings (R279, R435). -/

namespace Sys2Proof.Machine

/-- The Registrar executes: operating, not stopped, no guaranteed procedure under way. -/
def regRuns (s : State) : Bool := s.operating && !s.rg.stopped && s.flt.proc.isNone

/-- The shadow copy that R96 selects among the shadow copies alone. -/
def keptShadow (s : State) : Option Accession :=
  let k := fun (x : Option Accession) => if shadowKept x s then x else none
  newerOf (k s.rg.sh1) (k s.rg.sh2)

/-- Steps 3 to 5 of R266: REG RAM comes back from the kept shadow copy, a full record of kind 0x0A is
sealed, and the result stays in its slot for the next integration. What is no part of a shadow copy is kept (log 63), and the audit
counter does not decrease (R81). -/
def restoreFromShadow (seq : Nat) (s : State) : State :=
  { s with rg.legal := match keptShadow s with
             | some a => { a.legal with aseal := max a.legal.aseal s.rg.legal.aseal, audit := max a.legal.audit (auditFloor s) }
             | none => s.rg.legal }
    |> sealFull 0x0A seq s.r.rgr.lsmis.toNat

/-- A recovery of the Registrar (R266, R295, R452): within the limits it is restored; a second one on the same result, or a
third within 86 400 s of `TLMONO`, logs 0x0802 and enters safe-beacon. -/
def regRecover (s : State) : State :=
  let busy := s.fl.slots.head?
  let seq := match busy with | some f => f.seq | none => s.rg.legal.fseq.getD 0
  let recent := s.rg.lsHist.filter (fun x => decide (tlmono s < x.1 + 86400))
  let again := busy.isSome && recent.any (fun x => x.2 == seq)
  let s := { s with rg.lsHist := (tlmono s, if busy.isSome then seq else 65536) :: recent }
  if again || decide (2 ≤ recent.length) then
    logEvent 0x0802 [(s.r.rgr.lsmis.toNat : Int)] s |> enterSafeBeacon 0x0802 false
  else restoreFromShadow seq s

/-- Sequence number of the result that the Registrar processes. -/
def regSeq (s : State) : Int :=
  match s.fl.slots.head? with | some f => (f.seq : Int) | none => ((s.rg.legal.fseq.getD 0 : Nat) : Int)

/-- The newest bin closes and another opens (R284). -/
def closeBin (s : State) : State :=
  let d := avDef s
  { s with rg.bins := ({} :: s.rg.bins).take 30, rg.binStart := s.rg.binStart + 86400000000 }
    |> onlyIf (decide (100 < d)) (logEvent 0x080B [(min d 65535 : Nat)])

/-! ## Pressure -/

/-- The pressure of a raw value (R435): raw × `PGAIN` × 2^−24 + `POFS`. -/
def pressureOf (raw : BitVec 32) (cal : List Byte) : Rat :=
  (raw.toNat : Rat) * (u32 cal 8 : Rat) / 16777216 + (((BitVec.ofNat 32 (u32 cal 4)).toInt : Int) : Rat)

/-- A reading of MP3: none when the module gives no answer, its port is without a pressure module, or its status byte reports
an error. -/
def pressureReading (answer : Option (BitVec 32 × Byte)) (s : State) : Option Rat × Bool :=
  let cal := calBlock 3 s
  let usable := (vget s.r.mp 3 {}).mpstatClass == 3 && decide (12 ≤ cal.length)
  match answer with
  | some (raw, st) => if usable then (some (pressureOf raw cal), st == 0 && !s.r.flt.unavail.getLsbD 2) else (none, false)
  | none => (none, false)

/-- A reading is posted to the exchange bank with its own sequence number (R279). -/
def putPressure (pa : Nat) (valid : Bool) (s : State) : State :=
  let x : Pressure := { seq := s.rg.pseq, pa, valid, at_ := s.tl.monoUs }
  { s with rg.pressure := some x, rg.lastValidP := if valid then some x else s.rg.lastValidP
           rg.pseq := (s.rg.pseq + 1) % 65536, r.rgr.prstatValid := valid }
    |> fillXb (0xD00 + 0x40 * (x.seq % 2)) 0x40

/-- A reading is posted (R279): valid from 50 000 Pa to 2 000 000 Pa without an error; otherwise 0x080A, whose item is a free
value where there is no reading or it does not fit 32 bits (log 65). -/
def postPressure (p : Option Rat) (good : Bool) (s : State) : State :=
  let (v, s) := draw s
  match p with
  | some q =>
    if good && decide (50000 ≤ q) && decide (q ≤ 2000000) then putPressure (roundOpen q).toNat true s
    else
      let item := if 0 ≤ q ∧ q < 4294967295 then (roundOpen q).toNat else v
      putPressure item false s |> logEvent 0x080A (w32 item)
  | none => putPressure v false s |> logEvent 0x080A (w32 v)

/-- Work for which unit 4 holds its seat is a pressure reading. -/
def readingPressure (s : State) : Bool := match heldWork 4 s with | some (.pressure _) => true | _ => false

/-! ## Meanings -/

/-- PRESSURE_READ (R279, R435). -/
def execPressureRead (answer : Option (BitVec 32 × Byte)) (s : State) : Host.Outcome State Fault Refusal :=
  if !readingPressure s || s.flt.proc.isSome || s.pw.st != .run then .next s
  else
    let (p, good) := pressureReading answer s
    done (postPressure p good s
      |> fun s => { s with mp := vupd s.mp 3 (fun m => { m with vson := false }) } |> domOff [.mod] |> endStep 4)

/-- REGISTRAR_INTEGRATE (R268). -/
def execRegistrarIntegrate (s : State) : Host.Outcome State Fault Refusal :=
  if !regRuns s || s.fl.slots.isEmpty || s.pw.st != .run then .next s
  else done (integrateSlot { s with rg.lsHist := s.rg.lsHist.map (fun x => (x.1, 65536)) })

/-- MINUTE_SEAL_TIMEOUT (R286): the minutes that have ended are sealed. -/
def execMinuteSealTimeout (s : State) : Host.Outcome State Fault Refusal :=
  if !regRuns s then .next s else onTimer (fun s => sealUpTo (civMin s) s) s

/-- LOCKSTEP_DISAGREEMENT (R266). -/
def execLockstepDisagreement (s : State) : Host.Outcome State Fault Refusal :=
  if !regRuns s || s.pw.st != .run then .next s
  else done (logEvent 0x0801 [regSeq s] s |> (fun s => { s with r.rgr.lsmis := inc16 s.r.rgr.lsmis }) |> regRecover)

/-- AVAILABILITY_BIN_CLOSE (R284): the bins are the Warden's, in AON RAM. -/
def execAvailabilityBinClose (s : State) : Host.Outcome State Fault Refusal :=
  if !s.aon then .next s else done (closeBin s)

end Sys2Proof.Machine
end

