-- ==== Sys2Proof/Machine/Memory.lean ====
section
/-! DEFINITION. SRAM errors and background passes (R295, R304 to R309), the exchange bank's commands (R299, R302), and the
Archive's operations and rings (R310 to R327). -/

namespace Sys2Proof.Machine

/-! ## SRAM -/

/-- Rows of a segment, its 4 spare rows included (Table 12.1). -/
def segRows (c : Nat) : Nat := (if c = 0 then 64 else if c = 16 then 128 else 256) + 4

/-- A segment is powered (R296): not retired, and not awaiting a clear. -/
def segPowered (c : Nat) (s : State) : Bool := !(vget s.seg c {}).retired && !s.pw.uncleared.contains c

/-- A structure in AON RAM is treated as failing its CRC (R295, R96, R154); which one a word address belongs to is open (log
64): a shadow copy, one of the two copies of the ledger, or the correction table, which its copy in Archive SYSTEM
restores. -/
def aonError (s : State) : State :=
  let (v, s) := draw s
  let bad := fun (x : Option Accession) => x.map (fun a => { a with crcOk := false })
  match v % 4 with
  | 0 => { s with rg.sh1 := bad s.rg.sh1 }
  | 1 => { s with rg.sh2 := bad s.rg.sh2 }
  | 2 => segmented (fun s => { s with ck.bins := s.ck.binsCopy }) s
  | _ => s

/-- What follows from an uncorrectable error, by its segment (R295). -/
def memoryError (seg : Nat) (port : Option Port) (s : State) : State :=
  if seg = 0 then aonError s
  else if seg = 5 then
    (if regRuns s then regRecover { s with r.rgr.lsmis := inc16 s.r.rgr.lsmis } else s)
  else if seg = 16 ∧ port.isSome then { s with xbBad := s.r.mem.ueaddr.toNat :: s.xbBad }
  else watchdogReset 6 s

/-- SRAM_UNCORRECTABLE (R295). -/
def execSramUncorrectable (segment : Fin 33) (addr : BitVec 16) (port : Option Port) (s : State) :
    Host.Outcome State Fault Refusal :=
  if !(s.operating || s.safe || s.starting || s.phase == .extest) || !segPowered segment.val s then .next s
  else done ({ s with r.mem.memstatUe := true, r.mem.uecnt := inc16 s.r.mem.uecnt
                      r.mem.ueseg := BitVec.ofNat 8 segment.val, r.mem.ueaddr := addr }
    |> logEvent 0x0A01 [(segment.val : Int), (addr.toNat : Int)] |> memoryError segment.val port)

/-! ## The exchange bank -/

/-- The Curator or an engine reaches XB: the PLL runs and the segment holds power (R298). -/
def xbRuns (s : State) : Bool :=
  (s.operating || s.safe || s.starting) && s.pw.st == .run && segPowered 16 s

/-- 32-bit words that a write touches: one, or two where it straddles a boundary through the rotate alias (R297). -/
def xbWords (w : XbWrite) : List Nat := (List.range w.bytes.length).map (fun i => (w.addr + i) / 4)

/-- The lowest word that both writes touch in one cycle. -/
def xbShared (a b : XbWrite) : Option Nat := (xbWords b).find? (fun w => (xbWords a).contains w)

/-- A write lies in the handshake words (R301). -/
def isHandshake (w : XbWrite) : Bool := decide (w.addr + w.bytes.length ≤ 0x100)

/-- What port B's writer makes of the value it reads back (R303): its own bits as it wrote them, every other bit as read; that the
recomputation keeps to the bits the writer changes is read from Table 12.3 (log 137). -/
def recomputed (read wrote own : Byte) : Byte := (read &&& ~~~own) ||| (wrote &&& own)

/-- Port B reads a handshake word back after its write was discarded, recomputes it and writes it again (R303); elsewhere the
discarded write is not made up for. -/
def rewriteHandshake (b : XbWrite) (own : List Byte) (s : State) : State :=
  if isHandshake b then
    putXb b.addr ((List.range b.bytes.length).map (fun i =>
      recomputed (Mem.get s.xb (b.addr + i)) (b.bytes.getD i 0) (own.getD i 0))) s
  else s

/-- XB_COLLISION (R297, R299, R303): ports A and B write in one cycle. Where they share a word port A's write stands and port B's is
discarded from both words it touches, recorded with the lowest shared word (log 137), and made up for in a handshake word; where
they share none, both take effect. -/
def execXbCollision (agent : XbAgent) (a : XbWrite) (b : XbOwnWrite) (s : State) : Host.Outcome State Fault Refusal :=
  if !xbRuns s then .next s
  else match xbShared a b.write with
  | none => done (s |> putXb a.addr a.bytes |> putXb b.write.addr b.write.bytes)
  | some w =>
    done { s |> putXb a.addr a.bytes |> rewriteHandshake b.write b.own with
                  r.mem.memstatXcol := true, r.mem.xcolcnt := inc16 s.r.mem.xcolcnt
                  r.mem.xcolinfoAgent := match agent with | .curator => 1 | .link => 2
                  r.mem.xcolinfoWaddr := BitVec.ofNat 14 (2 * w) }

/-- `XBPAGE.SEL` of one port (R302). -/
def selectPage (port : Port) (v : Word) (s : State) : State :=
  match port with
  | .optical => { s with sv.optPort.page := BitVec.ofNat 8 (v.toNat % 2) }
  | .host => { s with sv.hstPort.page := BitVec.ofNat 8 (v.toNat % 2) }

/-- A port's writes reach the service map: the Curator serves in operation, and the host's pads have their supply (R420, R427,
R431, R43). -/
def portWrites (p : Port) (s : State) : Bool :=
  s.operating && s.serving && (match p with | .host => s.io.vddio | .optical => s.sv.opt.open_)

/-- XBPAGE_SEL_WRITE (R302). -/
def execXbpageSelWrite (port : Port) (value : Word) (s : State) : Host.Outcome State Fault Refusal :=
  if portWrites port s then done (selectPage port value s) else .next s

/-! ## Background passes -/

/-- BGCMD_START (R305): a write of `BGCMD` requests a pass. -/
def execBgcmdStart (port : Port) (s : State) : Host.Outcome State Fault Refusal :=
  if portWrites port s then done { s with bgReq := true } else .next s

/-- BGTEST_DUE (R305). -/
def execBgtestDue (s : State) : Host.Outcome State Fault Refusal :=
  if (s.operating || s.phase == .safeBeacon false) && decide (0 < s.cat.bgtest) then done { s with bgReq := true } else .next s

/-- A pass ends: `BGPASS`, `BGLAST`. -/
def bgComplete (s : State) : State :=
  { s with bg := none, r.mem.bgpass := inc16 s.r.mem.bgpass, r.mem.bglast := BitVec.ofNat 32 (tlmono s) }

/-- The slice holds its next row: a segment that is retired or not powered is skipped row by row into `BGSKIP` (R305), and
behind the last segment the pass is complete. -/
def bgHold : Nat → State → State
  | 0, s => s
  | fuel + 1, s =>
    match s.bg with
    | none => s
    | some b =>
      if 32 < b.seg then bgComplete s
      else if segRows b.seg ≤ b.row then bgHold fuel { s with bg := some { b with seg := b.seg + 1, row := 0, aborts := 0 } }
      else if segPowered b.seg s then
        (if b.left = 0 then s else { s with bg := some { b with held := true } })
      else bgHold fuel { s with bg := some { b with seg := b.seg + 1, row := 0, aborts := 0 }
                                r.mem.bgskip := sat 16 (s.r.mem.bgskip.toNat + (segRows b.seg - b.row)) }

/-- Steps that `bgHold` may need: each segment is left at most once. -/
def bgFuel : Nat := 70

/-- BG_SLICE (R305): a slice of `rows` row tests, at the end of a wake in which the Curator executes; a requested pass begins
with it. -/
def execBgSlice (rows : Nat) (s : State) : Host.Outcome State Fault Refusal :=
  if s.starting || !(s.pw.st == .run && s.serving) then .next s
  else
    let s := match s.bg with
      | some _ => s
      | none => if s.bgReq then { s with bgReq := false, bg := some { start := tlmono s } } else s
    match s.bg with
    | none => .next s
    | some b => if b.held then .next s else done (bgHold bgFuel { s with bg := some { b with left := rows } })

/-- A row is left behind, and the slice holds the next one. -/
def bgNext (s : State) : State :=
  match s.bg with
  | some b => bgHold bgFuel { s with bg := some { b with row := b.row + 1, held := false, aborts := 0, left := b.left - 1 } }
  | none => s

/-- A failing row (R309): 0x0A03, `BGFAIL`, and the row pending in the map, once. -/
def bgFailed (seg row : Nat) (s : State) : State :=
  let s := { s with r.mem.memstatBgfail := true
                    seg := vupd s.seg seg (fun x => { x with pending := x.pending.filter (· != row) ++ [row] }) }
  logEvent 0x0A03 [(seg : Int), (row : Int)] s |> writeObject 6

/-- BG_WINDOW_RELEASE (R306). -/
def execBgWindowRelease (failed : Bool) (s : State) : Host.Outcome State Fault Refusal :=
  match s.bg with
  | some b => if b.held then done (bgNext (onlyIf failed (bgFailed b.seg b.row) s)) else .next s
  | none => .next s

/-- A held window is abandoned (R308): restored, retried first at the next slice, and skipped after 8 successive aborts. -/
def bgAbort (s : State) : State :=
  match s.bg with
  | some b =>
    if !b.held then s
    else
      let s := { s with r.mem.bgabort := inc16 s.r.mem.bgabort }
      if b.aborts + 1 < 8 then { s with bg := some { b with held := false, left := 0, aborts := b.aborts + 1 } }
      else { s with bg := some { b with held := false, left := 0, aborts := 0, row := b.row + 1 }
                    r.mem.bgskip := inc16 s.r.mem.bgskip }
  | none => s

/-- BG_URGENT_ACCESS (R308). -/
def execBgUrgentAccess (s : State) : Host.Outcome State Fault Refusal :=
  match s.bg with
  | some b => if b.held then done (bgAbort s) else .next s
  | none => .next s

/-- Rows that a pass has still to visit. -/
def bgRemaining (b : BgPass) : Nat :=
  ((List.range 33).map (fun c => if c < b.seg ∨ c = 0 then 0 else if c = b.seg then segRows c - b.row else segRows c)).sum

/-- BG_PASS_OVERDUE (R305). -/
def execBgPassOverdue (s : State) : Host.Outcome State Fault Refusal :=
  match s.bg with
  | some b =>
    if b.late || !(s.operating || s.phase == .safeBeacon false) then .next s
    else onTimer (fun s => { s with bg := some { b with late := true } } |> logEvent 0x0A04 [(bgRemaining b : Int)]) s
  | none => .next s

/-! ## Rings of the Archive -/

/-- A sector of an area is opened with its tag (R313, R316); the one after it is to be erased (R317), a snapshot group with its 4
sectors (R321). -/
def openSector (area tstart : Nat) (s : State) : State :=
  let c := openNext area s
  let s := { s with ar.tags := s.ar.tags ++ [{ area, sector := c, tseq := vget s.ar.tseq area 0 + 1, tstart }]
                    ar.tseq := vupd s.ar.tseq area (· + 1) }
  (List.range (ringUnit area)).foldl (fun s i => addJob (.eraseSector (nextSector area c s + i)) s) s

/-- Committed records of a sector. -/
def committedIn (t : SectorTag) : Nat := (t.slots.filter (· == .committed)).length

/-- The quarter-hour record of a quarter hour (R318), from every minute record that belongs to it. -/
def quarterOf (q : Nat) (ms : List MinuteRec) : MinuteRec :=
  let dv := (ms.map (·.dvol)).sum
  let da := (ms.map (·.daux)).sum
  let any := fun (b : Nat) => ms.any (fun m => m.flags.getLsbD b)
  let tar := fun (m : MinuteRec) => m.flags.toNat / 4 % 4
  let last := ms.getLastD { minute := 0, dvol := 0, daux := 0, flags := 0, intlo := 0 }
  let full := any 0 || satField dv != dv || satField da != da || ms.any (fun m => tar m != tar last)
  { minute := 15 * q, dvol := satField dv, daux := satField da, intlo := last.intlo, place := last.place
    flags := BitVec.ofNat 16 (maskOf (([1, 4, 5, 6, 7] : List Nat).filter any) + tar last * 4 + (if full then 1 else 0)) }

/-- Quarter hours whose records must be written before the sector of the oldest `n` minute records is erased (R318). -/
def quartersDue (n : Nat) (s : State) : List MinuteRec :=
  let qs := ((s.ar.minutes.take n).map (fun m => m.minute / 15)).eraseDups
  (qs.filter (fun q => !s.ar.quarters.any (fun m => m.minute == 15 * q) && !s.ar.jobs.any (fun j => match j with
      | .quarterRec m => m.minute == 15 * q
      | _ => false))).map
    (fun q => quarterOf q (s.ar.minutes.filter (fun m => m.minute / 15 == q)))

/-- The minute ring opens a sector (R317): where the one after it holds minute records the ring has wrapped, which is logged once, and
their quarter-hour records are queued before its erase. -/
def openMinuteSector (minute : Nat) (s : State) : State :=
  let c := openNext 0 s
  match s.ar.tags.find? (fun t => t.sector == nextSector 0 c s) with
  | none => openSector 0 (minute * 3932160) s
  | some t =>
    let old := ((s.ar.minutes.head?.map (·.minute)).getD 0) * 60
    let s := onlyIf (!s.ar.wrapped) (fun s => { s with ar.wrapped := true } |> logEvent 0x0A08 (w32 old)) s
    (quartersDue (committedIn t) s).foldl (fun s m => addJob (.quarterRec m) s) s |> openSector 0 (minute * 3932160)

/-- The sector that a record needs is opened (R316, R317). -/
def openFor (j : ArcJob) (s : State) : State :=
  if !needsOpen j s then s
  else match j with
    | .minuteRec m => openMinuteSector m.minute s
    | .quarterRec m => openSector 1 (m.minute * 3932160) s
    | j => (match j.area with | some a => openSector a 0 s | none => s)

/-- The tag of the head of an area changes. -/
def updHead (area : Nat) (f : SectorTag → SectorTag) (s : State) : State :=
  match headTag area s with
  | some t => { s with ar.tags := s.ar.tags.map (fun x => if x.sector = t.sector ∧ x.area = area then f x else x) }
  | none => s

/-- The next free slot of the head is begun (R314). -/
def beginSlot (area : Nat) (s : State) : State := updHead area (fun t => { t with slots := t.slots ++ [.begun] }) s

/-- The slot begun last is committed. -/
def commitSlot (area : Nat) (s : State) : State := updHead area (fun t => { t with slots := t.slots.dropLast ++ [.committed] }) s

/-- A minute record is committed. -/
def commitMinute (m : MinuteRec) (s : State) : State :=
  let n := s.rg.legal.intnum
  { s with ar.minutes := s.ar.minutes ++ [m]
           r.rgr.accnum := BitVec.ofNat 32 (n - (n + 65536 - m.intlo.toNat) % 65536) }

/-- The image regions whose copies `p` names are erased, once. -/
def eraseRegions (p : Frame → Bool) (s : State) : State :=
  (List.range 3).foldl (fun s i =>
    match vget s.ar.regions i none with
    | some f =>
      if p f && !hasJob (.eraseSector (32272 + 17 * i)) s then
        (List.range 17).foldl (fun s k => addJob (.eraseSector (32272 + 17 * i + k)) s) s
      else s
    | none => s) s

/-- The copy of an object of the image regions that a newer one supersedes, or that nothing needs any more, is erased (R324). -/
def freeRegions (obj keep : Nat) (s : State) : State := eraseRegions (fun f => f.obj == obj && f.ver != keep) s

/-- A full record is committed in its ring (R320); with the record of a switch the reload's changes are accepted (R78). -/
def commitFull (a : Accession) (s : State) : State :=
  let s := { s with r.rgr.accnum := BitVec.ofNat 32 a.legal.intnum, r.rgr.accfull := inc16 s.r.rgr.accfull
                    r.rgr.accstatLastkind := BitVec.ofNat 4 a.kind }
  let s := if (ArcJob.fullRec a).area = some 4 then { s with ar.audits := s.ar.audits ++ [a] } else { s with ar.fulls := s.ar.fulls ++ [a] }
  onlyIf (a.kind == 3) (fun s => freeRegions 4 0 (countSwitch s)) s

/-- An event entry is committed, and leaves the AON queue (R319). -/
def commitEvent (e : Event) (s : State) : State :=
  flushDrops { s with evq := if s.evq.head? = some e then s.evq.drop 1 else s.evq, ar.events := s.ar.events ++ [e] }

/-- The oldest entry of the AON queue goes through the steps of R314 at once, within a start's stage (log 93). -/
def writeEvent (s : State) : State :=
  match s.evq with
  | [] => s
  | e :: _ => s |> openFor (.event e) |> beginSlot 2 |> commitSlot 2 |> commitEvent e

/-- Every entry of the AON queue is programmed into the event ring. -/
def drainEvents (s : State) : State := (List.range (s.evq.length + s.evDrop)).foldl (fun (s : State) (_ : Nat) => writeEvent s) s

/-! ## The cluster store (R382) -/

/-- Every entry, oldest first. -/
def csEntries (s : State) : List CsEntry := s.ln.store.flatten

/-- Uncollected entries (`CSUNCOLL`). -/
def csUncollected (s : State) : List CsEntry := (csEntries s).filter (fun e => e.coll == 0xFF)

/-- Free space has fallen below 10 %. -/
def csLow (s : State) : Bool := decide (9 * 4096 < 10 * s.ln.store.length)

/-- A store that runs low logs 0x0C0C once. -/
def csWarn (s : State) : State :=
  if csLow s && !s.ln.lowLogged then { s with ln.lowLogged := true } |> logEvent 0x0C0C (w32 (csUncollected s).length)
  else if csLow s then s else { s with ln.lowLogged := false }

/-- An entry begins in the newest sector, which keeps count of the bytes taken. -/
def beginEntry (size : Nat) (s : State) : State :=
  updHead 6 (fun t => { t with slots := t.slots ++ [.begun], used := t.used + size }) s

/-- An accepted entry is committed, the first of its sector or behind the others there. -/
def csCommit (num : Nat) (s : State) : State :=
  match s.ln.queued.find? (fun e => e.num == num) with
  | none => s
  | some e =>
    let first := (headTag 6 s).all (fun t => committedIn t == 0)
    let s := commitSlot 6 { s with ln.queued := s.ln.queued.erase e, r.io.hirqStore := true }
    csWarn { s with ln.store := if first then s.ln.store ++ [[e]]
                                else s.ln.store.dropLast ++ [s.ln.store.getLastD [] ++ [e]] }

/-- The ring runs into its oldest sector: the entries there go, and those that nobody has collected are counted and logged. -/
def csLose (s : State) : State :=
  let lost : Nat := ((s.ln.store.headD []).filter (fun x => x.coll == 0xFF)).length
  { s with ln.store := s.ln.store.drop 1, r.lnk.cslost := sat 16 (s.r.lnk.cslost.toNat + lost) }
    |> onlyIf (decide (0 < lost)) (logEvent 0x0C0B [Int.ofNat lost])

/-! ## Wear and erasure (R326, R327) -/

/-- A sector is erased: `TERASES`, `ERASEMAX`, and 0x0A0B at 80 000 (R326; the coding of its items is log 68). -/
def countErase (sector : Nat) (s : State) : State :=
  let n := eraseCount sector s + 1
  let (p, i) := partitionOf sector
  onlyIf (n == 80000) (logEvent 0x0A0B [(p : Int), (i : Int)])
    { s with ar.erases := (sector, n) :: s.ar.erases.filter (fun x => x.1 != sector)
             r.mem.erasemax := BitVec.ofNat 32 (max n s.r.mem.erasemax.toNat) }

/-- The frames of a sector of the object log are to be copied forward, and the sector erased (R323, R326), once. -/
def compact (x : FrameSector) (s : State) : State :=
  if hasJob (.eraseSector x.sector) s then s
  else (liveFrames x s.ar.log).foldl (fun s f => addJob (.move f.obj f.sub) s) s |> addJob (.eraseSector x.sector)

/-- Free sectors of the object log (`SYSFREE`). -/
def sysFree (s : State) : Nat := (freeSectors logPlace.1 logPlace.2 s.ar.log s).length

/-- Fewer than 8 object-log sectors are free: the one with the fewest live bytes is compacted, never the newest (R323). -/
def compactIfFull (s : State) : State :=
  if 8 ≤ sysFree s then s
  else
    let live := fun (x : FrameSector) => ((liveFrames x s.ar.log).map (·.len)).sum
    let old := s.ar.log.dropLast.filter (fun x => !hasJob (.eraseSector x.sector) s)
    match old.foldl (fun (b : Option FrameSector) x => match b with
        | some y => if live x < live y then some x else b
        | none => some x) none with
    | some x => compact x s
    | none => s

/-- Wear levelling (R326): where the count of a sector of SYSTEM exceeds the lowest there by more than 1000, the frames of the
least-erased sector of the object log that holds some are moved and it is freed. -/
def levelWear (sector : Nat) (s : State) : State :=
  let lowest := (List.range 512).foldl (fun n i => min n (eraseCount (32256 + i) s)) (eraseCount sector s)
  if sector < 32256 ∨ eraseCount sector s ≤ lowest + 1000 then s
  else match leastErased (s.ar.log.dropLast.map (·.sector)) s with
    | some c => (match s.ar.log.find? (fun x => x.sector == c) with | some x => compact x s | none => s)
    | none => s

/-- Records that the erase of a ring's sector takes with it: those that its tag counts, the oldest of the ring (R317, R318). -/
def dropRecords (t : SectorTag) (s : State) : State :=
  let n := committedIn t
  match t.area with
  | 0 => { s with ar.minutes := s.ar.minutes.drop n }
  | 1 => { s with ar.quarters := s.ar.quarters.drop n }
  | 2 => { s with ar.events := s.ar.events.drop n }
  | 3 => { s with ar.fulls := s.ar.fulls.drop n }
  | 4 => { s with ar.audits := s.ar.audits.drop n }
  | 5 => { s with ar.snaps := s.ar.snaps.drop n }
  | _ => if n = 0 then s else csLose s

/-- Bytes programmed at an offset. -/
def programBytes (off : Nat) (d bs : List Byte) : List Byte :=
  (bs ++ List.replicate (off + d.length - bs.length) 0xFF).take off ++ d ++ bs.drop (off + d.length)

/-- A patch bank changed. -/
def updBank (i : Nat) (f : PatchBank → PatchBank) (s : State) : State := { s with ar.banks := vupd s.ar.banks i f }

/-- The image region of a sector, and whether the sector is its last (Table 12.6: 3 × 17 sectors from 32272). -/
def regionOf (sector : Nat) : Option (Nat × Bool) :=
  if 32272 ≤ sector ∧ sector < 32323 then some ((sector - 32272) / 17, (sector - 32272) % 17 == 16) else none

/-- What the erase of a sector leaves: its records and its tag are gone, its frames, the region, or the bytes of the patch bank. -/
def commitErase (n : Nat) (s : State) : State :=
  let s := match s.ar.tags.find? (fun t => t.sector == n) with
    | some t => dropRecords t { s with ar.tags := s.ar.tags.filter (fun t => t.sector != n) }
    | none => s
  let s := { s with ar.warden := s.ar.warden.filter (fun x => x.sector != n), ar.log := s.ar.log.filter (fun x => x.sector != n)
                    ar.eraseDue := s.ar.eraseDue && sectorOwner n != .warden }
  let s := match regionOf n with
    | some (i, true) => { s with ar.regions := vupd s.ar.regions i (fun _ => none) }
    | _ => s
  let s := if 31232 ≤ n ∧ n < 32256 then
      (let off := (n - 31232) % 512 * 4096
       updBank ((n - 31232) / 512) (fun b =>
         { b with bytes := if b.bytes.length ≤ off then b.bytes else programBytes off (List.replicate 4096 0xFF) b.bytes }) s)
    else s
  s |> countErase n |> levelWear n

/-! ## Objects of SYSTEM (R323, R324) -/

/-- Bytes of the payload of object 0x04: the records in image order. -/
def legalBytes (x : RecordCopy) : List Byte := x.legal.flatMap (fun r => r.2.2)

/-- Object and place of a job's frame in the object log: a template has one frame for each path and class. -/
def ArcJob.frame : ArcJob → Option (Nat × Nat)
  | .object id => some (id, 0)
  | .template k c => some (9, 8 * k + c)
  | .move obj sub => some (obj, sub)
  | _ => none

/-- The length of a new frame whose payload is internal to the firmware: at most 4096 bytes (R488, log 66); a frame that moves keeps
its own. -/
def internalLen (j : ArcJob) (s : State) : Nat × State :=
  match j with
  | .move obj sub => (((currentFrame obj sub s.ar.log).map (·.2.len)).getD 32, s)
  | _ => let (v, s) := draw s; (32 + 16 * (v % 255), s)

/-- A frame of the object log is begun, in the newest sector or in a free one; compaction follows (R323). -/
def beginLog (obj sub len : Nat) (s : State) : State :=
  compactIfFull { s with ar.log := placeFrame { obj, sub, ver := nextVer obj sub s.ar.log, mono := tlmono s, len }
                                     logPlace.1 logPlace.2 s.ar.log s }

/-- A copy begins in a free image region (R324). -/
def beginRegion (obj payload : Nat) (s : State) : State :=
  let ver := maxL ((s.ar.regions.toList.filterMap id).map (·.ver)) + 1
  match ((List.range 3).find? (fun i => (vget s.ar.regions i none).isNone)) with
  | some i => { s with ar.regions := vupd s.ar.regions i (fun _ => some { obj, ver, mono := tlmono s, len := frameLen payload }) }
  | none => s

/-- The newest copy of an object of the image regions is committed, and the superseded one goes. -/
def commitRegion (obj : Nat) (s : State) : State :=
  let v := maxL (((s.ar.regions.toList.filterMap id).filter (fun f => f.obj == obj)).map (·.ver))
  freeRegions obj v { s with ar.regions := s.ar.regions.map (fun x =>
    x.map (fun f => if f.obj = obj ∧ f.ver = v then { f with state := .committed } else f)) }

/-- Object 0x0B as it stands. -/
def countersNow (s : State) : Counters :=
  { ncold := s.r.sys.ncold, nhib := s.r.sys.nhib, fails := s.r.sys.sbstatFails, borcnt := s.r.pwr.borcnt
    xt32loss := s.r.clk.xt32loss, zone := s.tl.zone, tlsteps := s.r.clk.tlsteps, swapcnt := s.r.tmp.swapcnt }

/-- The copies that an object of the SYSTEM log holds (Table 12.11) follow its committed frame. -/
def commitObject (id : Nat) (s : State) : State :=
  match id with
  | 5 => { s with ar.floorCopy := s.r.sys.mfloor, ar.digestCopy := s.ar.lastDigest, ar.moduleCopy := s.ar.moduleCrc }
  | 6 => { s with ar.rowMap := s.seg }
  | 7 => { s with ch := s.ch.map (fun c => { c with copy := c.table, copyCrc := c.crc }), cal.tempCopy := s.r.tdc.tdccaltemp.toInt }
  | 8 => { s with ck.binsCopy := s.ck.bins }
  | 0xA => { s with fl.classCopy := s.fl.newClass.getD s.r.gas.gasstatClass.toNat
                    path := s.path.map (fun p => { p with chofsCopy := p.chofs }), tp.swapCopy := s.tp.swap }
  | 0xB => { s with ar.counters := countersNow s }
  | 0xC => { s with rad.calStored := true }
  | 0xD => { s with ln.objCopy := s.ln.obj }
  | 0xE => { s with ar.bankCopy := s.ar.banks.map (·.state) }
  | _ => s

/-! ## Operations -/

/-- A job is done with. -/
def dropJob (j : ArcJob) (s : State) : State := { s with ar.jobs := s.ar.jobs.erase j }

/-- Bytes of a job's body and the state that begins it: its slot, or its frame. -/
def begunJob (j : ArcJob) (s : State) : Nat × State :=
  match j with
  | .image bs => (frameLen bs.length, beginRegion 3 bs.length s)
  | .pendingCopy x => (frameLen (legalBytes x).length, beginRegion 4 (legalBytes x).length s)
  | .ledger => (frameLen 628, wardenFrame 2 628 .begun s)
  | .sealedSlot => (frameLen 256, s)
  | .snapshot x => (x.bytes.length, s |> openFor j |> beginSlot 5)
  | .entry _ size => (size, s |> openFor j |> beginEntry size)
  | .patch _ _ d => (d.length, s)
  | .eraseSector _ => (0, s)
  | j =>
    (match j.area, j.frame with
     | some a, _ => (256, s |> openFor j |> beginSlot a)
     | none, some (obj, sub) => let (n, s) := internalLen j s; (n, beginLog obj sub n s)
     | none, none => (256, s))

/-- What a committed record changes (R314: only a committed record is read as one). -/
def commitRecord (j : ArcJob) (s : State) : State :=
  match j with
  | .minuteRec m => commitMinute m s
  | .fullRec a => commitFull a s
  | .quarterRec m => { s with ar.quarters := s.ar.quarters ++ [m] }
  | .event e => commitEvent e s
  | .snapshot x => { s with ar.snaps := s.ar.snaps ++ [x] }
  | .template k c => { s with path := vupd s.path k (fun p => { p with copy := vupd p.copy c (fun _ => vget p.tpl c none) }) }
  | .object id => commitObject id s
  | .image bs => commitRegion 3 { s with ar.image := bs }
  | .pendingCopy x => commitRegion 4 { s with ar.pendingCopy := some x }
  | .move _ _ => s
  | .eraseSector n => commitErase n s
  | .entry num _ => csCommit num s
  | .patch i off d => updBank i (fun b => { b with bytes := programBytes off d b.bytes }) s
  | .ledger => { s with ar.ledger := some (ledgerNow s), ar.warden := sealFrame 2 0 s.ar.warden, ar.ledgerDue := false }
  | .sealedSlot => s

/-- The last step of a job: its slot or frame is committed with what it says. -/
def commitJob (j : ArcJob) (s : State) : State :=
  let s := match j.area, j.frame with
    | some 6, _ => s
    | some a, _ => commitSlot a s
    | none, some (obj, sub) => { s with ar.log := sealFrame obj sub s.ar.log }
    | none, none => s
  commitRecord j (dropJob j s)

/-- Chairlift unit of a writer. -/
def ArcOwner.unit : ArcOwner → Nat
  | .curator => 5 | _ => 1

/-- The controller is idle: the writer's seat goes back, and the next pending operation begins (R17); during a guaranteed commit the
seats stay as they are, and the commit goes first. -/
def endOp (o : ArcOwner) (s : State) : State :=
  let s := { s with ar.run := none, pw.choose := true }
  if s.cl.commit.isSome then startOps s
  else
    let s := releaseSeat o.unit s
    startOps (onlyIf (!(holds 1 s || holds 5 s)) (domOff [.arc]) s)

/-- The next operation of a record follows (R314): at once, after a guaranteed commit that waits for the one that has completed (R312),
or under the Curator's next seat where the record needs more program operations than one seat covers (R128). -/
def nextStep (r : ArcRun) (s : State) : State :=
  let split := r.owner == .curator && decide (1 < r.step ∧ r.step ≤ r.ops)
  if s.cl.commit.isSome || split then
    let s := { s with ar.paused := s.ar.paused ++ [r], ar.run := none }
    if s.cl.commit.isSome then startOps s else endOp .curator s
  else { s with ar.run := some r }

/-- An operation has completed: the next step of R314 follows, or the record is committed. -/
def opDone (s : State) : State :=
  match s.ar.run with
  | none => s
  | some r =>
    let r := { r with retried := false }
    if r.job.erases || r.ops < r.step || (r.job.plain && decide (r.ops ≤ r.step)) then
      (if r.job == ArcJob.sealedSlot then s else endOp r.owner (commitJob r.job { s with ar.run := none }))
    else if r.step = 0 then
      let (n, s) := begunJob r.job s
      nextStep { r with step := 1, ops := bodyOps n } s
    else nextStep { r with step := r.step + 1 } s

/-! ## Failures (R327) -/

/-- The sector that an operation works on. -/
def runSector (r : ArcRun) (s : State) : Option Nat :=
  match r.job with
  | .eraseSector n => some n
  | .patch i off _ => some (31232 + 512 * i + off / 4096)
  | .image _ => ((List.range 3).find? (fun i => (vget s.ar.regions i none).any (fun f => f.obj == 3 && f.state == .begun))).map (32272 + 17 * ·)
  | .pendingCopy _ => ((List.range 3).find? (fun i => (vget s.ar.regions i none).any (fun f => f.obj == 4 && f.state == .begun))).map (32272 + 17 * ·)
  | .ledger | .sealedSlot => (s.ar.warden.getLast?).map (·.sector)
  | j =>
    (match j.area with
     | some a => (match headTag a s with | some t => some t.sector | none => some (openNext a s))
     | none => (s.ar.log.getLast?).map (·.sector))

/-- A block is replaced by a spare one, to which its live content is copied: 0x0A06, and 0x0A07 once below 8 (R327). -/
def retireBlock (block : Nat) (s : State) : State :=
  let n := s.ar.spares - 1
  let s := { s with ar.spares := n, ar.retiredBlocks := block :: s.ar.retiredBlocks, r.mem.spareblk := BitVec.ofNat 16 n }
    |> logEvent 0x0A06 [(block : Int)]
  onlyIf (decide (n < 8) && !s.ar.fewSpares) (fun s => { s with ar.fewSpares := true } |> logEvent 0x0A07 [(n : Int)]) s

/-- A sector that no spare block can replace is unusable and takes no more records (R327). -/
def skipSector (c : Nat) (s : State) : State :=
  { s with ar.unusable := c :: s.ar.unusable
           ar.tags := s.ar.tags.map (fun t => if t.sector = c then { t with closed := true } else t)
           ar.log := s.ar.log.map (fun x => if x.sector = c then { x with closed := true } else x)
           ar.warden := s.ar.warden.map (fun x => if x.sector = c then { x with closed := true } else x) }

/-- A program or an erase has failed twice (R327): with a spare block the operation completes there; without one the sector is skipped,
the record begins again elsewhere, and an erase or a patch ends. -/
def opFailed (s : State) : State :=
  match s.ar.run with
  | none => s
  | some r =>
    match runSector r s with
    | none => opDone s
    | some c =>
      if 0 < s.ar.spares then opDone (retireBlock (c / 16) s)
      else if r.job.erases || r.job.plain then endOp r.owner (dropJob r.job (skipSector c { s with ar.run := none }))
      else { skipSector c s with ar.run := some { r with step := 0, ops := 1, retried := false } }

/-- ARCHIVE_OP_COMPLETE (R310, R314, R327). -/
def execArchiveOpComplete (ok : Bool) (s : State) : Host.Outcome State Fault Refusal :=
  match s.ar.run with
  | none => .next s
  | some r =>
    if ok then done (opDone s)
    else if !r.retried then done { s with ar.run := some { r with retried := true } }
    else done (opFailed s)

/-- ERASE_SUSPEND (R312): an accession program or a Warden commit is pending. -/
def execEraseSuspend (s : State) : Host.Outcome State Fault Refusal :=
  match s.ar.run with
  | some r => if r.job.erases && r.owner == .curator && accessionDue s then done (startOps (pauseRun s)) else .next s
  | none => .next s

/-- WARDEN_AREA_ERASE (R325): at a wake with too little erased space the Warden asks for its erase. -/
def execWardenAreaErase (smp : Sample) (s : State) : Host.Outcome State Fault Refusal :=
  onTimer (fun s => let s := sample smp s
                    if wardenEraseDue s && (wardenVictim s).isSome then { s with ar.eraseDue := true } else s) s

/-! ## Recovery (R315, R327) -/

/-- A slot that the die cannot read counts as discarded: 0x0A05, `ARCUE`, and the record that it held is none any more (R327). -/
def unreadSlot (s : State) (x : Nat × Nat) : State :=
  let (p, i) := partitionOf x.1
  let s := { s with r.mem.arcue := inc16 s.r.mem.arcue } |> logEvent 0x0A05 [(p : Int), (i : Int)]
  match s.ar.tags.find? (fun t => t.sector == x.1) with
  | none => s
  | some t =>
    if t.slots[x.2]? != some .committed then s
    else
      let older := (s.ar.tags.takeWhile (fun y => y.sector != t.sector)).filter (fun y => y.area == t.area)
      let at_ := (older.map committedIn).sum + ((t.slots.take x.2).filter (· == .committed)).length
      let s := { s with ar.tags := s.ar.tags.map (fun (y : SectorTag) =>
                          if y.sector = t.sector then { y with slots := y.slots.set x.2 .begun, closed := true } else y) }
      match t.area with
      | 0 => { s with ar.minutes := s.ar.minutes.eraseIdx at_ }
      | 1 => { s with ar.quarters := s.ar.quarters.eraseIdx at_ }
      | 2 => { s with ar.events := s.ar.events.eraseIdx at_ }
      | 3 => { s with ar.fulls := s.ar.fulls.eraseIdx at_ }
      | 4 => { s with ar.audits := s.ar.audits.eraseIdx at_ }
      | 5 => { s with ar.snaps := s.ar.snaps.eraseIdx at_ }
      | _ =>
        let place := (older.filter (fun y => decide (0 < committedIn y))).length
        let row := (s.ln.store.getD place []).eraseIdx (at_ - ((s.ln.store.take place).map List.length).sum)
        { s with ln.store := if row.isEmpty then s.ln.store.eraseIdx place else s.ln.store.set place row }

/-- A record has a check of its own (R315). -/
def ArcJob.checked : ArcJob → Bool
  | .minuteRec _ | .quarterRec _ => false
  | _ => true

/-- A record found begun is discarded: its state stays, and its sector takes no more records. -/
def discardRun (r : ArcRun) (s : State) : State :=
  match r.job.area with
  | some a => updHead a (fun t => { t with closed := true }) s
  | none => eraseRegions (fun f => f.state == .begun) s

/-- One operation that a reset cut off (R315): an erase is done again, a record whose check passes is completed, any other that has
begun is discarded. The counts are those completed and those discarded. -/
def recoverRun (x : Nat × Nat × State) (r : ArcRun) : Nat × Nat × State :=
  let (a, b, s) := x
  if r.job.erases then
    (match r.job with | .eraseSector n => (a, b, commitErase n s) | _ => x)
  else if r.job.plain || r.step = 0 || r.job == ArcJob.sealedSlot then x
  else if r.ops < r.step && r.job.checked then (a + 1, b, commitJob r.job s)
  else (a, b + 1, discardRun r s)

/-- Erases that a reset took from their writer's queue are asked for again: the sector ahead of each head that still holds records
(R317), and the image regions of superseded copies (R324). -/
def requeueErases (s : State) : State :=
  let s := (List.range 7).foldl (fun s a =>
    let c := openNext a s
    if s.ar.tags.any (fun t => t.sector == c) then (List.range (ringUnit a)).foldl (fun s i => addJob (.eraseSector (c + i)) s) s else s) s
  let newest := maxL (((s.ar.regions.toList.filterMap id).filter (fun f => f.obj == 3 && f.state == .committed)).map (·.ver))
  freeRegions 3 newest s |> onlyIf s.ar.pendingCopy.isNone (freeRegions 4 0)

/-- The recovery of the Archive (R315): what a reset cut off, and what the die cannot read; the records completed and discarded. -/
def recoverRecords (unread : List (Nat × Nat)) (s : State) : Nat × Nat × State :=
  let s := unread.foldl unreadSlot s
  let (a, b, s) := s.ar.paused.foldl recoverRun (0, 0, { s with ar.paused := [] })
  (a, b, requeueErases s)

end Sys2Proof.Machine
end

