-- ==== Sys2Proof/Machine/Radio.lean ====
section
/-! DEFINITION. The transceiver (R330 to R353): a transmission's start under the ledgers and its end, the synthesizer, the
reply window, and the autonomous TX sequencer. -/

namespace Sys2Proof.Machine

/-! ## One frame -/

/-- The frame that the held seat of unit 7 is for. -/
def frameToSend (s : State) : Option TxFrame :=
  match heldWork 7 s with
  | some (.transmit u) => s.rad.queue.find? (fun f => f.use == u && decide (f.notBefore.getD 0 ≤ s.tl.monoUs))
  | _ => none

/-- A frame of EN 13757-4, as itself or as legacy carriage. -/
def TxFrame.isEn (f : TxFrame) : Bool := decide (0x10 ≤ f.rate)

/-- Radio settings that a frame is sent with. -/
def frameRadio (f : TxFrame) (s : State) : RadioRec := if f.isEn then enRadio s else s.cat.radio

/-- A frame that goes as legacy carriage (R336). -/
def carriage (f : TxFrame) (s : State) : Bool := f.isEn && ((enRadio s).band == 1 || (enRadio s).band == 3)

/-- Channel of a frame: the k-th legacy carriage goes on k mod the channel count (R336). -/
def frameChannel (f : TxFrame) (s : State) : Option Nat :=
  if carriage f s then some (s.rad.legCount % channelCount (enRadio s).band) else f.channel

/-- Sub-band of a frame (Table 13.4). -/
def frameCode (f : TxFrame) (s : State) : Nat := subBand (frameRadio f s) (frameChannel f s) (enMode s)

/-- Frequency of a frame, Hz. -/
def frameHz (f : TxFrame) (s : State) : Nat :=
  match frameChannel f s with
  | some n => channelHz (frameRadio f s).band n
  | none => modeHz (enMode s)

/-- `RFCHAN.NUM` and `RFCHAN.RATE` of a frame. -/
def frameChan (f : TxFrame) (s : State) : Nat × Nat :=
  ((frameChannel f s).getD 0xFF, if carriage f s then 0 else f.rate)

/-- The limit of a bound front-end module on MP5 (R435). -/
def moduleLimit (s : State) : Option Int :=
  match s.cat.modRec 5 with
  | some m => if m.cls = 5 ∧ calBlock 5 s ≠ [] then some (i8 (calBlock 5 s) 1) else none
  | none => none

/-- Cap on `TXPWR`: that of the sub-band, or the module's where it is lower (R340, R435). -/
def capFor (code : Nat) (s : State) : Int :=
  match moduleLimit s with | some m => min m (powerCap code) | none => powerCap code

/-- The cap of R340 is applied: `CLAMP`, and 0x0B03 once for each image and sub-band. -/
def clampPower (f : TxFrame) (s : State) : State :=
  let code := frameCode f s
  let p := (frameRadio f s).txpwr
  if p ≤ capFor code s then { s with r.rf.rfstatClamp := false }
  else if s.rad.clampLogged.contains code then { s with r.rf.rfstatClamp := true }
  else { s with r.rf.rfstatClamp := true, rad.clampLogged := code :: s.rad.clampLogged }
    |> logEvent 0x0B03 [(code : Int), p, capFor code s]

/-! ## Frames that are not sent -/

/-- The sequencer leaves the RF domain off with its frame, sent or not (R344). -/
def restSequencer (f : TxFrame) (s : State) : State := onlyIf f.use.sequencer (domOff [.rf]) s

/-- The requester is told, as of a drop under R131, and the seat goes back. -/
def tellDropped (f : TxFrame) (s : State) : State :=
  onlyIf (f.use == .alarm) endAlarm (releaseSeat 7 (restSequencer f (txDropped f s)))

/-- A frame changed as it waits; the transmitter's seat goes back. -/
def holdFrame (f g : TxFrame) (s : State) : State :=
  releaseSeat 7 (restSequencer f
    { s with rad.queue := s.rad.queue.map (fun x => if x == f then g else x), rad.owner := .none })

/-- An exchange whose frame may not go now moves on by `j` hops, each a superframe (R350, log 71). -/
def moveExchange (f : TxFrame) (j : Nat) (s : State) : State :=
  { s with ln.exch := s.ln.exch.map (fun x => { x with slotEnd := x.slotEnd + j * superframe }) }
    |> holdFrame f { f with channel := some (slalom (sfnNow s + j) s), notBefore := some (s.tl.monoUs + j * superframe) }
    |> closeWindow

/-- The hop, counted from the present channel, on which a Mogal frame is offered again: the next one in band 3, elsewhere
the first whose ledger permits it (R350). -/
def nextHop (f : TxFrame) (s : State) : Option (Nat × Nat) :=
  let r := s.cat.radio
  let n := channelCount r.band
  let p := slalomPerm s.cat.link.clusterid n
  let i := p.idxOf (f.channel.getD 0)
  let hop := fun (j : Nat) => (j, p.getD ((i + j) % n) 0)
  if r.band = 3 then some (hop 1)
  else if f.rate = 1 ∧ r.band = 2 then none
  else ((List.range n).map (fun j => hop (j + 1))).find? (fun x =>
    decide (permittedAt (subBand r (some x.2) 0) (some x.2) f.airtime s ≤ s.tl.monoUs))

/-- A ledger refuses a frame until `t` (R350, R369, R457). -/
def refuseFrame (t : Nat) (f : TxFrame) (s : State) : State :=
  let wait := t - s.tl.monoUs
  let s := if frameCode f s = 5 then { s with r.rf.defdwell := inc16 s.r.rf.defdwell }
           else { s with r.rf.defduty := inc16 s.r.rf.defduty }
  match f.use with
  | .beacon =>
    { s with rad.queue := s.rad.queue.erase f, rad.owner := .none, r.rf.defdrop := inc16 s.r.rf.defdrop }
      |> withdrawBeacon 2 |> closeWindow |> releaseSeat 7
  | .alarm =>
    let due := if s.flt.proc.isNone then some (s.now + wait) else none
    tellDropped f { s with flt.alarmDue := due }
  | _ =>
    match f.deadline with
    | some d =>
      if d < s.now + wait then tellDropped f { s with r.rf.defdrop := inc16 s.r.rf.defdrop }
      else holdFrame f { f with notBefore := some t } s
    | none =>
      if f.isEn then holdFrame f { f with notBefore := some t } s
      else match nextHop f s with
      | some (j, ch) =>
        if f.use.exchange then moveExchange f j s
        else { s with ln.ho.k := if f.use == .handover then s.ln.ho.k + j else s.ln.ho.k
                      rad.queue := s.rad.queue.map (fun x => if x == f then { f with channel := some ch } else x) }
      | none =>
        if f.use.exchange then moveExchange f (ceilDiv wait superframe) s else holdFrame f { f with notBefore := some t } s

/-! ## TRANSMISSION_START (R349) -/

/-- A 169 MHz frame waits for a Vitrine calibration (R148). -/
def waitVitrine (f : TxFrame) (s : State) : State :=
  { s with r.rf.rfstatVitwait := true } |> onlyIf (!s.r.rf.rfstatVitwait) (logEvent 0x0B05 [dieTemp s])
    |> newVitrine
    |> fun s => if f.use.exchange then moveExchange f 1 s else holdFrame f f s

/-- Modes with a reply window (R335). -/
def hasReply (mode : Nat) : Bool := mode == 1 || mode == 3 || mode == 5 || mode == 6

/-- The seats of the windows that follow a frame are asked for as it goes on the air (R128): an ACK window at its end + 0.8 ms (R374), a
session's 50 ms from its end (R388), a listen window at its end + 0.2 ms (R386), and under the same seat a reply window at its
end + 2.0 ms (R335). -/
def askFollowing (f : TxFrame) (s : State) : State :=
  let stop := s.now + f.airtime
  match f.use with
  | .handover => askWindow .ack (stop + 800) (ackWindow s) s
  | .hello | .session => onlyIf s.ln.session.isSome (askWindow .reader stop 50000) s
  | .legacy | .fallback =>
    let reply := !carriage f s && hasReply (enMode s)
    if listens s then askWindow .listen (stop + 200) (1200 + (if reply then 1000 else 0)) s
    else onlyIf reply (askWindow .reply (stop + 2000) 1000) s
  | _ => s

/-- The frame goes on the air: charged, tuned, ramped up (R332, R336, R340, R349); the sequencer calibrates the synthesizer for each
(R344). -/
def rampUp (f : TxFrame) (s : State) : State :=
  let c := frameChan f s
  let code := frameCode f s
  charge code (frameChannel f s) f.airtime s
    |> clampPower f
    |> onlyIf f.use.sequencer (calibrateSynth (bandOf (frameHz f s)))
    |> tune (frameHz f s) c.1 c.2
    |> fun s => { s with rad.air := some f, rad.mode := .tx, rad.ctl0 := true, rad.ctl1 := false
                         rad.owner := if f.use.sequencer then .sequencer else .link
                         rad.queue := s.rad.queue.erase f
                         rad.legCount := if carriage f s then s.rad.legCount + 1 else s.rad.legCount }
    |> requestsTogether (askFollowing f)

/-- The receiver's seat of an exchange that has moved on is asked for again, by 400 µs before its first ACK window (R375). -/
def askAgain (f : TxFrame) (s : State) : State :=
  requestSeat 3 100 (fitHold 3 100 (4 * ackWindow s + 1800) s) (some (s.now + f.airtime + 400)) (.receive .ack) s

/-- A frame whose seat is held is sent, or refused (R148, R342, R349, R350, R474). The frame of an exchange waits for the other seat of
R375, whose drop ends the exchange; a beacon without it is withdrawn. -/
def startFrame (f : TxFrame) (s : State) : State :=
  if vres s < 2300 then tellDropped f s
  else if f.use.deferrable && !xrfGood s then waitVitrine f s
  else if f.use == .beacon && listens s && !holds 3 s then tellDropped f s
  else
    let s := onlyIf f.use.exchange (askAgain f) s
    if f.use.exchange && !holds 3 s then s
    else
      let t := permittedAt (frameCode f s) (frameChannel f s) f.airtime s
      if t ≤ s.tl.monoUs then rampUp f s else refuseFrame t f s

/-- TRANSMISSION_START: immediately before the ramp-up; while the receiver is on it waits (R342). -/
def execTransmissionStart (s : State) : Host.Outcome State Fault Refusal :=
  let s := if s.pw.st == .run && s.pw.target.isNone then requestsTogether pumpTx s else s
  if s.rad.air.isSome || s.ln.rxSince.isSome then .next s
  else match frameToSend s with
  | some f => done (startFrame f s)
  | none => .next s

/-! ## TRANSMISSION_END (R346) -/

/-- Charge of an own transmission of the link (R381), in µA·µs. -/
def txCharge (f : TxFrame) (s : State) : Nat := f.airtime * (if s.cat.radio.txpwr ≤ 10 then 22000 else 46000)

/-- The alarm frame has been sent (R457): 0x1004, `ALARMTX`, and what it was sent for ends. -/
def alarmSent (s : State) : State :=
  let acc := ((s.flt.alarm.map (·.access)).getD 0 : Nat)
  let s := { s with flt.alarm := none, flt.alarmHeld := none, flt.alarmDue := none, r.flt.alarmtx := inc16 s.r.flt.alarmtx }
    |> logEvent 0x1004 [(acc : Int), (s.flt.alarmCause : Int)]
  match s.flt.proc with
  | some ⟨c, .alarm⟩ => procFinish c (releaseSeat 7 s)
  | _ => s

/-- A fault telegram has been sent (R104, R457): `SBTEL`; a held alarm frame follows 5 s after the first. -/
def faultSent (s : State) : State :=
  { s with r.sys.sbtel := inc16 s.r.sys.sbtel
           flt.alarmDue := if s.r.sys.sbtel = 0 ∧ s.flt.alarmHeld.isSome = true then some (s.now + 5000000) else s.flt.alarmDue }

/-- A listen window is due after an event of R386 on this frequency, unless its seat was dropped. -/
def listenAfter (hz num : Nat) (s : State) : State :=
  if listens s && hasSeat 3 s then { s with ln.listenDue := some (hz, num) } else s

/-- A meter receives for 50 ms after each frame of its session; a seat that is not admitted ends it (R388). -/
def sessionWindow (s : State) : State :=
  match s.ln.session with
  | none => s
  | some x =>
    let s := openWindow .reader 50000 (sessionTuning x.c0 x.k s) s
    if s.ln.rxSince.isSome || s.ln.rxWait.isSome then s else closeSession 4 s

/-- The end of an ACK: in a slot of the parent its seats stay for the next one (R375). -/
def ackSent (s : State) : State :=
  match s.ln.slot with
  | some x => { s with ln.slot := some { x with ackEnd := some s.now } }
  | none => releaseSeat 7 s

/-- What follows the end of a frame, by its use. -/
def afterFrame (f : TxFrame) (hz num : Nat) (s : State) : State :=
  match f.use with
  | .beacon => { s with r.lnk.bcntx := inc16 s.r.lnk.bcntx } |> releaseSeat 7 |> listenAfter hz num
  | .poll | .join => s
  | .ackFrame => ackSent s
  | .handover | .upload => s
  | .hello | .session => s |> releaseSeat 7 |> sessionWindow
  | .wake => releaseSeat 7 s
  | .legacy | .fallback =>
    let s := if f.use == .legacy then { s with r.lnk.legtx := inc16 s.r.lnk.legtx } else { s with r.lnk.fbtx := inc16 s.r.lnk.fbtx }
    { s with rad.replyDue := !carriage f s && hasReply (enMode s) && hasSeat 3 s } |> releaseSeat 7 |> listenAfter hz num
  | .fault => { s with r.rf.seqtx := inc16 s.r.rf.seqtx } |> faultSent |> domOff [.rf] |> releaseSeat 7 |> restartLink
  | .alarm =>
    { s with r.rf.seqtx := inc16 s.r.rf.seqtx } |> domOff [.rf] |> alarmSent |> releaseSeat 7 |> restartLink

/-- TRANSMISSION_END: the ramp-down of the frame in the air ends. -/
def execTransmissionEnd (smp : Sample) (s : State) : Host.Outcome State Fault Refusal :=
  match s.rad.air with
  | none => .next s
  | some f =>
    let hz := frameHz f s
    let num := (frameChan f s).1
    done (sample smp s
      |> (fun s => { s with rad.air := none, rad.ctl0 := false, rad.mode := if f.use.sequencer then .off else .idle
                            rad.owner := if f.use.sequencer then .none else if f.use.exchange then .link else .none
                            r.rf.txcnt := inc16 s.r.rf.txcnt, r.rf.rfstatLock := false
                            ln.qlink := if f.use.sequencer || !s.ln.member then s.ln.qlink else s.ln.qlink + txCharge f s })
      |> afterFrame f hz num)

/-! ## Frames lost in the air -/

/-- A frame in the air is lost with its seat (R125, R474). -/
def loseFrame (s : State) : State :=
  match s.rad.air with
  | none => s
  | some f =>
    let s := { s with rad.air := none, rad.ctl0 := false, rad.mode := if f.use.sequencer then .off else .idle
                      rad.owner := .none, r.rf.txabort := inc16 s.r.rf.txabort, r.rf.rfstatLock := false }
      |> restSequencer f
    match f.use with
    | .beacon => s |> closeWindow |> releaseSeat 7
    | .fault => releaseSeat 7 s
    | .handover => { s with rad.queue := f :: s.rad.queue } |> closeWindow |> releaseSeat 7
    | .alarm =>
      (match s.flt.proc with
       | some ⟨c, .alarm⟩ => procFinish c s
       | _ => restartLink (releaseSeat 7 s))
    | _ => tellDropped f s

/-- VRES_TX_FLOOR: VRES has fallen below 2.30 V during a transmission (R474). -/
def execVresTxFloor (s : State) : Host.Outcome State Fault Refusal := done (loseFrame s)

/-! ## SYNTH_LOCK_TIMEOUT (R338) -/

/-- The use that waits for the synthesizer is abandoned after its second failure: 0x0B01 with the frequency in kHz,
`RFCALFAIL`, and its requester told. -/
def abandonUse (s : State) : State :=
  let fail := fun (hz : Nat) (s : State) =>
    { s with rad.synFails := 0, r.rf.rfcalfail := inc16 s.r.rf.rfcalfail } |> logEvent 0x0B01 (w32 (hz / 1000))
  if s.ln.rxSince.isSome then
    let s := fail s.r.rf.rffreq.toNat s
    closeWindow (match heldWork 3 s with | some w => heedDrop s w | none => s)
  else match frameToSend s with
  | some f => tellDropped f (fail (frameHz f s) s)
  | none => s

/-- SYNTH_LOCK_TIMEOUT: at a use that has begun, a receiver that has been turned on or a frame whose seat is held. -/
def execSynthLockTimeout (s : State) : Host.Outcome State Fault Refusal :=
  if s.rad.air.isSome || (s.ln.rxSince.isNone && (frameToSend s).isNone) then .next s
  else
    let hz := if s.ln.rxSince.isSome then s.r.rf.rffreq.toNat else ((frameToSend s).map (fun f => frameHz f s)).getD 0
    let s := calibrateSynth (bandOf hz) { s with r.rf.rfstatLock := false }
    if s.rad.synFails = 0 then .next { s with rad.synFails := 1 } else done (abandonUse s)

/-! ## Reply windows (R335, R392) -/

/-- Frequency on which a mode receives in its reply window, Hz (Table 13.3). -/
def replyHz (mode : Nat) : Nat := if mode = 5 then 869525000 else if mode = 6 then 169431250 else 868300000

/-- The receive use that runs. -/
def receiving (u : RxUse) (s : State) : Bool := s.ln.rxSince.isSome && heldWork 3 s == some (.receive u)

/-- The receiver's setting in a reply window. -/
def replyTuning (s : State) : Tuning := { hz := replyHz (enMode s), num := 0xFF, rate := 0x10 + enMode s }

/-- REPLY_WINDOW_OPEN: a deadline-bound window of unit 3 (R335); the listen window before it ends. -/
def execReplyWindowOpen (s : State) : Host.Outcome State Fault Refusal :=
  if !s.rad.replyDue then .next s
  else onTimer (fun s =>
    receiverOff { s with rad.replyDue := false, ln.listenDue := none, ln.listening := false }
      |> openWindow .reply 1000 (replyTuning s)) s

/-- REPLY_WINDOW_CLOSE: without a synchronisation word the receiver is disabled. -/
def execReplyWindowClose (s : State) : Host.Outcome State Fault Refusal :=
  if receiving .reply s then done (closeWindow s) else .next s

/-- Strength and frequency error of a good frame whose command gives no measurement (R339): values left open (log 158). -/
def measureOpen (s : State) : State :=
  let (a, s) := draw s
  let (b, s) := draw s
  { s with r.rf.rfrssi := BitVec.ofNat 16 a, r.rf.rffei := BitVec.ofNat 16 b }

/-- EN13757_ACK_RECEIVED: only C-field 0x00 with the device's A-field is accepted (R392); the frame is given from its C-field
on. -/
def execEn13757AckReceived (frame : List Byte) (s : State) : Host.Outcome State Fault Refusal :=
  if !receiving .reply s then .next s
  else
    let i := enIdent s
    let a := leBytes 4 i.idnum ++ leBytes 1 i.version ++ leBytes 1 i.devtype
    let ok := frame.take 1 == [0x00] && slice frame 3 6 == a
    let s := measureOpen s
    done (closeWindow { s with r.rf.rxcnt := inc16 s.r.rf.rxcnt
                               r.lnk.legack := if ok then inc16 s.r.lnk.legack else s.r.lnk.legack })

/-! ## The sequencer (R344, R345, R457) -/

/-- SEQUENCER_COMMAND: a command that waited proceeds, and a held alarm frame that is due is sent (R457). -/
def execSequencerCommand (smp : Sample) (s : State) : Host.Outcome State Fault Refusal :=
  if s.phase == .operating || s.phase == .safeBeacon false || s.phase == .safeBeacon true then
    let s := pumpSequencer (sample smp s)
    match s.flt.alarmHeld, s.flt.alarmDue, s.flt.alarm with
    | some c, some t, some _ =>
      if radioSilent s || decide (s.now < t) then done s
      else done (sequencerSend (alarmTx s) { s with flt.alarmDue := none, flt.alarmCause := c })
    | _, _, _ => done s
  else .next s

/-- The LNK and RF domains go off and on (R345, R452): what the Link core had under way is lost. -/
def resetLink (s : State) : State :=
  let keep := match s.rad.air with | some f => f.use.sequencer | none => false
  let s := receiverOff s
  { s with ln.exch := none, ln.ackOpen := false, ln.slot := none, ln.asked := none, ln.rxWait := none, ln.session := none, ln.helloDue := false
           ln.search := none, ln.listenDue := none, ln.listening := false, ln.promote := false, ln.run := none, ln.sync := .none, ln.loaded := []
           rad.queue := s.rad.queue.filter (fun f => f.use.sequencer)
           rad.air := if keep then s.rad.air else none, rad.mode := if keep then .tx else .off, rad.ctl0 := keep
           rad.ctl1 := false, rad.owner := if keep then .sequencer else .none, rad.replyDue := false
           cl.waiting := s.cl.waiting.filter (fun x => x.unit != 3 && (keep || x.unit != 7)) }
    |> domOff [.lnk, .rf] |> releaseSeat 3 |> onlyIf (!keep) (releaseSeat 7)

/-- SEQUENCER_TAKEOVER: the Link core has not released the transceiver for 2 s (R345). -/
def execSequencerTakeover (s : State) : Host.Outcome State Fault Refusal :=
  match s.rad.seqCmd with
  | none => .next s
  | some (t, f) =>
    done (resetLink s |> logEvent 0x0B04 [((max 2000 ((s.now - t) / 1000) : Nat) : Int)]
      |> (fun s => { s with rad.linkRestart := true }) |> sequencerSend f)

/-! ## LEGACY telegrams (R391) -/

/-- LEGACY_TELEGRAM_DUE: a telegram of the daily schedule. -/
def execLegacyTelegramDue (smp : Sample) (s : State) : Host.Outcome State Fault Refusal :=
  if s.ln.role != .legacy || s.cat.link.telday = 0 || s.rad.unavailable then .next s
  else onTimer (fun s =>
    let (f, s) := telegram .legacy none (sample smp s)
    queueTx f s) s

end Sys2Proof.Machine
end

