-- ==== Sys2Proof/Machine/Link.lean ====
section
/-! DEFINITION. The Mogal link (R354 to R386, R391): superframes, beacons, exchanges, joins, searches, the parent's slots, the
hand-over and listen windows. -/

namespace Sys2Proof.Machine

/-! ## Shared steps -/

/-- State of an endpoint that has lost or not found its parent (R376): telegrams, the first at once, and the next retry. -/
def searchFailed (s : State) : State :=
  let next := if s.ln.backoff = 0 then 60 else if s.ln.backoff = 960 then 1440 else min 1440 (s.ln.backoff * 2)
  let s := { s with ln.search := none, ln.sync := .fallback, ln.backoff := next
                    ln.nextSearch := some (s.now + next * 60000000)
                    ln.nextFallback := some (s.now + s.cat.link.legint * 60000000), ln.exch := none }
    |> logEvent 0x0C03 [(next : Int)]
  let (f, s) := telegram .fallback none s
  queueTx f s

/-- The parent role ends after a hand-over (R384), or a role that a reload changed starts (R356). -/
def leaveParent (s : State) : State :=
  match s.ln.cfg with
  | some _ => if cfgChangesRole s then startRole (applyCfg s) else becomeEndpoint false (applyCfg s)
  | none => becomeEndpoint false s

/-- A received key that may still be used for transmission (R363). -/
def replyKey (f : LinkFrame) (s : State) : Option KeyRec := (loadedKey f.kind f.keyid s).filter (usable s)

/-- A frame that asks for an acknowledgement gets one, built and queued (Table 14.3, R365, R374): the receiver turns off for it, and
1.000 ms after the frame it begins. -/
def sendAck (f : LinkFrame) (st idx chan : Nat) (s : State) : State :=
  match (replyKey f s).filter (fun _ => f.ackreq) with
  | none => s
  | some k =>
    let (p, _, s) := secureFrame 3 false false k f.src (leBytes 4 f.ctr ++ leBytes 1 st ++ leBytes 1 idx) s
    receiverOff s |> queueTx { use := .ackFrame, channel := some chan, rate := 0, airtime := psduTime 0 p s + ramps
                               deadline := some (s.now + 1000), bytes := p }

/-- The listen window that follows an exchange (R386). -/
def listenAfterExchange (s : State) : State :=
  let n := slalom (sfnNow s) s
  listenAfter (channelHz s.cat.radio.band n) n s

/-- An exchange ends; its unit-3 seat stays for the listen window where one follows (R375, R386). -/
def finishExchange (s : State) : State :=
  let s := listenAfterExchange { s with ln.exch := none, ln.ackOpen := false, rad.owner := .none } |> receiverOff |> releaseSeat 7
  if s.ln.listenDue.isSome then s else releaseSeat 3 s

/-! ## SUPERFRAME_BOUNDARY (R367) -/

/-- A day in the parent role is counted once per local day (log 73). -/
def countParentDay (s : State) : State :=
  if s.ln.role == .parent && s.ln.search.isNone && s.ln.parDay != some (localDay s) then
    { s with ln.parDay := some (localDay s)
             r.lnk.pardays := if s.ln.parDay.isSome then inc16 s.r.lnk.pardays else s.r.lnk.pardays }
  else s

/-- The parent's own copy as an entry of `CEKIND` 4, on its own schedule (R379). -/
def ownUpload (s : State) : State :=
  if s.ln.role == .parent && s.ln.search.isNone && uploadDue s.ln.index s.cat.link.telday (sfnNow s) then
    csOwn 4 (pollPayload (if s.cat.link.telday = 0 then 2 else 1) 0 s) s
  else s

/-- The bulk frames of a superframe count anew, and one that waits takes its channel there (R368). -/
def restartBulk (s : State) : State :=
  { s with ln.ho.k := 0
           rad.queue := s.rad.queue.map (fun f =>
             if f.use == .handover then { f with channel := some (bulkChannel (sfnNow s) 0 s) } else f) }

/-- The next superframe begins after the boundary `b` (R367): its number, its boundary, the configuration that it
takes up, the day as a parent, the own upload, and the end of a parent that hands over. -/
def nextSuperframe (b : Nat) (smp : Sample) (s : State) : State :=
  let s := sample smp s
  let s := endServedSlot s
  let s := restartBulk { s with r.lnk.sfn := s.r.lnk.sfn + 1, ln.boundary := some (b + superframe) }
  let s := if cfgChangesRole s then s else applyCfg s
  let s := s |> countParentDay |> ownUpload
  if s.ln.ho.leaving && s.ln.role == .parent && decide (s.ln.ho.h + 4 ≤ sfnNow s) then leaveParent s else s

/-- SUPERFRAME_BOUNDARY: the next superframe begins. -/
def execSuperframeBoundary (smp : Sample) (s : State) : Host.Outcome State Fault Refusal :=
  match s.ln.boundary with
  | none => .next s
  | some b =>
    if !(s.ln.role == .parent || s.ln.role == .endpoint) then .next s else onTimer (nextSuperframe b smp) s

/-! ## Beacons (R369 to R371, R373) -/

/-- Payload of Table 14.5 for the superframe that begins at `b`. -/
def beaconPayload (b : Nat) (s : State) : List Byte :=
  let ho := s.ln.ho.st == .announced || s.ln.ho.st == .transferring
  let civ := s.tl.civNs + (b - s.now) * 1000
  let resid := if tlmono s = s.tl.contact then rtcResid s else ownResid s
  leBytes 4 (sfnNow s + 1) ++ leBytes 4 s.cat.link.clusterid ++ leBytes 6 (civ * 32768 / 1000000000 * 2)
    ++ leBytes 2 (min 65535 (ceilDiv (tlunc s) 10)) ++ leBytes 1 (min 255 resid) ++ leBytes 2 (reserveScore s)
    ++ leBytes 4 ((bestMember s).map (·.id) |>.getD 0)
    ++ leBytes 4 (if ho then s.ln.ho.succ else 0) ++ leBytes 4 (if ho then s.ln.ho.h else 0)
    ++ leBytes 1 s.ln.members.length
    ++ leBytes 1 ((if s.r.clk.tlstatLost then 0 else 1) + (if ho then 2 else 0) + (if ho && s.ln.ho.forced then 4 else 0)
        + (if csLow s then 8 else 0))

/-- The parent's secured beacon for the boundary `b` is queued, with its seat and that of the listen window after it (R369, R375). -/
def queueBeacon (b : Nat) (s : State) : State :=
  match clusterKey s with
  | none => s
  | some k =>
    let (p, _, s) := secureFrame 1 false false k broadcast (beaconPayload b s) s
    let f : TxFrame := { use := .beacon, channel := some (slalom (sfnNow s + 1) s), rate := 0
                         airtime := psduTime 0 p s + ramps, deadline := some (b - 400), bytes := p }
    queueTx f { s with rad.owner := .link }
      |> requestsTogether (fun s => postSeat 7 (txClass s) f.airtime f.deadline (.transmit .beacon)
          (onlyIf (listens s) (postSeat 3 100 1800 (some (b - 400)) (.receive .listen)) s))

/-- BEACON_REQUEST: 5 ms before the boundary; the seat's deadline is 400 µs before it (R369), and the listen window's seat is
asked for with it (R375). -/
def execBeaconRequest (smp : Sample) (s : State) : Host.Outcome State Fault Refusal :=
  match s.ln.boundary with
  | none => .next s
  | some b0 =>
    if s.ln.role != .parent || s.ln.search.isSome || s.rad.unavailable then .next s
    else onTimer (fun s => queueBeacon (b0 + superframe) (endServedSlot (sample smp s))) s

/-- A beacon offers its time (R370); the offer is carried from the preamble start to the moment of reception. -/
def beaconTime (p : List Byte) (air : Nat) (s : State) : State :=
  if (u8 p 32).testBit 0 then
    (offerTime 3 (leNat (slice p 8 6) + air * 65536 / 1000000) (u16 p 14 * 10 + 100) s).2
  else s

/-- An unannounced parent (R370): 0x0C0F, and the previous one is reported by R372. -/
def newParent (src : Nat) (s : State) : State :=
  let old := s.r.lnk.parentid.toNat
  let announced := s.ln.bsucc == src && s.ln.bflags.testBit 1
  if s.ln.role == .endpoint && old != 0 && old != src && !announced then
    { s with ln.other := some (old, tlmono s) } |> logEvent 0x0C0F (w32 old ++ w32 src)
  else s

/-- A search that accepted a beacon (R376, R385): synchronised, as an endpoint. -/
def searchFound (src : Nat) (s : State) : State :=
  match s.ln.search with
  | none => s
  | some k =>
    { s with ln.search := none, ln.backoff := 0, ln.nextSearch := none, ln.nextFallback := none, ln.promote := false
             ln.role := if s.ln.role == .parent then .endpoint else s.ln.role }
      |> logEvent 0x0C02 (w32 src ++ [(k.code : Int)])

/-- The alarm that waits longest is sent in the open slot (R377). -/
def alarmExchange (s : State) : State :=
  match s.ln.alarms, s.ln.boundary with
  | c :: _, some b =>
    if s.ln.role == .endpoint && s.ln.member && s.ln.exch.isNone then
      match pairKey s.r.lnk.parentid.toNat s with
      | some k =>
        let (j, s) := drawK s
        let (p, ctr, s) := secureFrame 2 true false k s.r.lnk.parentid.toNat (pollPayload 3 c s) s
        startExchange .alarm p ctr b 1 (j * 1000) s
      | none => searchFailed s
    else s
  | _, _ => s

/-- The device's own poll slot of the superframe is still to come. -/
def ownSlotAhead (s : State) : Bool :=
  s.ln.boundary.any (fun b => decide (s.now ≤ slotStart b (2 + s.ln.index) s))

/-- A poll is built and its exchange set up in the device's own slot (R372, R374); without a usable cluster key the endpoint is as
after a failed search (R363). -/
def sendPoll (s : State) : State :=
  let kind := if s.cat.link.telday = 0 then 2 else 1
  match pairKey s.r.lnk.parentid.toNat s, clusterKey s with
  | some k, some _ =>
    let (p, ctr, s) := secureFrame 2 true false k s.r.lnk.parentid.toNat (pollPayload kind 0 s) s
    startExchange .poll p ctr (s.ln.boundary.getD s.now) (2 + s.ln.index) 0 { s with ln.owed := false }
  | _, _ => searchFailed (uploadFailed { s with ln.owed := false })

/-- An upload that was moved is sent after the next accepted beacon, where no further upload falls due in that superframe (R372). -/
def movedUpload (s : State) : State :=
  if s.ln.owed && s.ln.role == .endpoint && s.ln.member && s.ln.exch.isNone && ownSlotAhead s
      && !uploadDue s.ln.index s.cat.link.telday (sfnNow s) then sendPoll s
  else s

/-- An accepted beacon (R370); the preamble began one airtime before its end. -/
def acceptBeacon (f : LinkFrame) (air : Nat) (s : State) : State :=
  let p := f.body
  s |> newParent f.src
    |> (fun s => { s with r.lnk.parentid := BitVec.ofNat 32 f.src, r.lnk.sfn := BitVec.ofNat 32 (u32 p 0)
                          r.lnk.bcnrx := inc16 s.r.lnk.bcnrx, r.lnk.missrun := 0
                          r.lnk.deputyid := BitVec.ofNat 32 (u32 p 19)
                          ln.boundary := some (s.now - air), ln.bres := some (u8 p 16), ln.bflags := u8 p 32
                          ln.bsucc := u32 p 23, ln.bhsfn := u32 p 27, ln.deputy := u32 p 19 == linkId
                          ln.gotBeacon := some (u32 p 0) })
    |> contact |> beaconTime p air |> searchFound f.src
    |> (fun s => { s with ln.sync := .synced })
    |> closeWindow |> alarmExchange |> movedUpload |> saveLink

/-- BEACON: a BEACON frame received in a beacon window or a search. -/
def execBeacon (f : RxFrame) (s : State) : Host.Outcome State Fault Refusal :=
  if !(receiving .beacon s || receiving .search s) then .next s
  else
    let (r, s) := receive f s
    match r with
    | .deliver x =>
      if x.typ = 1 ∧ x.kind = 0 ∧ x.body.length = 33 ∧ u32 x.body 4 = s.cat.link.clusterid then
        done (acceptBeacon x (psduTime 0 f.psdu s) s)
      else done s
    | _ => done s

/-- A beacon window starts: under its seat the receiver turns on. One whose request was dropped is not opened, and is no miss (R371). -/
def openBeacon (w : BeaconWindow) (s : State) : State :=
  let s := match w.guard with | some g => { s with r.lnk.guard := BitVec.ofNat 16 (min g 65535) } | none => s
  if s.ln.asked == some w.boundary && !hasSeat 3 s then s
  else openWindow (windowUse s) w.len w.tuning { s with ln.asked := some w.boundary }

/-- BEACON_WINDOW_OPEN: the receiver of a synchronised endpoint turns on at T − G (R371, R373), or that of a targeted search around an
expected boundary (R376). -/
def execBeaconWindowOpen (s : State) : Host.Outcome State Fault Refusal :=
  match (openingWindow s).filter (fun _ => linkUp s) with
  | some w => onTimer (openBeacon w) s
  | none => .next s

/-- BEACON_WINDOW_CLOSE: a window that closes without an accepted beacon is a miss of a synchronised endpoint; three in
succession declare the parent lost (R371). -/
def execBeaconWindowClose (s : State) : Host.Outcome State Fault Refusal :=
  if receiving .search s then (if s.ln.search == some .blind then .next s else done (closeWindow s))
  else if receiving .beacon s then
    let n := s.r.lnk.missrun.toNat + 1
    let s := closeWindow { s with r.lnk.bcnmiss := inc16 s.r.lnk.bcnmiss, r.lnk.missrun := BitVec.ofNat 16 (min n 3) }
    done (if n < 3 then s else logEvent 0x0C01 (w32 s.r.lnk.parentid.toNat) s |> beginSearch)
  else .next s

/-! ## Exchanges of an endpoint (R372, R374, R375, R377) -/

/-- UPLOAD_DUE: the upload superframe has come (R372). Without its beacon, or while another exchange runs, the upload moves to
the next superframe whose beacon is accepted; one that is still owed by then cannot be moved. -/
def execUploadDue (smp : Sample) (s : State) : Host.Outcome State Fault Refusal :=
  if s.ln.role != .endpoint || !s.ln.member || s.ln.sync != .synced then .next s
  else onTimer (fun s =>
    let s := sample smp s
    let s := onlyIf s.ln.owed uploadFailed s
    if s.ln.gotBeacon == some (sfnNow s) && s.ln.exch.isNone && ownSlotAhead s then sendPoll s else { s with ln.owed := true }) s

/-- JOIN_SEND: in the open slot after an accepted beacon (R377). -/
def execJoinSend (smp : Sample) (s : State) : Host.Outcome State Fault Refusal :=
  if s.ln.role != .endpoint || s.ln.member || s.ln.sync != .synced || s.ln.exch.isSome then .next s
  else onTimer (fun s =>
    let s := sample smp s
    match clusterKey s, s.ln.boundary with
    | some k, some b =>
      let (j, s) := drawK s
      let (p, ctr, s) := secureFrame 4 true false k s.r.lnk.parentid.toNat
        (leBytes 2 (reserveScore s) ++ leBytes 2 s.cat.link.telday) s
      startExchange .join p ctr b 1 (j * 1000) s
    | _, _ => searchFailed s) s

/-- The frame whose acknowledgement is awaited: that of the exchange, or the hand-over frame that was sent. -/
def awaited (s : State) : Option (List Byte × Nat) :=
  match s.ln.exch, s.ln.ho.frames.head? with
  | some x, _ => some (x.frame, x.ctr)
  | none, some h => if s.ln.ho.st == .transferring && h.built then some (h.bytes, h.ctr) else none
  | none, none => none

/-- ACK_WINDOW_OPEN: at the frame end + 0.8 ms, on the channel of the frame at the base rate (R368, R374). -/
def execAckWindowOpen (s : State) : Host.Outcome State Fault Refusal :=
  match awaited s with
  | none => .next s
  | some (p, _) =>
    if s.rad.air.isSome || s.ln.ackOpen || s.rad.queue.any (fun f => f.bytes == p) then .next s
    else
      let s := openWindow .ack (ackWindow s) (channelTuning s.r.rf.rfchanNum.toNat 0 s) s
      done { s with ln.ackOpen := s.ln.rxSince.isSome || s.ln.rxWait.isSome }

/-! ### Frames of a hand-over (R384; layout of the payload: log 37) -/

/-- A row of the member table and a mark as items of a HANDOVER payload. -/
def memberItem (m : Member) : List Byte :=
  leBytes 4 m.id ++ leBytes 1 m.index ++ leBytes 2 m.telday ++ leBytes 2 m.rs ++ leBytes 4 m.heard

/-- A mark of R365. -/
def markItem (m : Mark) : List Byte := leBytes 4 m.src ++ leBytes 1 m.kind ++ leBytes 1 m.keyid ++ leBytes 4 m.ctr ++ m.mic

/-- Items packed whole into payloads of at most 229 octets behind a head octet; each payload with the numbers of its items. -/
def packItems (head : Byte) : List (Nat × List Byte) → List (List Byte × List Nat)
  | [] => []
  | (n, x) :: rest =>
    match packItems head rest with
    | (p, ns) :: more =>
      if p.length + x.length ≤ 229 then (head :: (x ++ p.drop 1), n :: ns) :: more else (head :: x, [n]) :: (p, ns) :: more
    | [] => [(head :: x, [n])]

/-- The frames of a transfer, in the order of R384: member table, marks, uncollected entries, and the end frame. -/
def handoverFrames (s : State) : List HoFrame :=
  let of := fun (part : Nat) (head : Byte) (items : List (Nat × List Byte)) =>
    (packItems head items).map (fun (x : List Byte × List Nat) => ({ bytes := x.1, part, nums := x.2 } : HoFrame))
  of 0 0x00 (s.ln.members.map (fun m => (m.index, memberItem m)))
    ++ of 0 0x01 (s.ln.marks.map (fun m => (0, markItem m)))
    ++ of 1 0x02 ((csUncollected s).map (fun e => (e.num, e.bytes)))
    ++ [{ bytes := 0x03 :: leBytes 4 s.ln.csNext, part := 2 }]

/-- The next hand-over frame is secured, once, and queued at the bulk rate for the bulk slots; one that is sent again keeps its channel
(R368, R384). -/
def sendHandover (s : State) : State :=
  match s.ln.ho.frames with
  | [] => s
  | h :: rest =>
    let (h, s) := if h.built then (h, s) else
      match pairKey s.ln.ho.succ s with
      | some k =>
        let (p, ctr, s) := secureFrame 5 true (!rest.isEmpty) k s.ln.ho.succ h.bytes s
        ({ h with bytes := p, ctr, built := true }, s)
      | none => (h, s)
    if h.built then
      let air := psduTime 1 h.bytes s + ramps
      { s with ln.ho.frames := h :: rest }
        |> queueTx { use := .handover, channel := some (bulkChannel (sfnNow s) s.ln.ho.k s), rate := 1, airtime := air, bytes := h.bytes
                     notBefore := some (monoAt (bulkFrom (air + 800 + ackWindow s) s) s) }
    else s

/-- A hand-over frame has been acknowledged: its entries are marked as transferred, and the next one follows. -/
def handoverAcked (s : State) : State :=
  match s.ln.ho.frames with
  | [] => s
  | h :: rest =>
    { s with ln.ho.frames := rest, ln.ho.k := s.ln.ho.k + 1, ln.ho.lastItem := h.part + 1, ln.ho.moved := s.ln.ho.moved + h.nums.length * (if h.part = 1 then 1 else 0)
             ln.ho.tableAck := s.ln.ho.tableAck || !(rest.any (fun x => x.part == 0)), ln.ho.endAck := h.part == 2 }
      |> onlyIf (h.part == 1) (csMap (fun e => if h.nums.contains e.num then { e with coll := 0x0F } else e))
      |> sendHandover

/-- What an accepted acknowledgement does to its exchange (R374, R377). -/
def exchangeAcked (x : Exchange) (st idx : Nat) (s : State) : State :=
  match x.kind with
  | .join =>
    if st ≤ 1 then
      { s with ln.member := true, ln.index := idx } |> logEvent 0x0C04 [(idx : Int)] |> finishExchange |> saveLink
    else logEvent 0x0C05 [(st : Int)] s |> finishExchange |> searchFailed
  | k =>
    let s := { s with r.lnk.pollok := inc16 s.r.lnk.pollok }
    let s := match k, s.ln.alarms with
      | .alarm, c :: cs => markReported c { s with ln.alarms := cs }
      | _, _ => s
    let s := finishExchange s
    if st = 3 then saveLink { s with ln.member := false } else s

/-- ACK: an ACK that echoes the awaited frame's `CTR` ends the exchange; one of the parent is a contact (R370, R374). -/
def execAck (f : RxFrame) (s : State) : Host.Outcome State Fault Refusal :=
  if !s.ln.ackOpen || s.ln.rxSince.isNone then .next s
  else
    let (r, s) := receive f s
    match r, awaited s with
    | .deliver x, some (_, ctr) =>
      if x.typ = 3 ∧ u32 x.body 0 = ctr then
        let s := if x.src = s.r.lnk.parentid.toNat then contact s else s
        match s.ln.exch with
        | some e => done (exchangeAcked e (u8 x.body 4) (u8 x.body 5) s)
        | none => done (handoverAcked (receiverOff { s with ln.ackOpen := false } |> releaseSeat 7))
      else done s
    | _, _ => done s

/-- An exchange without an accepted acknowledgement ends (R374). -/
def exchangeFailed (x : Exchange) (s : State) : State :=
  finishExchange (if x.kind == .join then s else uploadFailed s)

/-- ACK_WINDOW_CLOSE: the frame is sent again, at most three times and while it fits its slot; a hand-over frame as long as
the transfer runs (R374). -/
def execAckWindowClose (s : State) : Host.Outcome State Fault Refusal :=
  if !s.ln.ackOpen then .next s
  else
    let s := receiverOff { s with ln.ackOpen := false }
    match s.ln.exch with
    | some x =>
      let (k, s) := drawK s
      let stop := s.now + baseTime 6 s + k * 1000 + psduTime 0 x.frame s + 1200 + tSfd s.cat.radio.band
      if x.tries < 4 ∧ stop + 2000 ≤ x.slotEnd then
        done ({ s with ln.exch := some { x with tries := x.tries + 1 }, r.lnk.retries := inc16 s.r.lnk.retries }
          |> sendBase x.kind.use (sfnNow s) x.frame (s.tl.monoUs + baseTime 6 s + k * 1000))
      else done (exchangeFailed x s)
    | none => done (if s.ln.ho.st == .transferring then sendHandover s else s)

/-! ## Searches (R376, R378) -/

/-- A search that found no parent: the cluster is created or resumed, a deputy promotes itself at its next tracked boundary, and
every other endpoint falls back (R355, R376, R378, R385). -/
def searchLost (k : SyncState) (s : State) : State :=
  if s.ln.role == .parent then
    if s.ln.member then becomeParent 1 s
    else
      let n := civS s / 32
      becomeParent 1 { s with ln.index := 0, r.lnk.sfn := BitVec.ofNat 32 n
                              ln.boundary := some (s.now - (s.tl.civNs / 1000 - n * superframe)) }
  else if s.ln.deputy && k == .targeted && s.ln.boundary.isSome then
    { s with ln.search := none, ln.sync := .none, ln.promote := true }
  else searchFailed s

/-- SEARCH_END: a search that has accepted a beacon has already ended; otherwise it has failed. -/
def execSearchEnd (s : State) : Host.Outcome State Fault Refusal :=
  match s.ln.search with
  | none => .next s
  | some k => onTimer (fun s => searchLost k (closeWindow s)) s

/-- SEARCH_RETRY_DUE: the backoff has expired. -/
def execSearchRetryDue (s : State) : Host.Outcome State Fault Refusal :=
  if s.ln.role == .endpoint && s.ln.sync == .fallback && s.ln.search.isNone && !s.rad.unavailable then onTimer beginSearch s
  else .next s

/-- FALLBACK_TELEGRAM_DUE: every `LEGINT` minutes in fallback. -/
def execFallbackTelegramDue (smp : Sample) (s : State) : Host.Outcome State Fault Refusal :=
  if s.ln.role == .endpoint && s.ln.sync == .fallback && !s.rad.unavailable then
    onTimer (fun s =>
      let (f, s) := telegram .fallback none (sample smp s)
      queueTx f { s with ln.nextFallback := some (s.now + s.cat.link.legint * 60000000) }) s
  else .next s

/-- DEPUTY_PROMOTION: at the next tracked boundary (R378), the deputy's table holding itself alone. -/
def execDeputyPromotion (s : State) : Host.Outcome State Fault Refusal :=
  if !s.ln.promote then .next s
  else onTimer (fun s =>
    logEvent 0x0C09 (w32 s.r.lnk.parentid.toNat) { s with ln.promote := false, ln.members := [] } |> becomeParent 3) s

/-! ## The parent's slots (R379, R380, R385) -/

/-- A member's row follows a frame of it. -/
def heardFrom (src telday rs : Nat) (s : State) : State :=
  { s with ln.members := s.ln.members.map (fun m => if m.id == src then { m with telday, rs, heard := tlmono s } else m) }

/-- A poll that the parent accepts: stored, and the row of its member renewed; a source outside the table gets status 3. -/
def acceptPoll (x : LinkFrame) (s : State) : State :=
  let chan := slalom (sfnNow s) s
  match s.ln.members.find? (fun m => m.id == x.src) with
  | none => sendAck x 3 0xFF chan s
  | some m =>
    let kind := match u8 x.body 0 with | 2 => 2 | 3 => 3 | _ => 1
    let other := u32 x.body 6
    let own := fun (y : Slot) => { y with accepted := y.accepted || y.number == 2 + m.index }
    let s := heardFrom x.src (u16 x.body 4) (u16 x.body 2) { s with ln.slot := s.ln.slot.map own }
      |> csStore kind x.src x.ctr x.body |> sendAck x 0 0xFF chan
    if other ≠ 0 ∧ other < linkId then becomeEndpoint true s else s

/-- POLL: a POLL frame received in a poll slot or the open slot. -/
def execPoll (f : RxFrame) (s : State) : Host.Outcome State Fault Refusal :=
  if !actsAsParent s then .next s
  else
    let s := followReceiver s
    if !inSlot f s then done s
    else
      let (r, s) := receive f s
      match r with
      | .deliver x => done (if x.typ = 2 then acceptPoll x s else s)
      | .again x => done (if x.typ = 2 then sendAck x 1 0xFF (slalom (sfnNow s) s) s else s)
      | .nothing => done s

/-- POLL_SLOT_END: a poll slot with a due upload ends; without an accepted poll `UPMISS` counts (R379). -/
def execPollSlotEnd (s : State) : Host.Outcome State Fault Refusal :=
  if !actsAsParent s then .next s
  else
    let s := followReceiver s
    match s.ln.slot with
    | some x => if x.number = 1 then done s else done (endSlot x s)
    | none =>
      match unservedSlot s with
      | some t => done { s with ln.asked := some t, r.lnk.upmiss := inc16 s.r.lnk.upmiss }
      | none => done s

/-- The index that a joining device gets (R380): its previous one, else the lowest free below `CLSIZE`. -/
def joinIndex (src : Nat) (s : State) : Option Nat :=
  match s.ln.members.find? (fun m => m.id == src) with
  | some m => some m.index
  | none => (List.range s.cat.link.clsize).find? (fun i => !(s.ln.members.any (fun m => m.index == i)))

/-- A JOIN that the parent accepts or refuses. -/
def acceptJoin (x : LinkFrame) (s : State) : State :=
  let chan := slalom (sfnNow s) s
  match joinIndex x.src s with
  | none => sendAck x 2 0xFF chan s
  | some i =>
    let row : Member := { id := x.src, index := i, telday := u16 x.body 2, rs := u16 x.body 0, heard := tlmono s }
    { s with ln.members := row :: s.ln.members.filter (fun m => m.id != x.src), r.lnk.joins := inc16 s.r.lnk.joins
             ln.slot := s.ln.slot.map (fun y => { y with accepted := true }) }
      |> sendAck x 0 i chan

/-- JOIN: a JOIN frame received in the open slot. -/
def execJoin (f : RxFrame) (s : State) : Host.Outcome State Fault Refusal :=
  if !actsAsParent s then .next s
  else
    let s := followReceiver s
    if !inSlot f s then done s
    else
      let (r, s) := receive f s
      match r with
      | .deliver x => done (if x.typ = 4 then acceptJoin x s else s)
      | .again x =>
        let i := ((s.ln.members.find? (fun m => m.id == x.src)).map (·.index)).getD 0xFF
        done (if x.typ = 4 then sendAck x 1 i (slalom (sfnNow s) s) s else s)
      | .nothing => done s

/-- MEMBER_REMOVAL: a member unheard for 7 days leaves the table (R380). -/
def execMemberRemoval (index : Fin 64) (s : State) : Host.Outcome State Fault Refusal :=
  match s.ln.members.find? (fun m => m.index == index.val && m.id != linkId) with
  | some m =>
    if actsAsParent s then
      onTimer (fun s => { s with ln.members := s.ln.members.filter (fun x => x.id != m.id) } |> logEvent 0x0C14 (w32 m.id)) s
    else .next s
  | none => .next s

/-! ## Hand-over (R383, R384) -/

/-- HANDOVER_CHOICE: at `HANDHOUR`:00:00 − 300 s. H is the first sync superframe whose boundary lies at or after
`HANDHOUR`:00:00. -/
def execHandoverChoice (s : State) : Host.Outcome State Fault Refusal :=
  if !actsAsParent s || s.ln.ho.st == .announced || s.ln.ho.st == .transferring || s.ln.ho.leaving then .next s
  else onTimer (fun s =>
    match bestMember s, s.ln.boundary with
    | some m, some b =>
      if m.rs < reserveScore s then s
      else
        let n := sfnNow s + ceilDiv (s.now + 300000000 - b) superframe
        let h := (n + 7) / 8 * 8
        { s with ln.ho := { st := .announced, succ := m.id, h }
                 r.lnk.hosucc := BitVec.ofNat 32 m.id, r.lnk.hosfn := BitVec.ofNat 32 h }
    | _, _ => s) s

/-- HANDOVER_TRANSFER_START: at the first bulk slot of H. -/
def execHandoverTransferStart (s : State) : Host.Outcome State Fault Refusal :=
  if !actsAsParent s || s.ln.ho.st != .announced then .next s
  else onTimer (fun s =>
    sendHandover { s with ln.ho.st := .transferring, ln.ho.frames := handoverFrames s, ln.ho.k := 0 }) s

/-- What the successor takes from a HANDOVER payload: rows, marks, entries with `CEFLAGS` bit 0, and the next `CENUM`. -/
def takeItems : Nat → Nat → List Byte → State → State
  | 0, _, _, s => s
  | n + 1, part, p, s =>
    if p.isEmpty then s
    else match part with
    | 0 =>
      let m : Member := { id := u32 p 0, index := u8 p 4, telday := u16 p 5, rs := u16 p 7, heard := u32 p 9 }
      takeItems n part (p.drop 13) { s with ln.members := s.ln.members.filter (fun x => x.id != m.id) ++ [m] }
    | 1 =>
      let m : Mark := { src := u32 p 0, kind := u8 p 4, keyid := u8 p 5, ctr := u32 p 6, mic := slice p 10 8 }
      takeItems n part (p.drop 18)
        { s with ln.marks := s.ln.marks.filter (fun x => !(x.src == m.src && x.kind == m.kind && x.keyid == m.keyid)) ++ [m] }
    | 2 =>
      let len := u16 p 2
      let e : CsEntry := { kind := u8 p 1, num := u32 p 4, src := u32 p 8, ctr := u32 p 12, time := leNat (slice p 16 6)
                           flags := 1, payload := slice p 24 len }
      takeItems n part (p.drop e.size) (csAdd e s)
    | _ => { s with ln.csNext := u32 p 0, ln.ho.gotEnd := true }

/-- A HANDOVER frame that the successor accepts. -/
def acceptHandover (x : LinkFrame) (s : State) : State :=
  let part := u8 x.body 0
  let s := { s with ln.ho.st := .transferring, ln.ho.from_ := x.src, ln.ho.h := s.ln.bhsfn
                    ln.ho.gotTable := s.ln.ho.gotTable || part == 0 }
  takeItems 229 part (x.body.drop 1) s |> sendAck x 0 0xFF (bulkChannel (sfnNow s) s.ln.ho.k s)
    |> fun s => { s with ln.ho.k := s.ln.ho.k + 1 }

/-- A HANDOVER frame that comes again: its acknowledgement was lost, so that it has the channel of the last one (R368, log 159). -/
def handoverAgain (x : LinkFrame) (s : State) : State :=
  let k := s.ln.ho.k - 1
  sendAck x 1 0xFF (bulkChannel (sfnNow s) k s) { s with ln.ho.k := k + 1 }

/-- HANDOVER: a HANDOVER frame received by the announced successor. -/
def execHandover (f : RxFrame) (s : State) : Host.Outcome State Fault Refusal :=
  if !linkUp s then .next s
  else
    let s := followReceiver s
    if !(receiving .transfer s && heardWhole (psduTime 1 f.psdu s) s) then done s
    else
      let (r, s) := receive f s
      match r with
      | .deliver x => done (if x.typ = 5 then acceptHandover x s else s)
      | .again x => done (if x.typ = 5 then handoverAgain x s else s)
      | .nothing => done s

/-- Marks go to object 0x0D (R366). -/
def copyMarks (s : State) : State := saveLink { s with ln.obj.marks := s.ln.marks }

/-- The old parent's side of the end of a transfer (R384); one abandoned while a Hibernate or Off request is held ends the
parent role all the same (R459). -/
def transferEnd (s : State) : State :=
  let s := receiverOff { s with ln.ackOpen := false, rad.queue := s.rad.queue.filter (fun f => f.use != .handover) }
    |> releaseSeat 7 |> releaseSeat 3 |> copyMarks
  if s.ln.ho.endAck then
    { s with ln.ho.st := .completed, ln.ho.leaving := true, r.lnk.hodone := inc16 s.r.lnk.hodone }
      |> logEvent 0x0C07 (w32 s.ln.ho.succ ++ [((s.ln.ho.moved % 65536 : Nat) : Int)])
  else
    let s := { s with ln.ho.st := .abandoned, ln.ho.frames := [], r.lnk.hofail := inc16 s.r.lnk.hofail }
      |> logEvent 0x0C08 (w32 s.ln.ho.succ ++ [(s.ln.ho.lastItem : Int)])
    if s.pw.heldReq.isSome then becomeEndpoint true s
    else if cfgChangesRole s then leaveParent s
    else s

/-- HANDOVER_TRANSFER_END: 120 s after the boundary of H. -/
def execHandoverTransferEnd (s : State) : Host.Outcome State Fault Refusal :=
  if s.ln.ho.st != .transferring then .next s
  else onTimer (fun s =>
    if s.ln.role == .parent then transferEnd s
    else
      let s := closeWindow (copyMarks s)
      if s.ln.ho.gotEnd then { s with ln.ho.st := .completed } else { s with ln.ho := { st := .abandoned }, ln.members := [] }) s

/-- HANDOVER_H4_CHECK: the successor beacons from H + 5 unless it accepted a beacon at H + 4 (R384, R385). -/
def execHandoverH4Check (s : State) : Host.Outcome State Fault Refusal :=
  if s.ln.role == .parent || !s.ln.ho.gotEnd then .next s
  else onTimer (fun s =>
    let heard := s.ln.gotBeacon == some (s.ln.ho.h + 4)
    let s := closeWindow { s with ln.ho := { st := .idle } }
    if heard then { s with ln.members := [] } else becomeParent 2 s) s

/-- MARKS_COPY: every hour. -/
def execMarksCopy (s : State) : Host.Outcome State Fault Refusal := onTimer copyMarks s

/-! ## Listen windows (R386) -/

/-- A listen window opens on the frequency of its event at the wake rate; its seat goes back where it does not. -/
def openListen (hz num : Nat) (s : State) : State :=
  let s := openWindow .listen 1200 { hz, num, rate := 2 } { s with ln.listenDue := none }
  if s.ln.rxSince.isSome || s.ln.rxWait.isSome then { s with ln.listening := true } else releaseSeat 3 s

/-- LISTEN_WINDOW_OPEN: 200 µs after its event, 1.2 ms at the wake rate. -/
def execListenWindowOpen (s : State) : Host.Outcome State Fault Refusal :=
  match s.ln.listenDue with
  | none => .next s
  | some (hz, num) => if s.ln.rxSince.isSome then .next s else onTimer (openListen hz num) s

/-- LISTEN_WINDOW_CLOSE: without a wake word; the seat stays for a reply window that follows. -/
def execListenWindowClose (s : State) : Host.Outcome State Fault Refusal :=
  if !s.ln.listening then .next s
  else
    let s := { s with ln.listening := false }
    done (if s.rad.replyDue then receiverOff s else closeWindow s)

end Sys2Proof.Machine
end

