-- ==== Sys2Proof/Machine/MapRows.lean ====
section
/-! DEFINITION. The values of the service map (R3, R4): for each register table of the spec its words with their values,
those that follow from other state computed here. -/

namespace Sys2Proof.Machine

/-- A value of the map: its lowest word address, its words, and the value (R4). -/
abbrev Row := Nat × Nat × Nat

/-! ## Helpers of the derived fields -/

/-- A flag as its bit. -/
def bit (b : Bool) : Nat := b.toNat

/-- A signed value in two's complement. -/
def int (w : Nat) (v : Int) : Nat := (BitVec.ofInt w v).toNat

/-- Fields of one word, each with the number of its lowest bit. -/
def pack (fs : List (Nat × Nat)) : Nat := fs.foldl (fun n f => n ||| (f.2 <<< f.1)) 0

/-- A time ahead, in µs, as seconds (rounding: log 5). -/
def secondsIn (us : Nat) : Nat := sat32 (roundOpen ((us : Rat) / 1000000)).toNat

/-- Seconds to a time of `monoUs`. -/
def secondsTo (t : Nat) (s : State) : Nat := secondsIn (t - s.tl.monoUs)

/-- A power state that may be absent, as a Table 5.1 code. -/
def stateCode (x : Option PState) : Nat := match x with | some t => t.code | none => 0

/-- `OTPKEY.STATE`. -/
def otpStates (s : State) : Nat := pack ((List.range 4).map (fun i => (2 * i, (vget s.nv.otp i (.empty, 0)).1.code)))

/-- `SBINT` in use (R104). -/
def sbInterval (s : State) : Nat := if factoryLink s then 15 else s.cat.sbint

/-- `SBNEXT`. -/
def sbNext (s : State) : Nat :=
  if s.r.sys.sbstatFails = 3 then 0xFFFFFFFF
  else if s.safe then secondsIn (s.sb.retryFrom + 86400000000 - s.now) else 0

/-- A mask of the channels with a property. -/
def chMask (f : TdcChannel → Bool) (s : State) : Nat := maskOf ((List.range 4).filter (fun n => f (vget s.ch n {})))

/-- Simultaneous paths fire sequentially (R164). -/
def seqForced (s : State) : Bool := noAcB s && s.cat.path.any (fun p => p.fire != 1)

/-- `BINVAL` (R188). -/
def binVal (s : State) : Nat :=
  let i := s.r.tdc.binselIndex.toNat
  match (vget s.ch s.r.tdc.binselCh.toNat {}).table with
  | some t => if i < 64 then t.h.getD i 0 else if i < 89 then t.g.getD (i - 64) 0 else if i = 89 then t.s else 0
  | none => 0

/-- Registers are frozen: in safe-beacon or by R49. -/
def frozen (s : State) : Bool := s.safe || s.phase == .extest

/-- A window of a background pass is held. -/
def bgHeld (s : State) : Bool := match s.bg with | some b => b.held | none => false

/-- `RFSTAT.STATE`: calibrating between a lock failure and its second attempt (R338). -/
def rfState (s : State) : Nat :=
  match s.rad.mode with
  | .off => 0
  | .idle => if s.rad.synFails = 1 then 2 else 1
  | .rx => if s.rad.synFails = 1 then 2 else 3
  | .tx => 4

/-- `RFCFG.TXPWR`: the power in force, in the sub-band of the last channel (R340). -/
def powerNow (s : State) : Int :=
  let rate := s.r.rf.rfchanRate.toNat
  let chan := if rate < 0x10 then some s.r.rf.rfchanNum.toNat else none
  let mode := if rate < 0x10 then s.cat.link.legmode else rate - 0x10
  min s.cat.radio.txpwr (capFor (subBand s.cat.radio chan mode) s)

/-- The channel with the highest occupancy of the last 20 s, and that occupancy in µs (R348). -/
def dwellMax (s : State) : Nat × Nat :=
  (List.range 50).foldl (fun (b : Nat × Nat) c =>
    let d := dwellIn c (s.tl.monoUs - 20000000) s.tl.monoUs s
    if b.2 < d then (c, d) else b) (0, 0)

/-- A command of the sequencer is in progress or held (R345). -/
def sequencerBusy (s : State) : Bool :=
  s.rad.seqCmd.isSome || (s.rad.queue ++ s.rad.air.toList).any (fun f => f.use.sequencer)

/-- The transmit counter of the cluster key in use. -/
def clusterCtr (s : State) : KeyCtr :=
  match clusterKey s with | some k => vget s.ln.ctrs k.keyid {} | none => {}

/-- `AUTHLOCK`: what remains of a lockout on either port, in s (R428). -/
def authLock (s : State) : Nat :=
  min 0xFFFF (maxL ([s.sv.opt.lockUntil, s.sv.hst.lockUntil].map (fun t => match t with
    | some t => secondsIn (t - s.now) | none => 0)))

/-- Expiries within 86 400 s. -/
def recent (l : List Nat) (s : State) : Nat := (l.filter (fun t => decide (tlmono s < t + 86400))).length

/-! ## The register tables -/

/-- Table 4.6 (R107). -/
def sysRows (s : State) : List Row :=
  [(0x0000, 1, 0x9640),
   (0x0001, 1, 0x00B0),
   (0x0002, 4, Config.serial.toNat),
   (0x0006, 2, s.r.sys.patchact.toNat),
   (0x0010, 1, pack [(12, bit (s.sv.opt.service || s.sv.hst.service)), (11, bit (s.safe && factoryLink s)),
       (10, bit (s.r.sys.sbstatFails == 3)), (0, s.phase.code)]),
   (0x0011, 1, s.r.sys.startcause.toNat),
   (0x0012, 1, pack [(8, s.r.sys.stageFailstg.toNat), (0, s.phase.curStage)]),
   (0x0013, 1, s.r.sys.startevt.toNat),
   (0x0014, 1, pack [(1, s.r.sys.stagewarn.toNat)]),
   (0x0015, 1, s.r.sys.startdur.toNat),
   (0x0016, 1, s.r.sys.vreswait.toNat),
   (0x0017, 1, s.r.sys.xtwait.toNat),
   (0x0018, 1, pack [(15, bit s.r.sys.cfgaValid), (14, bit (s.active == some 0)), (8, s.r.sys.cfgaIgncnt.toNat),
       (0, s.r.sys.cfgaReason.toNat)]),
   (0x0019, 2, s.r.sys.seqa.toNat),
   (0x001B, 1, s.r.sys.ignida.toNat),
   (0x001C, 1, s.r.sys.cfgb.toNat ||| (if s.active = some 1 then 0x4000 else 0)),
   (0x001D, 2, s.r.sys.seqb.toNat),
   (0x001F, 1, s.r.sys.ignidb.toNat),
   (0x0020, 2, s.r.sys.mfloor.toNat),
   (0x0022, 1, pack [(10, bit s.r.sys.otpkeyFirst), (8, s.r.sys.otpkeySignslot.toNat), (0, otpStates s)]),
   (0x0023, 1, s.r.sys.wdstart.toNat),
   (0x0028, 1, pack [(8, s.r.sys.sbstatFails.toNat), (0, sbInterval s)]),
   (0x0029, 2, sbNext s),
   (0x002B, 1, s.r.sys.sbtel.toNat),
   (0x002C, 1, s.r.sys.sbevt.toNat),
   (0x0030, 1, pack [(6, bit s.r.sys.restsrcSealok), (4, s.r.sys.restsrcShok.toNat), (0, s.r.sys.restsrcSrc.toNat)]),
   (0x0031, 1, s.r.sys.ncold.toNat),
   (0x0032, 1, s.r.sys.nhib.toNat)]

/-- Table 5.8 (R133), but its arrays. -/
def powerRows (s : State) : List Row :=
  [(0x0100, 1, pack [(15, bit (s.pw.target.isSome)), (12, stateCode s.pw.target), (9, stateCode s.pw.pend),
       (8, bit (s.pw.fast)), (0, s.pw.st.code)]),
   (0x0102, 1, s.pw.dom.toNat ||| 2 ||| (if registrarBusy s then 4 else 0)),
   (0x0103, 1, pack [(4, 3), (0, s.pw.retbank.toNat)]),
   (0x0104, 1, maskOf ((List.range 16).filter (fun n => retainedInStandby s (17 + n)))),
   (0x0105, 1, s.r.pwr.wakesrc.toNat),
   (0x0106, 1, s.r.pwr.vbatmv.toNat),
   (0x0107, 1, s.r.pwr.vresmv.toNat),
   (0x0108, 1, s.r.pwr.vresmin.toNat),
   (0x0109, 1, s.r.pwr.rescest.toNat),
   (0x010A, 1, pack [(12, s.cl.held.length), (8, s.cl.waiting.length),
       (4, match seatHead s.cl.waiting with | some x => x.unit | none => 15)]),
   (0x010B, 1, s.r.pwr.clavail.toNat),
   (0x010C, 1, s.r.pwr.clfree.toNat),
   (0x010D, 1, pack [(12, s.r.pwr.cldropUnit.toNat), (8, s.r.pwr.cldropReason.toNat)]),
   (0x0127, 1, pack [(12, s.r.pwr.pwrefuseRefuser.toNat), (8, s.r.pwr.pwrefuseTarget.toNat),
       (0, s.r.pwr.pwrefuseReason.toNat)]),
   (0x0128, 1, s.r.pwr.latewake.toNat),
   (0x0129, 1, s.r.pwr.pendrepl.toNat),
   (0x012A, 1, s.r.pwr.borcnt.toNat),
   (0x012B, 1, s.r.pwr.vreslowcnt.toNat),
   (0x012C, 1, s.r.pwr.clabort.toNat)]

/-- Table 6.6 (R160). -/
def clockRows (s : State) : List Row :=
  [(0x0200, 1, pack [(15, bit s.r.clk.clkstatVitrdy), (14, bit (s.isOn .vit)), (13, bit s.r.clk.clkstatPllvit),
       (12, bit s.r.clk.clkstatXt32ok), (11, bit s.r.clk.clkstatLprcok), (10, bit (extrapNow s)),
       (9, bit s.r.clk.clkstatStale), (0, s.r.clk.clkstatRtcsrc.toNat)]),
   (0x0201, 1, s.r.clk.vitstatResult.toNat),
   (0x0202, 1, s.r.clk.vitwarm.toNat),
   (0x0203, 2, s.r.clk.vitlast.toNat),
   (0x0205, 1, s.r.clk.xt32err.toNat),
   (0x0206, 1, int 16 (roundOpen (predXt32 s).1)),
   (0x0207, 1, rtcResid s),
   (0x0208, 1, s.r.clk.hfrcerr.toNat),
   (0x0209, 1, s.r.clk.hfrctrim.toNat),
   (0x020A, 2, s.r.clk.tcoarse.toNat),
   (0x020C, 1, s.r.clk.xrferr.toNat),
   (0x020D, 1, int 16 (roundOpen (predXrf s).1)),
   (0x020E, 1, s.r.clk.lprcerr.toNat),
   (0x020F, 1, s.r.clk.dietemp.toNat),
   (0x0210, 1, s.r.clk.calok.toNat),
   (0x0211, 1, s.r.clk.calfail.toNat),
   (0x0212, 1, s.r.clk.xt32loss.toNat),
   (0x0218, 1, pack [(15, bit s.r.clk.tlstatLost), (14, bit (s.tl.slew != 0)), (8, s.r.clk.tlstatSrc.toNat)]),
   (0x0219, 3, tltime s),
   (0x021C, 2, tlunc s),
   (0x021E, 2, tlmono s),
   (0x0220, 2, tlcontu s),
   (0x0222, 1, int 16 s.tl.zone),
   (0x0223, 1, s.r.clk.tlsteps.toNat)]

/-- Table 7.5 (R188). -/
def tdcRows (s : State) : List Row :=
  [(0x0300, 1, pack [(12, chMask (fun c => c.table.isSome) s), (8, chMask (fun c => c.withdrawn) s),
       (4, chMask (fun c => c.st == .armed || c.st == .running) s), (3, bit (s.cal.run)), (2, bit (s.cal.wait.isSome))]),
   (0x0301, 1, s.cat.tdc.assign),
   (0x0302, 1, pack [(10, tempCh s), (8, gateCh s),
       (6, match acB s with | some n => n | none => Config.freeValue s.free % 4), (4, acA s), (3, bit (noAcB s)),
       (0, bit (seqForced s))]),
   (0x0303, 1, pack [(12, s.r.tdc.tdccalCause.toNat), (8, s.r.tdc.tdccalRetry.toNat), (0, s.r.tdc.tdccalAbandon.toNat)]),
   (0x0304, 1, s.r.tdc.tdccaltemp.toNat),
   (0x0305, 2, s.r.tdc.tdccaltime.toNat),
   (0x0307, 1, s.r.tdc.tdccalok.toNat),
   (0x0308, 1, s.r.tdc.tdccalfail.toNat),
   (0x0309, 2, if s.r.tdc.tdccalok = 0 then 0 else secondsTo (s.cal.lastOk + s.cat.tdc.calint * 3600000000) s),
   (0x0310, 1, pack [(14, s.r.tdc.binselCh.toNat), (0, s.r.tdc.binselIndex.toNat)]),
   (0x0311, 2, binVal s)]

/-- Table 7.6 at base `b` for a channel, without its RL words (R188). -/
def chRows (b : Nat) (t : TdcRec) (c : TdcChannel) (w : TdcChRegs) : List Row :=
  [(b + 0x00, 1, pack [(13, c.st.code), (12, bit (c.table.isSome)), (11, bit (c.withdrawn)), (10, bit w.chstatSync),
       (8, w.chstatSlope.toNat), (0, w.chstatNstops.toNat)]),
   (b + 0x01, 1, pack [(8, w.chcfgThr.toNat), (0, t.hyst)]),
   (b + 0x02, 1, holdPeriods t),
   (b + 0x03, 1, w.stopmax.toNat),
   (b + 0x04, 2, w.wopen.toNat),
   (b + 0x06, 2, w.wwidth.toNat),
   (b + 0x08, 3, w.firsthit.toNat),
   (b + 0x0B, 1, w.orderr.toNat),
   (b + 0x0C, 1, w.deadlost.toNat),
   (b + 0x0D, 1, w.shortcnt.toNat),
   (b + 0x0E, 1, w.nohit.toNat),
   (b + 0x0F, 1, w.satcnt.toNat),
   (b + 0x10, 1, w.startlost.toNat),
   (b + 0x24, 1, pack [(4, w.calresultCode.toNat), (0, w.calresultFails.toNat)]),
   (b + 0x25, 1, w.tapmin.toNat),
   (b + 0x26, 1, w.tapmax.toNat),
   (b + 0x27, 1, w.vermin.toNat),
   (b + 0x28, 1, w.vermax.toNat),
   (b + 0x29, 1, w.tapsumdev.toNat),
   (b + 0x2A, 1, w.calsat.toNat)]

/-- The statistics block of Table 7.6. -/
def statRows (b : Nat) (w : TdcChRegs) : List Row :=
  [(b + 0x12, 1, w.statn.toNat),
   (b + 0x13, 1, w.statrej.toNat),
   (b + 0x14, 3, w.statsum.toNat),
   (b + 0x17, 4, w.statsq.toNat),
   (b + 0x1B, 3, w.statref.toNat),
   (b + 0x1E, 2, w.statmin.toNat),
   (b + 0x20, 2, w.statmax.toNat),
   (b + 0x22, 1, w.statreq.toNat),
   (b + 0x23, 1, w.statstop.toNat)]

/-- Table 8.6 (R218), but its array. -/
def driveRows (s : State) : List Row :=
  [(0x0400, 1, pack [(15, bit s.r.drv.xdstatBooston), (14, bit s.r.drv.xdstatVdrvok), (13, bit (s.ps.fast)),
       (12, bit ((runningStep s).isSome)), (0, maskOf (portsUsed s))]),
   (0x0401, 1, s.r.drv.vdrvmv.toNat),
   (0x0402, 1, s.r.drv.vdrvtgt.toNat),
   (0x0403, 1, s.r.drv.boostfail.toNat),
   (0x0404, 1, pack [(8, (runningStep s).getD 0xFF),
       (5, match runningStep s with | some i => (s.cat.step i).action | none => 0), (0, s.cat.steps.length)]),
   (0x0405, 1, s.r.drv.fastcnt.toNat),
   (0x0406, 2, fastSeconds s),
   (0x0408, 1, s.r.drv.psover.toNat),
   (0x0409, 1, match s.ps.checkedAt with | some t => min 0xFFFF (secondsTo (t + 3600000000) s) | none => 0)]

/-- Table 8.7 at base `b` for path `k` (R218). -/
def pathRows (b k : Nat) (w : PathRegs) (s : State) : List Row :=
  [(b + 0x00, 1, pack [(15, bit (s.cat.hasPath k)), (14, bit (s.cat.hasPath k && pathSeq k s)), (13, bit w.pathstatAcq),
       (12, bit w.pathstatClip), (8, if s.cat.hasPath k then rateK k s else 0), (0, w.pathstatGain.toNat)]),
   (b + 0x01, 1, w.pairper.toNat),
   (b + 0x02, 2, w.texp.toNat),
   (b + 0x04, 1, w.burstlen.toNat),
   (b + 0x05, 1, w.freqnow.toNat),
   (b + 0x06, 1, w.pairsfired.toNat),
   (b + 0x07, 1, w.retrycnt.toNat),
   (b + 0x08, 1, w.clipcnt.toNat)]

/-- Table 8.8 at base `b` (R218). -/
def portRows (b : Nat) (w : PortRegs) : List Row :=
  [(b + 0x00, 1, pack [(12, w.xdpstatFault.toNat), (11, bit w.xdpstatIlim)]),
   (b + 0x01, 1, w.zmag.toNat),
   (b + 0x02, 1, w.zphase.toNat),
   (b + 0x03, 2, w.ztime.toNat),
   (b + 0x05, 1, w.ilimcnt.toNat),
   (b + 0x06, 1, w.zfailcnt.toNat)]

/-- Table 9.7 (R247). -/
def fresRows (fresh : Bool) (w : FlowBlock) : List Row :=
  [(0x0500, 1, pack [(15, bit fresh), (12, w.fresStatus.toNat), (11, bit w.fresCut), (10, bit w.fresFast),
       (9, bit w.fresTdconly), (4, w.fresPathval.toNat), (0, w.fresPathsub.toNat)]),
   (0x0501, 1, w.fresSeq.toNat),
   (0x0502, 2, w.qraw.toNat),
   (0x0504, 2, w.qint.toNat),
   (0x0506, 2, w.vmean.toNat),
   (0x0508, 2, w.reyn.toNat),
   (0x050A, 2, w.kfac.toNat),
   (0x050C, 2, w.nuvisc.toNat),
   (0x050E, 1, w.thetam.toNat),
   (0x050F, 1, w.cmean.toNat),
   (0x0510, 1, w.gqi.toNat),
   (0x0511, 3, w.frtime.toNat),
   (0x0514, 1, w.fresPathlost.toNat)]

/-- The path result block of Table 9.8 at base `b`. -/
def presRows (b : Nat) (fresh : Bool) (w : PathWords) : List Row :=
  [(b + 0x00, 1, pack [(15, bit fresh), (12, w.presStatus.toNat), (11, bit w.presInv), (10, bit w.presAcq),
       (9, bit w.presTdconly), (8, bit w.presRetry), (4, w.presNvalid.toNat), (0, w.presNfired.toNat)]),
   (b + 0x01, 1, w.presSeq.toNat),
   (b + 0x02, 3, w.dt.toNat),
   (b + 0x05, 3, w.tup.toNat),
   (b + 0x08, 3, w.tdown.toNat),
   (b + 0x0B, 1, w.csound.toNat),
   (b + 0x0C, 2, w.vpath.toNat),
   (b + 0x0E, 1, w.ampr.toNat),
   (b + 0x0F, 1, w.snrdb.toNat),
   (b + 0x10, 1, w.rho.toNat),
   (b + 0x11, 1, w.madv.toNat),
   (b + 0x12, 1, pack [(12, w.rejaNostop.toNat), (8, w.rejaClip.toNat), (4, w.rejaNoise.toNat),
       (0, w.rejaUnlock.toNat)]),
   (b + 0x13, 1, pack [(12, w.rejbSnr.toNat), (8, w.rejbAmp.toNat), (4, w.rejbInvmix.toNat), (0, w.rejbCrange.toNat)]),
   (b + 0x14, 1, pack [(12, w.rejcMad.toNat)])]

/-- The other words of Table 9.8 at base `b` for path `k`. -/
def pathWordRows (b k : Nat) (w : PathWords) (s : State) : List Row :=
  let learning := (vget s.path k {}).learning
  [(b + 0x18, 1, pack [(15, bit (templateOf k s).isSome), (14, bit learning.isSome),
       (7, match learning with | some l => l.ups.length + l.downs.length | none => 0),
       (4, if (templateOf k s).isSome then gasClass s else 0)]),
   (b + 0x19, 1, w.tpladapt.toNat),
   (b + 0x1A, 1, w.amptrend.toNat),
   (b + 0x1B, 2, w.chofs.toNat),
   (b + 0x1D, 1, w.substrun.toNat),
   (b + 0x1E, 1, w.substcnt.toNat),
   (b + 0x1F, 1, w.losscnt.toNat),
   (b + 0x20, 1, w.invrun.toNat),
   (b + 0x21, 1, w.invcnt.toNat),
   (b + 0x22, 1, w.unlockcnt.toNat),
   (b + 0x23, 1, w.bubblecnt.toNat),
   (b + 0x24, 1, w.phasefb.toNat)]

/-- Table 9.9 at base `b`. -/
def zeroRows (b : Nat) (fresh : Bool) (w : ZeroBlock) : List Row :=
  [(b + 0x00, 1, pack [(15, bit fresh), (14, bit w.zstatAccept), (4, w.zstatNvaln.toNat), (0, w.zstatNvals.toNat)]),
   (b + 0x01, 1, w.zseq.toNat),
   (b + 0x02, 2, w.dtn.toNat),
   (b + 0x04, 2, w.dts.toNat),
   (b + 0x06, 2, w.zofs.toNat),
   (b + 0x08, 3, w.ztime.toNat)]

/-- Table 9.10 (R247). -/
def gasRows (s : State) : List Row :=
  [(0x0680, 1, if !s.gas then 0 else pack [(15, bit s.r.gas.gasstatValid), (14, bit s.r.gas.gasstatBelow),
       (11, s.r.gas.gasstatClass.toNat), (8, s.r.gas.gasstatCand.toNat), (6, s.r.gas.gasstatCandn.toNat),
       (3, (gasRec (gasClass s) s).cmodel)]),
   (0x0681, 1, s.r.gas.gqiv.toNat),
   (0x0682, 1, s.r.gas.classchg.toNat),
   (0x0683, 1, pack [(15, bit s.r.gas.cutstatCut)])]

/-- Table 10.3 (R263). -/
def tresRows (fresh : Bool) (w : TempBlock) : List Row :=
  [(0x0700, 1, pack [(15, bit fresh), (13, w.tresStatus.toNat), (12, bit w.tresSwapact), (11, bit w.tresSwapdet),
       (10, bit w.tresHalt), (9, bit w.tresNocoef), (4, w.tresChval.toNat), (0, w.tresChen.toNat)]),
   (0x0701, 1, w.tresSeq.toNat),
   (0x0702, 2, w.thflow.toNat),
   (0x0704, 2, w.thret.toNat),
   (0x0706, 2, w.deltat.toNat),
   (0x0708, 2, w.thn[0].toNat),
   (0x070A, 2, w.thn[1].toNat),
   (0x070C, 2, w.thn[2].toNat),
   (0x070E, 2, w.thn[3].toNat),
   (0x0710, 3, w.trtime.toNat),
   (0x0713, 1, w.trdelay.toNat),
   (0x0714, 1, pack [(8, w.travg.toNat)]),
   (0x0715, 2, w.trdur.toNat)]

/-- Table 10.4 at base `b` for channel `n` (R263); TREF is always measured, in 4-wire form, and its resistance is given. -/
def tempChRows (b n : Nat) (w : TempChRegs) : List Row :=
  [(b + 0x00, 1, pack [(12, w.tchstatFault.toNat), (11, bit (n == 4 || w.tchstatFourw)), (10, bit (n == 4 || w.tchstatEn)),
       (0, w.tchstatNuse.toNat)]),
   (b + 0x01, 2, w.tchtime.toNat),
   (b + 0x03, 2, w.tchratio.toNat),
   (b + 0x05, 2, if n = 4 then 1000000 else w.tchres.toNat),
   (b + 0x07, 1, w.tcoefe.toNat),
   (b + 0x08, 1, w.tcoefs.toNat),
   (b + 0x09, 1, w.tfailcnt.toNat)]

/-- Table 10.5 (R263). -/
def tempRows (s : State) : List Row :=
  [(0x07A0, 1, pack [(14, s.tp.swap.code), (13, bit (swapDetected s)), (12, bit (swapActive s)), (11, bit (swapHalt s)),
       (10, bit s.r.tmp.tmpstatNocoef), (8, s.cat.t.swappol), (4, s.cat.t.fourwire), (0, s.cat.t.enmask)]),
   (0x07A1, 1, pack [(14, s.cat.t.probe), (12, s.cat.t.flowch), (10, s.cat.t.retch), (0, s.cat.t.avg)]),
   (0x07A2, 1, s.r.tmp.swaprun.toNat),
   (0x07A3, 1, s.r.tmp.swapok.toNat),
   (0x07A4, 1, s.r.tmp.swapcnt.toNat),
   (0x07A5, 1, s.r.tmp.tmeascnt.toNat),
   (0x07A6, 1, s.r.tmp.twaitv.toNat)]

/-- Table 11.5 (R291), from the posted copy of R27; `FROZEN` stands in safe-beacon and by R49. -/
def registerRows (s : State) : List Row :=
  let l := s.rg.posted.legal
  let ext := fun (e : Nat) => vget l.text e (0, 0)
  [(0x0800, 1, pack [(15, bit (frozen s)), (0, s.rg.posted.rstat.toNat % 0x8000)]),
   (0x0801, 2, l.intnum),
   (0x0803, 3, s.rg.posted.regtime),
   (0x0806, 2, l.audit),
   (0x0808, 4, int 64 l.vfwd),
   (0x080C, 4, int 64 l.vrev),
   (0x0810, 4, int 64 l.eheat),
   (0x0814, 4, int 64 l.ecool),
   (0x0828, 4, int 64 l.vbfwd),
   (0x082C, 4, int 64 l.vbrev),
   (0x0830, 4, int 64 l.vbdist),
   (0x0834, 2, l.convf),
   (0x0836, 2, l.terr),
   (0x0838, 2, l.toper),
   (0x083A, 2, int 32 l.qmax),
   (0x083C, 3, l.qmaxt),
   (0x083F, 2, l.pmax),
   (0x0841, 3, l.pmaxt),
   (0x0860, 4, int 64 s.rg.posted.tvfwd),
   (0x0864, 4, int 64 s.rg.posted.tvrev),
   (0x0868, 4, int 64 s.rg.posted.tenet)]
    ++ (List.range 4).map (fun t => (0x0818 + 4 * t, 4, int 64 (vget l.etar t 0)))
    ++ (List.range 4).flatMap (fun e => [(0x0844 + 5 * e, 2, int 32 (ext e).1), (0x0846 + 5 * e, 3, (ext e).2)])

/-- Table 11.6 (R291), from the posted copy of R27. -/
def registrarRows (s : State) : List Row :=
  let x := s.rg.posted.status
  [(0x0900, 1, pack [(12, x.regs.accstatLastkind.toNat), (11, bit x.pend)]),
   (0x0901, 2, x.regs.accnum.toNat),
   (0x0903, 1, x.regs.accfull.toNat),
   (0x0904, 1, pack [(2, bit x.newer), (0, x.shOk)]),
   (0x0905, 2, x.sealnum),
   (0x0907, 1, x.regs.lsmis.toNat),
   (0x0908, 2, x.avsched),
   (0x090A, 2, x.avok),
   (0x090C, 1, min 0xFFFF x.avdef),
   (0x0910, 2, x.regs.teflow.toNat),
   (0x0912, 2, x.regs.tetemp.toNat),
   (0x0914, 2, x.regs.tegas.toNat),
   (0x0916, 2, x.regs.tegap.toNat),
   (0x0918, 2, x.regs.tespan.toNat),
   (0x0920, 2, x.regs.heatk.toNat),
   (0x0922, 1, x.regs.thgas.toNat),
   (0x0923, 2, x.regs.presspa.toNat),
   (0x0925, 1, pack [(15, bit x.regs.prstatValid), (14, bit x.stale)]),
   (0x0926, 1, x.regs.seqgap.toNat)]

/-- Table 12.12 (R328), but its array; `page` is that of the reading port. -/
def memRows (page : Nat) (s : State) : List Row :=
  [(0x0A00, 1, pack [(15, bit s.r.mem.memstatUe), (14, bit s.r.mem.memstatXcol), (13, bit s.r.mem.memstatBgfail),
       (12, bit (s.bg.isSome)), (11, bit (bgHeld s)), (10, page), (0, s.pw.uncleared.length)]),
   (0x0A02, 1, pack [(14, s.r.mem.xcolinfoAgent.toNat), (0, s.r.mem.xcolinfoWaddr.toNat)]),
   (0x0A03, 1, s.r.mem.xcolcnt.toNat),
   (0x0A04, 1, s.r.mem.cecnt.toNat),
   (0x0A05, 1, s.r.mem.uecnt.toNat),
   (0x0A06, 1, s.r.mem.ueseg.toNat),
   (0x0A07, 1, s.r.mem.ueaddr.toNat),
   (0x0A08, 1, pack [(10, match s.bg with | some b => b.seg | none => 0),
       (0, match s.bg with | some b => b.row | none => 0)]),
   (0x0A09, 1, s.r.mem.bgpass.toNat),
   (0x0A0A, 1, s.r.mem.bgabort.toNat),
   (0x0A0B, 1, s.r.mem.bgskip.toNat),
   (0x0A0C, 2, s.r.mem.bglast.toNat),
   (0x0A40, 1, pack [(15, bit (s.isOn .arc)), (14, bit (eraseSuspended s)), (11, (arcOp s).code), (9, match s.ar.run with | some r => r.owner.code | none => 0)]),
   (0x0A41, 2, s.ar.minutes.length),
   (0x0A43, 3, match s.ar.minutes with | m :: _ => m.minute * 60 * 65536 | [] => 0),
   (0x0A46, 2, s.ar.quarters.length),
   (0x0A48, 1, pack [(15, bit (s.ar.wrapped))]),
   (0x0A49, 2, s.ar.events.length),
   (0x0A4B, 1, min 0xFFFF (s.ar.fulls.length + s.ar.audits.length)),
   (0x0A4C, 1, s.ar.snaps.length),
   (0x0A4D, 1, sysFree s),
   (0x0A4E, 2, s.r.mem.erasemax.toNat),
   (0x0A50, 1, s.r.mem.spareblk.toNat),
   (0x0A51, 1, pack [(8, s.r.mem.recovDone.toNat), (0, s.r.mem.recovDisc.toNat)]),
   (0x0A52, 1, pack [(8, s.start.bank), (4, s.ar.banks[1].state.code), (0, s.ar.banks[0].state.code)]),
   (0x0A53, 1, s.r.mem.arcue.toNat),
   (0x0A54, 1, s.r.mem.arcsuspcnt.toNat),
   (0x0A55, 1, s.r.mem.evqdrop.toNat)]

/-- Table 13.5 (R352), but its array. -/
def radioRows (s : State) : List Row :=
  [(0x0B00, 1, pack [(13, rfState s), (11, match s.rad.owner with | .none => 0 | .link => 1 | .sequencer => 2),
       (10, bit s.r.rf.rfstatLock), (9, bit s.r.rf.rfstatClamp), (8, bit s.r.rf.rfstatVitwait),
       (7, bit s.r.rf.rfstatCalok)]),
   (0x0B01, 1, pack [(13, s.cat.radio.region), (11, s.cat.radio.band), (8, s.cat.link.legmode),
       (0, int 8 (powerNow s))]),
   (0x0B02, 2, s.r.rf.rffreq.toNat),
   (0x0B04, 1, pack [(8, s.r.rf.rfchanNum.toNat), (0, s.r.rf.rfchanRate.toNat)]),
   (0x0B05, 1, s.r.rf.rfrssi.toNat),
   (0x0B06, 1, s.r.rf.rffei.toNat),
   (0x0B07, 1, s.r.rf.txcnt.toNat),
   (0x0B08, 1, s.r.rf.rxcnt.toNat),
   (0x0B09, 1, s.r.rf.rxerr.toNat),
   (0x0B0A, 1, s.r.rf.defduty.toNat),
   (0x0B0B, 1, s.r.rf.defdwell.toNat),
   (0x0B0C, 1, s.r.rf.defdrop.toNat),
   (0x0B0D, 1, s.r.rf.seqtx.toNat),
   (0x0B0E, 1, s.r.rf.rfcalfail.toNat),
   (0x0B0F, 1, s.r.rf.txabort.toNat),
   (0x0B18, 1, min 0xFFFF (roundOpen (((dwellMax s).2 : Rat) / 1000)).toNat),
   (0x0B19, 1, pack [(8, (dwellMax s).1)]),
   (0x0B1A, 1, pack [(15, bit (sequencerBusy s)), (14, bit (s.flt.alarm.isSome)), (0, s.rad.legCount % 256)])]

/-- Table 14.11 (R393). -/
def linkRows (s : State) : List Row :=
  [(0x0C00, 1, pack [(13, s.ln.role.code), (10, s.ln.sync.code), (9, bit (s.ln.deputy)), (8, bit (s.ln.session.isSome)),
       (7, bit (s.ln.ho.st == .announced || s.ln.ho.st == .transferring)), (6, bit (csLow s))]),
   (0x0C01, 1, pack [(7, bit (s.ln.member)), (0, s.ln.index)]),
   (0x0C02, 2, linkId),
   (0x0C04, 2, s.r.lnk.parentid.toNat),
   (0x0C06, 2, s.r.lnk.sfn.toNat),
   (0x0C08, 1, pack [(8, if s.ln.boundary.isSome then slalom (sfnNow s) s else 0),
       (0, if s.ln.boundary.isSome then channelCount s.cat.radio.band else 0)]),
   (0x0C09, 1, s.r.lnk.guard.toNat),
   (0x0C0A, 2, s.r.lnk.lastcont.toNat),
   (0x0C0C, 1, s.r.lnk.missrun.toNat),
   (0x0C0D, 1, s.r.lnk.bcnrx.toNat),
   (0x0C0E, 1, s.r.lnk.bcnmiss.toNat),
   (0x0C0F, 1, s.r.lnk.searchn.toNat),
   (0x0C10, 2, match s.ln.nextSearch with | some t => secondsIn (t - s.now) | none => 0xFFFFFFFF),
   (0x0C12, 1, s.ln.backoff),
   (0x0C13, 1, reserveScore s),
   (0x0C14, 2, sat32 (roundOpen ((s.ln.qlink : Rat) / 3600000000)).toNat),
   (0x0C16, 1, s.r.lnk.pollok.toNat),
   (0x0C17, 1, s.r.lnk.pollfail.toNat),
   (0x0C18, 1, s.r.lnk.retries.toNat),
   (0x0C19, 1, s.r.lnk.rxold.toNat),
   (0x0C1A, 1, s.r.lnk.rxrepeat.toNat),
   (0x0C1B, 1, s.r.lnk.rxmic.toNat),
   (0x0C1C, 1, s.r.lnk.rxnokey.toNat),
   (0x0C1D, 1, s.r.lnk.rxbad.toNat),
   (0x0C1E, 1, s.r.lnk.fbtx.toNat),
   (0x0C1F, 1, s.r.lnk.legtx.toNat),
   (0x0C20, 1, s.r.lnk.legack.toNat),
   (0x0C21, 1, s.r.lnk.wakedet.toNat),
   (0x0C22, 1, s.r.lnk.sessions.toNat),
   (0x0C23, 1, maskOf s.ln.loaded),
   (0x0C24, 2, (clusterCtr s).ctr),
   (0x0C26, 2, (clusterCtr s).res),
   (0x0C28, 1, pack [(13, s.ln.ho.st.code), (12, bit (s.ln.ho.forced))]),
   (0x0C29, 2, s.r.lnk.hosucc.toNat),
   (0x0C2B, 2, s.r.lnk.hosfn.toNat),
   (0x0C2D, 1, s.r.lnk.hodone.toNat),
   (0x0C2E, 1, s.r.lnk.hofail.toNat),
   (0x0C2F, 2, s.r.lnk.deputyid.toNat),
   (0x0C31, 1, s.r.lnk.pardays.toNat),
   (0x0C40, 1, pack [(8, s.ln.members.length), (0, s.cat.link.clsize)]),
   (0x0C41, 2, (csUncollected s).length),
   (0x0C43, 2, s.ln.csNext),
   (0x0C45, 1, s.r.lnk.cslost.toNat),
   (0x0C46, 1, s.r.lnk.upmiss.toNat),
   (0x0C47, 1, s.r.lnk.joins.toNat),
   (0x0C48, 1, s.r.lnk.bcntx.toNat),
   (0x0C49, 1, s.r.lnk.bcnskip.toNat)]

/-- Table 15.6 (R415), but its arrays. -/
def dispRows (s : State) : List Row :=
  [(0x0E00, 1, pack [(14, s.cat.disp.dtype.code), (13, bit (s.isOn .dsp)), (12, bit (s.dp.fallback)),
       (11, bit (s.dp.emUntil.isSome)), (10, bit s.r.dsp.dspstatGlassfail), (9, bit s.r.dsp.dspstatVlcdlow),
       (8, bit s.r.dsp.dspstatPump), (7, bit s.r.dsp.dspstatNomap), (6, bit s.r.dsp.dspstatTblbad),
       (5, bit (s.dp.evtShown != 0))]),
   (0x0E01, 1, s.r.dsp.vlcdmv.toNat),
   (0x0E02, 1, if s.cat.disp.dtype == .glass then 512 / max 1 s.cat.disp.duty else 0),
   (0x0E03, 1, s.dp.evtShown),
   (0x0E04, 1, pack [(8, s.dp.screen), (0, min 255 ((s.now - s.dp.lastKey.getD 0) / 1000000))]),
   (0x0E18, 1, s.r.dsp.rbfailcnt.toNat),
   (0x0E20, 1, pack [(8, maskOf (regionsIn [.starting, .running, .paused] s)),
       (0, maskOf ((List.range 8).filter (fun r => (vget s.dp.regions r {}).queued.isSome)))]),
   (0x0E21, 1, s.r.dsp.epdold.toNat),
   (0x0E22, 1, s.r.dsp.epdvp.toNat),
   (0x0E23, 1, s.r.dsp.epdvn.toNat),
   (0x0E24, 1, s.r.dsp.epdset.toNat),
   (0x0E25, 1, s.r.dsp.epdupd.toNat),
   (0x0E26, 1, s.r.dsp.epddrop.toNat),
   (0x0E27, 1, s.r.dsp.epdpark.toNat),
   (0x0E28, 1, min 0xFFFF (maxL (s.dp.ledger.toList.map (fun x => x.natAbs)))),
   (0x0E30, 1, pack [(8, s.r.dsp.emstatSubper.toNat)]),
   (0x0E31, 1, s.r.dsp.emframes.toNat),
   (0x0E32, 1, s.r.dsp.emwait.toNat),
   (0x0E33, 1, match s.dp.emUntil with | some t => (roundOpen (((t - s.now : Nat) : Rat) / 100000)).toNat | none => 0)]

/-- Table 16.8 (R441). -/
def ioRows (s : State) : List Row :=
  [(0x0F00, 1, pack [(15, bit s.r.io.hirqRsp), (14, bit s.r.io.hirqFres), (13, bit s.r.io.hirqTres),
       (12, bit s.r.io.hirqSbchg), (11, bit s.r.io.hirqStart), (10, bit s.r.io.hirqAlarm), (9, bit s.r.io.hirqStore)]),
   (0x0F01, 1, pack [(14, if s.sv.opt.service then 1 else if s.sv.hst.service then 2 else 0), (13, bit (s.sv.opt.open_)),
       (12, bit (s.sv.hst.open_)), (10, s.sv.baud.toNat)]),
   (0x0F02, 1, pack [(8, s.sv.pendCmd), (0, s.sv.pendStatus)]),
   (0x0F03, 1, s.r.io.authfail.toNat),
   (0x0F04, 1, authLock s),
   (0x0F05, 1, s.r.io.hsterr.toNat),
   (0x0F06, 1, s.r.io.hstnrdy.toNat),
   (0x0F07, 1, s.r.io.irerr.toNat),
   (0x0F40, 1, pack [(15, bit (s.io.tmp[0])), (14, bit (s.io.tmp[1])), (13, bit (s.io.key[0])), (12, bit (s.io.key[1])),
       (8, s.cat.po1fn), (4, s.cat.po0fn), (0, s.cat.tampen)]),
   (0x0F41, 2, s.r.io.pi0cnt.toNat),
   (0x0F43, 2, s.r.io.pi1cnt.toNat),
   (0x0F45, 1, s.r.io.poback0.toNat),
   (0x0F46, 1, s.r.io.poback1.toNat),
   (0x0F47, 1, s.r.io.tmpcnt0.toNat),
   (0x0F48, 1, s.r.io.tmpcnt1.toNat),
   (0x0F49, 1, s.r.io.keycnt.toNat)]

/-- Table 16.9 at base `b` for port `n` (R441). -/
def moduleRows (b n : Nat) (w : ModuleRegs) (s : State) : List Row :=
  [(b + 0x00, 1, pack [(15, bit ((s.cat.modRec n).isSome)), (14, bit ((s.cat.modRec n).any (fun m => m.bind == 1))),
       (13, bit w.mpstatMatch), (12, bit ((vget s.mp n {}).vson)), (8, w.mpstatFault.toNat), (0, w.mpstatClass.toNat)]),
   (b + 0x01, 1, pack [(8, w.mpfmt.toNat), (0, w.mpfails.toNat)]),
   (b + 0x02, 2, w.mpcrc.toNat)]

/-- Table 17.7 (R461), but its array. -/
def faultRows (s : State) : List Row :=
  [(0x1000, 1, pack [(15, bit s.r.flt.fltstatTamper), (14, bit s.r.flt.fltstatAlarm), (13, bit s.r.flt.fltstatRevsusp),
       (12, bit (s.pw.heldReq.isSome)), (11, bit (s.flt.alarmHeld.isSome)),
       (8, stateCode (s.pw.heldReq.map (fun q => q.target)))]),
   (0x1001, 1, pack [(8, s.r.flt.wdstatStep.toNat), (0, s.r.flt.wdstatCause.toNat)]),
   (0x1002, 2, s.r.flt.wdtime.toNat),
   (0x1004, 1, pack [(12, min 15 (recent s.flt.sigHist s)), (8, min 15 (recent s.flt.lnkHist s)),
       (4, min 15 (recent s.flt.regHist s))]),
   (0x1010, 1, pack [(4, maskOf ((List.range 4).filter (fun n => tempFault n s != 0))),
       (0, maskOf ((List.range 4).filter (fun k => s.cat.hasPath k && withheldPath k s)))]),
   (0x1011, 1, s.r.flt.unavail.toNat),
   (0x1012, 1, s.r.flt.pinflt.toNat),
   (0x1013, 1, s.r.flt.lastalarm.toNat),
   (0x1014, 1, s.r.flt.lasttamper.toNat),
   (0x1015, 3, s.r.flt.tamptime.toNat),
   (0x1018, 1, s.r.flt.alarmcnt.toNat),
   (0x1019, 1, s.r.flt.tampcnt.toNat),
   (0x101A, 1, s.flt.standing.length),
   (0x101B, 1, s.r.flt.revdays.toNat),
   (0x101C, 1, s.r.flt.alarmtx.toNat),
   (0x101D, 1, pack [(13, s.cat.profile.code), (11, s.cat.paths - 1), (10, bit (s.ps.fast)), (7, s.ln.role.code),
       (5, s.cat.disp.dtype.code), (4, bit (s.cat.hostPresent))]),
   (0x101E, 1, s.r.flt.gopskip.toNat)]

/-! ## The arrays -/

/-- Words of 16-bit vectors at consecutive addresses. -/
def wordArray (b : Nat) (l : List (BitVec 16)) : List Row :=
  (List.range l.length).map (fun i => (b + i, 1, (l.getD i 0).toNat))

/-- `STEPNEXT` of a step, in 1/8 s (rounding: log 5). -/
def stepNext (i : Nat) (s : State) : Nat :=
  if i < s.cat.steps.length ∧ s.ps.epoch.isSome then
    min 0xFFFE (roundOpen (((s.ps.next.getD i s.now - s.now : Nat) : Rat) / 125000)).toNat
  else 0xFFFF

/-- `SEGSTAT` of a segment. -/
def segStat (c : Nat) (s : State) : Nat :=
  let x := vget s.seg c {}
  pack [(15, bit x.retired), (14, bit x.subst), (8, x.peer % 64), (5, min 7 x.map.length), (2, min 7 x.pending.length), (1, bit (segPowered c s))]

/-- The words of the member index that an address lies at (Table 14.12): those of its member while the device is parent, else their
defaults; `MEMID` is a value of two words either way (R8). -/
def memberRows (a : Nat) (s : State) : List Row :=
  let b := 0x0D00 + (a - 0x0D00) / 4 * 4
  match (if s.ln.role == .parent then s.ln.members.find? (fun m => m.index == (b - 0x0D00) / 4) else none) with
  | some m => [(b, 1, pack [(15, 1), (14, bit (m.recent s)), (0, m.rs % 1024)]), (b + 1, 2, m.id), (b + 3, 1, m.telday)]
  | none => [(b, 1, 0), (b + 1, 2, 0), (b + 3, 1, 0)]

/-- The values of the map outside the RL blocks in the region that holds an address; `page` is the window page of the
reading port. -/
def rowsAt (page a : Nat) (s : State) : List Row :=
  if a < 0x0100 then sysRows s
  else if a < 0x0200 then powerRows s ++ wordArray 0x0110 s.r.pwr.clmiss.toList ++ wordArray 0x0120 s.r.pwr.pwrefcnt.toList
  else if a < 0x0300 then clockRows s
  else if a < 0x0340 then tdcRows s
  else if a < 0x0400 then
    let n := (a - 0x0340) / 0x30
    chRows (0x0340 + 0x30 * n) s.cat.tdc (vget s.ch n {}) (vget s.r.ch n {})
  else if a < 0x0440 then driveRows s ++ (List.range 16).map (fun i => (0x0410 + i, 1, stepNext i s))
  else if a < 0x0480 then
    let k := (a - 0x0440) / 0x10
    pathRows (0x0440 + 0x10 * k) k (vget s.r.path k {}) s
  else if a < 0x04C0 then
    let n := (a - 0x0480) / 8
    portRows (0x0480 + 8 * n) (vget s.r.port n {})
  else if a < 0x0540 then []
  else if a < 0x0640 then
    let k := (a - 0x0540) / 0x40
    pathWordRows (0x0540 + 0x40 * k) k (vget s.r.pw k {}) s
  else if a < 0x0700 then gasRows s
  else if a < 0x0740 then []
  else if a < 0x0790 then
    let n := (a - 0x0740) / 0x10
    tempChRows (0x0740 + 0x10 * n) n (vget s.r.tch n {})
  else if a < 0x0800 then tempRows s
  else if a < 0x0900 then registerRows s
  else if a < 0x0A00 then registrarRows s
  else if a < 0x0B00 then memRows page s ++ (List.range 33).map (fun c => (0x0A10 + c, 1, segStat c s))
  else if a < 0x0C00 then
    radioRows s ++ (List.range 5).map (fun c => (0x0B10 + c, 1, min 0xFFFF (ceilDiv (dutySum c (monoMinute s) s) 10)))
  else if a < 0x0D00 then linkRows s
  else if a < 0x0E00 then memberRows a s
  else if a < 0x0F00 then
    dispRows s ++ wordArray 0x0E08 s.r.dsp.rbfail.toList ++ wordArray 0x0E10 s.r.dsp.rblast.toList
      ++ (List.range 64).map (fun g => (0x0E40 + g, 1, (satI 16 (vget s.dp.ledger g 0)).toNat))
  else if a < 0x1000 then
    (if 0x0F10 ≤ a ∧ a < 0x0F2C then
      let n := (a - 0x0F10) / 4
      moduleRows (0x0F10 + 4 * n) n (vget s.r.mp n {}) s
    else ioRows s)
  else if a < 0x1100 then faultRows s ++ wordArray 0x1008 s.r.flt.wdcnt.toList
  else []

end Sys2Proof.Machine
end

