-- ==== Sys2Proof/Machine/Map.lean ====
section
/-! DEFINITION. Reads and writes of the service map through a port: latches of multi-word values and of result blocks (R4
to R8, R423, R424), the window on XB (R302), writes by access code (R7, R420), and the data that READPROF, READEVT and
READSTORE return (Table 14.9). -/

namespace Sys2Proof.Machine

/-! ## Reading ports -/

/-- The latches of a reading port: a service port, or the reader sessions taken together (R8). -/
def readPort (p : Option Port) (s : State) : ReadPort :=
  match p with
  | some .optical => s.sv.optPort
  | some .host => s.sv.hstPort
  | none => s.sv.rdrPort

/-- The latches of a reading port changed. -/
def updReadPort (p : Option Port) (f : ReadPort → ReadPort) (s : State) : State :=
  match p with
  | some .optical => { s with sv.optPort := f s.sv.optPort }
  | some .host => { s with sv.hstPort := f s.sv.hstPort }
  | none => { s with sv.rdrPort := f s.sv.rdrPort }

/-! ## Blocks -/

/-- The RL blocks: base address and words (Tables 7.6, 9.7 to 9.9, 10.3). -/
def blocks : List (Nat × Nat) :=
  [(0x0500, 0x15), (0x0700, 0x17)]
    ++ (List.range 4).flatMap (fun k => [(0x0352 + 0x30 * k, 0x12), (0x0540 + 0x40 * k, 0x15), (0x0640 + 0x10 * k, 0x0B)])

/-- The block that holds an address. -/
def blockOf (a : Nat) : Option (Nat × Nat) := blocks.find? (fun b => decide (b.1 ≤ a ∧ a < b.1 + b.2))

/-- Sequence number of the newest instance of a block with a `FRESH` bit, once one is posted (R424). -/
def blockSeq (b : Nat) (s : State) : Option Nat :=
  if b = 0x0500 then (if s.r.flow.fresStatus = 0 then none else some s.r.flow.fresSeq.toNat)
  else if b = 0x0700 then (if s.r.tblk.tresStatus = 0 then none else some s.r.tblk.tresSeq.toNat)
  else if b < 0x0500 then none
  else if b < 0x0640 then
    let w := vget s.r.pw ((b - 0x0540) / 0x40) {}
    if w.presStatus = 0 then none else some w.presSeq.toNat
  else
    let w := vget s.r.zero ((b - 0x0640) / 0x10) {}
    if w = {} then none else some w.zseq.toNat

/-- The values of a block's newest instance. -/
def blockRows (b : Nat) (fresh : Bool) (s : State) : List Row :=
  if b = 0x0500 then fresRows fresh s.r.flow
  else if b = 0x0700 then tresRows fresh s.r.tblk
  else if b < 0x0500 then statRows (b - 0x12) (vget s.r.ch ((b - 0x0352) / 0x30) {})
  else if b < 0x0640 then presRows b fresh (vget s.r.pw ((b - 0x0540) / 0x40) {})
  else zeroRows b fresh (vget s.r.zero ((b - 0x0640) / 0x10) {})

/-- The value that holds an address, if any. -/
def rowOf (rows : List Row) (a : Nat) : Option Row := rows.find? (fun r => decide (r.1 ≤ a ∧ a < r.1 + r.2.1))

/-- The word of a value at an address (R4). -/
def wordOf (r : Row) (a : Nat) : Nat := r.2.2 >>> (16 * (a - r.1)) % 65536

/-- The word at an address; 0 where no value lies (R5). -/
def wordAt (rows : List Row) (a : Nat) : Nat := match rowOf rows a with | some r => wordOf r a | none => 0

/-- A block is latched for a port (R423, R424). -/
def latchBlock (p : Option Port) (b n : Nat) (s : State) : State :=
  let q := readPort p s
  let kept := (q.kept.find? (fun x => x.1 == b)).map (·.2)
  let seq := blockSeq b s
  let fresh := seq.isSome && seq != kept
  let ws := (List.range n).map (fun i => wordAt (blockRows b fresh s) (b + i))
  updReadPort p (fun q => { q with
    blocks := (b, ws) :: q.blocks.filter (fun x => x.1 != b)
    kept := match seq with | some v => (b, v) :: q.kept.filter (fun x => x.1 != b) | none => q.kept }) s

/-- A word of a block as latched; 0 before the port's first latch. -/
def latchedWord (p : Option Port) (b a : Nat) (s : State) : Nat :=
  match (readPort p s).blocks.find? (fun x => x.1 == b) with
  | some x => x.2.getD (a - b) 0
  | none => 0

/-! ## Reading -/

/-- One byte of XB as the window shows it (R301, R302): the reserved region reads zero. -/
def windowByte (off : Nat) (s : State) : Nat :=
  if 0x2000 ≤ off ∧ off < 0x4000 then 0 else (Mem.get s.xb off).toNat

/-- A word of the window on XB; 0 where it finds an uncorrectable error (R295). -/
def windowWord (p : Option Port) (a : Nat) (s : State) : Nat :=
  let off := 16384 * (readPort p s).page.toNat + 2 * (a - 0x2000)
  if s.xbBad.contains (off / 4) then 0 else windowByte off s + 256 * windowByte (off + 1) s

/-- `CECNT` is read (R294): how many single-bit errors the reads since have corrected no row reports, so that it grows by a free
number (log 152). -/
def countCorrected (a : Nat) (s : State) : State :=
  if a = 0x0A04 then
    let (v, s) := draw s
    { s with r.mem.cecnt := sat 16 (s.r.mem.cecnt.toNat + v) }
  else s

/-- A read of a value outside the blocks, under the latch of R8. -/
def valueWord (p : Option Port) (r : Row) (a : Nat) (s : State) : Nat × State :=
  let n := r.2.1
  if n ≤ 1 then (wordOf r a, s)
  else if a = r.1 then
    (wordOf r a, updReadPort p (fun q => { q with value := (List.range (n - 1)).map (fun i => (a + 1 + i, wordOf r (a + 1 + i))) }) s)
  else match (readPort p s).value.find? (fun x => x.1 == a) with
    | some x => (x.2, if a = r.1 + n - 1 then updReadPort p (fun q => { q with value := [] }) s else s)
    | none => (wordOf r a, s)

/-- A read of one address through a port. During a start only 0x0000 to 0x00FF is served (R97). -/
def readWord (p : Option Port) (a : Nat) (s : State) : Nat × State :=
  if 0x3FFF < a ∨ (s.starting ∧ 0x00FF < a) then (0, s)
  else if 0x2000 ≤ a then (windowWord p a s, s)
  else
    let s := countCorrected a s
    match blockOf a with
    | some (b, n) =>
      let s := if a = b then latchBlock p b n s else s
      (latchedWord p b a s, s)
    | none =>
      match rowOf (rowsAt (readPort p s).page.toNat a s) a with
      | some r => valueWord p r a s
      | none => (0, s)

/-- Words from an address upward (R420). -/
def readWords (p : Option Port) : Nat → Nat → State → List Nat × State
  | 0, _, s => ([], s)
  | n + 1, a, s =>
    let (w, s) := readWord p a s
    let (ws, s) := readWords p n (a + 1) s
    (w :: ws, s)

/-! ## Writing (R7, R420) -/

/-- A Hibernate or Off request from a port (R114); a later one takes the place of one that waits. -/
def askPower (t : PState) (p : Port) (s : State) : State := { s with pw.request := some ⟨t, p⟩ }

/-- W1C: bits written as 1 clear. -/
def clearBits (a : Nat) (v : Word) (s : State) : State :=
  let keep := fun (b : Bool) (i : Nat) => b && !v.getLsbD i
  if a = 0x0A00 then
    { s with r.mem.memstatUe := keep s.r.mem.memstatUe 15, r.mem.memstatXcol := keep s.r.mem.memstatXcol 14
             r.mem.memstatBgfail := keep s.r.mem.memstatBgfail 13 }
  else if a = 0x0F00 then
    { s with r.io.hirqRsp := keep s.r.io.hirqRsp 15, r.io.hirqFres := keep s.r.io.hirqFres 14
             r.io.hirqTres := keep s.r.io.hirqTres 13, r.io.hirqSbchg := keep s.r.io.hirqSbchg 12
             r.io.hirqStart := keep s.r.io.hirqStart 11, r.io.hirqAlarm := keep s.r.io.hirqAlarm 10
             r.io.hirqStore := keep s.r.io.hirqStore 9 }
  else if a = 0x1000 then
    { s with r.flt.fltstatTamper := keep s.r.flt.fltstatTamper 15, r.flt.fltstatAlarm := keep s.r.flt.fltstatAlarm 14 }
  else s

/-- A schedule of `TLZONE` (R158). -/
def scheduleZone (v : Word) (s : State) : State :=
  if -48 ≤ v.toInt ∧ v.toInt ≤ 56 then { s with tl.zoneNext := some v.toInt } else s

/-- One word written through a port that may write: W1C and WO by their own rules, RW in service mode, everything else
discarded. -/
def writeWord (p : Port) (a : Nat) (v : Word) (s : State) : State :=
  if a = 0x0A00 ∨ a = 0x0F00 ∨ a = 0x1000 then clearBits a v s
  else if a = 0x0A01 then selectPage p v s
  else if a = 0x0A0E then (if v.toNat / 256 = 0x5A ∧ v.getLsbD 0 = true then { s with bgReq := true } else s)
  else if !s.service p then s
  else if a = 0x0101 then
    (if v.toNat / 256 ≠ 0x5A then s
     else if v.toNat % 8 = 4 then askPower .hibernate p s
     else if v.toNat % 8 = 5 then askPower .off p s else s)
  else if a = 0x0222 then scheduleZone v s
  else if a = 0x0310 then
    { s with r.tdc.binselCh := BitVec.ofNat 2 (v.toNat / 16384), r.tdc.binselIndex := BitVec.ofNat 7 v.toNat }
  else s

/-- Words written to an address upward, one by one. -/
def writeWords (p : Port) : Nat → List Word → State → State
  | _, [], s => s
  | a, w :: ws, s => writeWords p (a + 1) ws (writeWord p a w s)

/-! ## Records and entries as bytes -/

/-- A record of Table 11.2. -/
def MinuteRec.bytes (m : MinuteRec) : List Byte := leInt 4 m.dvol ++ leInt 4 m.daux ++ leBytes 2 m.flags.toNat ++ leBytes 2 m.intlo.toNat

/-- An entry of Table 12.8. -/
def Event.bytes (e : Event) : List Byte :=
  let head := leBytes 2 e.code ++ leBytes 2 (bit e.lost) ++ leBytes 6 e.time
    ++ ((e.args ++ List.replicate 6 0).take 6).flatMap (leInt 2)
  head ++ leBytes 2 (crc16 head).toNat

/-- The data of READPROF: records from a civil minute on, quarter-hour records where consolidated (Table 14.9); a quarter hour
that holds the minute is the first. -/
def profData (start n : Nat) (s : State) : List Byte :=
  let m := start / 60
  let rs := s.ar.quarters.filter (fun r => decide (m < r.minute + 15)) ++ s.ar.minutes.filter (fun r => decide (m ≤ r.minute))
  (rs.take n).flatMap MinuteRec.bytes

/-- The data of READEVT: entries from an index on, the oldest entry held being index 0 (log 76). -/
def evtData (i n : Nat) (s : State) : List Byte := ((s.ar.events.drop i).take n).flatMap Event.bytes

/-- Whole entries that fit, of those given. -/
def fitEntries : Nat → List CsEntry → List CsEntry
  | _, [] => []
  | room, e :: es => if e.size ≤ room then e :: fitEntries (room - e.size) es else []

/-- The entries of READSTORE: uncollected, `CENUM` at least the value, as many as fit; and whether more remain. -/
def storeData (cenum room : Nat) (s : State) : List CsEntry × Bool :=
  let es := (csUncollected s).filter (fun e => decide (cenum ≤ e.num))
  let fit := fitEntries room es
  (fit, decide (fit.length < es.length))

/-- Entries up to a `CENUM` that a session sent are marked collected (R382). -/
def ackStore (cenum : Nat) (sent : List Nat) (s : State) : State :=
  csMap (fun e => if e.num ≤ cenum ∧ sent.contains e.num then { e with coll := 0 } else e) s

/-- Words as the bytes of an answer, least significant first (log 77). -/
def wordBytes (ws : List Nat) : List Byte := ws.flatMap (leBytes 2)

end Sys2Proof.Machine
end

