-- ==== Sys2Proof/Machine/ModuleOps.lean ====
section
/-! DEFINITION. Module ports: the record of Table 16.5 and its calibration block (R434, R435), the comparison with the
Catalogue (R73, Table 3.4), the events of a 24-hour check (R433), and what an unavailable function means (R451). -/

namespace Sys2Proof.Machine

/-! ## Records -/

/-- Length that the calibration block of a class must have (R435); of class 0x02 it depends on the channel mask. -/
def calNeeds (cls : Nat) (b : List Byte) : Nat :=
  match cls with
  | 1 => 48
  | 2 => max 1 (maxL ((List.range 4).map (fun n => if (u8 b 0).testBit n then 8 + 4 * n else 0)))
  | 3 => 12
  | 5 => 2
  | 6 => 6
  | _ => 0

/-- Fields of a calibration block lie in their ranges (Table 16.6). -/
def calOk (cls : Nat) (b : List Byte) : Bool :=
  decide (calNeeds cls b ≤ b.length) &&
  (match cls with
   | 1 => (List.range 4).all (fun q =>
       decide (1 ≤ u16 b (12 * q + 4)) && decide (u16 b (12 * q + 4) ≤ u16 b (12 * q + 6))
         && withinI (-9000) 9000 (i16 b (12 * q + 8)) && withinI (i16 b (12 * q + 8)) 9000 (i16 b (12 * q + 10)))
   | 2 => within 0 0x0F (u8 b 0)
   | 3 => within 0x08 0x77 (u8 b 0) && u8 b 0 != 0x50 && within 1 1000 (u16 b 2) && decide (1 ≤ u32 b 8)
   | 5 => within 0x01 0x0F (u8 b 0) && withinI (-10) 16 (i8 b 1)
   | 6 => within 1 3 (u8 b 2)
   | _ => true)

/-- A record of Table 16.5 is valid: magic, length, CRC-32, and the calibration block of its class (R433, R434, R435). -/
def recordOk (bs : List Byte) : Bool :=
  let n := u16 bs 6
  u32 bs 0 == 0x4D444B53 && within 64 4096 n && n % 4 == 0 && decide (n ≤ bs.length)
    && crc32 (bs.take (n - 4)) == BitVec.ofNat 32 (u32 bs (n - 4))
    && decide (u16 bs 16 ≤ n - 36) && calOk (u8 bs 4) (slice bs 32 (u16 bs 16))

/-- What a check finds on a port: `MPSTAT.FAULT` as far as the port alone gives it, class, format, `MCRC`, and a valid
record. -/
structure ModFound where
  fault : Nat := 0
  cls : Nat := 0
  fmt : Nat := 0
  crc : BitVec 32 := 0
  record : List Byte := []
  deriving DecidableEq, Repr

/-- A port is read (R433 steps 1 to 3). -/
def readModule (r : ModRead) : ModFound :=
  match r with
  | .supplyLimit => { fault := 3 }
  | .lineShort => { fault := 2 }
  | .noAnswer => { fault := 1 }
  | .bytes bs =>
    let n := u16 bs 6
    { fault := if recordOk bs then 0 else 4, cls := u8 bs 4, fmt := u8 bs 5
      crc := BitVec.ofNat 32 (u32 bs (n - 4)), record := if recordOk bs then bs.take n else [] }

/-- The module against its 0x0F80 record (R73, Table 3.4, R75); `kept` is the CRC-32 last accepted of a module bound to the port. With
none kept the record is accepted as unchanged (log 121); one kept of a module with another serial is compared too (log 128). -/
def judgeModule (m : ModuleRec) (kept : Option (BitVec 32)) (accept : Bool) (x : ModFound) : Nat :=
  if x.fault ≠ 0 then x.fault
  else if x.cls ≠ m.cls then 5
  else if m.bind = 1 ∧ slice x.record 8 8 ≠ m.serial then 6
  else if x.fmt < m.minfmt then 7
  else if m.bind = 1 ∧ accept = false ∧ kept.any (fun c => c != x.crc) then 8
  else 0

/-- `MCRC` kept of a bound module (R75). -/
def keptCrc (n : Nat) (s : State) : Option (BitVec 32) := (s.ar.moduleCrc.find? (fun x => x.1 == n)).map (·.2)

/-- The CRC-32 of a bound module's record is kept as accepted (R75). -/
def keepCrc (n : Nat) (c : BitVec 32) (s : State) : State :=
  writeObject 5 { s with ar.moduleCrc := (n, c) :: s.ar.moduleCrc.filter (fun x => x.1 != n) }

/-- The words of a port after a check (Table 16.9). -/
def portWords (n fault : Nat) (x : ModFound) (s : State) : State :=
  { s with r.mp := vupd s.r.mp n (fun w =>
      { mpstatMatch := fault == 0, mpstatFault := BitVec.ofNat 4 fault, mpstatClass := BitVec.ofNat 8 x.cls
        mpfmt := BitVec.ofNat 8 x.fmt, mpcrc := x.crc
        mpfails := if fault = 0 then 0 else sat 8 (w.mpfails.toNat + 1) }) }

/-- A record comes into use. -/
def useRecord (n : Nat) (bs : List Byte) (s : State) : State := { s with mp := vupd s.mp n (fun m => { m with record := bs }) }

/-! ## Functions -/

/-- A bit of `UNAVAIL`. -/
def setUnavail (bit : Nat) (b : Bool) (s : State) : State :=
  { s with r.flt.unavail := if b then s.r.flt.unavail ||| BitVec.ofNat 4 (1 <<< bit)
                            else s.r.flt.unavail &&& ~~~BitVec.ofNat 4 (1 <<< bit) }

/-- Radio and link become unavailable or available (Table 4.2 stage 13, R435, R451). -/
def radioAvailable (ok : Bool) (s : State) : State :=
  { s with rad.unavailable := !ok } |> setUnavail 1 (!ok)
    |> onlyIf (!ok) (fun s => closeWindow { s with
        rad.queue := [], rad.seqCmd := none, rad.replyDue := false, ln.search := none, ln.exch := none, ln.slot := none
        ln.ackOpen := false, ln.listenDue := none, ln.listening := false, ln.helloDue := false, ln.session := none })

/-- The radio is available: the front-end module where one is named, its bands, and the radio calibration. -/
def radioAvail (s : State) : Bool :=
  s.start.radioOk && (match s.cat.modRec 5 with
    | some _ => (vget s.r.mp 5 {}).mpstatMatch && bandSupported s.cat (calBlock 5 s)
    | none => true)

/-- The radio calibration converges on the configured band (R343): `CALOK`, and the link becomes available where its module allows. -/
def radioPasses (s : State) : State :=
  let s := calibrateSynth s.cat.radio.band { s with start.radioOk := true, r.rf.rfstatCalok := true, rad.calAt := tlmono s }
  radioAvailable (radioAvail s) s

/-- Checks of R435 on records that come into use: the front end's bands, the battery's pulse current. -/
def limitEvents (n : Nat) (c : Cat) (cal : List Byte) (s : State) : State :=
  if n = 5 ∧ !bandSupported c cal then logEvent 0x0F0D [(c.radio.band : Int), (u8 cal 0 : Int)] s
  else if n = 6 ∧ u16 cal 4 < c.chair.ibatlim then logEvent 0x0F0C [(c.chair.ibatlim : Int), (u16 cal 4 : Int)] s
  else s

/-- What an unbound port's outcome does to its function (R451). -/
def portFunction (n : Nat) (m : ModuleRec) (ok : Bool) (s : State) : State :=
  match n with
  | 3 => if m.cls = 3 then setUnavail 2 (!ok) s else s
  | 4 => loadMap ok s
  | 5 => radioAvailable (radioAvail s) s
  | _ => s

/-! ## The 24-hour column (Table 3.4, R433) -/

/-- The event that an outcome logs at a 24-hour check. -/
def checkEvent (n fault : Nat) (m : ModuleRec) (s : State) : State :=
  let ev := fun (code : Nat) (args : List Int) => logEvent code args s
  if fault = 0 then s
  else if fault = 2 ∨ fault = 3 then ev 0x0F06 [(n : Int), (fault : Int)]
  else if m.bind = 0 then ev 0x0F0E [(n : Int), (fault : Int)]
  else if fault ≤ 4 then ev 0x0F04 [(n : Int)]
  else ev 0x0F05 [(n : Int), (fault : Int)]

/-- Event that a bound port's last check carries into safe-beacon: the third consecutive absence, or a wrong module. -/
def checkFatal (c : Cat) (s : State) (n : Nat) : Option Nat :=
  let w := vget s.r.mp n {}
  let fault := w.mpstatFault.toNat
  match c.modRec n with
  | none => none
  | some m =>
    if m.bind ≠ 1 ∨ fault = 0 then none
    else if 5 ≤ fault then some 0x0F05
    else if 3 ≤ w.mpfails.toNat then some (if fault = 2 ∨ fault = 3 then 0x0F06 else 0x0F04)
    else none

/-- One port of a 24-hour check, or of a reload, whose records govern later: outcome, words, event, and the function where the image
in force names the port. -/
def checkModule (c : Cat) (reload : Bool) (n : Nat) (r : ModRead) (s : State) : State :=
  match c.modRec n with
  | none => s
  | some m =>
    let x := readModule r
    let fault := judgeModule m (keptCrc n s) reload x
    let before := (vget s.r.mp n {}).mpstatMatch
    let fresh := fault = 0 ∧ before = false
    let s := s |> portWords n fault x |> checkEvent n fault m
      |> onlyIf (decide (fresh ∧ m.bind = 0)) (fun s => useRecord n x.record s |> limitEvents n c (slice x.record 32 (u16 x.record 16)))
    if m.bind = 0 ∧ (s.cat.modRec n).isSome ∧ before ≠ decide (fault = 0) then portFunction n m (fault == 0) s else s

/-- What a report gives of a port; one that it does not name did not answer (R433 step 2). -/
def readOf (reads : List (Nat × ModRead)) (n : Nat) : ModRead := ((reads.find? (fun x => x.1 == n)).map (·.2)).getD .noAnswer

/-- The ports of a 24-hour check that records name, in the order of their numbers (R74, R433): every one is judged, then the first
fatal outcome leads to safe-beacon. -/
def checkModules (c : Cat) (reload : Bool) (reads : List (Nat × ModRead)) (s : State) : State :=
  let s := (List.range 7).foldl (fun (s : State) (n : Nat) => checkModule c reload n (readOf reads n) s) s
  match (List.range 7).findSome? (checkFatal c s) with
  | some e => enterSafeBeacon e false s
  | none => s

/-! ## The start's column (Table 3.4, Table 4.2 stages 8 and H6) -/

/-- A port at a start: its words, the record that comes into use, the event 0x0060 of a named port that does not match,
and the read of a port that no record names (R74), which is no check. A bound port's is the fatal finding of
`startModulesFatal`. -/
def startPort (stage n : Nat) (r : ModRead) (s : State) : State :=
  let x := readModule r
  match s.cat.modRec n with
  | none =>
    let s := portWords n x.fault x s
    { s with r.mp := vupd s.r.mp n (fun w => { w with mpfails := 0 }) } |> logPlain 4 [(n : Int)]
  | some m =>
    let fault := judgeModule m (keptCrc n s) false x
    let s := portWords n fault x s
    if fault = 0 then
      let cal := slice x.record 32 (u16 x.record 16)
      useRecord n x.record s |> onlyIf (m.bind == 1) (keepCrc n x.crc) |> limitEvents n s.cat cal
    else
      let args : List Int := [(n : Int), (fault : Int), (m.bind : Int)]
      if m.bind = 1 then logEvent 0x0060 args s else warn stage 0x0060 args s

/-- A bound port does not match: safe-beacon (Table 3.4). -/
def startModulesFatal (s : State) : Bool :=
  s.cat.modules.any (fun m => m.bind == 1 && !(vget s.r.mp m.port {}).mpstatMatch)

/-- The pressure sensor that the image in force names does not match (R451). -/
def pressureMissing (s : State) : Bool :=
  s.cat.modules.any (fun m => m.port == 3 && m.cls == 3) && !(vget s.r.mp 3 {}).mpstatMatch

/-- The functions of the ports after a start's check (R396, R435, R451). -/
def startFunctions (s : State) : State :=
  let matched := fun (n : Nat) => (vget s.r.mp n {}).mpstatMatch
  let front := s.cat.modules.any (fun m => m.port == 5) && !(matched 5 && bandSupported s.cat (calBlock 5 s))
  let disp := s.cat.modules.any (fun m => m.port == 4) && matched 4
  { setUnavail 2 (pressureMissing s) s with start.dispOk := disp } |> loadMap disp |> onlyIf front (radioAvailable false)

end Sys2Proof.Machine
end

