-- ==== Sys2Proof/Machine/ReloadOps.lean ====
section
/-! DEFINITION. Images at work: the two slots and their words (R54, R69 to R71), OTP key slots (R65 to R68), the
metrological audit counter (R81 to R83), and the reload in service mode (R75 to R80). -/

namespace Sys2Proof.Machine

/-! ## Slots -/

/-- Content of a slot as programmed; what follows reads 0xFF. -/
def slotBytes (i : Nat) (s : State) : List Byte := if i = 0 then s.nv.slotA else s.nv.slotB

/-- A slot's content is erased or programmed; without VDDIO the CFG pads are isolated, and nothing reaches the memory (R43). -/
def setSlot (i : Nat) (bs : List Byte) (s : State) : State :=
  if !s.io.vddio then s
  else if i = 0 then { s with nv.slotA := bs } else { s with nv.slotB := bs }

/-- The slot that does not hold the active image (R57). -/
def inactiveSlot (s : State) : Nat := if s.active = some 1 then 0 else 1

/-- Bytes that erasing whole 4 KiB sectors up to a length leaves. -/
def eraseBytes (len : Nat) (bs : List Byte) : List Byte :=
  let n := ceilDiv len 4096 * 4096
  List.replicate n 0xFF ++ bs.drop n

/-- `PATCHID`s of the banks that the Archive holds as valid (R69 reason 0x10, R322). -/
def validBanks (s : State) : List Nat :=
  (s.ar.banks.toList.filter (fun b => b.state == .valid)).map (fun b => u32 b.bytes 0)

/-- The bank in use under an image: 0 none, 1 bank 0, 2 bank 1 (R322). -/
def bankFor (c : Cat) (s : State) : Nat :=
  let ok : Nat → Bool := fun i => match s.ar.banks.toList[i]? with
    | some b => b.state == .valid && u32 b.bytes 0 == c.patchid
    | none => false
  if c.patchid = 0 then 0 else if ok 0 then 1 else if ok 1 then 2 else 0

/-- Validation of a slot (R69). -/
def verdictOf (i : Nat) (readOk : Bool) (s : State) : Verdict :=
  validate readOk s.nv.otp (validBanks s) s.r.sys.mfloor.toNat (slotBytes i s)

/-- The words of a slot (R72). -/
def slotWords (i : Nat) (v : Verdict) (s : State) : State :=
  let n := min 15 v.ignored.length
  let first := BitVec.ofNat 16 (v.ignored.headD 0)
  if i = 0 then
    { s with r.sys.cfgaValid := v.reason == 0, r.sys.cfgaIgncnt := BitVec.ofNat 4 n
             r.sys.cfgaReason := BitVec.ofNat 8 v.reason, r.sys.seqa := BitVec.ofNat 32 v.seq, r.sys.ignida := first }
  else
    { s with r.sys.cfgb := BitVec.ofNat 16 ((if v.reason = 0 then 0x8000 else 0) + 256 * n + v.reason)
             r.sys.seqb := BitVec.ofNat 32 v.seq, r.sys.ignidb := first }

/-- The configuration memory can be used (R55): its SFDP signature is present, it declares 128 KiB or more and a quad read; its
pads are powered (R43). -/
def memoryUsable (m : Sfdp) (s : State) : Bool := s.io.vddio && m.signature && decide (131072 ≤ m.bytes) && m.quadRead

/-- Both slots are validated (R69, R70). -/
def validateBoth (rep : StageReport) (s : State) : Verdict × Verdict × State :=
  let a := verdictOf 0 (memoryUsable rep.sfdp s && !rep.readErrA) s
  let b := verdictOf 1 (memoryUsable rep.sfdp s && !rep.readErrB) s
  (a, b, s |> slotWords 0 a |> slotWords 1 b)

/-! ## OTP key slots -/

/-- An OTP key slot is programmed. -/
def setKeySlot (n : Nat) (k : KeySlot × BitVec 256) (s : State) : State := { s with nv.otp := vupd s.nv.otp n (fun _ => k) }

/-- Programming conditions of R95. -/
def otpReady (s : State) : Bool :=
  decide (s.cat.chair.vresOk ≤ vres s) || (decide (2400 ≤ vres s) && decide (vbat s ≤ vres s + 50) && decide (vres s ≤ vbat s + 50))

/-- The slot whose key signed an image. -/
def signSlot (c : Cat) (s : State) : Nat := (OtpSlots.signer s.nv.otp c.signer).getD 0

/-- A successor record may be programmed (R68): slot n + 1 is EMPTY. -/
def successorDue (c : Cat) (s : State) : Bool :=
  c.nexthash.isSome && decide (signSlot c s < 3) && (vget s.nv.otp (signSlot c s + 1) (.empty, 0)).1 == .empty

/-- A successor record that is ignored is logged (R68). -/
def successorIgnored (c : Cat) (s : State) : State :=
  if c.nexthash.isSome then logPlain 3 [(signSlot c s : Int)] s else s

/-- The successor's hash goes to slot n + 1 (R68). -/
def programSuccessor (c : Cat) (s : State) : State :=
  if successorDue c s then setKeySlot (signSlot c s + 1) (.active, c.nexthash.getD 0) s else successorIgnored c s

/-- Every ACTIVE slot below the signer's becomes REVOKED (R68). -/
def revokeBelow (c : Cat) (s : State) : State :=
  let m := signSlot c s
  { s with nv.otp := Vector.ofFn (fun (i : Fin 4) =>
             let k := s.nv.otp[i]
             if i.val < m ∧ k.1 = .active then (.revoked, k.2) else k)
           r.sys.otpkeySignslot := BitVec.ofNat 2 m }

/-! ## The audit counter -/

/-- Legally relevant records that differ between two images: ID and index, added, changed or removed (R82). -/
def recordChanges (old new : List (Nat × Nat × List Byte)) : List (Nat × Nat) :=
  (new.filter (fun r => !old.contains r)).map (fun r => (r.1, r.2.1))
    ++ (old.filter (fun r => !new.any (fun x => x.1 == r.1 && x.2.1 == r.2.1))).map (fun r => (r.1, r.2.1))

/-- An accepted image raises the metrology floor where its `MDIGEST` is new (R71), and its copy is written to Archive SYSTEM (R101). -/
def acceptFloor (c : Cat) (image : List Byte) (s : State) : State :=
  let s := if s.ar.lastDigest = some c.mdigest then s
    else { s with r.sys.mfloor := BitVec.ofNat 32 (max s.r.sys.mfloor.toNat c.seq) }
  { s with ar.lastDigest := some c.mdigest } |> addJob (.image image) |> writeObject 5

/-- Whether a list of legally relevant records changes one against the current copy. -/
def changesRecord (id : Nat) (new : List (Nat × Nat × List Byte)) (s : State) : Bool :=
  match s.ar.current with
  | some (_, l) => l.filter (fun r => r.1 == id) != new.filter (fun r => r.1 == id)
  | none => true

/-- An image that changes record 0x0780 returns the swap state to Assigned (R262). -/
def resetSwap (s : State) : State :=
  { s with tp.swap := .assigned, r.tmp.swaprun := 0, r.tmp.swapok := 0 }
    |> writeObject 0xA

/-! ## Reload -/

/-- A reload is in progress (R76); one whose switch waits remains so in safe-beacon (log 123). -/
def reloading (s : State) : Bool := s.sv.reloadRun || s.sv.reload.isSome

/-- Ports whose bound module matches but for a changed calibration block, and the records that come into use (R75, R77). -/
def reloadRecords (c : Cat) (reads : List (Nat × ModRead)) (s : State) : List (Nat × BitVec 32) × List (Nat × List Byte) :=
  let found := reads.filterMap (fun x =>
    match c.modRec x.1 with
    | some m =>
      let f := readModule x.2
      if judgeModule m none true f = 0 then some (x.1, m.bind, f) else none
    | none => none)
  ((found.filter (fun x => x.2.1 == 1 && keptCrc x.1 s != some x.2.2.crc)).map (fun x => (x.1, x.2.2.crc)),
   found.map (fun x => (x.1, x.2.2.record)))

/-- The selected image differs from the active one (R77). -/
def otherImage (i : Nat) (c : Cat) (s : State) : Bool := s.active != some i || s.cat.seq != c.seq

/-- A reload selects an image in operation: the module checks run under its records, keys move, and the pending copy is
to be written (R77, R78, R68). A module whose port has no CRC-32 kept yet is accepted without being counted (log 121); one that the
new image binds in the place of another serial is counted for its changed 0x0F80 record and for the calibration block that
comes with it (log 122). -/
def reloadSelect (i : Nat) (c : Cat) (rep : StageReport) (s : State) : State :=
  let (calib, records) := reloadRecords c rep.modules s
  let s := checkModules c true rep.modules s
  if s.safe then s
  else
    let kept := calib.filter (fun x => (keptCrc x.1 s).isSome)
    let s := revokeBelow c s
    let s := if successorDue c s then
        (if otpReady s then programSuccessor c s else { s with start.wait := .otp, start.waitFrom := s.now })
      else successorIgnored c s
    addJob (.pendingCopy ⟨c.mdigest, c.legal, c.other⟩)
      { s with sv.reload := some { slot := i, cat := c, image := slotBytes i s, calib, records
                                   changes := recordChanges ((s.ar.current.map (·.2)).getD []) c.legal
                                                ++ kept.map (fun x => (0x0F80, x.1)) } }

/-- Safe-beacon is left by a cold start (R106); `HIRQ.SBCHG` tells it (R422). -/
def leaveSafeBeacon (cause : Nat) (s : State) : State := { coldStart cause s with r.io.hirqSbchg := true }

/-- The work of RELOAD completes: outcome for STATQ (R427), and what follows (R77, R80). The AON sample of the report is the
VRES that R95 asks for. -/
def reloadComplete (rep : StageReport) (s : State) : State :=
  let s := match rep.smp with | some x => sample x s | none => s
  let (a, b, s) := validateBoth rep s
  let s := { s with sv.reloadRun := false }
  match selectSlot a b with
  | none => { s with sv.outcome := leBytes 1 a.reason ++ leBytes 1 b.reason }
  | some (i, c) =>
    let s := { s with sv.outcome := leBytes 1 i ++ leBytes 4 c.seq }
    if s.safe then leaveSafeBeacon 5 s
    else if otherImage i c s then reloadSelect i c rep s else s

/-- No Piste step runs and no span is being integrated: an interval boundary (R78). -/
def atIntervalBoundary (s : State) : Bool := s.ps.run.isNone && s.fl.slots.isEmpty

/-- The switch record is sealed (R78): kind 3, old `SEQUENCE`, records counted, and the new value of the audit counter, which the
register takes when the record is committed (`countSwitch`, log 143). -/
def sealSwitch (x : Reload) (s : State) : State :=
  let n := x.changes.length
  let a := s.rg.legal.audit
  let t := sealFullFor x.cat 3 s.cat.seq n { s with rg.legal.audit := min 0xFFFFFFFF (a + n), sv.reload := some { x with sealing := true } }
  fillXb 0x1800 0x800 { t with rg.legal.audit := a }

/-- The switch record has been committed. -/
def switchCommitted (s : State) : Bool :=
  !s.ar.jobs.any (fun j => match j with | .fullRec a => a.kind == 3 | _ => false)

/-- Link records of a new image (R356): a parent whose `ROLE` or `CLUSTERID` changes hands over first; other changes wait for
the next superframe boundary. -/
def switchLink (old new : Cat) (s : State) : State :=
  let s := if old.link.role ≠ new.link.role then logEvent 0x0C13 [(old.link.role.code : Int), (new.link.role.code : Int)] s else s
  let roleChange := decide (old.link.role ≠ new.link.role ∨ old.link.clusterid ≠ new.link.clusterid)
  let wait := fun (s : State) => { s with cat.link := old.link, cat.keys := old.keys, ln.cfg := some (new.link, new.keys) }
  if old.link = new.link ∧ old.keys = new.keys then s
  else if roleChange then (if s.ln.role = .parent then forceHandover (wait s) else startRole s)
  else if s.ln.boundary.isSome then wait s
  else loadKeys s

/-- Paths whose 0x0480 record changed start afresh (R201, R205, R217, R234). -/
def switchPaths (old new : Cat) (s : State) : State :=
  (List.range 4).foldl (fun (s : State) (k : Nat) =>
    if new.hasPath k ∧ old.path.find? (fun p => p.path == k) ≠ new.path.find? (fun p => p.path == k) then initPath k s else s) s

/-- Outside GAS no class is kept and `GASSTAT` reads 0 (R245): every path uses `FREQ` of its record. -/
def leaveGas (s : State) : State :=
  (pathsOf s).foldl (fun s k => useFreq k (s.cat.pathRec k).freq s)
    { s with fl.newClass := none, fl.classCopy := 0, r.gas.gasstatValid := false, r.gas.gasstatBelow := false
             r.gas.gasstatClass := 0, r.gas.gasstatCand := 0, r.gas.gasstatCandn := 0 }

/-- The switch changes what the display map comes from (R396): record 0x0E01, the record of MP4, or the block that MP4 gave. -/
def mapChanges (x : Reload) (old new : Cat) : Bool :=
  decide (old.disp ≠ new.disp) || decide (old.modRec 4 ≠ new.modRec 4) || x.calib.any (·.1 == 4) || x.records.any (·.1 == 4)

/-- A new image governs (R78, R213, R216, R270, R281, R490). -/
def switchImage (x : Reload) (s : State) : State :=
  let old := s.cat
  let new := x.cat
  let swap := old.legal.filter (fun r => r.1 == 0x0780) != new.legal.filter (fun r => r.1 == 0x0780)
  let s := x.calib.foldl (fun (s : State) (y : Nat × BitVec 32) => keepCrc y.1 y.2 s) s
  let s := x.records.foldl (fun (s : State) (y : Nat × List Byte) =>
    useRecord y.1 y.2 s |> limitEvents y.1 new (slice y.2 32 (u16 y.2 16))) s
  let s := endFast { s with cat := new, active := some x.slot, sv.reload := none, rad.clampLogged := [], cal.seqLogged := false
                            start.bank := bankFor new s, r.sys.patchact := BitVec.ofNat 32 (if bankFor new s = 0 then 0 else new.patchid)
                            rg.prev := none, rg.tvfwd := 0, rg.tvrev := 0, rg.tenet := 0 }
  s |> cancelHeld 2 |> acceptFloor new x.image |> onlyIf swap resetSwap |> switchPaths old new
    |> onlyIf (mapChanges x old new) (fun s => loadMap ((vget s.r.mp 4 {}).mpstatMatch && (new.modRec 4).isSome) s)
    |> (fun s => setUnavail 2 (pressureMissing s) s)
    |> onlyIf (s.rad.unavailable != !radioAvail s) (fun s => radioAvailable (radioAvail s) s)
    |> onlyIf (new.profile != .gas) leaveGas |> switchLink old new |> startPiste |> reroute

end Sys2Proof.Machine
end

