-- ==== Sys2Proof/Machine/PowerOps.lean ====
section
/-! DEFINITION. Power: POR, brownout, reset and boundary scan (R45, R46, R49, R119, R126), state requests, entries and wakes
(R112 to R121, R459), and the Chairlift's commands (R122 to R132, R153). -/

namespace Sys2Proof.Machine

/-! ## POR, brownout, reset, boundary scan -/

/-- POR_RELEASE (R119, R45, R56): `slotA` and `slotB` are slots programmed from outside while VBAT was below the threshold. With
TESTEN high the device stays in reset: nothing works, and every ball is in its Reset state (Pins.lean). -/
def execPorRelease (testen : Bool) (slotA slotB : Option (List Byte)) (s : State) : Host.Outcome State Fault Refusal :=
  if s.phase != .off then .next s
  else
    let s := { s with nv.slotA := slotA.getD s.nv.slotA, nv.slotB := slotB.getD s.nv.slotB }
    if testen then .next { quiet s with phase := .testHold } else .next (porStart s)

/-- VBAT_BELOW_POR (R119). -/
def execVbatBelowPor (s : State) : Host.Outcome State Fault Refusal := .next (enterOff .off s)

/-- A brownout joins a procedure at its own steps (R455): a commit that has begun is completed, the alarm telegram stays
held. -/
def joinBrownout (p : Proc) (s : State) : State :=
  match p.stage with
  | .commit => finishCommit s
  | .park | .alarm => holdAlarm p.cause s

/-- BROWNOUT (R126): 0x0101, the commit, the park, every domain but AON off. -/
def execBrownout (smp : Sample) (s : State) : Host.Outcome State Fault Refusal :=
  if !s.aon || s.phase == .brownout then .next s
  else
    let s := sample smp s |> logEvent 0x0101 [(smp.vbat : Int)]
      |> fun s => { s with r.pwr.borcnt := inc16 s.r.pwr.borcnt }
    let s := match s.flt.proc with | some p => joinBrownout p s | none => commitOrSkip (if alarmUnderWay s then holdAlarm s.flt.alarmCause s else s)
    .next (procFinish 9 (s |> parkStart 1 |> parkEnd))

/-- A hold ends with a cold start; while EXTEST is current the device leaves it only through a watchdog reset, so metering stays
halted as R49 has it. -/
def leaveHold (cause : Nat) (s : State) : State :=
  if s.io.tap = .extest then { s with phase := .extest } else coldStart cause s

/-- BROWNOUT_RECOVERY (R126); while RST_N is low the device stays held (R46). -/
def execBrownoutRecovery (s : State) : Host.Outcome State Fault Refusal :=
  if s.phase != .brownout then .next s
  else if s.io.rstLow then .next { s with phase := .resetHold }
  else .next (leaveHold 9 s)

/-- RST_N_LOW (R46): shorter than 1 µs ignored, 10 µs or longer a watchdog reset; between them the rule gives no effect. -/
def execRstNLow (ns : Nat) (s : State) : Host.Outcome State Fault Refusal :=
  if ns < 1000 then .next s
  else if ns < 10000 then .fault .rstPulseUndefined
  else if !s.aon then .next s
  else
    let s := { s with io.rstLow := true }
    match s.phase with
    | .brownout | .resetHold => .next s
    | _ => .next (watchdogReset 7 s)

/-- RST_N_RISE (R46). -/
def execRstNRise (s : State) : Host.Outcome State Fault Refusal :=
  let s := { s with io.rstLow := false }
  if s.phase == .resetHold then .next (leaveHold 2 s) else .next s

/-- EXTEST_ENTRY (R49): the commit, metering stopped with the registers frozen, and the tamper event. A watchdog reset
procedure that runs is cancelled, its commit completed: EXTEST is left by a watchdog reset in any case (log 115). Without VDDIO
the port's inputs are inactive (R43); in Off, under TESTEN and after a ROM halt nothing executes (log 129). A device that a
brownout or RST_N holds stays held, with the commit that it has made already. -/
def execExtestEntry (s : State) : Host.Outcome State Fault Refusal :=
  if !s.aon || !s.io.vddio || s.io.tap == .extest then .next s
  else match s.phase with
  | .brownout | .resetHold => .next ({ s with io.tap := .extest } |> logEvent 0x100A [])
  | _ =>
    let s := match s.flt.proc with
      | some ⟨_, .commit⟩ => commitShadow s
      | some _ => s
      | none => commitOrSkip s
    .next { (s |> parkStart 0 |> parkEnd |> stopEngines |> logEvent 0x100A []) with phase := .extest, io.tap := .extest, flt.proc := none, cl.commit := none }

/-- EXTEST_EXIT (R47, R49): another instruction replaces EXTEST, or a TAP reset occurs; which of them the command does not tell, so
that it is open (log 139). A watchdog reset with cause boundary scan follows; in a hold of R46 or R126 its trigger is counted and
logged, and the hold goes on (log 117). Outside EXTEST the device's operation is not touched. -/
def execExtestExit (s : State) : Host.Outcome State Fault Refusal :=
  if !s.aon || !s.io.vddio || s.io.tap != .extest then .next s
  else
    let (v, s) := draw s
    let t := { s with io.tap := tapInstr (openLoad v) }
    match s.phase with
    | .brownout | .resetHold => .next (resetTrigger 8 t)
    | _ => .next (watchdogReset 8 t)

/-! ## State requests (R114, R115, R459) -/

/-- PWRCMD_HIBERNATE (R114). -/
def execPwrcmdHibernate (port : Port) (s : State) : Host.Outcome State Fault Refusal :=
  if portWrites port s && s.service port then done (askPower .hibernate port s) else .next s

/-- PWRCMD_OFF (R114). -/
def execPwrcmdOff (port : Port) (s : State) : Host.Outcome State Fault Refusal :=
  if portWrites port s && s.service port then done (askPower .off port s) else .next s

/-- A refused request is held for a hand-over (R459): the parent role ends by force, or the running hand-over is awaited. -/
def holdRequest (q : PowerRequest) (s : State) : State :=
  let s := { s with pw.heldReq := some q } |> logEvent 0x1005 [(q.target.code : Int)]
  if s.ln.ho.st == .announced || s.ln.ho.st == .transferring then s else forceHandover s

/-- A request is issued for a port: evaluated, and held where the parent role or a hand-over refuses it. -/
def issueRequest (q : PowerRequest) (s : State) : State :=
  let s := { s with pw.issuer := some q.port }
  let held := s.pw.target.isNone && (refusers q.target s).any (fun x => x.2 == 0x42 || x.2 == 0x43)
  let s := stateRequest q.target s
  if held then holdRequest q s else s

/-- STATE_REQUEST_EVALUATE (R114): 1 ms after the session that issued the request has closed. -/
def execStateRequestEvaluate (s : State) : Host.Outcome State Fault Refusal :=
  match s.pw.request with
  | some q =>
    if s.operating && s.flt.proc.isNone && !(s.sv.ses q.port).open_ then done (issueRequest q { s with pw.request := none })
    else .next s
  | none => .next s

/-- HELD_REQUEST_REISSUE (R459): the parent role, or the running hand-over, has ended. -/
def execHeldRequestReissue (s : State) : Host.Outcome State Fault Refusal :=
  match s.pw.heldReq with
  | some q =>
    if s.operating && s.flt.proc.isNone && s.ln.role != .parent && s.ln.ho.st != .announced && s.ln.ho.st != .transferring then
      done (issueRequest q { s with pw.heldReq := none })
    else .next s
  | none => .next s

/-! ## Entries and wakes (R116 to R121) -/

/-- Standby (Table 5.4, R37, R120): retention by the image that governs, the module supplies off, every domain off but AON, and
DSP where the display needs it. -/
def enterStandby (s : State) : State :=
  let s := { s with pw.retbank := BitVec.ofNat 4 s.cat.retbank, pw.retsb := BitVec.ofNat 16 s.cat.retsb }
  let keep := s.cat.disp.dtype == .glass && s.isOn .dsp
  let s := tdcDown (portsOff s) |> domOff ([.cur, .reg, .sig, .tx, .rx, .vit, .tmp, .rf, .lnk, .arc, .mod] ++ (if keep then [] else [.dsp]))
  losePower ((List.range 33).filter (fun c => !retainedInStandby s c)) s

/-- The last step of an entry to Hibernate (Table 5.4, R37): the display's balls, the link and the domains. -/
def enterHibernate (s : State) : State :=
  { stopEngines s with pw.st := .hibernate, r.clk.clkstatVitrdy := false, r.clk.clkstatPllvit := false }

/-- The last step of an entry to Off (Table 5.4, R116): the panel is parked, and AON goes off. -/
def enterOffByCommand (s : State) : State := s |> parkEnd |> enterOff .offByCommand

/-- The state that has been entered. -/
def entered (t : PState) (s : State) : State :=
  match t with
  | .standby => { enterStandby s with pw.st := .standby }
  | .hibernate => enterHibernate s
  | .off => enterOffByCommand s
  | t => { s with pw.st := t }

/-- STATE_ENTRY_COMPLETE (R116 to R118): a latched wake exits to Run, else the pending slot is evaluated. An entry to Hibernate
or Off goes on while a record is open, which its writer programs under its seat (R116, R17, log 93). -/
def execStateEntryComplete (s : State) : Host.Outcome State Fault Refusal :=
  match s.pw.target with
  | none => .next s
  | some t =>
    if (t == .hibernate || t == .off) && recordsOpen s then .next s else
    let latched := s.pw.latched
    let pend := s.pw.pend
    let s := entered t { bgAbort s with pw.target := none, pw.latched := none }
    if t == .off then .next s
    else
      let s := { s with pw.pend := pend }
      match latched with
      | some c => done (wake c { s with r.pwr.latewake := inc16 s.r.pwr.latewake })
      | none =>
        match pend with
        | some u => done (stateRequest u { s with pw.pend := none })
        | none => done s

/-- WAKE_RTC_COMPARE (Table 5.2 source 0x01). -/
def execWakeRtcCompare (s : State) : Host.Outcome State Fault Refusal :=
  if (s.operating || s.safe) && s.flt.proc.isNone then done (wake 1 s) else .next s

/-! ## Chairlift commands -/

/-- Outside the starts, a unit may ask for a seat (R91). -/
def seatsServed (s : State) : Bool := (s.operating || s.safe) && s.flt.proc.isNone && s.pw.st == .run

/-- SEAT_REQUEST (R128, R131): class in 0.1 mA, hold and deadline in µs, the deadline from now. -/
def execSeatRequest (unit : Fin 10) (cls hold : Nat) (deadline : Option Nat) (smp : Sample) (s : State) :
    Host.Outcome State Fault Refusal :=
  if seatsServed s && decide (unit.val ≠ 0) then
    done (requestSeat unit.val cls hold (deadline.map (s.now + ·)) .other (sample smp s))
  else .next s

/-- CHAIRLIFT_EVALUATE (R129). -/
def execChairliftEvaluate (smp : Sample) (s : State) : Host.Outcome State Fault Refusal :=
  if s.operating || s.safe || s.starting then done (evaluate (sample smp s)) else .next s

/-- SEAT_RELEASE (R132); an operation of the Archive that still runs under the seat is suspended (R486), and the controller takes up
what another seat covers. The seat of a start-up stage ends with its stage. -/
def execSeatRelease (unit : Fin 10) (smp : Sample) (s : State) : Host.Outcome State Fault Refusal :=
  if (s.operating || s.safe) && holds unit.val s then
    let s := sample smp s
    done (startOps (releaseSeat unit.val (if s.ar.run.any (fun r => r.owner.unit == unit.val) then pauseRun s else s)))
  else .next s

/-- SEAT_DEADLINE_DROP (R131). -/
def execSeatDeadlineDrop (unit : Fin 10) (s : State) : Host.Outcome State Fault Refusal :=
  match s.cl.waiting.find? (fun x => x.unit == unit.val && x.deadline.isSome) with
  | some x => if x.unit = 0 then done (stageSeatDropped x s) else done (dropRequest x 1 s)
  | none => .next s

/-- VRES_SAMPLE (R122). -/
def execVresSample (smp : Sample) (s : State) : Host.Outcome State Fault Refusal :=
  if s.aon then done (sample smp s) else .next s

/-- A unit whose seat is taken from it stops its work (R125, R153); `vit` and `tdc` are the results that their calibrations
report. -/
def abortWork (vit tdc : Nat) (x : Seat) (s : State) : State :=
  match x.work with
  | .transmit u =>
    if s.rad.air.isSome then loseFrame s
    else (match s.rad.queue.find? (fun f => f.use == u) with | some f => tellDropped f s | none => s)
  | .emissive => emissiveStop s
  | .bistable _ => parkStart 3 s
  | .vitrine => vitrineFailed vit s
  | .tdcCal => endCal (List.replicate 4 tdc) s
  | .pressure _ => s |> portsOff |> domOff [.mod]
  | _ => s

/-- A seat is aborted at the abort level (R125). -/
def abortSeat (s : State) (x : Seat) : State :=
  let s := { s with r.pwr.clabort := inc16 s.r.pwr.clabort, r.pwr.cldropUnit := BitVec.ofNat 4 x.unit, r.pwr.cldropReason := 3 }
  releaseSeat x.unit (abortWork 4 6 x s)

/-- VRES_ABORT_LEVEL (R125): the seats of priority 5 to 7 that were admitted above the level, or that have seen VRES above it
since. -/
def execVresAbortLevel (s : State) : Host.Outcome State Fault Refusal :=
  let xs := s.cl.held.filter (fun x => decide (6 ≤ x.unit) && x.above)
  if xs.isEmpty then .next { s with pw.aboveAbort := false }
  else done (xs.foldl abortSeat { s with pw.aboveAbort := false } |> logEvent 0x0103 [(maskOf (xs.map (·.unit)) : Int)])

/-- RESERVOIR_RISE_TIMED (R127): with no seat held and the last VRES sample at most VBAT − 200 mV, VRES has risen by 100 mV in `us`;
C_est in 0.1 mF is `IBATLIM` × us / 10^5. R129 takes C_est itself; `RESCEST` reports it in 0.1 mF, an estimate that rounds to 0 as
1, since 0 reports `CRES` in use (log 120). -/
def execReservoirRiseTimed (us : Nat) (s : State) : Host.Outcome State Fault Refusal :=
  if !s.aon || !s.cl.held.isEmpty || s.cl.commit.isSome || decide (vbat s < vres s + 200) then .next s
  else
    let q : Nat := s.cat.chair.ibatlim * us
    let c : Nat := s.cat.chair.cres * 10000
    let est := max 1 (roundOpen ((q : Rat) / 100000)).toNat
    if q < 7 * c then
      done ({ s with r.pwr.rescest := sat 16 est, cl.cest := max 1 q } |> logEvent 0x0107 [(min est 65535 : Nat)])
    else if 9 * c ≤ q then done { s with r.pwr.rescest := 0, cl.cest := 0 }
    else .next s

/-- CHARGE_SWITCH_TIMEOUT (R127). -/
def execChargeSwitchTimeout (s : State) : Host.Outcome State Fault Refusal :=
  if s.aon && s.cl.held.isEmpty && decide (vres s + 100 < vbat s) then
    done (logEvent 0x0108 [(vbat s : Int), (vres s : Int)] s)
  else .next s

/-- The unit of a seat is told of a failed PLL as of a drop (R153): a request that waits leaves the queue. -/
def tellPll (s : State) (x : Seat) : State :=
  let s := abortWork 6 6 x s
  { s with cl.told := x.work :: s.cl.told, cl.waiting := s.cl.waiting.filter (fun y => y.order != x.order)
           ps := match x.work with
             | .shots _ | .zeroCheck _ | .temperature _ | .pressure _ => { s.ps with run := none }
             | _ => s.ps }
    |> onDrop x.work |> releaseSeat x.unit

/-- The work of a start's wake is abandoned (R153): its Vitrine calibration, which its stage or step then judges with result 6;
otherwise that of the stage itself, which is told as of a drop and fails (R91, R131). -/
def abandonStage (s : State) : State :=
  if s.ck.run.isSome then failStartVitrine 6 s
  else if hasSeat 0 s then stageTold { releaseSeat 0 s with cl.waiting := s.cl.waiting.filter (fun y => y.unit != 0) }
  else s

/-- PLL_LOCK_TIMEOUT (R153): the HFRC restarts once in a wake, then the work of the wake is abandoned, and with the PLL the Signal
core's fast clock is gone (R110). That two failures count within a wake is log 144. -/
def execPllLockTimeout (s : State) : Host.Outcome State Fault Refusal :=
  if !(s.operating || s.safe || s.starting) || s.pw.st != .run || s.flt.proc.isSome then .next s
  else if s.ck.pllFails = 0 then .next { s with ck.pllFails := 1 }
  else if s.starting then
    done ({ s with ck.pllFails := 0 } |> logEvent 0x0204 [(maskOf (s.cl.held.map (fun x => x.unit)) : Int)] |> abandonStage)
  else
    let xs := s.cl.held ++ s.cl.waiting
    done (xs.foldl tellPll { s with ck.pllFails := 0, pw.choose := true } |> runNormal
      |> logEvent 0x0204 [(maskOf (xs.map (fun x => x.unit)) : Int)])

end Sys2Proof.Machine
end

