-- ==== Sys2Proof/Machine/Faults.lean ====
section
/-! DEFINITION. Watchdogs and guaranteed procedures (R452 to R457), safe-beacon's telegrams and retries (R104, R106), the check
for reversed paths (R449) and standing events (R445). -/

namespace Sys2Proof.Machine

/-! ## Watchdogs (Table 17.3) -/

/-- Watchdogs that supervise the Curator and its engines run: no procedure, and the engines clocked. -/
def watched (s : State) : Bool :=
  s.flt.proc.isNone && (s.starting || ((s.operating || s.safe) && s.pw.st == .run))

/-- CURATOR_WATCHDOG (R452). -/
def execCuratorWatchdog (s : State) : Host.Outcome State Fault Refusal :=
  if watched s && s.phase != .safeBeacon true then done (watchdogReset 1 s) else .next s

/-- An expiry of cause `c` is counted. -/
def countExpiry (c : Nat) (s : State) : State := { s with r.flt.wdcnt := vupd s.r.flt.wdcnt (c - 1) inc16 }

/-- Expiries within 86 400 s of `TLMONO`, this one among them. -/
def expiries (h : List Nat) (s : State) : List Nat := tlmono s :: h.filter (fun t => decide (tlmono s < t + 86400))

/-- Work that the Signal core runs. -/
def signalWork (w : Work) : Bool :=
  match w with
  | .shots _ | .zeroCheck _ | .temperature _ | .pressure _ | .tdcCal => true
  | _ => false

/-- A seat of the Signal core's work ends with it; a calibration of the converters is interrupted (result 5). -/
def dropSignalSeat (s : State) (x : Seat) : State := releaseSeat x.unit (abortWork 4 5 x s)

/-- The SIG domain is reset: the work of the wake is abandoned, and nothing is posted (R242, R452). -/
def resetSignal (s : State) : State :=
  let xs := s.cl.held.filter (fun x => signalWork x.work)
  { xs.foldl dropSignalSeat { s with ps.run := none, ps.waiting := [] } with
      r.drv.xdstatBooston := false, r.drv.xdstatVdrvok := false }
    |> (fun s => { s with cl.waiting := s.cl.waiting.filter (fun x => !signalWork x.work), cal.wait := none })
    |> domOff [.sig, .tx, .rx, .tmp] |> onlyIf s.ck.run.isNone tdcDown

/-- SIGNAL_WATCHDOG (R242, R452): 0x1002; the third expiry within a day is a watchdog reset. -/
def execSignalWatchdog (s : State) : Host.Outcome State Fault Refusal :=
  if !watched s || !s.operating || !s.isOn .sig then .next s
  else
    let h := expiries s.flt.sigHist s
    let s := { s with flt.sigHist := h }
    if 3 ≤ h.length then done (watchdogReset 2 s)
    else done (resetSignal (countExpiry 2 s) |> logEvent 0x1002 [2])

/-- The alarm telegram after a Link core expiry (R452, R457); the role restarts after it. -/
def linkAlarm (s : State) : State :=
  if s.flt.alarm.isSome && !radioSilent s then sequencerSend (alarmTx s) { s with flt.alarmCause := 3 } else restartLink s

/-- LINK_WATCHDOG (R452): 0x1003; the third expiry within a day is a watchdog reset. -/
def execLinkWatchdog (smp : Sample) (s : State) : Host.Outcome State Fault Refusal :=
  if !watched s || !s.operating || !s.isOn .lnk then .next s
  else
    let s := sample smp s
    let h := expiries s.flt.lnkHist s
    let s := { s with flt.lnkHist := h }
    if 3 ≤ h.length then done (watchdogReset 3 s)
    else
      let s := if alarmUnderWay s then loseFrame s else s
      done ({ resetLink (countExpiry 3 s) with rad.linkRestart := true }
        |> logEvent 0x1003 [(s.ln.role.code : Int)] |> linkAlarm)

/-- REGISTRAR_WATCHDOG (R21, R266, R452): 0x1002, and the recovery of R266 without a lockstep event. -/
def execRegistrarWatchdog (s : State) : Host.Outcome State Fault Refusal :=
  if watched s && regRuns s && registrarBusy s then
    done ({ s with flt.regHist := expiries s.flt.regHist s } |> countExpiry 4 |> logEvent 0x1002 [4] |> regRecover)
  else .next s

/-- WARDEN_WATCHDOG (R452): a watchdog reset; an expiry within the reset leaves the remaining steps out. -/
def execWardenWatchdog (s : State) : Host.Outcome State Fault Refusal :=
  if !s.aon then .next s
  else match s.flt.proc with
  | some p => if p.cause = 5 then .next (procFinish 5 (countExpiry 5 s)) else done (watchdogReset 5 s)
  | none =>
    match s.phase with
    | .brownout | .resetHold => .next s
    | _ => done (watchdogReset 5 s)

/-! ## Steps of a procedure -/

/-- SHADOW_COMMIT_COMPLETE (R453, R454): step 3 ends; a program that was in progress has completed before (R312). -/
def execShadowCommitComplete (smp : Sample) (s : State) : Host.Outcome State Fault Refusal :=
  match s.flt.proc with
  | some ⟨c, .commit⟩ =>
    if s.ar.run.any (fun r => r.job == ArcJob.sealedSlot) then
      let s := sample smp s
      done (procAfterCommit c { finishCommit s with cl.commit := none })
    else .next s
  | _ => .next s

/-- ALARM_TELEGRAM_SEAT_TIMEOUT (R457): the frame is held. -/
def execAlarmTelegramSeatTimeout (s : State) : Host.Outcome State Fault Refusal :=
  match s.cl.waiting.find? (fun x => x.work == .transmit .alarm), s.rad.queue.find? (fun f => f.use == .alarm) with
  | some x, some f => done (tellDropped f { s with cl.waiting := s.cl.waiting.filter (fun y => y.order != x.order) })
  | _, _ => .next s

/-! ## Safe-beacon -/

/-- A fault frame waits for the sequencer or for its permitted time. -/
def faultUnderWay (s : State) : Bool :=
  (s.rad.queue ++ s.rad.air.toList ++ (s.rad.seqCmd.map (·.2)).toList).any (fun f => f.use == .fault)

/-- FAULT_TELEGRAM_DUE (R104): while an earlier one still waits for its ledger no other is built. -/
def execFaultTelegramDue (smp : Sample) (s : State) : Host.Outcome State Fault Refusal :=
  if !s.safe || s.flt.proc.isSome then .next s
  else
    let s := wake 1 (sample smp s)
    let s := { s with sb.telFrom := s.now, sb.first := false, pw.choose := true }
    if radioSilent s || faultUnderWay s then done s
    else
      let (f, s) := faultTelegram s
      done (sequencerSend f s)

/-- SAFE_BEACON_RETRY (R98, R106): while `FAILS` < 3, a cold start with cause 0x6 that runs every stage. -/
def execSafeBeaconRetry (s : State) : Host.Outcome State Fault Refusal :=
  if s.safe && s.flt.proc.isNone && decide (s.r.sys.sbstatFails.toNat < 3) then
    .next (leaveSafeBeacon 6 { s with r.sys.wdstart := 0 })
  else .next s

/-! ## Checks of the Curator -/

/-- 100 L in µL. -/
def hundredLitres : Int := 100000000

/-- A day whose increments are `f` forward and `r` in reverse, µL (R449). -/
def judgeDay (f r : Int) (s : State) : State :=
  if hundredLitres < r ∧ f < r then
    let s := { s with r.flt.revdays := inc16 s.r.flt.revdays }
    if 3 ≤ s.r.flt.revdays.toNat ∧ s.r.flt.fltstatRevsusp = false then
      { s with r.flt.fltstatRevsusp := true } |> logEvent 0x1008 [(s.r.flt.revdays.toNat : Int)]
    else s
  else if hundredLitres < f ∧ r < f then { s with r.flt.revdays := 0, r.flt.fltstatRevsusp := false }
  else s

/-- The day's increments of the posted copies; the first check after AON RAM was cleared only takes its start values. -/
def checkDay (s : State) : State :=
  let l := s.rg.posted.legal
  let t := { s with flt.dayStart := some (l.vfwd, l.vrev) }
  match s.flt.dayStart with
  | some (f, r) => judgeDay (l.vfwd - f) (l.vrev - r) t
  | none => t

/-- REVERSE_DAY_CHECK (R449), at 00:00 local time. -/
def execReverseDayCheck (s : State) : Host.Outcome State Fault Refusal :=
  match s.cat.profile with
  | .gas | .heat | .cool | .heatcool => onTimer checkDay s
  | _ => .next s

/-- STANDING_EVENT_EXPIRY (R445): the oldest standing events, logged together, stop standing. -/
def execStandingEventExpiry (s : State) : Host.Outcome State Fault Refusal :=
  match s.flt.standing.getLast? with
  | some x => done { s with flt.standing := s.flt.standing.filter (fun y => decide (x.at_ < y.at_)) }
  | none => .next s

end Sys2Proof.Machine
end

