-- ==== Sys2Proof/Machine/Service.lean ====
section
/-! DEFINITION. The host port and the Ohmueri protocol: transactions (R417 to R420), requests and their answers (R425 to
R427, R431), service mode (R428, R429), slot and patch writes (R430, R322) and reload (R76 to R80). -/

namespace Sys2Proof.Machine

/-! ## Host transactions -/

/-- `HST_IRQ` is asserted (R422). -/
def hostIrq (s : State) : Bool :=
  s.cat.hostPresent && (s.r.io.hirqRsp || s.r.io.hirqFres || s.r.io.hirqTres || s.r.io.hirqSbchg || s.r.io.hirqStart
    || s.r.io.hirqAlarm || s.r.io.hirqStore)

/-- The status byte of a transaction that is served (R418). -/
def statusByte (s : State) : Nat :=
  0x85 + (if hostIrq s then 0x40 else 0) + (if s.sv.hst.service then 0x20 else 0) + (if s.safe then 0x10 else 0)

/-- `HST_CS` rises at the end of a transaction: the Curator's work on it is complete (R112). -/
def csRise (s : State) : State := { s with io.cs := false, pw.choose := true }

/-- A request reaches a device in Run whose Curator is off: the seat of unit 6 for its service is asked for (R18, R128, log 78). -/
def serveRequest (s : State) : State :=
  if !s.serving && (s.operating || s.phase == .safeBeacon false) && s.pw.st == .run && s.pw.target.isNone && s.flt.proc.isNone then
    serviceSeat s
  else s

/-- A host transaction (R418): without VDDIO or a running AON domain nothing reaches the device; a Curator that does not
execute serves nothing; else the status byte leads what is shifted out. -/
def hostTransaction (f : State → List Byte × State) (s : State) : State :=
  if !s.io.vddio || !s.aon then s
  else
    let s := serveRequest s
    if !s.serving then csRise { s with r.io.hstnrdy := inc16 s.r.io.hstnrdy, sv.miso := [] }
    else
      let (out, t) := f s
      csRise { t with sv.miso := leBytes 1 (statusByte s) ++ out }

/-! ## Frames (R426) -/

/-- An answer's frame (Table 16.2). -/
def answerFrame (code : Nat) (tag : Byte) (data : List Byte) : List Byte :=
  let body := leBytes 1 (2 + data.length) ++ leBytes 1 (code + 0x80) ++ tag :: data
  (0xA7 : Byte) :: body ++ leBytes 2 (crc16 body).toNat

/-- Command, tag and data of a frame; none where it is discarded. -/
def parseRequest (f : List Byte) : Option (Nat × Byte × List Byte) :=
  let n := u8 f 1
  if u8 f 0 = 0xA7 ∧ 2 ≤ n ∧ n ≤ 250 ∧ f.length = n + 4 ∧ crc16 (slice f 1 (n + 1)) = BitVec.ofNat 16 (u16 f (n + 2)) then
    some (u8 f 2, f.getD 3 0, slice f 4 (n - 2))
  else none

/-- A response goes out: on the optical port at once, on the host port to be read by RESPONSE, with `HIRQ.RSP` (R420, R422). -/
def sendResponse (p : Port) (frame : List Byte) (s : State) : State :=
  match p with
  | .optical => { s with sv.irTx := frame }
  | .host => { s with sv.unread := true, r.io.hirqRsp := true }

/-! ## Sessions and service mode -/

/-- A session ends with its service mode (R427, R429): cause 1 CLOSE, 2 timeout. -/
def endSession (p : Port) (cause : Nat) (s : State) : State :=
  endService p cause s |> updSes p (fun x => { x with open_ := false, challenge := none, sent := [] })
    |> fun s => { s with pw.choose := true }

/-- HELLO (R427): a session opens at 2400 baud, or gets a new challenge. -/
def opHello (p : Port) (s : State) : Nat × List Byte × State :=
  let (v, s) := draw s
  let ch := leBytes 16 v
  let s := if (s.sv.ses p).open_ then s else
    (match p with
     | .optical => cancelHeld 1 { s with sv.baud := 0, sv.baudNext := none }
     | .host => cancelHeld 1 s)
  let s := updSes p (fun x => { x with open_ := true, challenge := some ch, last := s.now }) s
  (0, leBytes 2 0x9640 ++ leBytes 2 0x00B0 ++ leBytes 8 Config.serial.toNat ++ leBytes 2 (wordAt (sysRows s) 0x0010)
        ++ leBytes 1 s.cat.maxbaud ++ ch, s)

/-- BAUD (R427): the rate changes 10 ms after the response; the host port has no rate (log 81). -/
def opBaud (p : Port) (d : List Byte) (s : State) : Nat × List Byte × State :=
  if d.length ≠ 1 ∨ s.cat.maxbaud < u8 d 0 then (5, [], s)
  else match p with
    | .optical => (0, [], { s with sv.baudNext := some (u8 d 0) })
    | .host => (0, [], s)

/-- The message that AUTH signs (R428). -/
def authMessage (p : Port) (ch : List Byte) : List Byte := ch ++ leBytes 8 Config.serial.toNat ++ leBytes 1 p.code

/-- A failed AUTH (R428): counted, with its lockout. -/
def authFailed (p : Port) (s : State) : State :=
  let x := s.sv.ses p
  let len := if x.fails = 0 then 0 else if x.fails = 1 then 60 else min 3600 (2 * x.lockLen)
  { s with r.io.authfail := inc16 s.r.io.authfail }
    |> updSes p (fun x => { x with fails := x.fails + 1, lockLen := len
                                   lockUntil := if len = 0 then none else some (s.now + len * 1000000) })
    |> logEvent 0x0F03 [(p.code : Int), (len : Int)]

/-- AUTH (R428): one attempt for each challenge. -/
def opAuth (p : Port) (d : List Byte) (s : State) : Nat × List Byte × State :=
  if d.length ≠ 128 then (5, [], s)
  else
    let x := s.sv.ses p
    let s := updSes p (fun x => { x with challenge := none }) s
    let good := match x.challenge with
      | some ch => !(x.lockUntil.any (fun t => decide (s.now < t))) && sha256 (d.take 64) == s.cat.svchash
          && !(s.sv.ses (Port.other p)).service && ecdsaVerify (d.take 64) (authMessage p ch) (d.drop 64)
      | none => false
    if good then
      (0, [], updSes p (fun x => { x with fails := 0, lockLen := 0, lockUntil := none, service := true }) s
        |> logEvent 0x0F01 [(p.code : Int)])
    else (3, [], authFailed p s)

/-- STATQ (R427): the last pending command, its status, and its outcome. -/
def opStatq (s : State) : Nat × List Byte × State :=
  (0, leBytes 1 s.sv.pendCmd ++ leBytes 1 s.sv.pendStatus ++ s.sv.outcome, s)

/-! ## Reads -/

/-- READMAP (R427). -/
def opReadmap (p : Port) (d : List Byte) (s : State) : Nat × List Byte × State :=
  if d.length ≠ 3 ∨ u8 d 2 < 1 ∨ 120 < u8 d 2 then (5, [], s)
  else let (ws, s) := readWords (some p) (u8 d 2) (u16 d 0) s; (0, wordBytes ws, s)

/-- READPROF, as 0x02 of Table 14.9. -/
def opReadprof (d : List Byte) (s : State) : Nat × List Byte × State :=
  if d.length ≠ 6 ∨ u16 d 4 < 1 ∨ 18 < u16 d 4 then (5, [], s) else (0, profData (u32 d 0) (u16 d 4) s, s)

/-- READEVT, as 0x03 of Table 14.9. -/
def opReadevt (d : List Byte) (s : State) : Nat × List Byte × State :=
  if d.length ≠ 5 ∨ u8 d 4 < 1 ∨ 9 < u8 d 4 then (5, [], s) else (0, evtData (u32 d 0) (u8 d 4) s, s)

/-- READSTORE: as many entries as a response holds, marked as sent by this session. -/
def opReadstore (p : Port) (d : List Byte) (s : State) : Nat × List Byte × State :=
  if d.length ≠ 4 then (5, [], s)
  else
    let es := (storeData (u32 d 0) 247 s).1
    (0, es.flatMap CsEntry.bytes, updSes p (fun x => { x with sent := es.map CsEntry.num ++ x.sent }) s)

/-- ACKSTORE. -/
def opAckstore (p : Port) (d : List Byte) (s : State) : Nat × List Byte × State :=
  if d.length ≠ 4 then (5, [], s) else (0, [], ackStore (u32 d 0) (s.sv.ses p).sent s)

/-- READSNAP: bytes of a committed group, the oldest being group 0 (log 76). -/
def opReadsnap (d : List Byte) (s : State) : Nat × List Byte × State :=
  if d.length ≠ 7 ∨ u8 d 6 < 1 ∨ 240 < u8 d 6 ∨ s.ar.snaps.length ≤ u16 d 0 then (5, [], s)
  else (0, slice ((s.ar.snaps[u16 d 0]?.map (·.bytes)).getD []) (u32 d 2) (u8 d 6), s)

/-! ## Writes in service mode -/

/-- WRITEMAP (R420, R427). -/
def opWritemap (p : Port) (d : List Byte) (s : State) : Nat × List Byte × State :=
  let n := (d.length - 2) / 2
  if d.length < 4 ∨ d.length % 2 = 1 ∨ 120 < n then (5, [], s)
  else if !portWrites p s then (0, [], s)
  else (0, [], writeWords p (u16 d 0) ((List.range n).map (fun i => BitVec.ofNat 16 (u16 d (2 + 2 * i)))) s)

/-- TIMESET (R157). -/
def opTimeset (p : Port) (d : List Byte) (s : State) : Nat × List Byte × State :=
  if d.length ≠ 10 then (5, [], s)
  else let (ok, s) := offerTime p.code (leNat (slice d 0 6)) (u32 d 6) s; (0, leBytes 1 (bit ok), s)

/-- LEARN (R226). -/
def opLearn (d : List Byte) (s : State) : Nat × List Byte × State :=
  if d.length ≠ 1 ∨ !s.cat.hasPath (u8 d 0) then (5, [], s)
  else (0, [], updPath (u8 d 0) (fun p => { p with learnDue := true }) s |> fillXb 0x20 4 |> fillXb 0xD80 0x280)

/-- BGTEST (R305). -/
def opBgtest (d : List Byte) (s : State) : Nat × List Byte × State :=
  if d.length ≠ 0 then (5, [], s) else (0, [], { s with bgReq := true })

/-- POWER (R114). -/
def opPower (p : Port) (d : List Byte) (s : State) : Nat × List Byte × State :=
  if d.length ≠ 1 then (5, [], s)
  else if u8 d 0 = 4 then (0, [], askPower .hibernate p s)
  else if u8 d 0 = 5 then (0, [], askPower .off p s)
  else (5, [], s)

/-! ## Pending commands -/

/-- A pending command runs. -/
def pendingRuns (s : State) : Bool := s.sv.pendStatus == 1

/-- A pending command begins (R427, Table 16.4). -/
def beginPending (p : Port) (code : Nat) (s : State) : Nat × List Byte × State :=
  (1, [], { s with sv.pendCmd := code, sv.pendStatus := 1, sv.outcome := [], sv.pendPort := some p })

/-- SLOTOPEN (R57, R430): the inactive slot's sectors up to the length are erased. -/
def opSlotopen (p : Port) (d : List Byte) (s : State) : Nat × List Byte × State :=
  if d.length ≠ 4 ∨ u32 d 0 < 1 ∨ 65536 < u32 d 0 then (5, [], s)
  else if reloading s || pendingRuns s then (2, [], s)
  else
    let i := inactiveSlot s
    beginPending p 0x30 { setSlot i (eraseBytes (u32 d 0) (slotBytes i s)) s with sv.slotW := some { slot := i, len := u32 d 0 } }

/-- SLOTDATA (R430). -/
def opSlotdata (d : List Byte) (s : State) : Nat × List Byte × State :=
  let n := d.length - 4
  if d.length < 5 ∨ 240 < n then (5, [], s)
  else match s.sv.slotW with
  | none => (7, [], s)
  | some w =>
    if !w.ready then (2, [], s)
    else if u32 d 0 ≠ w.next then (7, [], s)
    else if w.len < w.next + n then (5, [], s)
    else (0, [], { setSlot w.slot (programBytes w.next (d.drop 4) (slotBytes w.slot s)) s with sv.slotW := some { w with next := w.next + n } })

/-- SLOTCLOSE (R430). -/
def opSlotclose (p : Port) (d : List Byte) (s : State) : Nat × List Byte × State :=
  if d.length ≠ 0 then (5, [], s)
  else match s.sv.slotW with
  | none => (7, [], s)
  | some w => if !w.ready || pendingRuns s then (2, [], s) else beginPending p 0x32 s

/-- RELOAD (R76, R430). -/
def opReload (p : Port) (d : List Byte) (s : State) : Nat × List Byte × State :=
  if d.length ≠ 0 then (5, [], s)
  else if reloading s || s.sv.slotW.isSome || pendingRuns s then (2, [], s)
  else beginPending p 0x33 { s with sv.reloadRun := true }

/-- Bytes of a patch bank: 512 sectors of 4 KiB (Table 12.6). -/
def bankSize : Nat := 512 * 4096

/-- Jobs that erase the sectors of a patch bank up to a length; FIRMWARE begins at sector 31232 (Table 12.6). -/
def bankErases (i len : Nat) : List ArcJob :=
  (List.range (ceilDiv len 4096)).map (fun k => .eraseSector (31232 + 512 * i + k))

/-- An erase or a program of FIRMWARE is outstanding. -/
def bankBusy (s : State) : Bool :=
  s.ar.jobs.any (fun j => match j with
    | .patch .. => true
    | .eraseSector n => decide (31232 ≤ n ∧ n < 32256)
    | _ => false)

/-- PATCHOPEN (R430): the bank that is not active is installing, in object 0x0E too, and its sectors are erased under unit 5, which
clears their bytes. -/
def opPatchopen (p : Port) (d : List Byte) (s : State) : Nat × List Byte × State :=
  if d.length ≠ 4 ∨ u32 d 0 < 1 ∨ bankSize < u32 d 0 then (5, [], s)
  else if reloading s || pendingRuns s then (2, [], s)
  else
    let i := if s.start.bank = 1 then 1 else 0
    beginPending p 0x38 ((bankErases i (u32 d 0)).foldl (fun s j => addJob j s)
      (writeObject 0xE { updBank i (fun b => { b with state := .installing }) s with sv.patchW := some { slot := i, len := u32 d 0 } }))

/-- PATCHDATA (R430): the bytes join the Curator's Archive work. -/
def opPatchdata (d : List Byte) (s : State) : Nat × List Byte × State :=
  let n := d.length - 4
  if d.length < 5 ∨ 240 < n then (5, [], s)
  else match s.sv.patchW with
  | none => (7, [], s)
  | some w =>
    if !w.ready then (2, [], s)
    else if u32 d 0 ≠ w.next then (7, [], s)
    else if w.len < w.next + n then (5, [], s)
    else (0, [], addJob (.patch w.slot w.next (d.drop 4)) { s with sv.patchW := some { w with next := w.next + n } })

/-- PATCHCLOSE (R322, R430). -/
def opPatchclose (p : Port) (d : List Byte) (s : State) : Nat × List Byte × State :=
  if d.length ≠ 0 then (5, [], s)
  else match s.sv.patchW with
  | none => (7, [], s)
  | some w => if !w.ready || pendingRuns s then (2, [], s) else beginPending p 0x3A s

/-- The header of a patch bank serves this revision: `PATCHID`, then the lowest and highest `REVID` (R322; the layout is
log 82). -/
def patchServes (bs : List Byte) : Bool := decide (u16 bs 4 ≤ 0x00B0) && decide (0x00B0 ≤ u16 bs 6)

/-- The work of a pending command is done: what it leaves. -/
def pendingWork (rep : StageReport) (s : State) : State :=
  match s.sv.pendCmd with
  | 0x30 => { s with sv.slotW := s.sv.slotW.map (fun w => { w with ready := true }) }
  | 0x32 =>
    (match s.sv.slotW with
     | some w =>
       let v := verdictOf w.slot (memoryUsable rep.sfdp s && !(if w.slot = 0 then rep.readErrA else rep.readErrB)) s
       { slotWords w.slot v s with sv.slotW := none, sv.outcome := leBytes 1 v.reason }
     | none => s)
  | 0x33 => reloadComplete rep s
  | 0x38 => { s with sv.patchW := s.sv.patchW.map (fun w => { w with ready := true }) }
  | 0x3A =>
    (match s.sv.patchW with
     | some w =>
       let b := (s.ar.banks.toList[w.slot]?.map (·.bytes)).getD []
       let ok := Config.patchSigned b && patchServes b
       writeObject 0xE { updBank w.slot (fun b => { b with state := if ok then .valid else .invalid }) s with
                           sv.patchW := none, sv.outcome := leBytes 1 (bit ok) }
     | none => s)
  | _ => s

/-! ## Requests (R427, R431) -/

/-- Level of a command (Table 16.3): 0 none, 1 R, 2 C, 3 S; none for an unknown code. -/
def commandLevel (code : Nat) : Option Nat :=
  if code = 0x01 then some 0
  else if (2 ≤ code ∧ code ≤ 5) ∨ (0x10 ≤ code ∧ code ≤ 0x13) ∨ code = 0x16 then some 1
  else if code = 0x14 ∨ code = 0x15 then some 2
  else if (0x20 ≤ code ∧ code ≤ 0x23) ∨ (0x30 ≤ code ∧ code ≤ 0x33) ∨ (0x38 ≤ code ∧ code ≤ 0x3A) then some 3
  else none

/-- Commands served in safe-beacon (R103, R105, R431): HELLO and CLOSE with the reads, and RELOAD on the optical port. -/
def safeServes (p : Port) (code : Nat) : Bool :=
  ([0x01, 0x04, 0x05, 0x10, 0x12, 0x13, 0x16] : List Nat).contains code || (code == 0x33 && p == .optical)

/-- Requests served during a start (R97, R431). -/
def startServes (code : Nat) (d : List Byte) : Bool := code == 1 || (code == 0x10 && decide (u16 d 0 + u8 d 2 ≤ 0x0100))

/-- The status that turns a request away, 0 when it is executed. -/
def refusal (p : Port) (code : Nat) (d : List Byte) (s : State) : Nat :=
  match commandLevel code with
  | none => 4
  | some l =>
    let x := s.sv.ses p
    if s.starting && !startServes code d then 2
    else if s.safe && !safeServes p code then 6
    else if l = 0 then 0
    else if !x.open_ then 3
    else if l = 1 then 0
    else if l = 2 then (if p == .host || x.service then 0 else 3)
    else if x.service || (s.safe && code == 0x33) then 0 else 3

/-- The effect of a command: status, data after it, state. -/
def command (p : Port) (code : Nat) (d : List Byte) (s : State) : Nat × List Byte × State :=
  match code with
  | 0x01 => if d.length ≠ 0 then (5, [], s) else opHello p s
  | 0x02 => opBaud p d s
  | 0x03 => opAuth p d s
  | 0x04 => if d.length ≠ 0 then (5, [], s) else (0, [], endSession p 1 s)
  | 0x05 => if d.length ≠ 0 then (5, [], s) else opStatq s
  | 0x10 => opReadmap p d s
  | 0x11 => opWritemap p d s
  | 0x12 => opReadprof d s
  | 0x13 => opReadevt d s
  | 0x14 => opReadstore p d s
  | 0x15 => opAckstore p d s
  | 0x16 => opReadsnap d s
  | 0x20 => opTimeset p d s
  | 0x21 => opLearn d s
  | 0x22 => opBgtest d s
  | 0x23 => opPower p d s
  | 0x30 => opSlotopen p d s
  | 0x31 => opSlotdata d s
  | 0x32 => opSlotclose p d s
  | 0x33 => opReload p d s
  | 0x38 => opPatchopen p d s
  | 0x39 => opPatchdata d s
  | 0x3A => opPatchclose p d s
  | _ => (4, [], s)

/-- A request whose frame is whole is executed, or a repeat gets the stored response (R426, R427). -/
def executeRequest (p : Port) (code : Nat) (tag : Byte) (d : List Byte) (s : State) : State :=
  let x := s.sv.ses p
  let body := tag :: leBytes 1 code ++ d
  let s := updSes p (fun x => { x with last := s.now }) s
  if x.req = some body then sendResponse p x.resp s
  else
    let r := refusal p code d s
    let (st, data, t) := if r = 0 then command p code d s else (r, [], s)
    let frame := answerFrame code tag (leBytes 1 st ++ data)
    updSes p (fun x => { x with req := some body, resp := frame }) t |> sendResponse p frame

/-- A request reaches a port: the optical port where the Curator serves, the host port in a transaction; with the previous
response unread it is discarded (R420); a length outside 2 to 250 discards the frame (R426). -/
def ohmueri (p : Port) (code : Nat) (tag : Byte) (d : List Byte) (s : State) : State :=
  match p with
  | .optical =>
    if !s.aon || !(serveRequest s).serving then serveRequest s
    else if 248 < d.length then { serveRequest s with r.io.irerr := inc16 s.r.io.irerr }
    else executeRequest .optical code tag d (serveRequest s)
  | .host =>
    hostTransaction (fun s =>
      if s.sv.unread then ([], { s with r.io.hsterr := inc16 s.r.io.hsterr })
      else if 248 < d.length then ([], s)
      else ([], executeRequest .host code tag d s)) s

end Sys2Proof.Machine
end

