-- ==== Sys2Proof/Machine/Ohmueri.lean ====
section
/-! DEFINITION. The commands of the host port (R417 to R421), of the Ohmueri protocol (Table 16.3), of service mode, and of
a reload (R76 to R80). -/

namespace Sys2Proof.Machine

/-! ## Host port -/

/-- Words as the host port sends them: high byte first (R417). -/
def hostWords (ws : List Nat) : List Byte := ws.flatMap (beBytes 2)

/-- Wake source 0x02 is enabled: `PRESENT` = 1 (R417), and `HST_CS` not held (R450). -/
def hostWakes (s : State) : Bool := s.cat.hostPresent && !s.r.flt.pinflt.getLsbD 6

/-- HST_CS_FALL (Table 5.2 source 0x02, R417): with `PRESENT` = 0 it wakes nothing. -/
def execHstCsFall (s : State) : Host.Outcome State Fault Refusal :=
  if s.io.vddio && s.aon then done (onlyIf (hostWakes s) (wake 2) { s with io.cs := true }) else .next s

/-- HST_WAKE_EDGE (Table 5.2 source 0x03, R417). -/
def execHstWakeEdge (s : State) : Host.Outcome State Fault Refusal :=
  if s.io.vddio && s.aon && s.cat.hostPresent then done (wake 3 s) else .next s

/-- HOST_WAKE_PATTERN (R421): 0xA5 in exactly eight clocks wakes from Standby and Hibernate; anything else is the falling edge
of source 0x02 alone. -/
def execHostWakePattern (bits : Nat) (value : Byte) (s : State) : Host.Outcome State Fault Refusal :=
  if !s.io.vddio || !s.aon then .next s
  else if bits = 8 ∧ value = 0xA5 then done (wake 4 { s with io.cs := false })
  else done (onlyIf (hostWakes s) (wake 2) { s with io.cs := false })

/-- READ (Table 16.1, R420). -/
def execRead (addr : Word) (count : Nat) (s : State) : Host.Outcome State Fault Refusal :=
  done (hostTransaction (fun s => let (ws, t) := readWords (some .host) count addr.toNat s; (hostWords ws, t)) s)

/-- WRITE (Table 16.1, R420). -/
def execWrite (addr : Word) (words : List Word) (s : State) : Host.Outcome State Fault Refusal :=
  done (hostTransaction (fun s => ([], if portWrites .host s then writeWords .host addr.toNat words s else s)) s)

/-- REQUEST (Table 16.1, R420, R426): a frame that fails its check is discarded. -/
def execRequest (frame : List Byte) (s : State) : Host.Outcome State Fault Refusal :=
  done (hostTransaction (fun s =>
    if s.sv.unread then ([], { s with r.io.hsterr := inc16 s.r.io.hsterr })
    else match parseRequest frame with
      | some (code, tag, d) => ([], executeRequest .host code tag d s)
      | none => ([], s)) s)

/-- RESPONSE (Table 16.1, R420): the response to the last request, then 0x00. -/
def execResponse (count : Nat) (s : State) : Host.Outcome State Fault Refusal :=
  done (hostTransaction (fun s =>
    ((s.sv.hst.resp ++ List.replicate count 0).take count, { s with sv.unread := false })) s)

/-- WAKE (Table 16.1): no operation while awake. -/
def execWake (s : State) : Host.Outcome State Fault Refusal := done (hostTransaction (fun s => ([], s)) s)

/-- HOST_UNLISTED_OPCODE (R419); a listed opcode is no such transaction. -/
def execHostUnlistedOpcode (opcode : Byte) (s : State) : Host.Outcome State Fault Refusal :=
  if ([0x03, 0x02, 0x5C, 0x5D, 0xA5] : List Byte).contains opcode then .next s
  else done (hostTransaction (fun s => ([], { s with r.io.hsterr := inc16 s.r.io.hsterr })) s)

/-- REGISTER_WRITE (R7). -/
def execRegisterWrite (port : Port) (addr value : Word) (s : State) : Host.Outcome State Fault Refusal :=
  if portWrites port s then done (writeWord port addr.toNat value s) else .next s

/-! ## Ohmueri commands -/

/-- OHMUERI_FRAME_DISCARD (R426): an optical frame with a gap, or one that its check discards. -/
def execOhmueriFrameDiscard (frame : List Byte) (gap : Bool) (s : State) : Host.Outcome State Fault Refusal :=
  if s.aon && s.serving && (gap || (parseRequest frame).isNone) then done { s with r.io.irerr := inc16 s.r.io.irerr }
  else .next s

/-- HELLO (0x01 of Table 16.3). -/
def execHello (port : Port) (tag : Byte) (data : List Byte) (s : State) : Host.Outcome State Fault Refusal :=
  done (ohmueri port 0x01 tag data s)

/-- BAUD (0x02 of Table 16.3). -/
def execBaud (port : Port) (tag : Byte) (data : List Byte) (s : State) : Host.Outcome State Fault Refusal :=
  done (ohmueri port 0x02 tag data s)

/-- AUTH (0x03 of Table 16.3). -/
def execAuth (port : Port) (tag : Byte) (data : List Byte) (s : State) : Host.Outcome State Fault Refusal :=
  done (ohmueri port 0x03 tag data s)

/-- CLOSE (0x04 of Table 16.3). -/
def execClose (port : Port) (tag : Byte) (data : List Byte) (s : State) : Host.Outcome State Fault Refusal :=
  done (ohmueri port 0x04 tag data s)

/-- STATQ (0x05 of Table 16.3). -/
def execStatq (port : Port) (tag : Byte) (data : List Byte) (s : State) : Host.Outcome State Fault Refusal :=
  done (ohmueri port 0x05 tag data s)

/-- READMAP (0x10 of Table 16.3). -/
def execReadmap (port : Port) (tag : Byte) (data : List Byte) (s : State) : Host.Outcome State Fault Refusal :=
  done (ohmueri port 0x10 tag data s)

/-- WRITEMAP (0x11 of Table 16.3). -/
def execWritemap (port : Port) (tag : Byte) (data : List Byte) (s : State) : Host.Outcome State Fault Refusal :=
  done (ohmueri port 0x11 tag data s)

/-- READPROF (0x12 of Table 16.3). -/
def execReadprof (port : Port) (tag : Byte) (data : List Byte) (s : State) : Host.Outcome State Fault Refusal :=
  done (ohmueri port 0x12 tag data s)

/-- READEVT (0x13 of Table 16.3). -/
def execReadevt (port : Port) (tag : Byte) (data : List Byte) (s : State) : Host.Outcome State Fault Refusal :=
  done (ohmueri port 0x13 tag data s)

/-- READSTORE (0x14 of Table 16.3). -/
def execReadstore (port : Port) (tag : Byte) (data : List Byte) (s : State) : Host.Outcome State Fault Refusal :=
  done (ohmueri port 0x14 tag data s)

/-- ACKSTORE (0x15 of Table 16.3). -/
def execAckstore (port : Port) (tag : Byte) (data : List Byte) (s : State) : Host.Outcome State Fault Refusal :=
  done (ohmueri port 0x15 tag data s)

/-- READSNAP (0x16 of Table 16.3). -/
def execReadsnap (port : Port) (tag : Byte) (data : List Byte) (s : State) : Host.Outcome State Fault Refusal :=
  done (ohmueri port 0x16 tag data s)

/-- TIMESET (0x20 of Table 16.3). -/
def execTimeset (port : Port) (tag : Byte) (data : List Byte) (s : State) : Host.Outcome State Fault Refusal :=
  done (ohmueri port 0x20 tag data s)

/-- LEARN (0x21 of Table 16.3). -/
def execLearn (port : Port) (tag : Byte) (data : List Byte) (s : State) : Host.Outcome State Fault Refusal :=
  done (ohmueri port 0x21 tag data s)

/-- BGTEST (0x22 of Table 16.3). -/
def execBgtest (port : Port) (tag : Byte) (data : List Byte) (s : State) : Host.Outcome State Fault Refusal :=
  done (ohmueri port 0x22 tag data s)

/-- POWER (0x23 of Table 16.3). -/
def execPower (port : Port) (tag : Byte) (data : List Byte) (s : State) : Host.Outcome State Fault Refusal :=
  done (ohmueri port 0x23 tag data s)

/-- SLOTOPEN (0x30 of Table 16.3). -/
def execSlotopen (port : Port) (tag : Byte) (data : List Byte) (s : State) : Host.Outcome State Fault Refusal :=
  done (ohmueri port 0x30 tag data s)

/-- SLOTDATA (0x31 of Table 16.3). -/
def execSlotdata (port : Port) (tag : Byte) (data : List Byte) (s : State) : Host.Outcome State Fault Refusal :=
  done (ohmueri port 0x31 tag data s)

/-- SLOTCLOSE (0x32 of Table 16.3). -/
def execSlotclose (port : Port) (tag : Byte) (data : List Byte) (s : State) : Host.Outcome State Fault Refusal :=
  done (ohmueri port 0x32 tag data s)

/-- RELOAD (0x33 of Table 16.3). -/
def execReload (port : Port) (tag : Byte) (data : List Byte) (s : State) : Host.Outcome State Fault Refusal :=
  done (ohmueri port 0x33 tag data s)

/-- PATCHOPEN (0x38 of Table 16.3). -/
def execPatchopen (port : Port) (tag : Byte) (data : List Byte) (s : State) : Host.Outcome State Fault Refusal :=
  done (ohmueri port 0x38 tag data s)

/-- PATCHDATA (0x39 of Table 16.3). -/
def execPatchdata (port : Port) (tag : Byte) (data : List Byte) (s : State) : Host.Outcome State Fault Refusal :=
  done (ohmueri port 0x39 tag data s)

/-- PATCHCLOSE (0x3A of Table 16.3). -/
def execPatchclose (port : Port) (tag : Byte) (data : List Byte) (s : State) : Host.Outcome State Fault Refusal :=
  done (ohmueri port 0x3A tag data s)

/-- BAUD_SWITCH (R427). -/
def execBaudSwitch (s : State) : Host.Outcome State Fault Refusal :=
  match s.sv.baudNext with
  | some b => done { s with sv.baud := BitVec.ofNat 2 b, sv.baudNext := none }
  | none => .next s

/-- AUTH_LOCKOUT_END (R428): the count of failures stays. -/
def execAuthLockoutEnd (port : Port) (s : State) : Host.Outcome State Fault Refusal :=
  done (updSes port (fun x => { x with lockUntil := none }) s)

/-- OHMUERI_SESSION_TIMEOUT (R427). -/
def execOhmueriSessionTimeout (port : Port) (s : State) : Host.Outcome State Fault Refusal :=
  if (s.sv.ses port).open_ then done (endSession port 2 s) else .next s

/-- PENDING_COMMAND_COMPLETE (R427): the outcome stands for STATQ, and `HIRQ.RSP` is set again. A patch bank is erased, and its last
bytes are programmed, first (R430). -/
def execPendingCommandComplete (rep : StageReport) (s : State) : Host.Outcome State Fault Refusal :=
  if !pendingRuns s || !s.serving || !(s.operating || s.safe) || (s.sv.pendCmd == 0x38 || s.sv.pendCmd == 0x3A) && bankBusy s then .next s
  else
    let s := pendingWork rep { s with sv.pendStatus := 0, r.io.hirqRsp := true }
    let held := match s.sv.pendPort with | some p => s.service p | none => false
    done (if held then s else { s with sv.slotW := none, sv.patchW := none })

/-- The pending copy of a reload has been written (R78). -/
def copyWritten (x : Reload) (s : State) : Bool := (s.ar.pendingCopy.map (·.digest)) == some x.cat.mdigest

/-- RELOAD_SWITCH (R78): the copy written, at an interval boundary. -/
def execReloadSwitch (s : State) : Host.Outcome State Fault Refusal :=
  match s.sv.reload with
  | some x =>
    if s.operating && s.serving && !x.sealing && copyWritten x s && atIntervalBoundary s && !s.rg.stopped then done (sealSwitch x s) else .next s
  | none => .next s

/-- RELOAD_COMMIT_DONE (R78). -/
def execReloadCommitDone (s : State) : Host.Outcome State Fault Refusal :=
  match s.sv.reload with
  | some x =>
    if s.operating && s.serving && x.sealing && switchCommitted s && s.ps.run.isNone then done (switchImage x s) else .next s
  | none => .next s

end Sys2Proof.Machine
end

