-- ==== Sys2Proof/Machine/Lines.lean ====
section
/-! DEFINITION. The discrete lines: VDDIO (R43), the optical supply (R425), keys (R439), tamper inputs (R440), pulse inputs
and outputs (R437, R438), held lines (R450), and the module ports in operation (R433, R479). -/

namespace Sys2Proof.Machine

/-! ## VDDIO -/

/-- VDDIO_LOSS (R43): the pads are isolated, and a host transfer ends as though `HST_CS` had risen. -/
def execVddioLoss (s : State) : Host.Outcome State Fault Refusal :=
  done { csRise s with io.vddio := false, sv.miso := [] }

/-- VDDIO_RESTORE (R43): `HST_CS` counts as high until its next falling edge, whatever its level at this moment (log 127). -/
def execVddioRestore (s : State) : Host.Outcome State Fault Refusal := done { s with io.vddio := true }

/-! ## The optical supply -/

/-- `IR_EN` stays driven for a time from now. -/
def driveIr (us : Nat) (s : State) : State :=
  { s with io.irUntil := some (max (s.now + us) (s.io.irUntil.getD 0)) }

/-- IR_CARRIER_WAKE (R425, Table 5.2 source 0x05). -/
def execIrCarrierWake (s : State) : Host.Outcome State Fault Refusal :=
  if s.aon then done (driveIr 2000000 (wake 5 s)) else .next s

/-- IR_EN_TIMEOUT (R425). -/
def execIrEnTimeout (s : State) : Host.Outcome State Fault Refusal :=
  if s.io.irUntil.isSome then done { s with io.irUntil := none } else .next s

/-! ## Keys -/

/-- Presses count: not during a start (R97), and not while metering is halted by a scan, a reset or a brownout. -/
def keysHeeded (s : State) : Bool := s.operating || (match s.phase with | .safeBeacon false => true | _ => false)

/-- A key is held by a fault (R450). -/
def keyHeld (k : Nat) (s : State) : Bool := s.r.flt.pinflt.getLsbD (4 + k)

/-- `KEY0` advances to the next screen (R398). -/
def nextScreen (s : State) : State :=
  if s.operating ∧ s.hasDisplay ∧ s.dp.map.screens ≠ [] then
    { s with dp.screen := (s.dp.screen + 1) % s.dp.map.screens.length, dp.renderNow := true }
  else s

/-- What a qualified press does (R398, R405, R425, R439). -/
def keyEffect (k : Nat) (s : State) : State :=
  let s := emissivePress { s with r.io.keycnt := inc16 s.r.io.keycnt, dp.lastKey := some s.now }
  if k = 0 then nextScreen s else driveIr 60000000 s

/-- KEY_PRESS (R439, Table 5.2 source 0x06): it wakes the device; a start that it wakes ignores it. -/
def execKeyPress (key : Fin 2) (s : State) : Host.Outcome State Fault Refusal :=
  if !s.aon || keyHeld key.val s then .next s
  else
    let s := { s with io.key := vupd s.io.key key.val (fun _ => true) }
    if !keysHeeded s then done s
    else
      let s := wake 6 s
      if keysHeeded s then done { keyEffect key.val s with pw.choose := true } else done s

/-- KEY_RELEASE (R439). -/
def execKeyRelease (key : Fin 2) (s : State) : Host.Outcome State Fault Refusal :=
  if s.aon then done { s with io.key := vupd s.io.key key.val (fun _ => false) } else .next s

/-- KEYS_HELD_5S (R439): every segment is shown for 10 s. -/
def execKeysHeld5s (s : State) : Host.Outcome State Fault Refusal :=
  if s.operating && vget s.io.key 0 false && vget s.io.key 1 false && !keyHeld 0 s && !keyHeld 1 s && s.hasDisplay then
    done { s with dp.segTest := true, dp.renderNow := true }
  else .next s

/-! ## Tamper inputs -/

/-- Tamper inputs are monitored: from stage 2 on (R97), while the AON domain runs. -/
def tamperMonitored (s : State) : Bool :=
  s.aon && s.pw.target != some .off && (match s.phase with | .cold n => decide (2 ≤ n) | _ => true)

/-- Code and items of a confirmed change (Table 16.10). -/
def tamperEvent (i : Nat) (on : Bool) (s : State) : Nat × List Int :=
  let dur := w32 (min 0xFFFFFFFF (tlmono s - vget s.io.tmpAt i 0))
  match i, on with
  | 0, true => (0x0F07, [])
  | 0, false => (0x0F08, dur)
  | _, true => (0x0F09, [])
  | _, false => (0x0F0A, dur)

/-- The confirmed state of a line changes: counted, logged and a wake, or in Hibernate and during an entry to it recorded for the
next start (R113, R117, R440). -/
def tamperChange (i : Nat) (on : Bool) (s : State) : State :=
  let (code, args) := tamperEvent i on s
  let s := { s with io.tmp := vupd s.io.tmp i (fun _ => on), io.tmpAt := vupd s.io.tmpAt i (fun _ => tlmono s)
                    r.io.tmpcnt0 := if i = 0 then inc16 s.r.io.tmpcnt0 else s.r.io.tmpcnt0
                    r.io.tmpcnt1 := if i = 0 then s.r.io.tmpcnt1 else inc16 s.r.io.tmpcnt1 }
  if s.pw.st == .hibernate || s.pw.target == some .hibernate then { s with io.tmpHib := s.io.tmpHib ++ [mkEvent code args s] }
  else wake 7 (logEvent code args s)

/-- One line is sampled: two successive samples confirm a level (R440). -/
def tamperLine (i : Nat) (on : Bool) (s : State) : State :=
  if !s.cat.tampen.testBit i then s
  else
    let again := vget s.io.tmpRaw i false == on
    let s := { s with io.tmpRaw := vupd s.io.tmpRaw i (fun _ => on) }
    if again && vget s.io.tmp i false != on then tamperChange i on s else s

/-- TAMPER_SAMPLE (R440): `TMP0` low is a magnet, `TMP1` high an open case. -/
def execTamperSample (low0 low1 : Bool) (s : State) : Host.Outcome State Fault Refusal :=
  if tamperMonitored s then done (s |> tamperLine 0 low0 |> tamperLine 1 (!low1)) else .next s

/-! ## Pulses -/

/-- PULSE_INPUT_EDGE (R438): counted in every state but Off; a pulse never wakes the device. -/
def execPulseInputEdge (input : Fin 2) (s : State) : Host.Outcome State Fault Refusal :=
  if !s.aon || s.r.flt.pinflt.getLsbD (2 + input.val) then .next s
  else if input.val = 0 then .next { s with r.io.pi0cnt := s.r.io.pi0cnt + 1 }
  else .next { s with r.io.pi1cnt := s.r.io.pi1cnt + 1 }

/-- Function of a pulse output in force. -/
def outputFn (o : Nat) (s : State) : Nat := if o = 0 then s.cat.po0fn else s.cat.po1fn

/-- Pulses queued on an output. -/
def outputQueue (o : Nat) (s : State) : BitVec 16 := if o = 0 then s.r.io.poback0 else s.r.io.poback1

/-- An output may be driven: operating, not in Hibernate, no held line (R437, R450). -/
def outputDrives (o : Nat) (s : State) : Bool :=
  s.operating && s.pw.st != .hibernate && !s.r.flt.pinflt.getLsbD o

/-- PULSE_OUTPUT_EMIT (R437): starts of pulses lie at least 10 ms apart. -/
def execPulseOutputEmit (output : Fin 2) (s : State) : Host.Outcome State Fault Refusal :=
  let o := output.val
  let spaced := match vget s.io.poAt o none with | some t => decide (t + 10000 ≤ s.now) | none => true
  if outputDrives o s && decide (1 ≤ outputFn o s ∧ outputFn o s ≤ 11) && spaced && decide (0 < (outputQueue o s).toNat) then
    .next { s with io.poAt := vupd s.io.poAt o (fun _ => some s.now)
                   r.io.poback0 := if o = 0 then s.r.io.poback0 - 1 else s.r.io.poback0
                   r.io.poback1 := if o = 0 then s.r.io.poback1 else s.r.io.poback1 - 1 }
  else .next s

/-- ALARM_PULSE_END (R437, R444). -/
def execAlarmPulseEnd (s : State) : Host.Outcome State Fault Refusal := .next { s with flt.alarmPulse := false }

/-- Level that an output holds low: `RSTAT.ERRRUN`, or an alarm pulse (Table 16.7). -/
def outputLevel (o : Nat) (s : State) : Bool :=
  outputDrives o s && ((outputFn o s == 12 && s.rg.posted.rstat.getLsbD 14) || (outputFn o s == 13 && s.flt.alarmPulse))

/-! ## Held lines (R450) -/

/-- LINE_HELD_DETECT (R450). -/
def execLineHeldDetect (line : Fin 7) (s : State) : Host.Outcome State Fault Refusal :=
  let n := line.val
  if !s.operating || s.r.flt.pinflt.getLsbD n || (n == 6 && !(s.io.cs && s.io.vddio)) then .next s
  else done ({ s with r.flt.pinflt := s.r.flt.pinflt ||| BitVec.ofNat 7 (1 <<< n) } |> logEvent 0x1009 [(n : Int)])

/-- LINE_RELEASE (R450). -/
def execLineRelease (line : Fin 7) (s : State) : Host.Outcome State Fault Refusal :=
  let n := line.val
  if s.r.flt.pinflt.getLsbD n then
    done { s with r.flt.pinflt := s.r.flt.pinflt &&& ~~~BitVec.ofNat 7 (1 <<< n)
                  io.cs := if n = 6 then false else s.io.cs
                  io.key := if n = 4 ∨ n = 5 then vupd s.io.key (n - 4) (fun _ => false) else s.io.key }
  else .next s

/-! ## Module ports in operation -/

/-- A radio calibration that had failed is retried (Table 4.2 stage 13, R343): one that succeeds makes the link available again, one
that fails is logged with the hours since the last success. -/
def retryRadio (ok : Bool) (s : State) : State :=
  if s.start.radioOk then s
  else if !ok then logEvent 0x0B02 [(((tlmono s - s.rad.calAt) / 3600 : Nat) : Int)] { s with r.rf.rfstatCalok := false }
  else
    let s := radioPasses s |> writeObject 0xC
    if s.rad.unavailable then s else startRole s

/-- The check of the ports, under its seat. -/
def runModuleCheck (reads : List (Fin 7 × ModRead)) (radioOk : Bool) (s : State) : State :=
  let before := s.rad.unavailable
  let s := checkModules s.cat false (reads.map (fun x => (x.1.val, x.2))) s
  if s.safe then s
  else
    let s := if before && !s.rad.unavailable then startRole s else s
    retryRadio radioOk s |> portsOff |> domOff [.mod] |> releaseSeat 4

/-- MODULE_CHECK_24H (R433, Table 3.4): due every 24 h of `TLMONO`, under a unit-4 seat of 5 ms; a check whose seat waits runs
when the command comes again with the seat held, and one that was dropped has not taken place. -/
def execModuleCheck24h (reads : List (Fin 7 × ModRead)) (radioOk : Bool) (smp : Sample) (s : State) :
    Host.Outcome State Fault Refusal :=
  onTimer (fun s =>
    let s := sample smp s
    let s := if s.io.modCheckAt + 86400000000 ≤ s.tl.monoUs then
        requestSeat 4 50 5000 none .moduleCheck { s with io.modCheckAt := s.tl.monoUs } else s
    if heldWork 4 s == some .moduleCheck then runModuleCheck reads radioOk s else s) s

/-- I2C_STRETCH_TIMEOUT (R479): the transfer ends, and the port gets fault 2. -/
def execI2cStretchTimeout (port : Fin 7) (s : State) : Host.Outcome State Fault Refusal :=
  if s.serving && s.isOn .mod then
    done { s with r.mp := vupd s.r.mp port.val (fun w => { w with mpstatFault := 2, mpstatMatch := false }) }
  else .next s

end Sys2Proof.Machine
end

