-- ==== Sys2Proof/Machine/Sessions.lean ====
section
/-! DEFINITION. Reader sessions: wake word, HELLO and requests at the meter (R387 to R389), and the READER's own run with a
meter (R390). The layouts of the HELLO payload and of responses follow the order in which the rules list their parts (log
79). -/

namespace Sys2Proof.Machine

/-! ## At the meter -/

/-- A session frame is queued on the channel of the session's present exchange; it must go at once (R388). -/
def sendSession (u : TxUse) (c0 k within : Nat) (p : List Byte) (s : State) : State :=
  queueTx { use := u, channel := sessionChannel c0 k s, rate := 0, airtime := psduTime 0 p s + ramps
            deadline := some (s.now + within), bytes := p } s

/-- A wake word is addressed to the device (R387). -/
def wakeFor (w : BitVec 32) : Bool :=
  let lo := w.toNat % 65536
  decide (w.toNat / 65536 = 0x4D47) && (lo == 0xFFFF || lo == linkId % 65536)

/-- WAKE_WORD: accepted in a listen window; the SESSION HELLO is scheduled. -/
def execWakeWord (word : BitVec 32) (s : State) : Host.Outcome State Fault Refusal :=
  if s.ln.listening && s.ln.session.isNone && wakeFor word then
    done (closeWindow { s with ln.listening := false, ln.helloDue := true, rad.replyDue := false, r.lnk.wakedet := inc16 s.r.lnk.wakedet })
  else .next s

/-- Payload of a HELLO (R388). -/
def helloPayload (challenge : List Byte) (s : State) : List Byte :=
  leBytes 2 s.cat.ident.mfct ++ leBytes 4 s.cat.ident.idnum ++ leBytes 1 s.cat.ident.devtype ++ leBytes 1 s.ln.role.code
    ++ leBytes 4 linkId ++ challenge

/-- SESSION_HELLO: 5 ms after the wake word; the session opens, and 120 s run from here. -/
def execSessionHello (smp : Sample) (s : State) : Host.Outcome State Fault Refusal :=
  if !s.ln.helloDue || !linkUp s then .next s
  else
    let s := sample smp { s with ln.helloDue := false }
    match readerKey s with
    | none => done (releaseSeat 3 s)
    | some k =>
      let (v, s) := draw s
      let challenge := leBytes 4 v
      let c0 := s.r.rf.rfchanNum.toNat
      let (p, _, s) := secureFrame 6 false false k broadcast (helloPayload challenge s) s
      done (sendSession .hello c0 0 0 p { s with ln.session := some { challenge, opened := s.now, c0 }
                                                 r.lnk.sessions := inc16 s.r.lnk.sessions })

/-- What a session request gives: status, data, whether `MORE` is set, and the state (Table 14.9). CLOSE is 0x07. -/
def sessionCommand (code : Nat) (d : List Byte) (x : RdrSession) (s : State) : Nat × List Byte × Bool × State :=
  let bad := (1, ([] : List Byte), false, s)
  match code with
  | 1 =>
    if d.length ≠ 3 ∨ u8 d 2 < 1 ∨ 100 < u8 d 2 then bad
    else let (ws, s) := readWords none (u8 d 2) (u16 d 0) s; (0, wordBytes ws, false, s)
  | 2 => if d.length ≠ 6 ∨ u16 d 4 < 1 ∨ 18 < u16 d 4 then bad else (0, profData (u32 d 0) (u16 d 4) s, false, s)
  | 3 => if d.length ≠ 5 ∨ u8 d 4 < 1 ∨ 9 < u8 d 4 then bad else (0, evtData (u32 d 0) (u8 d 4) s, false, s)
  | 4 =>
    if d.length ≠ 4 then bad
    else
      let (es, more) := storeData (u32 d 0) 227 s
      (0, es.flatMap CsEntry.bytes, more, { s with ln.session := some { x with sent := es.map CsEntry.num ++ x.sent } })
  | 5 => if d.length ≠ 4 then bad else (0, [], false, ackStore (u32 d 0) x.sent s)
  | 6 =>
    if d.length ≠ 10 then bad
    else let (ok, s) := offerTime 4 (leNat (slice d 0 6)) (u32 d 6) s; (0, leBytes 1 (bit ok), false, s)
  | 7 => (0, [], false, s)
  | _ => (2, [], false, s)

/-- The session belongs to its first reader, whose request opens it (R394). -/
def noteReader (src : Nat) (s : State) : State :=
  match s.ln.session with
  | some x => if x.reader.isNone then { s with ln.session := some { x with reader := some src } } |> logEvent 0x0C10 (w32 src) else s
  | none => s

/-- The answer to a request: built under the request's key, while that may be used for transmission (R363), and sent 1.0 ms after
it; CLOSE ends the session after it. -/
def answerRequest (f : LinkFrame) (key : KeyRec) (s : State) : State :=
  let s := noteReader f.src (receiverOff s)
  match s.ln.session with
  | none => s
  | some x =>
    let code := u8 f.body 4
    let (st, data, more, s) := sessionCommand code (f.body.drop 5) x s
    let s := if usable s key then
        let (p, _, s) := secureFrame 6 false more key f.src (leBytes 1 code ++ leBytes 1 st ++ data) s
        sendSession .session x.c0 x.k 1000 p
          { s with ln.session := s.ln.session.map (fun y => { y with k := x.k + 1 }), ln.lastResp := p }
      else s
    if code = 7 then closeSession 1 s else s

/-- A session request is received: under a `KIND` 2 key, with the session's challenge (R388). A repeat gets the last response
again (R365, R374). -/
def sessionRequest (f : RxFrame) (s : State) : Host.Outcome State Fault Refusal :=
  match s.ln.session with
  | none => .next s
  | some x =>
    if !receiving .reader s || !linkUp s then .next s
    else match receive f s with
    | (.deliver y, s) =>
      match loadedKey y.kind y.keyid s with
      | some k =>
        if y.typ = 6 ∧ y.kind = 2 ∧ y.body.take 4 = x.challenge ∧ 5 ≤ y.body.length then done (answerRequest y k s) else done s
      | none => done s
    | (.again y, s) =>
      if y.typ = 6 ∧ y.kind = 2 ∧ !s.ln.lastResp.isEmpty then
        done (sendSession .session x.c0 (x.k - 1) 1000 s.ln.lastResp (receiverOff s))
      else done s
    | (.nothing, s) => done s

/-- SESSION_READMAP (0x01 of Table 14.9). -/
def execSessionReadmap (f : RxFrame) (s : State) : Host.Outcome State Fault Refusal := sessionRequest f s

/-- SESSION_READPROF (0x02 of Table 14.9). -/
def execSessionReadprof (f : RxFrame) (s : State) : Host.Outcome State Fault Refusal := sessionRequest f s

/-- SESSION_READEVT (0x03 of Table 14.9). -/
def execSessionReadevt (f : RxFrame) (s : State) : Host.Outcome State Fault Refusal := sessionRequest f s

/-- SESSION_READSTORE (0x04 of Table 14.9). -/
def execSessionReadstore (f : RxFrame) (s : State) : Host.Outcome State Fault Refusal := sessionRequest f s

/-- SESSION_ACKSTORE (0x05 of Table 14.9). -/
def execSessionAckstore (f : RxFrame) (s : State) : Host.Outcome State Fault Refusal := sessionRequest f s

/-- SESSION_TIME (0x06 of Table 14.9). -/
def execSessionTime (f : RxFrame) (s : State) : Host.Outcome State Fault Refusal := sessionRequest f s

/-- SESSION_CLOSE (0x07 of Table 14.9). -/
def execSessionClose (f : RxFrame) (s : State) : Host.Outcome State Fault Refusal := sessionRequest f s

/-- SESSION_TIMEOUT: two empty windows, or 120 s after HELLO (causes: log 39); a READER gives up its run. -/
def execSessionTimeout (s : State) : Host.Outcome State Fault Refusal :=
  match s.ln.session with
  | some x => done (closeSession (if x.opened + 120000000 ≤ s.now then 3 else 2) s)
  | none => if s.ln.run.isSome then done { s with ln.run := none } else .next s

/-! ## At the reader (R390) -/

/-- The wake pattern for a target: 60 ms, three units of 48 bits at the wake rate (R387). -/
def wakePattern (target : Nat) : List Byte :=
  (List.replicate 3 (([0x55, 0x55, 0x4D, 0x47] : List Byte) ++ beBytes 2 (target % 65536))).flatten

/-- A meter has been read within 24 h. -/
def readLately (id : Nat) (s : State) : Bool := s.ln.readAt.any (fun x => x.1 == id && decide (tlmono s < x.2 + 86400))

/-- READER_FRAME_HEARD: `src` is the `SRC` of a Mogal frame, none for an EN 13757-4 telegram, whose meter the wake names by
0xFFFF. -/
def execReaderFrameHeard (src : Option Nat) (f : RxFrame) (s : State) : Host.Outcome State Fault Refusal :=
  if s.ln.role != .reader || !receiving .reader s || !linkUp s then .next s
  else if !f.good then done { s with r.rf.rxerr := inc16 s.r.rf.rxerr }
  else
    let s := { s with r.rf.rxcnt := inc16 s.r.rf.rxcnt, r.rf.rfrssi := satI 16 f.rssi, r.rf.rffei := satI 16 f.fei }
    let id := src.getD broadcast
    if s.ln.run.isSome || src.any (fun i => readLately i s) then done s
    else
      let c0 := s.r.rf.rfchanNum.toNat
      done (queueTx { use := .wake, channel := if c0 = 0xFF then none else some c0, rate := 2, airtime := 60000 + ramps
                      deadline := some (s.now + 1000), bytes := wakePattern (src.getD 0xFFFF) }
        (receiverOff { s with ln.run := some { meter := id, c0 } }))

/-- A request of the READER: the meter's challenge, the code, its data. -/
def readerRequest (x : RdrRun) (k : KeyRec) (code : Nat) (d : List Byte) (s : State) : State :=
  if usable s k then
    let (p, _, s) := secureFrame 6 false false k x.meter (x.challenge ++ leBytes 1 code ++ d) s
    sendSession .session x.c0 x.k 1000 p { receiverOff s with ln.run := some x }
  else { s with ln.run := none }

/-- The last `CENUM` of the entries in a READSTORE answer. -/
def lastCenum : Nat → List Byte → Nat
  | 0, _ => 0
  | fuel + 1, bs =>
    let n := 28 + 4 * ceilDiv (u16 bs 2) 4
    if bs.length ≤ n then u32 bs 4 else lastCenum fuel (bs.drop n)

/-- The READER offers its time. -/
def readerTime (x : RdrRun) (k : KeyRec) (s : State) : State :=
  readerRequest { x with step := 4 } k 6 (leBytes 6 (tltime s) ++ leBytes 4 (tlunc s)) s

/-- The next request of the sequence of R390, after an answer's data. -/
def readerNext (x : RdrRun) (k : KeyRec) (ctr : Nat) (d : List Byte) (s : State) : State :=
  match x.step with
  | 0 => readerRequest { x with step := 1 } k 1 (leBytes 2 0x0800 ++ leBytes 1 100) s
  | 1 =>
    let s := csStore 5 x.meter ctr d s
    if x.parent then readerRequest { x with step := 2 } k 4 (leBytes 4 0) s else readerTime x k s
  | 2 =>
    if d.isEmpty then readerTime x k s
    else
      let n := lastCenum 9 d
      readerRequest { x with step := 3, next := n + 1 } k 5 (leBytes 4 n) (csStore 5 x.meter ctr d s)
  | 3 => readerRequest { x with step := 2 } k 4 (leBytes 4 x.next) s
  | 4 => readerRequest { x with step := 5 } k 7 [] s
  | _ => { s with ln.run := none, ln.readAt := (x.meter, tlmono s) :: s.ln.readAt.filter (fun y => y.1 != x.meter) }

/-- A HELLO as the READER takes it: the meter, its challenge and whether it is a parent; of the meter that was woken. -/
def helloRun (x : RdrRun) (f : LinkFrame) : Option RdrRun :=
  if x.step = 0 ∧ x.challenge = [] ∧ f.body.length = 16 ∧ (x.meter = broadcast ∨ x.meter = f.src) then
    some { x with meter := f.src, challenge := slice f.body 12 4, parent := u8 f.body 7 == 2 }
  else none

/-- READER_SESSION_RESPONSE: a HELLO or a response of the meter. -/
def execReaderSessionResponse (f : RxFrame) (s : State) : Host.Outcome State Fault Refusal :=
  match s.ln.run with
  | none => .next s
  | some x =>
    if s.ln.role != .reader || !receiving .reader s || !linkUp s then .next s
    else match receive f s with
    | (.deliver y, s) =>
      match loadedKey y.kind y.keyid s with
      | some k =>
        if y.typ ≠ 6 ∨ y.kind ≠ 2 then done s
        else if x.challenge = [] then
          (match helloRun x y with | some x => done (readerNext x k y.ctr [] s) | none => done s)
        else if y.src = x.meter ∧ 2 ≤ y.body.length then
          done (readerNext { x with k := x.k + 1 } k y.ctr (if u8 y.body 1 = 0 then y.body.drop 2 else []) s)
        else done s
      | none => done s
    | (_, s) => done s

end Sys2Proof.Machine
end

