-- ==== Sys2Proof/Machine/Starts.lean ====
section
/-! DEFINITION. The cold start (R87 to R98) and the Hibernate start (R99 to R101): what each stage and step finds, the waits
between stages, and entry to Run. -/

namespace Sys2Proof.Machine

/-! ## Between stages -/

/-- A stage begins, those from 3 to 14 once their seat is admitted (R91); reaching stage 15 clears `WDSTART` (R98). -/
def beginStage (n : Nat) (s : State) : State :=
  if 15 ≤ n then { s with phase := .cold n, start.wait := .none, r.sys.wdstart := 0 }
  else if n ≤ 2 then { s with phase := .cold n, start.wait := .none }
  else requestSeat 0 (stageClass n) 10000 (some (s.now + 10000000)) (.startStage n)
    { s with phase := .cold n, start.wait := .seat, start.waitFrom := s.now }

/-- VRES lies within 50 mV of VBAT. -/
def nearVbat (s : State) : Bool := decide (vbat s ≤ vres s + 50) && decide (vres s ≤ vbat s + 50)

/-- The reservoir wait ends (R89). -/
def reservoirMet (s : State) : Bool := decide (s.cat.chair.vresLow ≤ vres s) || nearVbat s

/-- A wait in ms (R88). -/
def waitMs (us : Nat) : BitVec 16 := sat 16 (roundOpen ((us : Rat) / 1000)).toNat

/-- The present wait is added to `VRESWAIT` (R88). -/
def addVresWait (s : State) : State :=
  let w := s.start.vresWait + (s.now - s.start.waitFrom)
  { s with start.vresWait := w, r.sys.vreswait := waitMs w }

/-- `XTWAIT`, and stage 9 begins (R90). -/
def endXtWait (s : State) : State :=
  let w := s.now - s.start.waitFrom
  beginStage 9 { s with start.xtWait := w, r.sys.xtwait := waitMs w }

/-- The time of a stage is added to `STARTDUR` (R88), and VRES, VBAT and the temperature sampled. -/
def countStage (rep : StageReport) (s : State) : State :=
  let d := s.start.dur + rep.dur
  let s := { s with start.dur := d, r.sys.startdur := sat 16 d }
  match rep.smp with | some x => sample x s | none => s

/-! ## Stages 3 to 6 and steps H2 to H4 -/

/-- The first ROM whose CRC-32 does not match, by its event (Table 4.2); a second one's event is not logged, as the first finding
ends the start (log 124). -/
def romEvent (bad : List Nat) : Option Nat :=
  if bad.contains 1 then some 0x0011 else if bad.contains 2 then some 0x0012
  else if bad.contains 3 then some 0x0013 else if bad.contains 4 then some 0x0014 else none

/-- The highest-numbered SB bank that passed and replaces none yet (R94). -/
def spareBank (bad : List Nat) (s : State) : Option Nat :=
  (((List.range 16).map (· + 17)).filter (fun c =>
    !bad.contains c && !(vget s.seg c {}).retired && !(vget s.seg c {}).subst)).getLast?

/-- A segment is retired (R94, R304); none where no bank can replace it. -/
def retireSegment (bad : List Nat) (c : Nat) (s : State) : Option State :=
  let out := fun (peer : Nat) (s : State) => { s with seg := vupd s.seg c (fun x => { x with retired := true, peer }) }
  if c = 0 ∨ c = 5 ∨ c = 16 then none
  else if 17 ≤ c then some (out 0 s)
  else match spareBank bad s with
  | some b => some (out b { s with seg := vupd s.seg b (fun x => { x with subst := true, peer := c }) })
  | none => none

/-- Failing rows of a segment, the order of replacement: those of the factory row map in OTP, those that fail the march, and those
that a background test left pending in the map of Archive SYSTEM (R304, R309). -/
def failingRows (rep : StageReport) (c : Nat) (s : State) : List Nat :=
  let of := fun (l : List (Nat × Nat)) => (l.filter (fun x => x.1 == c)).map (·.2)
  (of s.nv.rows ++ of rep.badRows ++ (vget s.ar.rowMap c {}).pending).eraseDups

/-- The repair of a segment: each failing data row takes the next spare row that passes. -/
def repairRows (c : Nat) (rows : List Nat) : List (Nat × Nat) :=
  let data := segRows c - 4
  (rows.filter (fun r => decide (r < data))).zip (([data, data + 1, data + 2, data + 3] : List Nat).filter (fun r => !rows.contains r))

/-- The march of stage 4 (R94, R304), XB first: the repair of every segment, 0x0020 where it takes more than the factory row map (log
153), and the retirement of those with more than 4 failing rows. -/
def marchStage (rep : StageReport) (s : State) : State :=
  let codes := 16 :: (List.range 33).filter (· != 16)
  let rows := fun (c : Nat) => failingRows rep c s
  let bad := codes.filter (fun c => decide (4 < (rows c).length))
  let taken := codes.filter (fun c => !bad.contains c && (repairRows c (rows c)).any (fun x => !s.nv.rows.contains (c, x.1)))
  let s := codes.foldl (fun (s : State) (c : Nat) =>
    { s with seg := vupd s.seg c (fun y => { y with map := if bad.contains c then [] else repairRows c (rows c) }) }) s
  let s := onlyIf (!taken.isEmpty) (warn 4 0x0020 []) s
  bad.foldl (fun (s : State) (c : Nat) =>
    if s.safe then s
    else match retireSegment bad c s with
      | some s => warn 4 0x0021 [] s
      | none => fatal 4 0x0022 [] s) s

/-- The OTP check of stage 5. -/
def otpStage (rep : StageReport) (s : State) : State :=
  if rep.otpBad then fatal 5 0x0030 [] s
  else rep.otpSlotBad.foldl (fun (s : State) (n : Nat) =>
    warn 5 0x0031 [] { s with nv.otp := vupd s.nv.otp n (fun k => (.revoked, k.2)) }) s

/-- Recovery of the Archive: `RECOV` and event 0x0040 (R315). A warning of a Hibernate step sets the `STAGEWARN` bit of the stage
whose work it repeats: H4 bit 6, H6 bit 9, H11 bit 14 (log 126). -/
def recoverArchive (rep : StageReport) (s : State) : State :=
  let (done, disc, s) := recoverRecords rep.unread s
  let s := { s with r.mem.recovDone := sat 8 done, r.mem.recovDisc := sat 8 disc }
  if done + disc = 0 then s else warn 6 0x0040 [(done : Int), (disc : Int)] s

/-- A patch bank whose CRC fails is invalid (Table 4.2), in object 0x0E too (R322). -/
def invalidBank (s : State) (n : Nat) : State :=
  warn 6 0x0042 [] (writeObject 0xE { s with ar.banks := vupd s.ar.banks n (fun b => { b with state := .invalid }) })

/-- Tamper edges recorded in Hibernate are logged (R113). -/
def logHibernateEdges (s : State) : State :=
  s.io.tmpHib.foldl (fun (s : State) (e : Event) => enqueueEvent e (flushDrops s) |> classEffects e.code e.args)
    { s with io.tmpHib := [] }

/-- The Archive check of stage 6: when it passes, the events held in AON RAM are written to EVENTS (R93). -/
def archiveStage (rep : StageReport) (s : State) : State :=
  if rep.arcBad then fatal 6 0x0041 [] s
  else
    let s := recoverArchive rep s
    let s := rep.bankBad.foldl invalidBank s
    { s with start.arcOk := true } |> logHibernateEdges |> drainEvents |> writeObject 6 |> writeObject 0xB

/-! ## Stage 7 -/

/-- What power loss during a reload's switch leaves (R79); a change of record 0x0780 that it takes over returns the swap state to
Assigned (R262). -/
def settlePendingCopy (s : State) : State :=
  match s.ar.pendingCopy with
  | none => s
  | some ⟨d, l, o⟩ =>
    freeRegions 4 0 <| if (lastFull s).map (·.mdigest) = some d then
      onlyIf (changesRecord 0x0780 l s) resetSwap s
        |> fun s => { s with ar.current := some (d, l), ar.currentOther := o, ar.currentAudit := auditFloor s, ar.pendingCopy := none }
    else { s with ar.pendingCopy := none }

/-- A slot whose words say that it is valid. -/
def slotValid (i : Nat) (s : State) : Bool := if i = 0 then s.r.sys.cfgaValid else s.r.sys.cfgb.getLsbD 15

/-- The image that R70 selects among the valid slots. -/
def chooseImage (s : State) : Option (Nat × Cat) :=
  let v := fun (i : Nat) => if slotValid i s then verdictOf i true s else { reason := 1 }
  selectSlot (v 0) (v 1)

/-- All four key slots are EMPTY (R67). -/
def keysEmpty (s : State) : Bool := s.nv.otp.toList.all (fun k => k.1 == .empty)

/-- The whole image of a slot. -/
def imageOf (i : Nat) (s : State) : List Byte :=
  let bs := slotBytes i s
  let n := u32 bs 0x0C
  (bs ++ List.replicate (n - bs.length) 0xFF).take n

/-- An image governs at a start (R490), with the patch bank that it names (R322); its paths are set up (R201, R205). -/
def govern (c : Cat) (s : State) : State :=
  let b := bankFor c s
  initPaths { s with cat := c, governs := true, start.bank := b, start.wait := .none
                     r.sys.patchact := BitVec.ofNat 32 (if b = 0 then 0 else c.patchid) }

/-- The selected image is taken into use at the end of stage 7; `keys` programs the OTP slots that are due (R67, R68), and a
changed record 0x0780 returns the swap state to Assigned (R262). -/
def takeImage (i : Nat) (c : Cat) (keys : Bool) (s : State) : State :=
  let s := if keysEmpty s && keys then { setKeySlot 0 (.active, c.signer) s with r.sys.otpkeyFirst := true } else s
  let s := revokeBelow c s
  let s := if keys then programSuccessor c s else successorIgnored c s
  govern c { s with active := some i } |> onlyIf (changesRecord 0x0780 c.legal s) resetSwap |> acceptFloor c (imageOf i s)

/-- The image that R70 selects, its OTP programming included; a wait of R95 where VRES does not allow it yet. Stage 7 goes
on while `start.wait` is `otp`. -/
def selectImage (s : State) : State :=
  match chooseImage s with
  | none => fatal 7 0x0051 [] s
  | some (i, c) =>
    if (keysEmpty s || successorDue c s) && !otpReady s then
      { s with start.wait := .otp, start.waitFrom := s.now, start.chosen := some (i, c) }
    else takeImage i c true s

/-- The Catalogue read of stage 7 (R69, R70, R79). -/
def imageStage (rep : StageReport) (s : State) : State :=
  let (a, b, s) := validateBoth rep (settlePendingCopy s)
  let s := if a.reason = 0 then s else warn 7 0x0050 [] s
  let s := if b.reason = 0 then s else warn 7 0x0050 [] s
  selectImage s

/-- OTP programming under R67 has failed: the image is rejected with reason 0x0A (R95). -/
def rejectImage (i : Nat) (s : State) : State :=
  let v : Verdict := { reason := 0x0A, seq := if i = 0 then s.r.sys.seqa.toNat else s.r.sys.seqb.toNat }
  warn 7 0x0050 [] (slotWords i v s)

/-! ## Stage 8, step H6: modules -/

/-- Every port is read and compared with the Catalogue. -/
def readPorts (rep : StageReport) (s : State) : State :=
  (List.range 7).foldl (fun (s : State) (n : Nat) =>
    startPort 8 n (readOf rep.modules n) s) s

/-- Stage 8. The functions of the ports that passed are set up before a fatal finding of another port ends the start: the display
of safe-beacon shows (Table 4.4). The ports' supplies go off with the check (R37). -/
def moduleStage (rep : StageReport) (s : State) : State :=
  let s := startFunctions (readPorts rep (portsOff s))
  if startModulesFatal s then failModules s else s
where
  /-- The bound port's event has been logged; the first one is recorded. -/
  failModules (s : State) : State :=
    failStart 0x0060 false (recordFatal 8 0x0060 s)

/-! ## Stage 9, step H6: the Vitrine -/

/-- A bin holds a correction. -/
def storedCorrections (s : State) : Bool := s.ck.bins.toList.any (fun b => b.xt32.isSome || b.hfrc.isSome || b.xrf.isSome)

/-- The gates that a start's calibration has: those that have ended by themselves, and those that the stage reports, at the die
temperature of its end; without XT32 its gate is left out (R90). -/
def startGates (rep : StageReport) (s : State) : List GateRun :=
  let own := match s.ck.run with | some x => x.gates | none => []
  (own ++ rep.gates.map (fun g => ⟨g.1, g.2, dieTemp s⟩)).filter (fun g => g.gate != .xt32 || !s.start.noXt32)

/-- The calibration of a start succeeds. -/
def startCalibrates (w : Nat) (rep : StageReport) (s : State) : State :=
  let gates := startGates rep s
  { s with r.clk.vitwarm := sat 16 w } |> vitrineOff |> applyCalibration gates |> vitrineSucceeds

/-- The result of a start's calibration (R92, R139, R145, R153): 0 where `VITRDY` has come within 35 ms and nothing has abandoned
it. -/
def startResult (rep : StageReport) (s : State) : Nat :=
  if s.start.vitFail ≠ 0 then s.start.vitFail
  else match rep.vitWarm with
  | some w => if w ≤ 350 then 0 else 2
  | none => 2

/-- The Vitrine's part of stage 9 and step H6; `dead` is what follows with no correction stored. -/
def judgeVitrine (rep : StageReport) (dead : State → State) (s : State) : State :=
  if startResult rep s = 0 then startCalibrates (rep.vitWarm.getD 0) rep s
  else
    let s := vitrineFails (startResult rep s) s
    if storedCorrections s then warn 9 0x0070 [] s else dead s

/-- Stage 9. -/
def vitrineStage (rep : StageReport) (s : State) : State := judgeVitrine rep (fatal 9 0x0071 []) s

/-! ## Stage 10, step H7: the time-interval engine -/

/-- Results of the channels' histograms; one that is missing is an interrupted calibration. -/
def histCode (rep : StageReport) (n : Nat) : Nat :=
  match rep.hist[n]? with
  | some t => if t.h.length = 64 ∧ t.g.length = 25 then calCode t else 5
  | none => 5

/-- The calibration of a start is judged (R186): words, tables, counters, the retry. -/
def judgeStart (cause : Nat) (rep : StageReport) (s : State) : State :=
  let codes := (List.range 4).map (histCode rep)
  { s with ch := Vector.ofFn (fun (i : Fin 4) => { s.ch[i] with hist := (rep.hist[i.val]?).getD ⟨[], [], 0⟩ })
           r.tdc.tdccalCause := BitVec.ofNat 4 cause, r.tdc.tdccalAbandon := 0 }
    |> judgeChannels codes |> countCal codes |> planRetry codes
    |> fun s => { s with ch := Vector.ofFn (fun (i : Fin 4) =>
        if assignCode i.val s = 2 ∧ codes.getD i.val 0 ≠ 1 then { s.ch[i] with withdrawn := true } else s.ch[i]) }

/-- Channels that fail, of a code. -/
def failing (code : Nat → Bool) (rep : StageReport) (s : State) : List Nat :=
  (List.range 4).filter (fun n => code (assignCode n s) && histCode rep n != 1)

/-- Stage 10. Of several channels with `ASSIGN` 0 or 1 that fail, the first one's event ends the start (log 124). -/
def tdcStage (rep : StageReport) (s : State) : State :=
  let s := judgeStart 1 rep s
  let s := (failing (· == 2) rep s).foldl (fun (s : State) (n : Nat) => warn 10 0x0080 [(n : Int)] s) s
  match failing (fun c => decide (c ≤ 1)) rep s with
  | [] => reroute s
  | n :: _ => fatal 10 0x0081 [(n : Int)] s

/-! ## Stages 11 to 14, steps H8 to H11 -/

/-- Every port of a configured path is checked (R208). -/
def checkPorts (rep : StageReport) (s : State) : State :=
  (portsUsed s).foldl (fun s n => checkPort rep.ports n s) { s with ps.checkedAt := some s.tl.monoUs }

/-- Ports with a fault. -/
def faultyPorts (s : State) : List Nat := (portsUsed s).filter (fun n => portFault n s != 0)

/-- Stage 11. -/
def portStage (rep : StageReport) (s : State) : State :=
  let s := checkPorts rep s
  (faultyPorts s).foldl (fun (s : State) (n : Nat) => warn 11 0x0090 [(n : Int), (portFault n s : Int)] s) s

/-- The RTD check: one measurement with `AVG` = 1 (R258). -/
def checkProbes (rep : StageReport) (s : State) : State :=
  let s := channelWords (inPlan (dischargePlan 1 s) rep.discharges) 1 s
  setUnavail 3 (tempFault 4 s != 0) s

/-- Channels that take a fault in the check: under a fault of TREF the probe channels take none of their own (R258). -/
def faultyProbes (s : State) : List Nat :=
  if tempFault 4 s != 0 then [4] else (measuredChannels s).filter (fun n => tempFault n s != 0)

/-- Stage 12. -/
def probeStage (rep : StageReport) (s : State) : State :=
  let s := checkProbes rep s
  (faultyProbes s).foldl (fun (s : State) (n : Nat) => warn 12 0x00A0 [(n : Int), (tempFault n s : Int)] s) s

/-- Stage 13: a calibration that passes is to be stored (object 0x0C). -/
def radioStage (rep : StageReport) (s : State) : State :=
  if rep.radioOk then radioPasses s |> writeObject 0x0C
  else warn 13 0x00B0 [] (radioAvailable false { s with r.rf.rfstatCalok := false })

/-- The audit counter and the current copy take the image accepted at this start (R82, R83); the counter goes to the shadow at
once, and with the current copy, so that no later restore decreases it (R81). -/
def countImage (s : State) : State :=
  let c := s.cat
  match s.ar.current with
  | none => s |> countFirst |> sealFull 4 0 0 |> writeShadow |> acceptCopy c
  | some (_, old) =>
    let xs := recordChanges old c.legal
    let s := xs.foldl countRecord s
    let s := if xs.isEmpty then logOtherChange c s else writeShadow s
    acceptCopy c s

/-- Stage 14. -/
def restoreStage (s : State) : State :=
  match restoreRegistrar s with
  | none => fatal 14 0x00C1 [] s
  | some s =>
    let s := { s with start.restored := true }
    countImage (if s.r.sys.restsrcSrc.toNat ≤ 2 then s else warn 14 0x00C0 [] s)

/-! ## Entry to Run -/

/-- What runs from entry to Run on (R98, R140, R186, R213, R355, R422, R457). -/
def enterRun (s : State) : State :=
  let s : State := { s with
    phase := .operating, pw.st := .run, pw.choose := true, r.sys.wdstart := 0, r.io.hirqStart := true
    ck.retryAt := s.ck.retryAt.map (fun _ => s.now + 600000000)
    cal.retryAt := s.cal.retryAt.map (fun _ => s.now + 600000000)
    flt.alarmDue := if s.flt.alarmHeld.isSome then some s.now else none
    dp.renderNow := true
    r.gas.cutstatCut := true
    r.pw := Vector.ofFn (fun (k : Fin 4) => { s.r.pw[k] with chofs := satI 32 (roundOpen (s.path[k].chofs / 10)) }) }
  s |> renewPairs |> startPiste |> startRole

/-- Stage 15 (Table 4.2, Table 4.5): 0x0001, and the end of safe-beacon where the device comes from it. -/
def enterRunCold (s : State) : State :=
  let s := logEvent 0x0001 [(s.r.sys.startcause.toNat : Int)] s
  let s := { s with r.sys.sbstatFails := 0 } |> onlyIf (s.r.sys.sbstatFails != 0) (writeObject 0x0B)
    |> onlyIf s.sb.entered (logEvent 0x00D3 [])
  enterRun { s with sb.entered := false }

/-! ## COLD_START_STAGE_END -/

/-- What a stage finds. -/
def judgeStage (n : Nat) (rep : StageReport) (s : State) : State :=
  match n with
  | 2 => if rep.romBad.contains 0 then { s with phase := .romHalt, pw.dom := 0 } else s
  | 3 => match romEvent rep.romBad with | some e => fatal 3 e [] s | none => s
  | 4 => marchStage rep s
  | 5 => otpStage rep s
  | 6 => archiveStage rep s
  | 7 => imageStage rep s
  | 8 => moduleStage rep s
  | 9 => vitrineStage rep s
  | 10 => tdcStage rep s
  | 11 => portStage rep s
  | 12 => probeStage rep s
  | 13 => radioStage rep s
  | 14 => restoreStage s
  | 15 => enterRunCold s
  | _ => s

/-- A stage has ended well: what comes next (R87, R89, R90, R98). -/
def afterStage (n : Nat) (s : State) : State :=
  let s := releaseSeat 0 s |> domOff ((stageDoms n).filter (· != .cur))
  match n with
  | 2 =>
    if s.r.sys.wdstart = 3 then failStart 0x00E1 true (logEvent 0x00E1 [] s)
    else if reservoirMet s then beginStage 3 s
    else { s with phase := .cold 3, start.wait := .reservoir, start.waitFrom := s.now }
  | 8 =>
    let s := { s with start.waitFrom := s.now }
    if s.ck.xtRun || s.start.noXt32 then beginStage 9 s else { s with phase := .cold 9, start.wait := .xt32 }
  | 15 => s
  | n => beginStage (n + 1) s

/-- A stage is judged, and the start goes on unless the finding ends it or stage 7 waits for the reservoir. -/
def endStage (n : Nat) (rep : StageReport) (s : State) : State :=
  let s := judgeStage n rep (countStage rep s)
  if n = 15 then s
  else if s.phase == .cold n && s.start.wait == .none then afterStage n s
  else s

/-- COLD_START_STAGE_END (R87). -/
def execColdStartStageEnd (rep : StageReport) (s : State) : Host.Outcome State Fault Refusal :=
  match s.phase with
  | .cold n => if s.start.wait == .none && s.flt.proc.isNone then done (endStage n rep s) else .next s
  | _ => .next s

/-! ## Waits -/

/-- RESERVOIR_WAIT_MET (R89). -/
def execReservoirWaitMet (smp : Sample) (s : State) : Host.Outcome State Fault Refusal :=
  if !s.starting || s.start.wait != .reservoir || s.flt.proc.isSome then .next s
  else
    let s := sample smp s
    done (if reservoirMet s then beginStage 3 (addVresWait s) else s)

/-- XT32_RUNNING (R90): 1024 cycles have been counted since POR release, whatever start or state has followed it. -/
def execXt32Running (s : State) : Host.Outcome State Fault Refusal :=
  if !s.aon || !s.r.clk.clkstatXt32ok then .next s
  else
    let s := { s with ck.xtRun := true }
    if s.starting && s.start.wait == .xt32 && s.flt.proc.isNone then done (endXtWait s) else .next s

/-- XT32_START_TIMEOUT (R90): 1.0 s after POR release XT32 does not run; the fallback of R151. -/
def execXt32StartTimeout (s : State) : Host.Outcome State Fault Refusal :=
  if !s.aon || s.ck.xtRun || !s.r.clk.clkstatXt32ok then .next s
  else
    let s := { loseXt32 0x0201 (w32 (civS s)) s with start.noXt32 := true }
    done (if s.starting && s.start.wait == .xt32 && s.flt.proc.isNone then endXtWait s else s)

/-- A reload whose successor key waits for the reservoir goes on (R68, R95). -/
def reloadKeys (keys : Bool) (s : State) : State :=
  let c := match s.sv.reload with | some x => x.cat | none => s.cat
  let s := if keys then programSuccessor c s else successorIgnored c s
  { s with start.wait := .none }

/-- OTP_PROGRAM_WAIT_MET (R95). -/
def execOtpProgramWaitMet (smp : Sample) (s : State) : Host.Outcome State Fault Refusal :=
  if s.start.wait != .otp || s.flt.proc.isSome then .next s
  else
    let s := sample smp s
    if !otpReady s then done s
    else match s.phase, s.start.chosen with
    | .cold 7, some (i, c) => done (afterStage 7 (takeImage i c true (addVresWait s)))
    | .operating, _ => done (reloadKeys true s)
    | _, _ => .next s

/-- OTP_PROGRAM_WAIT_TIMEOUT (R95): 10 s have passed with neither condition. -/
def execOtpProgramWaitTimeout (s : State) : Host.Outcome State Fault Refusal :=
  if s.start.wait != .otp || s.flt.proc.isSome then .next s
  else match s.phase, s.start.chosen with
  | .cold 7, some (i, c) =>
    let s := { addVresWait s with start.wait := .none, start.chosen := none }
    done (if keysEmpty s then selectImage (rejectImage i s) else afterStage 7 (takeImage i c false s))
  | .operating, _ => done (reloadKeys false s)
  | _, _ => .next s

/-- STAGE_SEAT_TIMEOUT (R91): the stage fails with event 0x00E0. -/
def execStageSeatTimeout (s : State) : Host.Outcome State Fault Refusal :=
  match s.cl.waiting.find? (fun x => x.unit == 0) with
  | some x => if s.start.wait == .seat && s.flt.proc.isNone then done (stageSeatDropped x s) else .next s
  | none => .next s

/-! ## HIBERNATE_START_STEP_END -/

/-- The Catalogue of an image copy that passes its hash (R101). -/
def imageCat (bs : List Byte) : Option Cat :=
  let n := u32 bs 0x0C
  let body := bs.take (n - 96)
  if sha256 body != BitVec.ofNat 256 (beNat (slice bs (n - 96) 32)) then none
  else match walk 1024 (body.drop 64) with
  | some rs => some (buildCat (u32 bs 8) (sha256 (((rs.filter (fun r => legalId r.id)).map (·.full)).flatten)) rs)
  | none => none

/-- Step H7: the stored tables, or a full calibration (R99). -/
def hibTables (rep : StageReport) (s : State) : State :=
  let moved := decide (s.cat.tdc.caldt * 10 < (dieTemp s - s.cal.tempCopy).natAbs)
  let whole := rep.tablesOk && (measuring s).all (fun n => (vget s.ch n {}).copy.any (fun t => tdcCrc t == (vget s.ch n {}).copyCrc))
  if whole && !moved then
    { s with ch := s.ch.map (fun c => { c with table := c.copy, crc := c.copyCrc })
             r.tdc.tdccaltemp := BitVec.ofInt 16 s.cal.tempCopy } |> reroute
  else
    let s := judgeStart 6 rep s
    match failing (fun c => decide (c ≤ 1)) rep s, failing (· == 2) rep s with
    | n :: _, _ => abandonHib 7 0x0081 [(n : Int)] s
    | [], n :: _ => abandonHib 7 0x0080 [(n : Int)] s
    | [], [] => reroute s

/-- Step H6: modules, with the Vitrine alongside. -/
def hibModules (rep : StageReport) (s : State) : State :=
  let s := readPorts rep (portsOff s)
  if (List.range 7).any (fun n => (s.cat.modRec n).isSome && !(vget s.r.mp n {}).mpstatMatch) then fallBack 6 0x0060 s
  else
    let s := startFunctions s
    judgeVitrine rep (abandonHib 6 0x0071 []) s

/-- What a step finds; a finding that R100 names leaves the Hibernate start. -/
def judgeStep (n : Nat) (rep : StageReport) (s : State) : State :=
  match n with
  | 2 => match romEvent rep.romBad with | some e => abandonHib 2 e [] s | none => s
  | 3 => if rep.otpBad then abandonHib 3 0x0030 [] s else if rep.otpSlotBad.isEmpty then s else abandonHib 3 0x0031 [] s
  | 4 =>
    if rep.arcBad then abandonHib 4 0x0041 [] s
    else if !rep.bankBad.isEmpty then abandonHib 4 0x0042 [] s
    else { recoverArchive rep s with seg := s.ar.rowMap, start.arcOk := true } |> logHibernateEdges |> drainEvents |> writeObject 0xB
  | 5 => if rep.imageOk then (match imageCat s.ar.image with | some c => govern c s | none => fallBack 5 0 s) else fallBack 5 0 s
  | 6 => hibModules rep s
  | 7 => hibTables rep s
  | 8 =>
    let s := checkPorts rep s
    match faultyPorts s with
    | [] => s
    | ps => fallBack 8 0x0090 (ps.foldl (fun (s : State) (p : Nat) => logEvent 0x0090 [(p : Int), (portFault p s : Int)] s) s)
  | 9 =>
    let s := checkProbes rep s
    match faultyProbes s with
    | [] => s
    | ps => fallBack 9 0x00A0 (ps.foldl (fun (s : State) (p : Nat) => logEvent 0x00A0 [(p : Int), (tempFault p s : Int)] s) s)
  | 10 => if rep.radioOk && s.rad.calStored then radioPasses s else abandonHib 10 0x00B0 [] s
  | 11 =>
    match restoreRegistrar s with
    | some s =>
      let s := { s with start.restored := true }
      if s.r.sys.restsrcSrc.toNat ≤ 2 then s else warn 14 0x00C0 [] s
    | none => abandonHib 11 0x00C1 [] s
  | 12 => enterRun s
  | _ => s

/-- The next Hibernate step begins: the seat of the last one goes back with its domains, and the next asks for its own (R18, log
99). -/
def nextHibStep (n : Nat) (s : State) : State :=
  beginHibStep n (releaseSeat 0 s |> domOff ((stageDoms (stepStage (n - 1))).filter (· != .cur)))

/-- HIBERNATE_START_STEP_END (R99, R100). -/
def execHibernateStartStepEnd (rep : StageReport) (s : State) : Host.Outcome State Fault Refusal :=
  match s.phase with
  | .hib n =>
    if s.flt.proc.isSome || s.start.wait != .none then .next s
    else
      let s := judgeStep n rep (countStage rep s)
      done (if s.phase == .hib n then nextHibStep (n + 1) s else s)
  | _ => .next s

end Sys2Proof.Machine
end

