-- ==== Sys2Proof/Machine/Dispatch.lean ====
section
/-! DEFINITION. What each command does: one arm per constructor of Instr. -/

namespace Sys2Proof.Machine

def exec (i : Instr) (s : State) : Host.Outcome State Fault Refusal :=
  match i with
  | .porRelease testen slotA slotB => Sys2Proof.Machine.execPorRelease testen slotA slotB s
  | .vbatBelowPor => Sys2Proof.Machine.execVbatBelowPor s
  | .brownout smp => Sys2Proof.Machine.execBrownout smp s
  | .brownoutRecovery => Sys2Proof.Machine.execBrownoutRecovery s
  | .rstNLow ns => Sys2Proof.Machine.execRstNLow ns s
  | .rstNRise => Sys2Proof.Machine.execRstNRise s
  | .vddioLoss => Sys2Proof.Machine.execVddioLoss s
  | .extestEntry => Sys2Proof.Machine.execExtestEntry s
  | .extestExit => Sys2Proof.Machine.execExtestExit s
  | .coldStartStageEnd rep => Sys2Proof.Machine.execColdStartStageEnd rep s
  | .reservoirWaitMet smp => Sys2Proof.Machine.execReservoirWaitMet smp s
  | .xt32Running => Sys2Proof.Machine.execXt32Running s
  | .xt32StartTimeout => Sys2Proof.Machine.execXt32StartTimeout s
  | .otpProgramWaitMet smp => Sys2Proof.Machine.execOtpProgramWaitMet smp s
  | .otpProgramWaitTimeout => Sys2Proof.Machine.execOtpProgramWaitTimeout s
  | .stageSeatTimeout => Sys2Proof.Machine.execStageSeatTimeout s
  | .hibernateStartStepEnd rep => Sys2Proof.Machine.execHibernateStartStepEnd rep s
  | .faultTelegramDue smp => Sys2Proof.Machine.execFaultTelegramDue smp s
  | .safeBeaconRetry => Sys2Proof.Machine.execSafeBeaconRetry s
  | .pwrcmdHibernate port => Sys2Proof.Machine.execPwrcmdHibernate port s
  | .pwrcmdOff port => Sys2Proof.Machine.execPwrcmdOff port s
  | .stateRequestEvaluate => Sys2Proof.Machine.execStateRequestEvaluate s
  | .stateEntryComplete => Sys2Proof.Machine.execStateEntryComplete s
  | .wakeRtcCompare => Sys2Proof.Machine.execWakeRtcCompare s
  | .hstCsFall => Sys2Proof.Machine.execHstCsFall s
  | .hstWakeEdge => Sys2Proof.Machine.execHstWakeEdge s
  | .hostWakePattern bits value => Sys2Proof.Machine.execHostWakePattern bits value s
  | .irCarrierWake => Sys2Proof.Machine.execIrCarrierWake s
  | .keyPress key => Sys2Proof.Machine.execKeyPress key s
  | .keyRelease key => Sys2Proof.Machine.execKeyRelease key s
  | .keysHeld5s => Sys2Proof.Machine.execKeysHeld5s s
  | .tamperSample low0 low1 => Sys2Proof.Machine.execTamperSample low0 low1 s
  | .pulseInputEdge input => Sys2Proof.Machine.execPulseInputEdge input s
  | .pulseOutputEmit output => Sys2Proof.Machine.execPulseOutputEmit output s
  | .seatRequest unit cls hold deadline smp => Sys2Proof.Machine.execSeatRequest unit cls hold deadline smp s
  | .chairliftEvaluate smp => Sys2Proof.Machine.execChairliftEvaluate smp s
  | .seatRelease unit smp => Sys2Proof.Machine.execSeatRelease unit smp s
  | .seatDeadlineDrop unit => Sys2Proof.Machine.execSeatDeadlineDrop unit s
  | .vresSample smp => Sys2Proof.Machine.execVresSample smp s
  | .vresAbortLevel => Sys2Proof.Machine.execVresAbortLevel s
  | .vresTxFloor => Sys2Proof.Machine.execVresTxFloor s
  | .reservoirRiseTimed us => Sys2Proof.Machine.execReservoirRiseTimed us s
  | .chargeSwitchTimeout => Sys2Proof.Machine.execChargeSwitchTimeout s
  | .vitrineCalDue cause smp => Sys2Proof.Machine.execVitrineCalDue cause smp s
  | .vitrdySet => Sys2Proof.Machine.execVitrdySet s
  | .vitrdyTimeout => Sys2Proof.Machine.execVitrdyTimeout s
  | .ovenOvertemp => Sys2Proof.Machine.execOvenOvertemp s
  | .vitrineDeferLimit => Sys2Proof.Machine.execVitrineDeferLimit s
  | .vitrineGateEnd gate x => Sys2Proof.Machine.execVitrineGateEnd gate x s
  | .vitrineCalCompute => Sys2Proof.Machine.execVitrineCalCompute s
  | .vitrineCalRetry smp => Sys2Proof.Machine.execVitrineCalRetry smp s
  | .calStale24h => Sys2Proof.Machine.execCalStale24h s
  | .xt32Stop => Sys2Proof.Machine.execXt32Stop s
  | .xt32RestoreCount smp => Sys2Proof.Machine.execXt32RestoreCount smp s
  | .lprcCheck ok => Sys2Proof.Machine.execLprcCheck ok s
  | .clockRecoveryAttempt xt32 lprc => Sys2Proof.Machine.execClockRecoveryAttempt xt32 lprc s
  | .lprcCalGateEnd ppm => Sys2Proof.Machine.execLprcCalGateEnd ppm s
  | .pllLockTimeout => Sys2Proof.Machine.execPllLockTimeout s
  | .ledgerRecordDue smp => Sys2Proof.Machine.execLedgerRecordDue smp s
  | .tlzoneWrite port value => Sys2Proof.Machine.execTlzoneWrite port value s
  | .tlzoneApply => Sys2Proof.Machine.execTlzoneApply s
  | .tdcStart ch sync fine => Sys2Proof.Machine.execTdcStart ch sync fine s
  | .tdcStopCrossing ch count fine level => Sys2Proof.Machine.execTdcStopCrossing ch count fine level s
  | .tdcRunEnd ch => Sys2Proof.Machine.execTdcRunEnd ch s
  | .tdcCalDue cause smp => Sys2Proof.Machine.execTdcCalDue cause smp s
  | .tdcCalBlockEnd hits => Sys2Proof.Machine.execTdcCalBlockEnd hits s
  | .tdcCalBlockAbandon => Sys2Proof.Machine.execTdcCalBlockAbandon s
  | .tdcCalEvaluate => Sys2Proof.Machine.execTdcCalEvaluate s
  | .tdcCalRetry smp => Sys2Proof.Machine.execTdcCalRetry smp s
  | .tdcNoPass2calint ch => Sys2Proof.Machine.execTdcNoPass2calint ch s
  | .pisteStepDue step smp => Sys2Proof.Machine.execPisteStepDue step smp s
  | .boostReady mv => Sys2Proof.Machine.execBoostReady mv s
  | .boostTimeout mv => Sys2Proof.Machine.execBoostTimeout mv s
  | .shotFire mv ilim => Sys2Proof.Machine.execShotFire mv ilim s
  | .shotCaptureProcess cap => Sys2Proof.Machine.execShotCaptureProcess cap s
  | .retryShot path drive => Sys2Proof.Machine.execRetryShot path drive s
  | .intervalResultPost checks => Sys2Proof.Machine.execIntervalResultPost checks s
  | .zeroCheckResult => Sys2Proof.Machine.execZeroCheckResult s
  | .fastSequenceTimeout => Sys2Proof.Machine.execFastSequenceTimeout s
  | .templateDailyCopy => Sys2Proof.Machine.execTemplateDailyCopy s
  | .temperatureResultPost limits => Sys2Proof.Machine.execTemperatureResultPost limits s
  | .pressureRead answer => Sys2Proof.Machine.execPressureRead answer s
  | .registrarIntegrate => Sys2Proof.Machine.execRegistrarIntegrate s
  | .minuteSealTimeout => Sys2Proof.Machine.execMinuteSealTimeout s
  | .lockstepDisagreement => Sys2Proof.Machine.execLockstepDisagreement s
  | .availabilityBinClose => Sys2Proof.Machine.execAvailabilityBinClose s
  | .sramUncorrectable segment addr port => Sys2Proof.Machine.execSramUncorrectable segment addr port s
  | .xbCollision agent a b => Sys2Proof.Machine.execXbCollision agent a b s
  | .xbpageSelWrite port value => Sys2Proof.Machine.execXbpageSelWrite port value s
  | .bgcmdStart port => Sys2Proof.Machine.execBgcmdStart port s
  | .bgtestDue => Sys2Proof.Machine.execBgtestDue s
  | .bgSlice rows => Sys2Proof.Machine.execBgSlice rows s
  | .bgWindowRelease failed => Sys2Proof.Machine.execBgWindowRelease failed s
  | .bgUrgentAccess => Sys2Proof.Machine.execBgUrgentAccess s
  | .bgPassOverdue => Sys2Proof.Machine.execBgPassOverdue s
  | .archiveOpComplete ok => Sys2Proof.Machine.execArchiveOpComplete ok s
  | .eraseSuspend => Sys2Proof.Machine.execEraseSuspend s
  | .wardenAreaErase smp => Sys2Proof.Machine.execWardenAreaErase smp s
  | .synthLockTimeout => Sys2Proof.Machine.execSynthLockTimeout s
  | .transmissionStart => Sys2Proof.Machine.execTransmissionStart s
  | .transmissionEnd smp => Sys2Proof.Machine.execTransmissionEnd smp s
  | .replyWindowOpen => Sys2Proof.Machine.execReplyWindowOpen s
  | .replyWindowClose => Sys2Proof.Machine.execReplyWindowClose s
  | .en13757AckReceived frame => Sys2Proof.Machine.execEn13757AckReceived frame s
  | .sequencerCommand smp => Sys2Proof.Machine.execSequencerCommand smp s
  | .sequencerTakeover => Sys2Proof.Machine.execSequencerTakeover s
  | .superframeBoundary smp => Sys2Proof.Machine.execSuperframeBoundary smp s
  | .beaconRequest smp => Sys2Proof.Machine.execBeaconRequest smp s
  | .beacon f => Sys2Proof.Machine.execBeacon f s
  | .beaconWindowClose => Sys2Proof.Machine.execBeaconWindowClose s
  | .uploadDue smp => Sys2Proof.Machine.execUploadDue smp s
  | .poll f => Sys2Proof.Machine.execPoll f s
  | .ack f => Sys2Proof.Machine.execAck f s
  | .ackWindowClose => Sys2Proof.Machine.execAckWindowClose s
  | .join f => Sys2Proof.Machine.execJoin f s
  | .joinSend smp => Sys2Proof.Machine.execJoinSend smp s
  | .handover f => Sys2Proof.Machine.execHandover f s
  | .searchEnd => Sys2Proof.Machine.execSearchEnd s
  | .searchRetryDue => Sys2Proof.Machine.execSearchRetryDue s
  | .fallbackTelegramDue smp => Sys2Proof.Machine.execFallbackTelegramDue smp s
  | .deputyPromotion => Sys2Proof.Machine.execDeputyPromotion s
  | .memberRemoval index => Sys2Proof.Machine.execMemberRemoval index s
  | .handoverChoice => Sys2Proof.Machine.execHandoverChoice s
  | .handoverTransferStart => Sys2Proof.Machine.execHandoverTransferStart s
  | .handoverTransferEnd => Sys2Proof.Machine.execHandoverTransferEnd s
  | .handoverH4Check => Sys2Proof.Machine.execHandoverH4Check s
  | .marksCopy => Sys2Proof.Machine.execMarksCopy s
  | .listenWindowOpen => Sys2Proof.Machine.execListenWindowOpen s
  | .listenWindowClose => Sys2Proof.Machine.execListenWindowClose s
  | .wakeWord word => Sys2Proof.Machine.execWakeWord word s
  | .sessionHello smp => Sys2Proof.Machine.execSessionHello smp s
  | .sessionReadmap f => Sys2Proof.Machine.execSessionReadmap f s
  | .sessionReadprof f => Sys2Proof.Machine.execSessionReadprof f s
  | .sessionReadevt f => Sys2Proof.Machine.execSessionReadevt f s
  | .sessionReadstore f => Sys2Proof.Machine.execSessionReadstore f s
  | .sessionAckstore f => Sys2Proof.Machine.execSessionAckstore f s
  | .sessionTime f => Sys2Proof.Machine.execSessionTime f s
  | .sessionClose f => Sys2Proof.Machine.execSessionClose f s
  | .sessionTimeout => Sys2Proof.Machine.execSessionTimeout s
  | .readerFrameHeard src f => Sys2Proof.Machine.execReaderFrameHeard src f s
  | .legacyTelegramDue smp => Sys2Proof.Machine.execLegacyTelegramDue smp s
  | .glassFrame vlcdMv failing => Sys2Proof.Machine.execGlassFrame vlcdMv failing s
  | .displayIdleTimeout => Sys2Proof.Machine.execDisplayIdleTimeout s
  | .emissiveFrame smp failing => Sys2Proof.Machine.execEmissiveFrame smp failing s
  | .emissiveActivityEnd => Sys2Proof.Machine.execEmissiveActivityEnd s
  | .bistableUpdateRequest region content smp => Sys2Proof.Machine.execBistableUpdateRequest region content smp s
  | .bistablePhaseTick vp vn checks => Sys2Proof.Machine.execBistablePhaseTick vp vn checks s
  | .bistableParkDischarge => Sys2Proof.Machine.execBistableParkDischarge s
  | .read addr count => Sys2Proof.Machine.execRead addr count s
  | .write addr words => Sys2Proof.Machine.execWrite addr words s
  | .request frame => Sys2Proof.Machine.execRequest frame s
  | .response count => Sys2Proof.Machine.execResponse count s
  | .wake => Sys2Proof.Machine.execWake s
  | .registerWrite port addr value => Sys2Proof.Machine.execRegisterWrite port addr value s
  | .hello port tag data => Sys2Proof.Machine.execHello port tag data s
  | .baud port tag data => Sys2Proof.Machine.execBaud port tag data s
  | .baudSwitch => Sys2Proof.Machine.execBaudSwitch s
  | .auth port tag data => Sys2Proof.Machine.execAuth port tag data s
  | .authLockoutEnd port => Sys2Proof.Machine.execAuthLockoutEnd port s
  | .close port tag data => Sys2Proof.Machine.execClose port tag data s
  | .ohmueriSessionTimeout port => Sys2Proof.Machine.execOhmueriSessionTimeout port s
  | .statq port tag data => Sys2Proof.Machine.execStatq port tag data s
  | .readmap port tag data => Sys2Proof.Machine.execReadmap port tag data s
  | .writemap port tag data => Sys2Proof.Machine.execWritemap port tag data s
  | .readprof port tag data => Sys2Proof.Machine.execReadprof port tag data s
  | .readevt port tag data => Sys2Proof.Machine.execReadevt port tag data s
  | .readstore port tag data => Sys2Proof.Machine.execReadstore port tag data s
  | .ackstore port tag data => Sys2Proof.Machine.execAckstore port tag data s
  | .readsnap port tag data => Sys2Proof.Machine.execReadsnap port tag data s
  | .timeset port tag data => Sys2Proof.Machine.execTimeset port tag data s
  | .learn port tag data => Sys2Proof.Machine.execLearn port tag data s
  | .bgtest port tag data => Sys2Proof.Machine.execBgtest port tag data s
  | .power port tag data => Sys2Proof.Machine.execPower port tag data s
  | .slotopen port tag data => Sys2Proof.Machine.execSlotopen port tag data s
  | .slotdata port tag data => Sys2Proof.Machine.execSlotdata port tag data s
  | .slotclose port tag data => Sys2Proof.Machine.execSlotclose port tag data s
  | .reload port tag data => Sys2Proof.Machine.execReload port tag data s
  | .patchopen port tag data => Sys2Proof.Machine.execPatchopen port tag data s
  | .patchdata port tag data => Sys2Proof.Machine.execPatchdata port tag data s
  | .patchclose port tag data => Sys2Proof.Machine.execPatchclose port tag data s
  | .pendingCommandComplete rep => Sys2Proof.Machine.execPendingCommandComplete rep s
  | .reloadSwitch => Sys2Proof.Machine.execReloadSwitch s
  | .reloadCommitDone => Sys2Proof.Machine.execReloadCommitDone s
  | .irEnTimeout => Sys2Proof.Machine.execIrEnTimeout s
  | .moduleCheck24h reads radioOk smp => Sys2Proof.Machine.execModuleCheck24h reads radioOk smp s
  | .i2cStretchTimeout port => Sys2Proof.Machine.execI2cStretchTimeout port s
  | .curatorWatchdog => Sys2Proof.Machine.execCuratorWatchdog s
  | .signalWatchdog => Sys2Proof.Machine.execSignalWatchdog s
  | .linkWatchdog smp => Sys2Proof.Machine.execLinkWatchdog smp s
  | .registrarWatchdog => Sys2Proof.Machine.execRegistrarWatchdog s
  | .wardenWatchdog => Sys2Proof.Machine.execWardenWatchdog s
  | .shadowCommitComplete smp => Sys2Proof.Machine.execShadowCommitComplete smp s
  | .alarmTelegramSeatTimeout => Sys2Proof.Machine.execAlarmTelegramSeatTimeout s
  | .lineHeldDetect line => Sys2Proof.Machine.execLineHeldDetect line s
  | .lineRelease line => Sys2Proof.Machine.execLineRelease line s
  | .reverseDayCheck => Sys2Proof.Machine.execReverseDayCheck s
  | .standingEventExpiry => Sys2Proof.Machine.execStandingEventExpiry s
  | .heldRequestReissue => Sys2Proof.Machine.execHeldRequestReissue s
  | .vddioRestore => Sys2Proof.Machine.execVddioRestore s
  | .vitrdyLost => Sys2Proof.Machine.execVitrdyLost s
  | .lprcCal1hExpiry => Sys2Proof.Machine.execLprcCal1hExpiry s
  | .timeSlewEnd => Sys2Proof.Machine.execTimeSlewEnd s
  | .beaconWindowOpen => Sys2Proof.Machine.execBeaconWindowOpen s
  | .ackWindowOpen => Sys2Proof.Machine.execAckWindowOpen s
  | .pollSlotEnd => Sys2Proof.Machine.execPollSlotEnd s
  | .readerSessionResponse f => Sys2Proof.Machine.execReaderSessionResponse f s
  | .segmentTestEnd => Sys2Proof.Machine.execSegmentTestEnd s
  | .alarmPulseEnd => Sys2Proof.Machine.execAlarmPulseEnd s
  | .hostUnlistedOpcode opcode => Sys2Proof.Machine.execHostUnlistedOpcode opcode s
  | .ohmueriFrameDiscard frame gap => Sys2Proof.Machine.execOhmueriFrameDiscard frame gap s

end Sys2Proof.Machine
end

