-- ==== Sys2Proof/Safety.lean ====
section
/-! DEFINITION. What counts as a safe run, and the terms in which frames are stated. -/

namespace Sys2Proof.Machine

/-- Place of a key-slot state in its life (R65): EMPTY, then ACTIVE, then REVOKED. -/
def KeySlot.rank : KeySlot → Nat
  | .empty => 0 | .active => 1 | .revoked => 2

/-- No key slot of `t` is earlier in its life than in `s` (R65). -/
def KeySlotsForward (s t : State) : Prop := ∀ i : Fin 4, s.nv.otp[i].1.rank ≤ t.nv.otp[i].1.rank

/-- The queue of logged events holds at most its 64 entries (R319). -/
def EventQueueFits (s : State) : Prop := s.evq.length ≤ 64

/-- A state from which the block may go on safely: XB is in its canonical form, and the event queue fits. -/
def Safe (s : State) : Prop := Memory.wf s.xb = true ∧ EventQueueFits s

/-- `n` steps lead from `s` to `t`, with no fault and no refusal on the way. -/
def Runs : Nat → State → State → Prop
  | 0, s, t => t = s
  | n + 1, s, t => ∃ u, step s = .next u ∧ Runs n u t

/-- The state on which the work of a timer runs: the device has been woken with code 1, and the Warden may choose the next
power state once the work is complete (R112, R113). -/
def State.atTimer (s : State) : State := { wake 1 s with pw.choose := true }

/-- `s` with the parts taken from `t` that logging an event may move (R319, R443 to R446). -/
def State.withLog (s t : State) : State :=
  { s with
    evq := t.evq, evDrop := t.evDrop, flt.standing := t.flt.standing, flt.alarmPulse := t.flt.alarmPulse,
    ln.alarms := t.ln.alarms, r.io.hirqAlarm := t.r.io.hirqAlarm, r.mem.evqdrop := t.r.mem.evqdrop,
    r.flt.alarmcnt := t.r.flt.alarmcnt, r.flt.fltstatAlarm := t.r.flt.fltstatAlarm,
    r.flt.fltstatTamper := t.r.flt.fltstatTamper, r.flt.lastalarm := t.r.flt.lastalarm,
    r.flt.lasttamper := t.r.flt.lasttamper, r.flt.tampcnt := t.r.flt.tampcnt, r.flt.tamptime := t.r.flt.tamptime }

/-- `s` with the parts taken from `t` that standing work may move: what an event leaves behind, the queues and seats of
the Chairlift, the jobs, frames, windows, renders and calibrations that ask for their seats and begin with them, what an entry to
Hibernate or Off begins with (the end of service mode, an accession record, the commit, the ledger record and the park), and the choice
of the next power state. A frame `t = s.withWork t` says that everything else is as in `s`. -/
def State.withWork (s t : State) : State :=
  { s with
    free := t.free, evq := t.evq, evDrop := t.evDrop, cl := t.cl, ch := t.ch, path := t.path, mp := t.mp,
    pw.uncleared := t.pw.uncleared, ar.sealedSlot := t.ar.sealedSlot, ar.ledger := t.ar.ledger, ar.warden := t.ar.warden,
    dp.ledger := t.dp.ledger, dp.dark := t.dp.dark, dp.park := t.dp.park, dp.seatLeft := t.dp.seatLeft,
    r.dsp.epdold := t.r.dsp.epdold, r.dsp.epdpark := t.r.dsp.epdpark, r.flt.gopskip := t.r.flt.gopskip,
    r.mem.arcsuspcnt := t.r.mem.arcsuspcnt, start.wait := t.start.wait, pw.target := t.pw.target, pw.pend := t.pw.pend, pw.latched := t.pw.latched,
    pw.dom := t.pw.dom, pw.seen := t.pw.seen, pw.fast := t.pw.fast, pw.choose := t.pw.choose, ck.heldReq := t.ck.heldReq, ck.run := t.ck.run, ar.run := t.ar.run,
    ar.paused := t.ar.paused, ar.jobs := t.ar.jobs, cal.wait := t.cal.wait, cal.run := t.cal.run, cal.blocks := t.cal.blocks,
    cal.abandoned := t.cal.abandoned, cal.retryAt := t.cal.retryAt, cal.lastOk := t.cal.lastOk,
    cal.seqLogged := t.cal.seqLogged, ps.cals := t.ps.cals, ps.run := t.ps.run, ps.burst := t.ps.burst, ps.waiting := t.ps.waiting, tp.started := t.tp.started,
    tp.startT := t.tp.startT, tp.got := t.tp.got, tp.open_ := t.tp.open_, tp.waited := t.tp.waited, rad.mode := t.rad.mode, rad.owner := t.rad.owner,
    rad.queue := t.rad.queue, rad.seqCmd := t.rad.seqCmd, rad.synTemp := t.rad.synTemp,
    rad.synBand := t.rad.synBand, rad.replyDue := t.rad.replyDue, rad.ctl0 := t.rad.ctl0,
    rad.synFails := t.rad.synFails, rad.ctl1 := t.rad.ctl1, rad.linkRestart := t.rad.linkRestart,
    dp.emBlink := t.dp.emBlink, dp.emDriving := t.dp.emDriving, dp.evtShown := t.dp.evtShown,
    dp.glassOn := t.dp.glassOn, dp.image := t.dp.image, dp.imageB := t.dp.imageB, dp.lastRender := t.dp.lastRender,
    dp.railsOk := t.dp.railsOk, dp.regions := t.dp.regions, dp.renderDue := t.dp.renderDue,
    dp.renderNow := t.dp.renderNow, dp.stopReq := t.dp.stopReq, flt.standing := t.flt.standing,
    flt.alarm := t.flt.alarm, flt.alarmHeld := t.flt.alarmHeld, flt.reported := t.flt.reported,
    flt.alarmPulse := t.flt.alarmPulse, ln.access := t.ln.access, ln.ackOpen := t.ln.ackOpen,
    ln.alarms := t.ln.alarms, ln.backoff := t.ln.backoff, ln.bcnLogged := t.ln.bcnLogged,
    ln.boundary := t.ln.boundary, ln.cfg := t.ln.cfg, ln.csNext := t.ln.csNext, ln.ctrs := t.ln.ctrs,
    ln.deputy := t.ln.deputy, ln.exch := t.ln.exch, ln.gotBeacon := t.ln.gotBeacon, ln.helloDue := t.ln.helloDue,
    ln.ho := t.ln.ho, ln.index := t.ln.index, ln.lastResp := t.ln.lastResp, ln.listenDue := t.ln.listenDue,
    ln.listening := t.ln.listening, ln.loaded := t.ln.loaded, ln.lowLogged := t.ln.lowLogged,
    ln.member := t.ln.member, ln.members := t.ln.members, ln.nextFallback := t.ln.nextFallback,
    ln.nextSearch := t.ln.nextSearch, ln.obj := t.ln.obj, ln.owed := t.ln.owed, ln.promote := t.ln.promote,
    ln.qlink := t.ln.qlink, ln.role := t.ln.role, ln.rxSince := t.ln.rxSince, ln.search := t.ln.search,
    ln.slot := t.ln.slot, ln.asked := t.ln.asked, ln.rxWait := t.ln.rxWait, ln.queued := t.ln.queued,
    ln.session := t.ln.session, ln.store := t.ln.store, ln.sync := t.ln.sync, rg.legal.aseal := t.rg.legal.aseal,
    sv.opt := t.sv.opt, sv.hst := t.sv.hst, sv.slotW := t.sv.slotW, sv.patchW := t.sv.patchW, r.ch := t.r.ch,
    r.path := t.r.path, r.clk.clkstatVitrdy := t.r.clk.clkstatVitrdy,
    r.clk.clkstatPllvit := t.r.clk.clkstatPllvit, r.drv.vdrvtgt := t.r.drv.vdrvtgt,
    r.drv.xdstatBooston := t.r.drv.xdstatBooston, r.drv.xdstatVdrvok := t.r.drv.xdstatVdrvok,
    r.dsp.emwait := t.r.dsp.emwait, r.dsp.epddrop := t.r.dsp.epddrop, r.dsp.epdset := t.r.dsp.epdset,
    r.flt.alarmcnt := t.r.flt.alarmcnt, r.flt.fltstatAlarm := t.r.flt.fltstatAlarm,
    r.flt.fltstatTamper := t.r.flt.fltstatTamper, r.flt.lastalarm := t.r.flt.lastalarm,
    r.flt.lasttamper := t.r.flt.lasttamper, r.flt.tampcnt := t.r.flt.tampcnt, r.flt.tamptime := t.r.flt.tamptime,
    r.io.hirqAlarm := t.r.io.hirqAlarm, r.io.hirqStore := t.r.io.hirqStore, r.lnk.bcnskip := t.r.lnk.bcnskip,
    r.lnk.cslost := t.r.lnk.cslost, r.lnk.upmiss := t.r.lnk.upmiss, r.lnk.missrun := t.r.lnk.missrun, r.lnk.pollfail := t.r.lnk.pollfail, r.lnk.searchn := t.r.lnk.searchn,
    r.lnk.sfn := t.r.lnk.sfn, r.mem.evqdrop := t.r.mem.evqdrop, r.pwr.clavail := t.r.pwr.clavail,
    r.pwr.clfree := t.r.pwr.clfree, r.pwr.cldropUnit := t.r.pwr.cldropUnit,
    r.pwr.cldropReason := t.r.pwr.cldropReason, r.pwr.clmiss := t.r.pwr.clmiss, r.pwr.pwrefcnt := t.r.pwr.pwrefcnt,
    r.pwr.pwrefuseRefuser := t.r.pwr.pwrefuseRefuser, r.pwr.pwrefuseTarget := t.r.pwr.pwrefuseTarget,
    r.pwr.pwrefuseReason := t.r.pwr.pwrefuseReason, r.pwr.pendrepl := t.r.pwr.pendrepl,
    r.rf.rfchanNum := t.r.rf.rfchanNum, r.rf.rfchanRate := t.r.rf.rfchanRate, r.rf.rffreq := t.r.rf.rffreq,
    r.rf.rfstatLock := t.r.rf.rfstatLock, r.tdc.tdccalAbandon := t.r.tdc.tdccalAbandon,
    r.tdc.tdccalCause := t.r.tdc.tdccalCause, r.tdc.tdccalRetry := t.r.tdc.tdccalRetry,
    r.tdc.tdccaltemp := t.r.tdc.tdccaltemp, r.tdc.tdccaltime := t.r.tdc.tdccaltime, r.tdc.tdccalok := t.r.tdc.tdccalok,
    r.tdc.tdccalfail := t.r.tdc.tdccalfail, r.tmp.twaitv := t.r.tmp.twaitv }

/-- `s` with the parts taken from `t` that standing work, a wake from Doze or Standby, or a sample of the AON monitor may
move: those of `withWork`, the power state and what Run starts with, and the monitor's words with the uncertainty segment,
the low-reservoir marks and the display fall-back that follow them. -/
def State.withDrift (s t : State) : State :=
  { s.withWork t with
    pw.st := t.pw.st, pw.wokeAt := t.pw.wokeAt, pw.lowSeen := t.pw.lowSeen, pw.aboveAbort := t.pw.aboveAbort,
    ck.trimNext := t.ck.trimNext, ck.pllFails := t.ck.pllFails, ck.lprcDue := t.ck.lprcDue,
    dp.fallback := t.dp.fallback, tl.unc := t.tl.unc, tl.contu := t.tl.contu, tl.segStart := t.tl.segStart,
    ln.lowSeenAt := t.ln.lowSeenAt, r.clk.tcoarse := t.r.clk.tcoarse, r.clk.hfrctrim := t.r.clk.hfrctrim,
    r.clk.dietemp := t.r.clk.dietemp, r.pwr.wakesrc := t.r.pwr.wakesrc, r.pwr.vbatmv := t.r.pwr.vbatmv,
    r.pwr.vresmv := t.r.pwr.vresmv, r.pwr.vresmin := t.r.pwr.vresmin, r.pwr.vreslowcnt := t.r.pwr.vreslowcnt }

end Sys2Proof.Machine
end

