-- ==== Sys2Proof/Certificates/Slice0/Obligations.lean ====
section
/-! DEFINITION. The statements for the provers. Each docstring says what is stated and which rules of spec/ it rests on. -/

open Sys2Proof Sys2Proof.Machine

/-- With a command at the front of the queue, a step is the meaning of that command on the state that holds the rest of
the queue. The queue is the model's own (log 8). (R15, spec/95_what_each_step_holds.md) -/
def Obligations.StepRunsTheFrontCommand : Prop :=
  ∀ (c : Instr) (rest : List Instr) (s : State), s.pending = c :: rest → step s = exec c { s with pending := rest }

/-- On an empty queue a step answers a next state. While the AON domain runs, the phase accumulator takes what one
microsecond of the source adds, which is 2^32 divided by 1 plus its predicted error, and keeps what is left below
2^32; the carries k are the microseconds that the corrected RTC passes: now and TLMONO go on by k, civil time by 1000
ns for each of them plus the sign of the slew for as many as the slew still has, and the slew moves that far toward
zero; nothing else changes. Without the AON domain nothing changes. That a tick is what a step on an empty queue does
is the model's choice (log 6). (R146, R154, R157) -/
def Obligations.IdleStepPassesOneMicrosecondOfTheSource : Prop :=
  ∀ s : State, s.pending = [] → ∃ t, step s = .next t ∧
    (s.aon = true → ∀ p k : Nat, p = s.tl.phase + rtcStep s → k = p / 2 ^ 32 → t = { s with
      now := s.now + k
      tl.phase := p % 2 ^ 32
      tl.monoUs := s.tl.monoUs + k
      tl.civNs := ((s.tl.civNs : Int) + 1000 * k + slewSign s.tl.slew * (min k s.tl.slew.natAbs : Nat)).toNat
      tl.slew := s.tl.slew - slewSign s.tl.slew * (min k s.tl.slew.natAbs : Nat) }) ∧
    (s.aon = false → t = s)

/-- Whatever command runs in whatever state: if it answers a next state, the queue of waiting commands and the model's
running time (logs 6 and 8) are as before. (spec/95_what_each_step_holds.md, R15) -/
def Obligations.CommandsKeepTheQueueAndTheTime : Prop :=
  ∀ (c : Instr) (s t : State), exec c s = .next t → t.pending = s.pending ∧ t.now = s.now

/-- Every command in every state answers a next state, with one exception: a low pulse on RST_N of at least 1 µs and less
than 10 µs, for which R46 says that it has no defined effect, stops with the fault rstPulseUndefined, in every state.
No command is refused. (R46) -/
def Obligations.OnlyTheUndefinedResetPulseStops : Prop :=
  (∀ (c : Instr) (s : State), (∃ t, exec c s = .next t) ∨ ∃ ns, c = .rstNLow ns ∧ 1000 ≤ ns ∧ ns < 10000) ∧
  ∀ (ns : Nat) (s : State), 1000 ≤ ns → ns < 10000 → exec (.rstNLow ns) s = .fault .rstPulseUndefined

/-- The state after reset meets the invariant of the safe runs: the exchange bank is in its canonical form (an entry for
every byte that is not zero, addresses rising) and the event queue holds at most 64 entries. (R301, R319,
spec/12_memory_and_archive.md) -/
def Obligations.ResetIsSafe : Prop :=
  Safe State.reset

/-- From every state whose exchange bank is in canonical form (addresses strictly rising, no listed byte equal to what an
unlisted one reads as), whatever command stands at the front, every next state that a step answers has it in that form
too. (R299, R301, spec/12_memory_and_archive.md) -/
def Obligations.StepKeepsTheExchangeBankCanonical : Prop :=
  ∀ s t : State, Memory.wf s.xb = true → step s = .next t → Memory.wf t.xb = true

/-- In every step that answers a next state, each of the four OTP key slots is at the same place of its life or at a later
one, in the order EMPTY, ACTIVE, REVOKED. (A slot whose programming is not legible reads as REVOKED in the model, log
3, so a move from EMPTY may pass over ACTIVE.) (R65, spec/03_catalogue.md) -/
def Obligations.StepNeverTakesAKeySlotBack : Prop :=
  ∀ s t : State, step s = .next t → KeySlotsForward s t

/-- From every state whose AON event queue holds at most 64 entries, every next state that a step answers has at most 64
entries in it, however many events the command logs. (R319) -/
def Obligations.StepKeepsTheEventQueueWithin64 : Prop :=
  ∀ s t : State, EventQueueFits s → step s = .next t → EventQueueFits t

/-- From every safe state, any number of steps (with any commands in the queue) that meets no stop leads to a safe state.
(R301, R319) -/
def Obligations.RunsFromASafeStateStaySafe : Prop :=
  ∀ (n : Nat) (s t : State), Safe s → Runs n s t → Safe t

/-- The standing work at the end of a command (heeding drops, reporting alarms, asking for seats, choosing the next power
state) leaves every part of the state as it is but for those that State.withWork takes over: every measured value,
every legal register but the audit seal's number, the ledger of time, OTP, the Catalogue, XB and every register that
withWork does not name are as before. (R112, R128, R131, spec/05_power_and_chairlift.md) -/
def Obligations.StandingWorkMovesOnlyItsParts : Prop :=
  ∀ s : State, settle s = s.withWork (settle s)

/-- The state after reset is that of a POR release: a cold start with STARTCAUSE 1 stands at stage 1, NCOLD is 1, only the
AON domain is on, no Catalogue governs, XT32 and LPRC are marked good and the RTC runs from XT32, no seat is held or
waits, no event is queued, XB holds zeros, every OTP key slot is EMPTY and no command waits. Reset values that the
spec does not give are the model's (log 7) and are not stated here. (R87, R119, R156, spec/95_what_each_step_holds.md) -/
def Obligations.ResetBeginsAColdStartWithCauseOne : Prop :=
  State.reset.phase = .cold 1 ∧ State.reset.r.sys.startcause = 1 ∧ State.reset.r.sys.ncold = 1 ∧
  State.reset.pw.dom = 1 ∧ State.reset.governs = false ∧ State.reset.r.clk.clkstatXt32ok = true ∧
  State.reset.r.clk.clkstatLprcok = true ∧ State.reset.r.clk.clkstatRtcsrc = 0 ∧
  State.reset.cl.held = [] ∧ State.reset.cl.waiting = [] ∧ State.reset.evq = [] ∧
  (∀ a, Mem.get State.reset.xb a = 0) ∧ (∀ i : Fin 4, State.reset.nv.otp[i].1 = .empty) ∧ State.reset.pending = []

/-- In Off, POR release takes what was programmed into the two slots meanwhile. With TESTEN high the device is held with
no engine at work and no output driven, and every register (RFSTAT.LOCK reads 0), the time, OTP, the Archive's content
and both slots stay; with TESTEN low the cold start of a POR begins: stage 1, STARTCAUSE 1, NCOLD one more, the civil
time lost, the time and the counters of the service map that Archive SYSTEM keeps given back. When VBAT falls below
the POR threshold the device is Off from any state: no domain is on, no seat, no queued event and no session stays,
while OTP, both slots and the Archive's flash stay: keptFlash drops the operation under way and what the writers had
queued in RAM, and nothing else that is committed. Completes here: POR_RELEASE, VBAT_BELOW_POR. (R45, R56, R87, R119) -/
def Obligations.PorReleaseSamplesTesten : Prop :=
  ∀ (s : State) (a b : Option (List Byte)),
    (s.phase = .off →
      (∃ t, exec (.porRelease true a b) s = .next t ∧ t.phase = .testHold ∧
        t.nv = { s.nv with slotA := a.getD s.nv.slotA, slotB := b.getD s.nv.slotB } ∧ t.r = { s.r with rf.rfstatLock := false } ∧ t.tl = s.tl ∧ t.rg = s.rg ∧ t.xb = s.xb ∧
        t.ar = keptFlash s ∧ t.rad.mode = .off ∧ t.rad.ctl0 = false ∧ t.rad.ctl1 = false ∧
        t.io.irUntil = none ∧ t.dp.glassOn = false ∧ t.ck.run = none ∧ t.cal.run = false) ∧
      ∃ t, exec (.porRelease false a b) s = .next t ∧
        t = porStart { s with nv.slotA := a.getD s.nv.slotA, nv.slotB := b.getD s.nv.slotB } ∧
        t.phase = .cold 1 ∧ t.r.sys.startcause = 1 ∧ t.r.sys.ncold = inc16 s.ar.counters.ncold ∧
        t.r.clk.tlstatLost = true ∧ t.nv.otp = s.nv.otp ∧ t.ar.ledger = s.ar.ledger ∧
        t.tl.civNs = (s.ar.ledger.map (fun x => ceilDiv (x.time / 2 * 1000000000) 32768)).getD 0 ∧
        t.tl.monoUs = (s.ar.ledger.map (fun x => x.mono * 1000000)).getD 0 ∧ t.tl.zone = s.ar.counters.zone ∧
        t.r.sys.mfloor = s.ar.floorCopy ∧ t.r.pwr.borcnt = s.ar.counters.borcnt ∧ t.r.mem.erasemax = s.r.mem.erasemax) ∧
    ∃ t, exec .vbatBelowPor s = .next t ∧ t.phase = .off ∧ t.pw = { st := .off, dom := 0, seen := 0 } ∧ t.cl = {} ∧ t.evq = [] ∧
      t.sv = {} ∧ t.flt.proc = none ∧ t.rad.mode = .off ∧ t.rad.queue = [] ∧ t.nv = s.nv ∧ t.r = { s.r with rf.rfstatLock := false } ∧ t.tl = s.tl ∧
      t.ar = keptFlash s

/-- A pulse shorter than 1 µs changes nothing; one of 1 µs to under 10 µs stops by name; from 10 µs on, while the AON
domain runs and the device is neither held by the pin nor waiting for a brownout to end, the watchdog reset procedure
of cause 7 is triggered with the pin noted low. When the procedure ends with the pin still low the device is held,
with every domain but AON off, and when RST_N rises a held device starts cold with cause 2, or stands in EXTEST where
that instruction is current, which only a watchdog reset leaves. Completes here: RST_N_LOW, RST_N_RISE. (R46, R49,
R454, R455) -/
def Obligations.ResetPinIsIgnoredUndefinedOrResets : Prop :=
  ∀ (s : State) (ns : Nat),
    (ns < 1000 → exec (.rstNLow ns) s = .next s) ∧
    (1000 ≤ ns → ns < 10000 → exec (.rstNLow ns) s = .fault .rstPulseUndefined) ∧
    (10000 ≤ ns → s.aon = true → s.phase ≠ .brownout → s.phase ≠ .resetHold →
      exec (.rstNLow ns) s = .next (watchdogReset 7 { s with io.rstLow := true })) ∧
    (s.io.rstLow = true → (procFinish 7 s).phase = .resetHold ∧ (procFinish 7 s).pw.dom = 1) ∧
    (s.phase = .resetHold → s.io.tap ≠ .extest → ∃ t, exec .rstNRise s = .next t ∧ t = coldStart 2 { s with io.rstLow := false } ∧
      t.phase = .cold 1 ∧ t.r.sys.startcause = 2 ∧ t.tl.civNs = s.tl.civNs ∧ t.tl.monoUs = s.tl.monoUs ∧ t.io.rstLow = false) ∧
    (s.phase = .resetHold → s.io.tap = .extest → exec .rstNRise s = .next { s with io.rstLow := false, phase := .extest })

/-- A brownout in a running device ends in the brownout wait with every domain but AON off, the fault procedure over at
its step 6, and no seat held. Its end starts the device cold with cause 9, or leaves it held while RST_N is low.
EXTEST, loaded while the AON domain and VDDIO are there, stops the Registrar and every engine, holds nothing, and is a
tamper event: FLTSTAT.TAMPER is set and LASTTAMPER holds 0x100A; a device that a brownout or RST_N holds stays held.
When another instruction or a TAP reset replaces EXTEST, the watchdog reset of cause 8 is triggered; in a hold its
trigger alone is recorded (the model's choice, log 117). Which instruction is then current is open (log 139): IDCODE
after a TAP reset, BYPASS for a code that the device does not implement, and EXTEST in no case. Outside EXTEST, and
without VDDIO or the AON domain, the command changes nothing. Completes here: BROWNOUT, BROWNOUT_RECOVERY,
EXTEST_ENTRY, EXTEST_EXIT. (R43, R47, R49, R126, R446, R455) -/
def Obligations.BrownoutAndBoundaryScanStopTheDevice : Prop :=
  ∀ (s : State) (smp : Sample),
    (s.aon = true → s.phase ≠ .brownout → ∃ t, exec (.brownout smp) s = .next t ∧
      t.phase = .brownout ∧ t.pw.dom = 1 ∧ t.cl.held = [] ∧ t.r.flt.wdstatStep = 6 ∧ t.flt.proc = none ∧ t.rg.stopped = true) ∧
    (s.phase = .brownout → s.io.rstLow = true → exec .brownoutRecovery s = .next { s with phase := .resetHold }) ∧
    (s.phase = .brownout → s.io.rstLow = false → s.io.tap ≠ .extest → exec .brownoutRecovery s = .next (coldStart 9 s)) ∧
    (s.phase = .brownout → s.io.rstLow = false → s.io.tap = .extest → exec .brownoutRecovery s = .next { s with phase := .extest }) ∧
    (s.aon = true → s.io.vddio = true → s.io.tap ≠ .extest → s.phase ≠ .brownout → s.phase ≠ .resetHold →
      ∃ t, exec .extestEntry s = .next t ∧
        t.phase = .extest ∧ t.io.tap = .extest ∧ t.pw.dom = 1 ∧ t.cl.held = [] ∧ t.rg.stopped = true ∧
        t.r.flt.fltstatTamper = true ∧ t.r.flt.lasttamper = 0x100A ∧ t.r.flt.lastalarm = 0x100A) ∧
    (s.aon = true → s.io.vddio = true → s.io.tap ≠ .extest → s.phase = .brownout ∨ s.phase = .resetHold →
      exec .extestEntry s = .next (logEvent 0x100A [] { s with io.tap := .extest })) ∧
    (s.aon = true → s.io.vddio = true →
      (s.io.tap = .extest → s.phase ≠ .brownout → s.phase ≠ .resetHold →
        ∃ load, exec .extestExit s = .next (watchdogReset 8 { (draw s).2 with io.tap := tapInstr load })) ∧
      (s.io.tap = .extest → s.phase = .brownout ∨ s.phase = .resetHold →
        ∃ load, exec .extestExit s = .next (resetTrigger 8 { (draw s).2 with io.tap := tapInstr load })) ∧
      (s.io.tap ≠ .extest → exec .extestExit s = .next s)) ∧
    (tapInstr .reset = .idcode ∧ tapInstr .unimplemented = .bypass ∧ ∀ load, tapInstr load ≠ .extest) ∧
    (s.aon = false ∨ s.io.vddio = false → exec .extestEntry s = .next s ∧ exec .extestExit s = .next s)

/-- When VDDIO is lost, a host transfer ends as at the rise of HST_CS and nothing stays to be read on HST_MISO. When VDDIO
returns, only that is noted. When HST_CS falls with VDDIO present and the AON domain running, the selection is noted,
and it is a wake event of code 2 where the host port is configured and HST_CS is not held. Beyond that only standing
work moves. Completes here: HST_CS_FALL, VDDIO_LOSS, VDDIO_RESTORE. (R43, R113, R417) -/
def Obligations.SupplyOfTheHostPortAndItsSelect : Prop :=
  ∀ s : State,
    (∃ t, exec .vddioLoss s = .next t ∧ t = State.withWork { csRise s with io.vddio := false, sv.miso := [] } t) ∧
    (∃ t, exec .vddioRestore s = .next t ∧ t = State.withWork { s with io.vddio := true } t) ∧
    (s.io.vddio = true → s.aon = true → hostWakes s = false →
      ∃ t, exec .hstCsFall s = .next t ∧ t = State.withWork { s with io.cs := true } t) ∧
    (s.io.vddio = true → s.aon = true → hostWakes s = true →
      ∃ t, exec .hstCsFall s = .next t ∧ t = State.withWork (wake 2 { s with io.cs := true }) t)

/-- In a start: the end of a stage is judged (endStage, judgeStep); a reservoir wait that is met adds its time and goes on
with stage 3; XT32 running is noted whatever start or state has followed the POR release, and ends the wait for it;
its timeout loses the clock with event 0x0201, in a start or after it, and ends the wait; the OTP wait of stage 7
takes the image, its timeout rejects the image when no key is programmed and takes it otherwise; a stage seat that is
not admitted is dropped for its deadline and is the fatal finding 0x00E0; a Hibernate-start step is judged and the
next step follows. (Work done at the end of the command is `settle`, whose frame StandingWorkMovesOnlyItsParts
states.)  Completes here: COLD_START_STAGE_END, HIBERNATE_START_STEP_END, OTP_PROGRAM_WAIT_MET,
OTP_PROGRAM_WAIT_TIMEOUT, RESERVOIR_WAIT_MET, STAGE_SEAT_TIMEOUT, XT32_RUNNING, XT32_START_TIMEOUT. (R87, R88, R92,
R99, R100, R67, spec/04_start_and_self_test.md) -/
def Obligations.StartCommandsRunTheirStages : Prop :=
  ∀ (s : State) (rep : StageReport) (smp : Sample) (n : Nat),
    (s.phase = .cold n → s.start.wait = .none → s.flt.proc = none →
      exec (.coldStartStageEnd rep) s = .next (settle (endStage n rep s))) ∧
    (s.starting = true → s.start.wait = .reservoir → s.flt.proc = none → reservoirMet (sample smp s) = true →
      exec (.reservoirWaitMet smp) s = .next (settle (beginStage 3 (addVresWait (sample smp s))))) ∧
    (s.aon = true → s.r.clk.clkstatXt32ok = true →
      (s.starting = true → s.start.wait = .xt32 → s.flt.proc = none →
        exec .xt32Running s = .next (settle (endXtWait { s with ck.xtRun := true }))) ∧
      (s.starting = false ∨ s.start.wait ≠ .xt32 → exec .xt32Running s = .next { s with ck.xtRun := true })) ∧
    (s.aon = true → s.r.clk.clkstatXt32ok = true → s.ck.xtRun = false →
      (s.starting = true → s.start.wait = .xt32 → s.flt.proc = none →
        exec .xt32StartTimeout s = .next (settle (endXtWait { loseXt32 0x0201 (w32 (civS s)) s with start.noXt32 := true }))) ∧
      (s.start.wait ≠ .xt32 →
        exec .xt32StartTimeout s = .next (settle { loseXt32 0x0201 (w32 (civS s)) s with start.noXt32 := true }))) ∧
    (∀ i c, s.start.wait = .otp → s.flt.proc = none → s.phase = .cold 7 → s.start.chosen = some (i, c) →
      (otpReady (sample smp s) = true →
        exec (.otpProgramWaitMet smp) s = .next (settle (afterStage 7 (takeImage i c true (addVresWait (sample smp s)))))) ∧
      exec .otpProgramWaitTimeout s = .next (settle
        (let u := { addVresWait s with start.wait := .none, start.chosen := none }
         if keysEmpty u then selectImage (rejectImage i u) else afterStage 7 (takeImage i c false u)))) ∧
    (∀ x, s.phase = .cold n → s.start.wait = .seat → s.flt.proc = none → s.cl.waiting.find? (fun y => y.unit == 0) = some x →
      exec .stageSeatTimeout s = .next (settle (fatal n 0x00E0 [(n : Int)] { dropRequest x 1 s with phase := .cold n }))) ∧
    (s.phase = .hib n → s.flt.proc = none → s.start.wait = .none → (judgeStep n rep (countStage rep s)).phase = .hib n →
      exec (.hibernateStartStepEnd rep) s = .next (settle (nextHibStep (n + 1) (judgeStep n rep (countStage rep s)))))

/-- In safe-beacon, with the front end fit to send and no fault telegram under way, the telegram that is due is built and
handed to the sequencer, and its interval begins again; where the front end is not fit to send only the interval
begins again. The retry, while fewer than three have failed, leaves safe-beacon by a cold start of cause 6 with the
watchdog count of the starts at 0. (Work done at the end of the command is `settle`, whose frame
StandingWorkMovesOnlyItsParts states.)  Completes here: FAULT_TELEGRAM_DUE, SAFE_BEACON_RETRY. (R98, R104, R106, R435) -/
def Obligations.SafeBeaconSendsItsTelegramAndTriesAgain : Prop :=
  ∀ (s : State) (smp : Sample), s.safe = true → s.flt.proc = none →
    (let u := { wake 1 (sample smp s) with sb.telFrom := (wake 1 (sample smp s)).now, sb.first := false, pw.choose := true }
     (radioSilent u = false → faultUnderWay u = false →
       exec (.faultTelegramDue smp) s = .next (settle (sequencerSend (faultTelegram u).1 (faultTelegram u).2))) ∧
     (radioSilent u = true → exec (.faultTelegramDue smp) s = .next (settle u))) ∧
    (s.r.sys.sbstatFails.toNat < 3 →
      exec .safeBeaconRetry s = .next (leaveSafeBeacon 6 { s with r.sys.wdstart := 0 }))

/-- PWRCMD from a port in service mode that may write notes the request with its port (a later one replaces it); nothing
else moves but standing work. Once the session of its port is closed the request is evaluated: where nothing refuses,
the entry to Hibernate or Off begins; where something does (other than the parent role or its hand-over), no entry
begins and PWREFUSE names the last refuser with the target and its reason. A request held for the parent role once the
role or the hand-over that held it is gone. An entry that completes (one to Hibernate or Off once no record is open)
enters its target; to Off it ends there, with AON off; otherwise a latched wake event wakes at once, counted in
LATEWAKE; with none a pending request is evaluated; with neither the device stands in the target state. (Work done at
the end of the command is `settle`, whose frame StandingWorkMovesOnlyItsParts states.)  Completes here:
HELD_REQUEST_REISSUE, PWRCMD_HIBERNATE, PWRCMD_OFF, STATE_ENTRY_COMPLETE, STATE_REQUEST_EVALUATE. (R112, R113, R114,
R115, R116, R117, R459) -/
def Obligations.PowerRequestsAreTakenAndEvaluated : Prop :=
  ∀ (s : State) (p : Port),
    (portWrites p s = true → s.service p = true →
      (∃ t, exec (.pwrcmdHibernate p) s = .next t ∧ t.pw.request = some ⟨.hibernate, p⟩ ∧
        t = State.withWork { s with pw.request := some ⟨.hibernate, p⟩ } t) ∧
      (∃ t, exec (.pwrcmdOff p) s = .next t ∧ t.pw.request = some ⟨.off, p⟩ ∧
        t = State.withWork { s with pw.request := some ⟨.off, p⟩ } t)) ∧
    (∀ q u, s.pw.request = some q → s.operating = true → s.flt.proc = none → (s.sv.ses q.port).open_ = false →
      s.pw.target = none → q.target = .hibernate ∨ q.target = .off → q.target ≠ s.pw.st →
      u = { s with pw.request := none, pw.issuer := some q.port } → refusers q.target u = [] →
      exec .stateRequestEvaluate s = .next (settle (beginEntryTo q.target
        { u with pw.target := some q.target, pw.latched := none, pw.choose := false }))) ∧
    (∀ q u r, s.pw.request = some q → s.operating = true → s.flt.proc = none → (s.sv.ses q.port).open_ = false →
      s.pw.target = none → q.target = .hibernate ∨ q.target = .off → q.target ≠ s.pw.st →
      u = { s with pw.request := none, pw.issuer := some q.port } → (refusers q.target u).getLast? = some r →
      (refusers q.target u).all (fun x => x.2 != 0x42 && x.2 != 0x43) = true →
      ∃ v, exec .stateRequestEvaluate s = .next (settle v) ∧ v.pw = { u.pw with choose := false } ∧
        v.r.pwr.pwrefuseRefuser = BitVec.ofNat 4 r.1 ∧ v.r.pwr.pwrefuseTarget = BitVec.ofNat 4 q.target.code ∧
        v.r.pwr.pwrefuseReason = BitVec.ofNat 8 r.2) ∧
    (∀ q, s.pw.request = some q → s.operating = true → s.flt.proc = none → (s.sv.ses q.port).open_ = false →
      exec .stateRequestEvaluate s = .next (settle (issueRequest q { s with pw.request := none }))) ∧
    (∀ q, s.pw.heldReq = some q → s.operating = true → s.flt.proc = none → s.ln.role ≠ .parent →
      s.ln.ho.st ≠ .announced → s.ln.ho.st ≠ .transferring →
      exec .heldRequestReissue s = .next (settle (issueRequest q { s with pw.heldReq := none })) ∧
      (∀ u, s.pw.target = none → q.target = .hibernate ∨ q.target = .off → q.target ≠ s.pw.st →
        u = { s with pw.heldReq := none, pw.issuer := some q.port } → refusers q.target u = [] →
        exec .heldRequestReissue s = .next (settle (beginEntryTo q.target
          { u with pw.target := some q.target, pw.latched := none, pw.choose := false })))) ∧
    (∀ x, s.pw.target = some x → (x = .hibernate ∨ x = .off → recordsOpen s = false) →
      let u := entered x { bgAbort s with pw.target := none, pw.latched := none }
      (x = .off → ∃ t, exec .stateEntryComplete s = .next t ∧ t = u ∧ t.phase = .offByCommand ∧ t.pw.st = .off ∧ t.pw.dom = 0 ∧
        t.pw.target = none ∧ t.cl = {} ∧ t.sv = {} ∧ t.evq = []) ∧
      (∀ c, x ≠ .off → s.pw.latched = some c → exec .stateEntryComplete s =
        .next (settle (wake c { u with pw.pend := s.pw.pend, r.pwr.latewake := inc16 u.r.pwr.latewake }))) ∧
      (∀ y, x ≠ .off → s.pw.latched = none → s.pw.pend = some y →
        exec .stateEntryComplete s = .next (settle (stateRequest y { u with pw.pend := none }))) ∧
      (x ≠ .off → s.pw.latched = none → s.pw.pend = none →
        ∃ t, exec .stateEntryComplete s = .next t ∧ t = settle { u with pw.pend := none } ∧ t.pw.st = x ∧
          (x = .hibernate → t.rg.stopped = true)))

/-- An RTC compare (code 1), HST_WAKE (3), the wake pattern on the host port (4, which also deselects it) and a carrier at
IR_RX (5, which also powers the optical head for 2 s) are handed to the transition machine under the conditions of
Table 5.2. The first clause says what that does in Doze and in Standby with no entry under way: the device is in Run
and WAKESRC holds the code. (Work done at the end of the command is `settle`, whose frame
StandingWorkMovesOnlyItsParts states.)  Completes here: HOST_WAKE_PATTERN, HST_WAKE_EDGE, IR_CARRIER_WAKE,
IR_EN_TIMEOUT, WAKE_RTC_COMPARE. (R113, R117, R425, spec/05_power_and_chairlift.md) -/
def Obligations.WakeEventsWakeTheDevice : Prop :=
  (∀ (s : State) (c : Nat), s.pw.target = none → (s.pw.st = .doze ∨ s.pw.st = .standby) → 1 ≤ c → c ≤ 6 →
    (wake c s).pw.st = .run ∧ (wake c s).r.pwr.wakesrc = BitVec.ofNat 8 c) ∧
  ∀ s : State,
    (s.operating = true → s.flt.proc = none → exec .wakeRtcCompare s = .next (settle (wake 1 s))) ∧
    (s.io.vddio = true → s.aon = true → s.cat.hostPresent = true → exec .hstWakeEdge s = .next (settle (wake 3 s))) ∧
    (s.io.vddio = true → s.aon = true →
      exec (.hostWakePattern 8 0xA5) s = .next (settle (wake 4 { s with io.cs := false }))) ∧
    (s.aon = true → exec .irCarrierWake s = .next (settle (driveIr 2000000 (wake 5 s)))) ∧
    (∀ u, s.io.irUntil = some u → ∃ t, exec .irEnTimeout s = .next t ∧ t = State.withWork { s with io.irUntil := none } t)

/-- For every tamper event, logged in whatever state (also when entries were dropped before): FLTSTAT.TAMPER is set,
LASTTAMPER holds the code, TAMPTIME the time of the log, and TAMPCNT is one more, saturating. An event that is no
tamper event leaves the four words as they are. (R446) -/
def Obligations.TamperEventSetsItsWords : Prop :=
  ∀ (code : Nat) (args : List Int) (s : State),
    (isTamper code args = true →
      (logEvent code args s).r.flt.fltstatTamper = true ∧
      (logEvent code args s).r.flt.lasttamper = BitVec.ofNat 16 code ∧
      (logEvent code args s).r.flt.tamptime = BitVec.ofNat 48 (tltime s) ∧
      (logEvent code args s).r.flt.tampcnt = inc16 s.r.flt.tampcnt) ∧
    (isTamper code args = false →
      (logEvent code args s).r.flt.fltstatTamper = s.r.flt.fltstatTamper ∧
      (logEvent code args s).r.flt.lasttamper = s.r.flt.lasttamper ∧
      (logEvent code args s).r.flt.tamptime = s.r.flt.tamptime ∧
      (logEvent code args s).r.flt.tampcnt = s.r.flt.tampcnt)

/-- Logging moves only what State.withLog names. With no drop before it and room in the queue, the event is appended with
its code, items, the time and the TLSTAT.LOST bit; with 64 entries waiting and none dropped before, it is not queued,
EVQDROP counts it, and the number dropped since the last entry is one more. Its alarm effects: HIRQ.ALARM and
FLTSTAT.ALARM are set, LASTALARM holds the code and ALARMCNT is one more (the radio report, R444, is standing work).
(R319, R443, R444, R446, spec/12_memory_and_archive.md) -/
def Obligations.EventIsQueuedOrCounted : Prop :=
  ∀ (code : Nat) (args : List Int) (s : State),
    logEvent code args s = s.withLog (logEvent code args s) ∧
    (s.evDrop = 0 → s.evq.length < 64 → (logEvent code args s).evq =
      s.evq ++ [{ code, lost := s.r.clk.tlstatLost, time := tltime s, args }] ∧ (logEvent code args s).evDrop = 0) ∧
    (s.evDrop = 0 → s.evq.length = 64 → (logEvent code args s).evq = s.evq ∧ (logEvent code args s).evDrop = 1 ∧
      (logEvent code args s).r.mem.evqdrop = inc16 s.r.mem.evqdrop) ∧
    (s.evDrop = 0 → isAlarm code args = true →
      (logEvent code args s).r.io.hirqAlarm = true ∧ (logEvent code args s).r.flt.fltstatAlarm = true ∧
      (logEvent code args s).r.flt.lastalarm = BitVec.ofNat 16 code ∧
      (logEvent code args s).r.flt.alarmcnt = inc16 s.r.flt.alarmcnt)

/-- A press of a key that is not held, in operation, wakes the device with code 6 and has its effect (keyEffect: KEYCNT,
the next screen or the optical supply); a release is noted; both keys held for 5 s in operation with a display show
every segment; a tamper sample is taken on both lines while the inputs are monitored (TMP0 low and TMP1 high assert);
a line found held in operation sets its PINFLT bit with event 0x1009, and its release clears the bit and the level
that the line held. (Work done at the end of the command is `settle`, whose frame StandingWorkMovesOnlyItsParts
states.)  Completes here: KEYS_HELD_5S, KEY_PRESS, KEY_RELEASE, LINE_HELD_DETECT, LINE_RELEASE, TAMPER_SAMPLE. (R113,
R397, R398, R425, R439, R440, R450) -/
def Obligations.KeysTamperInputsAndLinesComplete : Prop :=
  ∀ s : State,
    (∀ k : Fin 2, s.aon = true → keyHeld k.val s = false → s.operating = true →
      let u := wake 6 { s with io.key := vupd s.io.key k.val (fun _ => true) }
      u.operating = true → exec (.keyPress k) s = .next (settle { keyEffect k.val u with pw.choose := true })) ∧
    (∀ k : Fin 2, s.aon = true → ∃ t, exec (.keyRelease k) s = .next t ∧
      t = State.withWork { s with io.key := vupd s.io.key k.val (fun _ => false) } t) ∧
    (s.operating = true → vget s.io.key 0 false = true → vget s.io.key 1 false = true → keyHeld 0 s = false →
      keyHeld 1 s = false → s.hasDisplay = true →
      exec .keysHeld5s s = .next (settle { s with dp.segTest := true, dp.renderNow := true })) ∧
    (∀ a b : Bool, tamperMonitored s = true →
      exec (.tamperSample a b) s = .next (settle (tamperLine 1 (!b) (tamperLine 0 a s)))) ∧
    (∀ n : Fin 7, s.operating = true → s.r.flt.pinflt.getLsbD n.val = false → (n.val = 6 → s.io.cs = true ∧ s.io.vddio = true) →
      exec (.lineHeldDetect n) s = .next (settle (logEvent 0x1009 [(n.val : Int)]
        { s with r.flt.pinflt := s.r.flt.pinflt ||| BitVec.ofNat 7 (1 <<< n.val) }))) ∧
    (∀ n : Fin 7, s.r.flt.pinflt.getLsbD n.val = true → ∃ t, exec (.lineRelease n) s = .next t ∧
      t = State.withWork { s with
        r.flt.pinflt := s.r.flt.pinflt &&& ~~~BitVec.ofNat 7 (1 <<< n.val)
        io.cs := if n.val = 6 then false else s.io.cs
        io.key := if n.val = 4 ∨ n.val = 5 then vupd s.io.key (n.val - 4) (fun _ => false) else s.io.key } t)

/-- A counted falling edge on PI0 or PI1 (not on a held line, in every state but Off) adds one to its 32-bit counter and
changes nothing else: no pulse wakes the device. A pulse output that may be driven, has a pulse function, has a pulse
queued and started none in the last 10 ms emits: one pulse leaves its queue, its start is noted, and nothing else
changes. The end of the alarm level releases it and changes nothing else. Completes here: ALARM_PULSE_END,
PULSE_INPUT_EDGE, PULSE_OUTPUT_EMIT. (R437, R438, R444) -/
def Obligations.PulsesAreCountedAndEmitted : Prop :=
  ∀ s : State,
    (s.aon = true → s.r.flt.pinflt.getLsbD 2 = false →
      exec (.pulseInputEdge 0) s = .next { s with r.io.pi0cnt := s.r.io.pi0cnt + 1 }) ∧
    (s.aon = true → s.r.flt.pinflt.getLsbD 3 = false →
      exec (.pulseInputEdge 1) s = .next { s with r.io.pi1cnt := s.r.io.pi1cnt + 1 }) ∧
    (∀ o : Fin 2, outputDrives o.val s = true → 1 ≤ outputFn o.val s → outputFn o.val s ≤ 11 →
      (∀ t, vget s.io.poAt o.val none = some t → t + 10000 ≤ s.now) → 0 < (outputQueue o.val s).toNat →
      exec (.pulseOutputEmit o) s = .next { s with
        io.poAt := vupd s.io.poAt o.val (fun _ => some s.now)
        r.io.poback0 := if o.val = 0 then s.r.io.poback0 - 1 else s.r.io.poback0
        r.io.poback1 := if o.val = 0 then s.r.io.poback1 else s.r.io.poback1 - 1 }) ∧
    exec .alarmPulseEnd s = .next { s with flt.alarmPulse := false }

/-- On an enabled tamper input, a sample that differs from the one before only notes the level; a sample that agrees with
it and with the confirmed state changes no more than that; one that agrees with it and differs from the confirmed
state is a change: outside Hibernate and an entry to it, it is logged as a tamper event with its code (0x0F07 to
0x0F0A), counted in TMPCNT, and it is wake source 7. (R113, R117, R440) -/
def Obligations.TamperChangeIsConfirmedCountedAndLogged : Prop :=
  ∀ (s : State) (i : Nat) (on : Bool), i < 2 → s.cat.tampen.testBit i = true →
    (vget s.io.tmpRaw i false ≠ on → tamperLine i on s = { s with io.tmpRaw := vupd s.io.tmpRaw i (fun _ => on) }) ∧
    (vget s.io.tmp i false = on → tamperLine i on s = { s with io.tmpRaw := vupd s.io.tmpRaw i (fun _ => on) }) ∧
    (vget s.io.tmpRaw i false = on → vget s.io.tmp i false ≠ on →
      tamperLine i on s = tamperChange i on { s with io.tmpRaw := vupd s.io.tmpRaw i (fun _ => on) }) ∧
    (s.pw.st ≠ .hibernate → s.pw.target ≠ some .hibernate → ∃ u, tamperChange i on s = wake 7 (logEvent (tamperEvent i on s).1 (tamperEvent i on s).2 u) ∧
      u = { s with io.tmp := vupd s.io.tmp i (fun _ => on), io.tmpAt := vupd s.io.tmpAt i (fun _ => tlmono s),
                   r.io.tmpcnt0 := if i = 0 then inc16 s.r.io.tmpcnt0 else s.r.io.tmpcnt0,
                   r.io.tmpcnt1 := if i = 0 then s.r.io.tmpcnt1 else inc16 s.r.io.tmpcnt1 } ∧
      isTamper (tamperEvent i on s).1 (tamperEvent i on s).2 = true)

/-- First every waiting request of units 1 to 9 whose deadline has passed is dropped with reason 1; where none is late
nothing is. The queue is then that of the requests placed before the Chairlift that are not late: all that wait, or,
while a measurement holds its seat, all but the calibrations (R26). With a head x of it and the last admission at
least 20 µs ago (or none): when the demand max(0, class - free) * hold is at most avail of R129, x leaves the queue
and is held from now with that excess, and its work begins (onAdmit); when the demand is more, no request is admitted
and only CLAVAIL and CLFREE are renewed. Less than 20 µs after the last admission nobody is admitted. With no request
placed only CLFREE is renewed. (Demand and avail in pC, classes in 0.1 mA, times in µs; the rounding of CLAVAIL is
open, log 5.) (R26, R128, R129, R130) -/
def Obligations.EvaluationAdmitsTheHeadWithinTheBudget : Prop :=
  ∀ (s0 s : State), s = (s0.cl.waiting.filter (fun x => x.unit != 0 && x.late s0.now)).foldl (fun s x => dropRequest x 1 s) s0 →
    ((∀ x ∈ s0.cl.waiting, x.unit = 0 ∨ x.late s0.now = false) → s = s0) ∧
    ((placedSeats s).filter (fun x => !x.late s.now) = [] → evaluate s0 = { s with r.pwr.clfree := sat 16 (seatFree s) }) ∧
    (measureSeat s = false → placedSeats s = s.cl.waiting) ∧
    (measureSeat s = true → placedSeats s = s.cl.waiting.filter (fun x => decide (x.unit < 8))) ∧
    ∀ x, seatHead ((placedSeats s).filter (fun x => !x.late s.now)) = some x →
      (∀ t, s.cl.lastAdm = some t → s.now < t + 20 → evaluate s0 = s) ∧
      ((∀ t, s.cl.lastAdm = some t → t + 20 ≤ s.now) →
        (seatAvail x.unit s < ((100 * ((x.cls - seatFree s) * x.hold) : Nat) : Int) → evaluate s0 = { s with
          r.pwr.clavail := clAvail (seatAvail x.unit s), r.pwr.clfree := sat 16 (seatFree s) }) ∧
        (((100 * ((x.cls - seatFree s) * x.hold) : Nat) : Int) ≤ seatAvail x.unit s → evaluate s0 = onAdmit x.work { s with
          r.pwr.clavail := clAvail (seatAvail x.unit s), r.pwr.clfree := sat 16 (seatFree s)
          cl.waiting := s.cl.waiting.filter (fun y => y.order != x.order)
          cl.held := { x with at_ := s.now, excess := x.cls - seatFree s, above := s.pw.aboveAbort } :: s.cl.held
          cl.lastAdm := some s.now }))

/-- A unit that has a request waiting or a seat held asks for no other: nothing changes. Otherwise a request whose max(0,
class - IBATLIM) * hold exceeds CRES * (VRES_OK - f) is dropped at once: CLMISS of the unit is one more, CLDROP holds
the unit and reason 2, event 0x0104 is logged with unit, class in mA and hold in µs; any other request joins the
queue; either way the queue is evaluated. (CRES in 0.1 mF, currents in 0.1 mA, times in µs.) (R128, R131, R134) -/
def Obligations.RequestIsDroppedWhenItCouldNeverBeAdmitted : Prop :=
  ∀ (u cls hold : Nat) (deadline : Option Nat) (w : Work) (s : State),
    (hasSeat u s = true → requestSeat u cls hold deadline w s = s) ∧
    (hasSeat u s = false →
      let x : Seat := { unit := u, cls, hold, deadline, at_ := s.now, order := s.cl.order, work := w }
      let s1 : State := { s with cl.order := s.cl.order + 1 }
      (s.cat.chair.cres * 1000 * (s.cat.chair.vresOk - seatFloor u s) < (cls - s.cat.chair.ibatlim) * hold →
        requestSeat u cls hold deadline w s = evaluate (logEvent 0x0104 [(u : Int), (cls / 10 : Nat), ((hold % 65536 : Nat) : Int), (hold / 65536 : Nat)]
          (onDrop w { s1 with
            cl.waiting := s.cl.waiting.filter (fun y => y.order != s.cl.order), cl.told := w :: s.cl.told
            r.pwr.clmiss := vupd s.r.pwr.clmiss u inc16
            r.pwr.cldropUnit := BitVec.ofNat 4 u, r.pwr.cldropReason := 2 }))) ∧
      ((cls - s.cat.chair.ibatlim) * hold ≤ s.cat.chair.cres * 1000 * (s.cat.chair.vresOk - seatFloor u s) →
        requestSeat u cls hold deadline w s = evaluate { s1 with cl.waiting := s.cl.waiting ++ [x] }))

/-- A request of a unit other than 0 in Run, an evaluation, and a release of a held seat take the sample and are served by
the operations of R128 to R132 (an operation of the Archive that still runs under the seat is suspended first, and the
controller then takes up what another seat covers); a waiting request whose deadline has passed is dropped with reason
1, a stage's with its fatal finding; at the abort level every held seat of units 6 to 9 admitted above it is aborted
and 0x0103 carries their mask; the frame on air is lost at the transmit floor; a reservoir that rises too fast while
VRES is at least 200 mV below VBAT is logged with 0x0107 and RESCEST takes the estimate (C_est is IBATLIM times the
time, kept unrounded beside it; an estimate that rounds to 0 is reported as 1, log 120), one at 90 % or more of CRES
returns to CRES; a reservoir that does not charge is logged with 0x0108. (Work done at the end of the command is
`settle`, whose frame StandingWorkMovesOnlyItsParts states.)  Completes here: CHAIRLIFT_EVALUATE,
CHARGE_SWITCH_TIMEOUT, RESERVOIR_RISE_TIMED, SEAT_DEADLINE_DROP, SEAT_RELEASE, SEAT_REQUEST, VRES_ABORT_LEVEL,
VRES_TX_FLOOR. (R125, R127, R128, R129, R131, R132, R474) -/
def Obligations.ChairliftCommandsComplete : Prop :=
  ∀ (s : State) (smp : Sample) (u : Fin 10),
    (∀ cls hold dl, seatsServed s = true → u.val ≠ 0 → exec (.seatRequest u cls hold dl smp) s =
      .next (settle (requestSeat u.val cls hold (dl.map (s.now + ·)) .other (sample smp s)))) ∧
    (s.operating = true ∨ s.safe = true ∨ s.starting = true →
      exec (.chairliftEvaluate smp) s = .next (settle (evaluate (sample smp s)))) ∧
    (s.operating = true ∨ s.safe = true → holds u.val s = true →
      ((∀ r, (sample smp s).ar.run = some r → r.owner.unit ≠ u.val) →
        exec (.seatRelease u smp) s = .next (settle (startOps (releaseSeat u.val (sample smp s))))) ∧
      (∀ r, (sample smp s).ar.run = some r → r.owner.unit = u.val →
        exec (.seatRelease u smp) s = .next (settle (startOps (releaseSeat u.val (pauseRun (sample smp s))))))) ∧
    (∀ x, s.cl.waiting.find? (fun x => x.unit == u.val && x.deadline.isSome) = some x →
      (x.unit ≠ 0 → exec (.seatDeadlineDrop u) s = .next (settle (dropRequest x 1 s))) ∧
      (x.unit = 0 → exec (.seatDeadlineDrop u) s = .next (settle (stageSeatDropped x s)))) ∧
    (∀ y ys, s.cl.held.filter (fun x => decide (6 ≤ x.unit) && x.above) = y :: ys → exec .vresAbortLevel s =
      .next (settle (logEvent 0x0103 [(maskOf ((y :: ys).map (·.unit)) : Int)]
        ((y :: ys).foldl abortSeat { s with pw.aboveAbort := false })))) ∧
    exec .vresTxFloor s = .next (settle (loseFrame s)) ∧
    (∀ us : Nat, s.aon = true → s.cl.held = [] → s.cl.commit = none → vres s + 200 ≤ vbat s →
      let q := s.cat.chair.ibatlim * us
      let est := max 1 (roundOpen ((q : Rat) / 100000)).toNat
      (q < 70000 * s.cat.chair.cres → exec (.reservoirRiseTimed us) s =
        .next (settle (logEvent 0x0107 [((min est 65535 : Nat) : Int)] { s with r.pwr.rescest := sat 16 est, cl.cest := max 1 q }))) ∧
      (90000 * s.cat.chair.cres ≤ q → 0 < s.cat.chair.cres → exec (.reservoirRiseTimed us) s =
        .next (settle { s with r.pwr.rescest := 0, cl.cest := 0 }))) ∧
    (s.aon = true → s.cl.held = [] → vres s + 100 < vbat s → exec .chargeSwitchTimeout s =
      .next (settle (logEvent 0x0108 [(vbat s : Int), (vres s : Int)] s)))

/-- While the AON domain runs, a VRES sample puts the three measured values into VBATMV, VRESMV and the die temperature,
and VRESMIN holds the lower of itself and the sample; beyond these only the parts named by withDrift move (the
uncertainty segment, the low-reservoir marks, the display fall-back, the due LPRC calibration, a TDC calibration that
the temperature asks for, and standing work). Completes here: VRES_SAMPLE. (R122, R125, R146, R133) -/
def Obligations.SampleTakesTheMeasuredWords : Prop :=
  ∀ (s : State) (smp : Sample), s.aon = true → ∃ t, exec (.vresSample smp) s = .next t ∧
    t.r.pwr.vbatmv = BitVec.ofNat 16 smp.vbat ∧ t.r.pwr.vresmv = BitVec.ofNat 16 smp.vres ∧
    t.r.clk.dietemp = BitVec.ofInt 16 smp.temp ∧
    t.r.pwr.vresmin = BitVec.ofNat 16 (min smp.vres s.r.pwr.vresmin.toNat) ∧ t = s.withDrift t

/-- VITRINE_CAL_DUE in a timed or starting device asks for the calibration after a sample, for a move of the temperature
when the move is there. While a calibration runs: VITRDY_SET before its warm-up ends notes it and puts the warm-up
time in 0.1 ms into VITWARM; VITRDY_TIMEOUT fails it with result 2, VITRINE_DEFER_LIMIT, before the PLL references the
Vitrine, with 3; OVEN_OVERTEMP, while the oven is on, with 5 and event 0x0207 that holds an oven temperature above
125.0 °C (which one is open, log 140); VITRDY_LOST stops the gate that runs, and after the last gate clears VITRDY
alone; VITRINE_GATE_END of the gate in turn (XT32 first where it runs, then XRF and HFRC), with the PLL on the
Vitrine, keeps the gate with the interval that its channel measured and the die temperature at the gate, ends the run
of the channel, and configures the next gate, or after the HFRC gate leaves the return of the PLL to step V7;
VITRINE_CAL_COMPUTE applies the gates once the PLL has returned. VITRINE_CAL_RETRY, when a retry is due, requests it
and counts it. (Work done at the end of the command is `settle`, whose frame StandingWorkMovesOnlyItsParts states.)
Completes here: OVEN_OVERTEMP, VITRDY_LOST, VITRDY_SET, VITRDY_TIMEOUT, VITRINE_CAL_COMPUTE, VITRINE_CAL_DUE,
VITRINE_CAL_RETRY, VITRINE_DEFER_LIMIT, VITRINE_GATE_END. (R138, R139, R140, R141, R142, R144, R145, R168) -/
def Obligations.VitrineCalibrationRunsItsSteps : Prop :=
  ∀ (s : State) (smp : Sample),
    (s.timed = true ∨ s.starting = true →
      exec (.vitrineCalDue .interval smp) s = .next (settle (vitrineAsked (sample smp (wake 1 s)))) ∧
      (temperatureMove (sample smp (wake 1 s)) = true → exec (.vitrineCalDue .temperature smp) s =
        .next (settle (vitrineAsked { sample smp (wake 1 s) with ck.tempReqAt := some (sample smp (wake 1 s)).now })))) ∧
    (∀ x, s.ck.run = some x → x.done = false →
      (x.ready = none →
        (∃ t, exec .vitrdySet s = .next t ∧ t = settle { s with
          ck.run := some { x with ready := some s.tl.monoUs }, r.clk.clkstatVitrdy := true
          r.clk.vitwarm := sat 16 (roundOpen (((s.tl.monoUs - x.on : Nat) : Rat) / 100)).toNat } ∧
          t.r.clk.vitwarm = sat 16 (roundOpen (((s.tl.monoUs - x.on : Nat) : Rat) / 100)).toNat) ∧
        exec .vitrdyTimeout s = .next (settle (vitrineFailed 2 s))) ∧
      (x.ready.isSome = true →
        (s.r.clk.clkstatPllvit = false → exec .vitrineDeferLimit s = .next (settle (vitrineFailed 3 s))) ∧
        (s.isOn .vit = true → exec .vitrdyLost s = .next (settle (onlyIf s.r.clk.clkstatPllvit (disarm (gateCh s)) { s with
          ck.run := some { x with ready := none }, r.clk.clkstatVitrdy := false, r.clk.clkstatPllvit := false })))) ∧
      (s.r.clk.clkstatPllvit = true → ∀ g n, gateInTurn x s = some g →
        let u := gateStop (gateCh s) n { s with ck.run := some { x with gates := x.gates ++ [⟨g, n, dieTemp s⟩], done := g == .hfrc } }
        (g ≠ .hfrc → exec (.vitrineGateEnd g n) s = .next (settle (configureRun (gateCh s) gateRun u))) ∧
        (g = .hfrc → exec (.vitrineGateEnd g n) s = .next (settle u)))) ∧
    (∀ x : VitRun, x.gates = [] → gateInTurn x s = if s.ck.xtRun then some .xt32 else some .xrf) ∧
    (∀ x, s.ck.run = some x → s.isOn .vit = true →
      (∃ temp : Int, 1250 < temp ∧ exec .ovenOvertemp s = .next (settle (vitrineFailed 5 (logEvent 0x0207 [temp] (draw s).2)))) ∧
      (x.done = true → x.ready.isSome = true → exec .vitrdyLost s = .next (settle { s with r.clk.clkstatVitrdy := false }))) ∧
    (∀ x, s.ck.run = some x → x.done = true → s.r.clk.clkstatPllvit = false → s.starting = false →
      exec .vitrineCalCompute s = .next (settle (vitrineSucceeds (applyCalibration x.gates s)))) ∧
    (∀ n, s.timed = true → s.ck.retryAt = some n → exec (.vitrineCalRetry smp) s = .next (settle (requestVitrine
      { sample smp s.atTimer with ck.retryAt := none, ck.retries := s.atTimer.ck.retries + 1 })))

/-- The loss of XT32 marks it bad, counts it, and takes the RTC to LPRC, or to HFRC with event 0x0203 when LPRC is bad;
its restoration begins the count of a calibration; a failed LPRC check logs 0x020B with the error and takes the RTC to
HFRC when XT32 is bad too; a recovery with LPRC good takes the RTC back to LPRC; a calibrated LPRC error goes to
LPRCERR (saturated) and to the bin of the die temperature; an hour on LPRC makes its calibration old; 24 h without a
calibration mark it stale, once. Outside a start, a second PLL failure in a wake tells every unit with a seat or a
request, takes the fast clock away and logs 0x0204 with their mask; in a start it logs the seats held and the stage's
work is abandoned. Each change ends the segment of the uncertainty where the source or the rate changes (segmented).
(Work done at the end of the command is `settle`, whose frame StandingWorkMovesOnlyItsParts states.)  Completes here:
CAL_STALE_24H, CLOCK_RECOVERY_ATTEMPT, LPRC_CAL_1H_EXPIRY, LPRC_CAL_GATE_END, LPRC_CHECK, PLL_LOCK_TIMEOUT,
XT32_RESTORE_COUNT, XT32_STOP. (R145, R147, R149, R151, R152, R153, R155) -/
def Obligations.ClockFailuresAndChecksChangeTheSource : Prop :=
  ∀ (s : State) (smp : Sample),
    (s.aon = true → s.r.clk.clkstatXt32ok = true → exec .xt32Stop s = .next (settle (loseXt32 0x0201 (w32 (civS s)) { s with ck.xtRun := false }))) ∧
    (s.r.clk.clkstatXt32ok = false → s.timed = true → exec (.xt32RestoreCount smp) s =
      .next (settle (vitrineAsked { sample smp (wake 1 s) with ck.restoring := true, ck.xtRun := true }))) ∧
    (s.aon = true → s.r.clk.clkstatRtcsrc ≠ 2 →
      (s.r.clk.clkstatLprcok = false → ∃ t, exec (.lprcCheck true) s = .next t ∧
        t = State.withWork { s with r.clk.clkstatLprcok := true } t) ∧
      (s.r.clk.clkstatLprcok = true → s.r.clk.clkstatXt32ok = true → exec (.lprcCheck false) s =
        .next (settle (logEvent 0x020B [s.r.clk.lprcerr.toInt]
          (segmented (fun u => { u with r.clk.clkstatLprcok := false }) s)))) ∧
      (s.r.clk.clkstatLprcok = true → s.r.clk.clkstatXt32ok = false → exec (.lprcCheck false) s =
        .next (settle (logEvent 0x0203 [] (logEvent 0x020B [s.r.clk.lprcerr.toInt]
          (segmented (fun u => { u with r.clk.clkstatLprcok := false, r.clk.clkstatRtcsrc := 2 }) s)))))) ∧
    (∀ b, s.aon = true → s.r.clk.clkstatRtcsrc = 2 → exec (.clockRecoveryAttempt b true) s = .next (settle
      (segmented (fun u => { u with r.clk.clkstatLprcok := true, r.clk.clkstatRtcsrc := 1, ck.lprcAt := lprcFresh u }) s))) ∧
    (∀ ppm : Int, s.aon = true → s.ck.xtRun = true → exec (.lprcCalGateEnd ppm) s = .next (settle
      (segmented (fun u => updBin (dieTemp u) (fun b => { b with lprc := some (max (-32768) (min ppm 32767)) })
        { u with r.clk.lprcerr := BitVec.ofInt 16 (max (-32768) (min ppm 32767)), ck.lprcAt := some u.tl.monoUs
                 ck.lprcTemp := dieTemp u, ck.lprcDue := false }) s))) ∧
    (s.aon = true → s.r.clk.clkstatRtcsrc = 1 → exec .lprcCal1hExpiry s = .next (settle
      (segmented (fun u => { u with ck.lprcAt := none }) s))) ∧
    (s.aon = true → s.ck.staleLogged = false → exec .calStale24h s = .next (settle (logEvent 0x0206
      [roundOpen (((s.tl.monoUs - s.ck.lastOk : Nat) : Rat) / 3600000000)]
      (segmented (fun u => { u with ck.staleLogged := true, r.clk.clkstatStale := true }) s)))) ∧
    (s.operating = true ∨ s.safe = true → s.starting = false → s.pw.st = .run → s.flt.proc = none →
      (s.ck.pllFails = 0 → exec .pllLockTimeout s = .next { s with ck.pllFails := 1 }) ∧
      (s.ck.pllFails ≠ 0 → exec .pllLockTimeout s = .next (settle (logEvent 0x0204
        [(maskOf ((s.cl.held ++ s.cl.waiting).map (fun x => x.unit)) : Int)]
        (runNormal ((s.cl.held ++ s.cl.waiting).foldl tellPll { s with ck.pllFails := 0, pw.choose := true })))))) ∧
    (s.starting = true → s.pw.st = .run → s.flt.proc = none →
      (s.ck.pllFails = 0 → exec .pllLockTimeout s = .next { s with ck.pllFails := 1 }) ∧
      (s.ck.pllFails ≠ 0 → exec .pllLockTimeout s = .next (settle (abandonStage (logEvent 0x0204
        [(maskOf (s.cl.held.map (fun x => x.unit)) : Int)] { s with ck.pllFails := 0 })))))

/-- A due ledger record wakes the device, samples and marks the record due; a zone of -48 to 56 quarter hours written by a
port in service mode waits for its moment, another value is not taken by this command; at its moment it is the zone in
force, the full record of the Registrar is sealed with it and event 0x0209 holds the old and the new; the end of a
slew absorbs what is left of it into civil time and nothing else moves but standing work; the oldest displayed events
end after 24 h; the reverse-flow day is checked for a profile that has one. (Work done at the end of the command is
`settle`, whose frame StandingWorkMovesOnlyItsParts states.)  Completes here: LEDGER_RECORD_DUE, REVERSE_DAY_CHECK,
STANDING_EVENT_EXPIRY, TIME_SLEW_END, TLZONE_APPLY, TLZONE_WRITE. (R155, R156, R157, R158, R445) -/
def Obligations.TimeLedgerCommandsComplete : Prop :=
  ∀ (s : State) (smp : Sample),
    (s.timed = true → exec (.ledgerRecordDue smp) s = .next (settle { sample smp (wake 1 s) with ar.ledgerDue := true })) ∧
    (∀ p v, s.serving = true → s.service p = true → -48 ≤ BitVec.toInt v → BitVec.toInt v ≤ 56 →
      ∃ t, exec (.tlzoneWrite p v) s = .next t ∧ t = State.withWork { s with tl.zoneNext := some v.toInt } t) ∧
    (∀ v, s.tl.zoneNext = some v → exec .tlzoneApply s = .next (settle (logEvent 0x0209 [s.tl.zone, v]
      (onlyIf (!s.rg.stopped) (sealFull 5 s.tl.zone v) (writeObject 0x0B { wake 1 s with tl.zone := v, tl.zoneNext := none }))))) ∧
    (s.aon = true → ∃ t, exec .timeSlewEnd s = .next t ∧
      t = State.withWork { s with tl.civNs := ((s.tl.civNs : Int) + s.tl.slew).toNat, tl.slew := 0 } t) ∧
    (∀ x, s.flt.standing.getLast? = some x → exec .standingEventExpiry s = .next (settle
      { s with flt.standing := s.flt.standing.filter (fun y => decide (x.at_ < y.at_)) })) ∧
    (s.timed = true → s.cat.profile = .gas ∨ s.cat.profile = .heat ∨ s.cat.profile = .cool ∨ s.cat.profile = .heatcool →
      exec .reverseDayCheck s = .next (settle (checkDay s.atTimer)))

/-- On an armed channel whose start has not come, the stop input moves to a level, with any count and fine code. Where the
comparator of the channel switches at it (its threshold and hysteresis), that is a crossing: ORDERR of that channel is
one more (saturating), the output of the comparator follows, and the channel with its stops and every other part of
the state are as before, but for the standing work at the end of the command. Where it does not switch there is no
crossing, and nothing changes. Completes here: TDC_STOP_CROSSING. (R177) -/
def Obligations.EarlyStopIsIgnoredAndCounted : Prop :=
  ∀ (s : State) (ch : Fin 4) (count : Nat) (fine : FineCode) (level : Int) (high : Bool), s.ch[ch].st = .armed →
    high = comparator s.ch[ch].cfg.thr s.cat.tdc.hyst s.ch[ch].out level →
    (high ≠ s.ch[ch].out → exec (.tdcStopCrossing ch count fine level) s =
      .next (settle { s with ch := vupd s.ch ch.val (fun c => { c with out := high })
                             r.ch := vupd s.r.ch ch.val (fun w => { w with orderr := inc16 w.orderr }) })) ∧
    (high = s.ch[ch].out → exec (.tdcStopCrossing ch count fine level) s = .next s)

/-- An armed channel with a table and the kind of start that its run asks for is running from then, with the fine position
of an asynchronous start; a start on a running channel is counted in STARTLOST. On a running channel a level at which
its comparator switches is a stop, judged by runningStop with the edge, another level changes nothing, and a run ends
(endRun). A due calibration is asked for after a sample with its cause, but for cause 3 while the die temperature has
not moved. In a calibration a block adds its hits and the sixteenth leaves the channels idle, an abandoned block is
counted and its channels are idle, the 32nd ends it with result 5, 16 blocks are evaluated, and a due retry is
requested with cause 5. A channel of code 0 or 1 that has had no passing calibration for too long is logged once with
0x0306. (Work done at the end of the command is `settle`, whose frame StandingWorkMovesOnlyItsParts states.)
Completes here: TDC_CAL_BLOCK_ABANDON, TDC_CAL_BLOCK_END, TDC_CAL_DUE, TDC_CAL_EVALUATE, TDC_CAL_RETRY,
TDC_NO_PASS_2CALINT, TDC_RUN_END, TDC_START, TDC_STOP_CROSSING. (R164, R165, R166, R169, R175, R176, R178, R179, R180,
R184, R185, R187) -/
def Obligations.TdcCommandsComplete : Prop :=
  ∀ (s : State) (smp : Sample) (ch : Fin 4),
    (∀ sync fine t, s.ch[ch].st = .armed → s.ch[ch].table = some t → s.ch[ch].cfg.sync = sync →
      exec (.tdcStart ch sync fine) s = .next (settle (updCh ch.val (fun c => { c with
        st := .running, startF := if sync then 0 else (fine16 t fine).toNat }) id s))) ∧
    (∀ sync fine, s.ch[ch].st = .running → exec (.tdcStart ch sync fine) s =
      .next (settle (updCh ch.val id (fun w => { w with startlost := inc16 w.startlost }) s))) ∧
    (∀ n fine level high, s.ch[ch].st = .running → high = comparator s.ch[ch].cfg.thr s.cat.tdc.hyst s.ch[ch].out level →
      (high ≠ s.ch[ch].out → exec (.tdcStopCrossing ch n fine level) s =
        .next (settle (runningStop ch.val n fine high (updCh ch.val (fun c => { c with out := high }) id s)))) ∧
      (high = s.ch[ch].out → exec (.tdcStopCrossing ch n fine level) s = .next s) ∧
      exec (.tdcRunEnd ch) s = .next (settle (endRun ch.val s))) ∧
    (∀ cause : Fin 8, s.timed = true ∨ s.starting = true → (cause ≠ 3 ∨ movedCaldt (sample smp (wake 1 s)) = true) →
      exec (.tdcCalDue cause smp) s = .next (settle (requestTdcCal cause.val (sample smp (wake 1 s))))) ∧
    (s.cal.run = true →
      (∀ hits, s.cal.blocks < 16 → s.ch.any (fun c => c.st == .calibrating) = true → exec (.tdcCalBlockEnd hits) s = .next (settle { s with
        cal.blocks := s.cal.blocks + 1
        ch := Vector.ofFn (fun (n : Fin 4) =>
          let c := s.ch[n]
          { c with hist := addHist c.hist (hits.getD n.val ⟨List.replicate 64 0, List.replicate 25 0, 0⟩)
                   st := if c.st == .calibrating ∧ s.cal.blocks = 15 then .idle else c.st }) })) ∧
      (s.ch.any (fun c => c.st == .calibrating) = true →
        let free := s.ch.map (fun c => if c.st == .calibrating then { c with st := .idle } else c)
        (s.cal.abandoned < 31 → exec .tdcCalBlockAbandon s = .next (settle { s with
          ch := free, cal.abandoned := s.cal.abandoned + 1
          r.tdc.tdccalAbandon := BitVec.ofNat 6 (min 32 (s.cal.abandoned + 1)) })) ∧
        (s.cal.abandoned = 31 → exec .tdcCalBlockAbandon s = .next (settle (endCal [5, 5, 5, 5] { s with
          ch := free, cal.abandoned := 32, r.tdc.tdccalAbandon := 32 })))) ∧
      (16 ≤ s.cal.blocks → exec .tdcCalEvaluate s =
        .next (settle (endCal (s.ch.toList.map (fun c => calCode c.hist)) s)))) ∧
    (∀ n, s.timed = true → s.cal.retryAt = some n → exec (.tdcCalRetry smp) s = .next (settle (requestTdcCal 5
      { sample smp s.atTimer with cal.retryAt := none }))) ∧
    (s.timed = true → assignCode ch.val s ≤ 1 → s.ch[ch].noPassLogged = false → exec (.tdcNoPass2calint ch) s =
      .next (settle (logEvent 0x0306
        [(ch.val : Int), roundOpen (((tlmono s.atTimer - s.atTimer.ch[ch].lastPass : Nat) : Rat) / 3600)]
        (updCh ch.val (fun c => { c with noPassLogged := true }) id s.atTimer))))

/-- A due step of the list in a timed device counts as scheduled when it measures flow, gets its next due time, and is
served (dueStep). In a step of shots: a boost at 98 % of its target is ready, one that is not ready in time is
switched off, counted and logged with 0x0401; a firing with the boost ready and VDRV at 98 % of its target, while no
Vitrine gate occupies a code-0 channel, fires the next pair, or asks for a TDC calibration of cause 7 when a channel
has no table; a capture of a fired shot that has none, or of a retry, is processed; a retry that is owed and fits is
fired under the same conditions and counted; a complete interval is posted, a complete zero check gives its results.
The fast sequence ends at its timeout, and the templates of every class that have adapted since their last copy are
copied each day. (Work done at the end of the command is `settle`, whose frame StandingWorkMovesOnlyItsParts states.)
Completes here: BOOST_READY, BOOST_TIMEOUT, FAST_SEQUENCE_TIMEOUT, INTERVAL_RESULT_POST, PISTE_STEP_DUE, RETRY_SHOT,
SHOT_CAPTURE_PROCESS, SHOT_FIRE, TEMPLATE_DAILY_COPY, ZERO_CHECK_RESULT. (R193, R203, R206, R207, R210, R213, R214,
R216, R228, R230, R242, R243) -/
def Obligations.PisteShotsAndRetriesRun : Prop :=
  ∀ (s : State) (smp : Sample),
    (∀ step : Fin 16, s.timed = true → s.ps.epoch.isSome = true → step.val < s.cat.steps.length →
      let u := sample smp (wake 1 s)
      let due := min (u.ps.next.getD step.val u.now) u.now
      let v := { u with ps.next := u.ps.next.set step.val (nextDue step.val (max u.now due) u), pw.choose := true }
      exec (.pisteStepDue step smp) s =
        .next (settle (dueStep step.val due (onlyIf ((v.cat.step step.val).action == 0) countScheduled v)))) ∧
    (shotStep s = true →
      (∀ mv, s.r.drv.xdstatBooston = true → 98 * s.r.drv.vdrvtgt.toNat ≤ 100 * mv →
        exec (.boostReady mv) s = .next (settle { s with r.drv.xdstatVdrvok := true })) ∧
      (∀ mv x, s.ps.run = some x → s.r.drv.xdstatBooston = true → s.r.drv.xdstatVdrvok = false →
        exec (.boostTimeout mv) s = .next (settle (logEvent 0x0401 [(maskOf (runPaths s) : Int), (mv : Int)]
          { s with r.drv.xdstatBooston := false, r.drv.vdrvmv := sat 16 mv, r.drv.boostfail := inc16 s.r.drv.boostfail
                   ps.run := some { x with boostFail := true } }))) ∧
      (∀ mv ilim k i dirs, s.r.drv.xdstatVdrvok = true → gatesHoldShots s = false → 98 * s.r.drv.vdrvtgt.toNat ≤ 100 * mv →
        nextFiring (markFirst { s with r.drv.vdrvmv := sat 16 mv }) = some (k, i, dirs) →
        exec (.shotFire mv ilim) s = .next (settle
          (let u := markFirst { s with r.drv.vdrvmv := sat 16 mv }
           if dirs.any (fun up => (vget u.ch (shotChannel k i up u) {}).table.isNone) then endShots (requestTdcCal 7 u)
           else fireShots k i dirs ilim u))) ∧
      (∀ cap, shotFired cap.path cap.pair cap.up s = true → getShot cap.path cap.pair cap.up s = none →
        exec (.shotCaptureProcess cap) s = .next (settle (processShot cap s))) ∧
      (runAction s = 0 →
        (∀ (k : Fin 4) mv ilim i up, pathSeq k.val s = true → nextFiring s = none → retryFits k.val s = true →
          s.r.drv.xdstatVdrvok = true → gatesHoldShots s = false → 98 * s.r.drv.vdrvtgt.toNat ≤ 100 * mv →
          toRetry k.val s = some (i, up) → exec (.retryShot k ⟨mv, ilim⟩) s = .next (settle
            (updPath k.val (fun p => { p with retried := (i, up) :: p.retried })
              (fireShots k.val i [up] ilim { s with r.drv.vdrvmv := sat 16 mv
                                                    r.path := vupd s.r.path k.val (fun w => { w with retrycnt := inc16 w.retrycnt }) })))) ∧
        (∀ checks x y, intervalComplete s = true → s.ps.run = some x → x.first = some y →
          exec (.intervalResultPost checks) s = .next (settle (endShots (portChecks checks (postInterval s)))))) ∧
      (∀ x y, runAction s = 5 → intervalComplete s = true → s.ps.run = some x → x.first = some y →
        exec .zeroCheckResult s = .next (settle (endShots
          ((runPaths s).foldl (fun (u : State) (k : Nat) => zeroPath k y.1 u) s))))) ∧
    (s.timed = true → s.ps.fast = true → exec .fastSequenceTimeout s =
      .next (settle (regrid (endFast s.atTimer).now (endFast s.atTimer)))) ∧
    (s.timed = true → exec .templateDailyCopy s = .next (settle ((pathsOf s).foldl (fun (u : State) (k : Nat) =>
      (List.range 8).foldl (fun (u : State) (c : Nat) =>
        onlyIf ((vget (vget u.path k {}).tpl c none).any (·.fresh)) (copyTemplate k c) u) u) s)))

/-- While XB runs and is in its canonical form (an invariant, StepKeepsTheExchangeBankCanonical), when the writes of both
ports in one cycle touch the same 32-bit word w: port A's write takes effect, so in the bank m1 that it leaves each
byte it wrote reads as written and every other byte as before, and nothing of port B's write is stored in it; outside
the handshake words m1 is the bank after the command, and in them the port-B writer reads the word back and writes
what it recomputes, which changes only the bytes of its write (R303; that it keeps to its own bits, and that the word
noted is the lowest of two shared ones, is the model's choice, log 137). MEMSTAT.XCOL is set, XCOLINFO holds the
port-B writer (1 Curator, 2 Link core) and the word address, XCOLCNT is one more (saturating). A word that was found
uncorrectable holds valid check bits again once it is written (xbBad). Nothing else moves but the standing work at the
end of the command, so no event is logged for it. Writes that share no word both take effect. Completes here:
XB_COLLISION. (R299) -/
def Obligations.PortAWinsTheCollisionInXb : Prop :=
  ∀ (s : State) (agent : XbAgent) (a b : XbWrite) (own : List Byte), xbRuns s = true → Memory.wf s.xb = true →
    (∀ w, xbShared a b = some w → ∃ (m1 m : List Host.Cell) (keep : Nat → Bool) (t : State), exec (.xbCollision agent a ⟨b, own⟩) s = .next t ∧
      t = settle { s with
        xb := m, xbBad := s.xbBad.filter keep, r.mem.memstatXcol := true, r.mem.xcolcnt := inc16 s.r.mem.xcolcnt
        r.mem.xcolinfoAgent := (match agent with | .curator => 1 | .link => 2)
        r.mem.xcolinfoWaddr := BitVec.ofNat 14 (2 * w) } ∧ t.xb = m ∧
      (∀ i (h : i < a.bytes.length), Mem.get m1 (a.addr + i) = a.bytes[i]) ∧
      (∀ x, x < a.addr ∨ a.addr + a.bytes.length ≤ x → Mem.get m1 x = Mem.get s.xb x) ∧
      (0x100 < b.addr + b.bytes.length → m = m1) ∧
      (b.addr + b.bytes.length ≤ 0x100 → own.length = b.bytes.length →
        (∀ i (h : i < b.bytes.length), Mem.get m (b.addr + i) =
          (Mem.get m1 (b.addr + i) &&& ~~~(own.getD i 0)) ||| (b.bytes[i] &&& own.getD i 0)) ∧
        (∀ x, x < b.addr ∨ b.addr + b.bytes.length ≤ x → Mem.get m x = Mem.get m1 x))) ∧
    (xbShared a b = none → ∃ t, exec (.xbCollision agent a ⟨b, own⟩) s = .next t ∧
      t = settle (putXb b.addr b.bytes (putXb a.addr a.bytes s)) ∧
      t.xb = Mem.setBytes (Mem.setBytes s.xb a.addr a.bytes) b.addr b.bytes)

/-- A write of XBPAGE.SEL sets the page of the writing port alone to bit 0 of the value. BGCMD, and the elapsed BGTEST
time in operation or in the Curator's safe-beacon, note a request; a slice in Run outside a start takes up a request
that waits as a pass from now, or goes on with a pass, for the rows it is given; a held window that is released goes
on with the next row, after recording a failed row; an urgent access aborts a held window; a pass not over in 7 days
is noted once with 0x0A04. (Work done at the end of the command is `settle`, whose frame StandingWorkMovesOnlyItsParts
states.)  Completes here: BGCMD_START, BGTEST_DUE, BG_PASS_OVERDUE, BG_SLICE, BG_URGENT_ACCESS, BG_WINDOW_RELEASE,
XBPAGE_SEL_WRITE. (R302, R305, R306, R307, R308) -/
def Obligations.PageSelectionIsPerPortAndBackgroundPassesAreAsked : Prop :=
  ∀ (s : State),
    (∀ v, portWrites .host s = true → ∃ t, exec (.xbpageSelWrite .host v) s = .next t ∧
      t = State.withWork { s with sv.hstPort.page := BitVec.ofNat 8 (BitVec.toNat v % 2) } t) ∧
    (∀ v, portWrites .optical s = true → ∃ t, exec (.xbpageSelWrite .optical v) s = .next t ∧
      t = State.withWork { s with sv.optPort.page := BitVec.ofNat 8 (BitVec.toNat v % 2) } t) ∧
    (∀ p, portWrites p s = true → ∃ t, exec (.bgcmdStart p) s = .next t ∧ t = State.withWork { s with bgReq := true } t) ∧
    (s.operating = true ∨ s.phase = .safeBeacon false → 0 < s.cat.bgtest → ∃ t, exec .bgtestDue s = .next t ∧ t = State.withWork { s with bgReq := true } t) ∧
    (s.starting = false → s.pw.st = .run → s.serving = true →
      (∀ rows, s.bg = none → s.bgReq = true → exec (.bgSlice rows) s = .next (settle (bgHold bgFuel
        { s with bgReq := false, bg := some { ({ start := tlmono s } : BgPass) with left := rows } }))) ∧
      (∀ rows b, s.bg = some b → b.held = false →
        exec (.bgSlice rows) s = .next (settle (bgHold bgFuel { s with bg := some { b with left := rows } })))) ∧
    (∀ b, s.bg = some b → b.held = true →
      exec (.bgWindowRelease false) s = .next (settle (bgNext s)) ∧
      exec (.bgWindowRelease true) s = .next (settle (bgNext (bgFailed b.seg b.row s))) ∧
      exec .bgUrgentAccess s = .next (settle (bgAbort s))) ∧
    (∀ b, s.bg = some b → b.late = false → s.timed = true → exec .bgPassOverdue s = .next (settle
      (logEvent 0x0A04 [(bgRemaining b : Int)] { s.atTimer with bg := some { b with late := true } })))

/-- In operation, in a start, in safe-beacon or while EXTEST is current, an uncorrectable error in a powered segment sets
MEMSTAT.UE, counts in UECNT, puts the segment and the word into UESEG and UEADDR, logs 0x0A01 with both, and then has
the effect that R295 gives the segment (memoryError). (Work done at the end of the command is `settle`, whose frame
StandingWorkMovesOnlyItsParts states.)  Completes here: SRAM_UNCORRECTABLE. (R294, R295, R446) -/
def Obligations.MemoryErrorIsRecordedBeforeItsEffect : Prop :=
  ∀ (s : State) (seg : Fin 33) (a : BitVec 16) (p : Option Port),
    s.operating = true ∨ s.safe = true ∨ s.starting = true ∨ s.phase = .extest → segPowered seg.val s = true →
    exec (.sramUncorrectable seg a p) s = .next (settle (memoryError seg.val p
      (logEvent 0x0A01 [(seg.val : Int), (a.toNat : Int)] { s with
        r.mem.memstatUe := true, r.mem.uecnt := inc16 s.r.mem.uecnt
        r.mem.ueseg := BitVec.ofNat 8 seg.val, r.mem.ueaddr := a })))

/-- An operation of the Archive controller that ends well is followed by the next program operation of its record, or, an
erase or the last step of a record, takes its effect and leaves the controller (opDone); one that fails is tried once
more; a second failure retires its block where a spare is left, the operation completing there, and otherwise skips
the sector (opFailed). An erase of the Curator is suspended, counted in ARCSUSPCNT, when an accession program or a
Warden write is pending, and the controller takes that up. At a wake the Warden asks for an erase when its area has
too little erased space and a sector whose frames are all superseded. A commit that is programmed completes after its
sample, and the procedure that waits for it goes on. (Work done at the end of the command is `settle`, whose frame
StandingWorkMovesOnlyItsParts states.)  Completes here: ARCHIVE_OP_COMPLETE, ERASE_SUSPEND, SHADOW_COMMIT_COMPLETE,
WARDEN_AREA_ERASE. (R310, R312, R325, R327, R453, R486) -/
def Obligations.ArchiveOperationsCompleteAndAreSuspended : Prop :=
  ∀ (s : State) (smp : Sample),
    (∀ r, s.ar.run = some r →
      exec (.archiveOpComplete true) s = .next (settle (opDone s)) ∧
      (r.retried = false → exec (.archiveOpComplete false) s = .next (settle { s with ar.run := some { r with retried := true } })) ∧
      (r.retried = true → exec (.archiveOpComplete false) s = .next (settle (opFailed s))) ∧
      (r.job.erases = true → r.job ≠ .sealedSlot → opDone s = endOp r.owner (commitJob r.job { s with ar.run := none })) ∧
      (r.job.erases = false → r.job.plain = false → r.step = 0 → r.step ≤ r.ops → opDone s =
        nextStep { r with retried := false, step := 1, ops := bodyOps (begunJob r.job s).1 } (begunJob r.job s).2) ∧
      (r.job.erases = false → r.job.plain = false → r.ops < r.step → r.job ≠ .sealedSlot →
        opDone s = endOp r.owner (commitJob r.job { s with ar.run := none })) ∧
      (∀ c, runSector r s = some c → 0 < s.ar.spares → opFailed s = opDone (retireBlock (c / 16) s))) ∧
    (∀ r, s.ar.run = some r → r.job.erases = true → r.owner = .curator → accessionDue s = true →
      exec .eraseSuspend s = .next (settle (startOps { s with
        ar.run := none, ar.paused := s.ar.paused ++ [r], r.mem.arcsuspcnt := inc16 s.r.mem.arcsuspcnt }))) ∧
    (s.timed = true → wardenEraseDue (sample smp s.atTimer) = true → (wardenVictim (sample smp s.atTimer)).isSome = true →
      exec (.wardenAreaErase smp) s = .next (settle { sample smp s.atTimer with ar.eraseDue := true })) ∧
    (∀ c r, s.flt.proc = some ⟨c, .commit⟩ → s.ar.run = some r → r.job = .sealedSlot → exec (.shadowCommitComplete smp) s =
      .next (settle (procAfterCommit c { finishCommit (sample smp s) with cl.commit := none })))

/-- With its seat held in Run and no procedure under way, a temperature measurement whose discharges are all over is
evaluated over them and posted, and a pressure read is posted and ends its step with the supply of port MP3 off. The
Registrar in operation integrates the oldest slot; at the minute timeout it seals the minutes up to the present; a
disagreement of its two cores is logged with 0x0801, counted and recovered. A bin of availability closes while the AON
domain runs. (Work done at the end of the command is `settle`, whose frame StandingWorkMovesOnlyItsParts states.)
Completes here: AVAILABILITY_BIN_CLOSE, LOCKSTEP_DISAGREEMENT, MINUTE_SEAL_TIMEOUT, PRESSURE_READ,
REGISTRAR_INTEGRATE, TEMPERATURE_RESULT_POST. (R259, R260, R266, R268, R279, R284, R286) -/
def Obligations.MeasurementsAndIntegrationsArePosted : Prop :=
  ∀ (s : State),
    (∀ limits, measuringTemp s = true → s.flt.proc = none → s.pw.st = .run → nextDischarge s = none →
      exec (.temperatureResultPost limits) s = .next (settle
      (let ds := measured limits s
       let e := evalMeasure ds s.cat.t.avg s
       let thetas := e.2.2.filterMap (fun p => (p.2.bind (·.theta)).map (fun t => (p.1, t)))
       endTemperature (examineSwap (keepResult thetas (resultWords s.cat.t.avg e.2.1 thetas
         (tempEvents (s.r.tch.toList.map (fun w => w.tchstatFault.toNat)) (channelWords ds s.cat.t.avg s)))))))) ∧
    (∀ answer, readingPressure s = true → s.flt.proc = none → s.pw.st = .run → exec (.pressureRead answer) s = .next (settle
      (let u := postPressure (pressureReading answer s).1 (pressureReading answer s).2 s
       endStep 4 (domOff [.mod] { u with mp := vupd u.mp 3 (fun m => { m with vson := false }) })))) ∧
    (regRuns s = true → s.fl.slots ≠ [] → s.pw.st = .run → exec .registrarIntegrate s =
      .next (settle (integrateSlot { s with rg.lsHist := s.rg.lsHist.map (fun x => (x.1, 65536)) }))) ∧
    (regRuns s = true → s.timed = true → exec .minuteSealTimeout s = .next (settle (sealUpTo (civMin s.atTimer) s.atTimer))) ∧
    (regRuns s = true → s.pw.st = .run → exec .lockstepDisagreement s = .next (settle (regRecover
      (let u := logEvent 0x0801 [regSeq s] s; { u with r.rgr.lsmis := inc16 u.r.rgr.lsmis })))) ∧
    (s.aon = true → exec .availabilityBinClose s = .next (settle (closeBin s)))

/-- A frame whose seat is held starts (startFrame) when neither a frame is on air nor a receiver on, and is on the air
where it is none of an exchange or a beacon, VRES is 2.30 V or more, the XRF error is good or the frame cannot wait,
and its ledger permits it; at its end it is off the air with TXCNT one more, the transceiver goes back to its owner,
and what follows the frame is done (afterFrame). The first failure of the synthesizer to lock is noted, the second
abandons the use. A reply window that is due opens, with the receiver on where its seat is held and the transmitter is
free, and closes; an acknowledgement of EN 13757-4 in it closes it, leaves a strength and frequency error that its
command does not give (log 158), and counts in LEGACK when it is addressed to this device. A command of the sequencer
sends a held alarm frame at its time; a sequencer that waits takes the transceiver over with event 0x0B04. (Work done
at the end of the command is `settle`, whose frame StandingWorkMovesOnlyItsParts states.)  Completes here:
EN13757_ACK_RECEIVED, REPLY_WINDOW_CLOSE, REPLY_WINDOW_OPEN, SEQUENCER_COMMAND, SEQUENCER_TAKEOVER,
SYNTH_LOCK_TIMEOUT, TRANSMISSION_END, TRANSMISSION_START. (R335, R338, R344, R345, R346, R349, R392, R457) -/
def Obligations.RadioCommandsComplete : Prop :=
  ∀ (s : State) (smp : Sample),
    (∀ f, s.pw.st ≠ .run → s.rad.air = none → s.ln.rxSince = none → frameToSend s = some f →
      exec .transmissionStart s = .next (settle (startFrame f s))) ∧
    (∀ f, s.pw.st = .run → s.pw.target = none → (requestsTogether pumpTx s).rad.air = none → (requestsTogether pumpTx s).ln.rxSince = none →
      frameToSend (requestsTogether pumpTx s) = some f → exec .transmissionStart s = .next (settle (startFrame f (requestsTogether pumpTx s)))) ∧
    (∀ f, s.pw.st ≠ .run → s.rad.air = none → s.ln.rxSince = none → frameToSend s = some f → f.use.exchange = false → f.use ≠ .beacon →
      2300 ≤ vres s → f.use.deferrable = false ∨ xrfGood s = true →
      permittedAt (frameCode f s) (frameChannel f s) f.airtime s ≤ s.tl.monoUs →
      ∃ t, exec .transmissionStart s = .next t ∧ t.rad.air = some f) ∧
    (∀ f, s.rad.air = some f → exec (.transmissionEnd smp) s = .next (settle (afterFrame f (frameHz f s) (frameChan f s).1
      (let u := sample smp s
       { u with
         rad.air := none, rad.ctl0 := false, rad.mode := if f.use.sequencer then .off else .idle
         rad.owner := if f.use.sequencer then .none else if f.use.exchange then .link else .none
         r.rf.txcnt := inc16 u.r.rf.txcnt, r.rf.rfstatLock := false
         ln.qlink := if f.use.sequencer || !u.ln.member then u.ln.qlink else u.ln.qlink + txCharge f u })))) ∧
    (∀ f, s.rad.air = none → frameToSend s = some f →
      let hz := if s.ln.rxSince.isSome then s.r.rf.rffreq.toNat else frameHz f s
      let u := { s with r.rf.rfstatLock := false, rad.synTemp := dieTemp s, rad.synBand := bandOf hz }
      (s.rad.synFails = 0 → exec .synthLockTimeout s = .next { u with rad.synFails := 1 }) ∧
      (s.rad.synFails ≠ 0 → exec .synthLockTimeout s = .next (settle (abandonUse u)))) ∧
    (s.rad.replyDue = true → s.timed = true → exec .replyWindowOpen s = .next (settle
      (openWindow .reply 1000 (replyTuning s.atTimer)
        (receiverOff { s.atTimer with rad.replyDue := false, ln.listenDue := none, ln.listening := false })))) ∧
    (∀ u, s.rad.replyDue = true → s.timed = true →
      u = receiverOff { s.atTimer with rad.replyDue := false, ln.listenDue := none, ln.listening := false } →
      2000 ≤ vres u → holds 3 u = true → transmitterBusy (relabel .reply u) = false →
      exec .replyWindowOpen s = .next (settle (receiverOn (replyTuning s.atTimer) (relabel .reply u)))) ∧
    (receiving .reply s = true →
      exec .replyWindowClose s = .next (settle (closeWindow s)) ∧
      ∀ fr, exec (.en13757AckReceived fr) s = .next (settle (closeWindow { measureOpen s with
        r.rf.rxcnt := inc16 s.r.rf.rxcnt
        r.lnk.legack := if fr.take 1 == [0x00] &&
            slice fr 3 6 == leBytes 4 (enIdent s).idnum ++ leBytes 1 (enIdent s).version ++ leBytes 1 (enIdent s).devtype
          then inc16 s.r.lnk.legack else s.r.lnk.legack }))) ∧
    (s.phase = .operating ∨ s.phase = .safeBeacon false ∨ s.phase = .safeBeacon true →
      let u := pumpSequencer (sample smp s)
      (u.flt.alarmHeld = none → exec (.sequencerCommand smp) s = .next (settle u)) ∧
      (∀ c d f, u.flt.alarmHeld = some c → u.flt.alarmDue = some d → u.flt.alarm = some f → radioSilent u = false → d ≤ u.now →
        exec (.sequencerCommand smp) s = .next (settle (sequencerSend (alarmTx u) { u with flt.alarmDue := none, flt.alarmCause := c })))) ∧
    (∀ d f, s.rad.seqCmd = some (d, f) → exec .sequencerTakeover s = .next (settle (sequencerSend f
      { logEvent 0x0B04 [((max 2000 ((s.now - d) / 1000) : Nat) : Int)] (resetLink s) with rad.linkRestart := true })))

/-- At a superframe boundary of a timed endpoint or parent the frame number is one more and the next boundary is one
superframe later. A beacon window that starts turns the receiver on, where its seat is held and the transmitter is
free, on the tuning of the frame it waits for; a beacon of the own cluster in an open window is accepted; one that
closes without a beacon counts, and the third in a row logs 0x0C01 and begins a search. A due upload starts an
exchange with a poll in the own slot when the beacon was heard and the slot lies ahead, and is owed to the next beacon
when it was not heard, an upload owed from before having failed; a due join starts one in the open slot, with the
reserve score before TELDAY; an acknowledgement that names the counter of the exchange ends it by its status, and a
window without one sends the same frame again, counted, until the tries or the slot end. A search that ends, one that
is due again, and a fallback telegram that is due run their work. (Work done at the end of the command is `settle`,
whose frame StandingWorkMovesOnlyItsParts states.)  Completes here: ACK, ACK_WINDOW_CLOSE, ACK_WINDOW_OPEN, BEACON,
BEACON_WINDOW_CLOSE, BEACON_WINDOW_OPEN, FALLBACK_TELEGRAM_DUE, JOIN_SEND, SEARCH_END, SEARCH_RETRY_DUE,
SUPERFRAME_BOUNDARY, UPLOAD_DUE. (R367, R368, R369, R370, R371, R372, R373, R374, R375, R376, R377, R380) -/
def Obligations.EndpointAndBeaconCommandsComplete : Prop :=
  ∀ (s : State) (smp : Sample), s.timed = true →
    (∀ b, s.ln.boundary = some b → s.ln.role = .parent ∨ s.ln.role = .endpoint →
      exec (.superframeBoundary smp) s = .next (settle (nextSuperframe b smp s.atTimer))) ∧
    (∀ w, linkUp s = true → openingWindow s = some w → exec .beaconWindowOpen s = .next (settle (openBeacon w s.atTimer))) ∧
    (∀ w u, linkUp s = true → openingWindow s = some w →
      u = { s.atTimer with r.lnk.guard := (w.guard.map (fun g => BitVec.ofNat 16 (min g 65535))).getD s.atTimer.r.lnk.guard, ln.asked := some w.boundary } →
      2000 ≤ vres u → holds 3 u = true → transmitterBusy (relabel (windowUse u) u) = false →
      exec .beaconWindowOpen s = .next (settle (receiverOn w.tuning (relabel (windowUse u) u)))) ∧
    (∀ f x u, receiving .beacon s = true → receive f s = (.deliver x, u) → x.typ = 1 → x.kind = 0 → x.body.length = 33 →
      u32 x.body 4 = u.cat.link.clusterid → exec (.beacon f) s = .next (settle (acceptBeacon x (psduTime 0 f.psdu u) u))) ∧
    (receiving .search s = true → s.ln.search ≠ some .blind → exec .beaconWindowClose s = .next (settle (closeWindow s))) ∧
    (receiving .search s = false → receiving .beacon s = true →
      let n := s.r.lnk.missrun.toNat + 1
      let u := closeWindow { s with r.lnk.bcnmiss := inc16 s.r.lnk.bcnmiss, r.lnk.missrun := BitVec.ofNat 16 (min n 3) }
      (n < 3 → exec .beaconWindowClose s = .next (settle u)) ∧
      (3 ≤ n → exec .beaconWindowClose s = .next (settle (beginSearch (logEvent 0x0C01 (w32 u.r.lnk.parentid.toNat) u))))) ∧
    (s.ln.role = .endpoint → s.ln.member = true → s.ln.sync = .synced →
      ∀ k c, let u := onlyIf (sample smp s.atTimer).ln.owed uploadFailed (sample smp s.atTimer)
        (u.ln.gotBeacon = some (sfnNow u) → u.ln.exch = none → ownSlotAhead u = true →
          pairKey u.r.lnk.parentid.toNat u = some k → clusterKey u = some c →
          exec (.uploadDue smp) s = .next (settle
            (let kind := if u.cat.link.telday = 0 then 2 else 1
             let (p, ctr, v) := secureFrame 2 true false k u.r.lnk.parentid.toNat (pollPayload kind 0 u) u
             startExchange .poll p ctr (v.ln.boundary.getD v.now) (2 + v.ln.index) 0 { v with ln.owed := false }))) ∧
        (u.ln.gotBeacon ≠ some (sfnNow u) → exec (.uploadDue smp) s = .next (settle { u with ln.owed := true }))) ∧
    (s.ln.role = .endpoint → s.ln.member = false → s.ln.sync = .synced → s.ln.exch = none →
      ∀ b k, let u := sample smp s.atTimer
        clusterKey u = some k → u.ln.boundary = some b →
        exec (.joinSend smp) s = .next (settle
          (let v := (drawK u).2
           let (p, ctr, w) := secureFrame 4 true false k v.r.lnk.parentid.toNat (leBytes 2 (reserveScore v) ++ leBytes 2 v.cat.link.telday) v
           startExchange .join p ctr b 1 ((drawK u).1 * 1000) w))) ∧
    (∀ p c, awaited s = some (p, c) → s.rad.air = none → s.ln.ackOpen = false → s.rad.queue.any (fun f => f.bytes == p) = false →
      exec .ackWindowOpen s = .next (settle
        (let u := openWindow .ack (400 + tSfd s.cat.radio.band + baseTime 6 s) (channelTuning s.r.rf.rfchanNum.toNat 0 s) s
         { u with ln.ackOpen := u.ln.rxSince.isSome || u.ln.rxWait.isSome }))) ∧
    (∀ f x u p c e, s.ln.ackOpen = true → s.ln.rxSince.isSome = true → receive f s = (.deliver x, u) → awaited u = some (p, c) →
      x.typ = 3 → u32 x.body 0 = c → (if x.src = u.r.lnk.parentid.toNat then contact u else u).ln.exch = some e →
      exec (.ack f) s = .next (settle (exchangeAcked e (u8 x.body 4) (u8 x.body 5)
        (if x.src = u.r.lnk.parentid.toNat then contact u else u)))) ∧
    (s.ln.ackOpen = true → (receiverOff { s with ln.ackOpen := false }).ln.exch = none →
      (receiverOff { s with ln.ackOpen := false }).ln.ho.st = .transferring →
      exec .ackWindowClose s = .next (settle (sendHandover (receiverOff { s with ln.ackOpen := false })))) ∧
    (∀ k, s.ln.search = some k → exec .searchEnd s = .next (settle (searchLost k (closeWindow s.atTimer)))) ∧
    (s.ln.role = .endpoint → s.ln.sync = .fallback → s.ln.search = none → s.rad.unavailable = false →
      exec .searchRetryDue s = .next (settle (beginSearch s.atTimer))) ∧
    (s.ln.role = .endpoint → s.ln.sync = .fallback → s.rad.unavailable = false →
      exec (.fallbackTelegramDue smp) s = .next (settle
        (let v := (telegram .fallback none (sample smp s.atTimer)).2
         queueTx (telegram .fallback none (sample smp s.atTimer)).1
           { v with ln.nextFallback := some (v.now + v.cat.link.legint * 60000000) })))

/-- In a timed device: a parent in step ends the slot it serves, queues its secured beacon for the next frame with its
seat, and the listen seat where it listens; a poll or a join delivered in the slot that is served is accepted; a poll
slot that ends closes (endSlot), and one with a due upload that was never served counts in UPMISS; a member is removed
with 0x0C14; the marks are copied; a deputy that is to take over becomes a parent with 0x0C09. The parent announces
the best member as successor for a later frame, starts the transfer, and at its end goes on or keeps the role; the
successor copies the marks and has completed when it got the last frame, and at the fourth frame after the hand-over
it keeps still when it hears the other beacon. (Work done at the end of the command is `settle`, whose frame
StandingWorkMovesOnlyItsParts states.)  Completes here: BEACON_REQUEST, DEPUTY_PROMOTION, HANDOVER, HANDOVER_CHOICE,
HANDOVER_H4_CHECK, HANDOVER_TRANSFER_END, HANDOVER_TRANSFER_START, JOIN, MARKS_COPY, MEMBER_REMOVAL, POLL,
POLL_SLOT_END. (R366, R369, R372, R374, R380, R381, R382, R383, R384, R385, R386) -/
def Obligations.ParentAndHandoverCommandsComplete : Prop :=
  ∀ (s : State) (smp : Sample), s.timed = true →
    (∀ b0 k, s.ln.boundary = some b0 → s.ln.role = .parent → s.ln.search = none → s.rad.unavailable = false →
      let u := endServedSlot (sample smp s.atTimer)
      clusterKey u = some k →
      exec (.beaconRequest smp) s = .next (settle
        (let b := b0 + superframe
         let (p, _, v) := secureFrame 1 false false k broadcast (beaconPayload b u) u
         let f : TxFrame := { use := .beacon, channel := some (slalom (sfnNow v + 1) v), rate := 0
                              airtime := psduTime 0 p v + ramps, deadline := some (b - 400), bytes := p }
         requestsTogether (fun w => postSeat 7 (txClass w) f.airtime f.deadline (.transmit .beacon)
             (onlyIf (listens w) (postSeat 3 100 1800 (some (b - 400)) (.receive .listen)) w))
           (queueTx f { v with rad.owner := .link })))) ∧
    (∀ f x u, actsAsParent s = true → inSlot f (followReceiver s) = true → receive f (followReceiver s) = (.deliver x, u) →
      (x.typ = 2 → exec (.poll f) s = .next (settle (acceptPoll x u))) ∧
      (x.typ = 4 → exec (.join f) s = .next (settle (acceptJoin x u)))) ∧
    (actsAsParent s = true →
      (∀ x, (followReceiver s).ln.slot = some x → x.number ≠ 1 → exec .pollSlotEnd s = .next (settle (endSlot x (followReceiver s)))) ∧
      (∀ n, (followReceiver s).ln.slot = none → unservedSlot (followReceiver s) = some n → exec .pollSlotEnd s =
        .next (settle { followReceiver s with ln.asked := some n, r.lnk.upmiss := inc16 (followReceiver s).r.lnk.upmiss })) ∧
      (∀ (i : Fin 64) m, s.ln.members.find? (fun m => m.index == i.val && m.id != linkId) = some m →
        exec (.memberRemoval i) s = .next (settle (logEvent 0x0C14 (w32 m.id)
          { s.atTimer with ln.members := s.atTimer.ln.members.filter (fun x => x.id != m.id) }))) ∧
      (s.ln.ho.st = .idle → s.ln.ho.leaving = false →
        ∀ m b, bestMember s.atTimer = some m → s.atTimer.ln.boundary = some b → reserveScore s.atTimer ≤ m.rs →
          exec .handoverChoice s = .next (settle
            (let u := s.atTimer
             let h := (sfnNow u + ceilDiv (u.now + 300000000 - b) superframe + 7) / 8 * 8
             { u with ln.ho := { st := .announced, succ := m.id, h }
                      r.lnk.hosucc := BitVec.ofNat 32 m.id, r.lnk.hosfn := BitVec.ofNat 32 h }))) ∧
      (s.ln.ho.st = .announced → exec .handoverTransferStart s = .next (settle (sendHandover
        { s.atTimer with ln.ho.st := .transferring, ln.ho.frames := handoverFrames s.atTimer, ln.ho.k := 0 })))) ∧
    (s.ln.ho.st = .transferring → exec .handoverTransferEnd s = .next (settle
      (if s.atTimer.ln.role == .parent then transferEnd s.atTimer
       else
         let u := closeWindow (copyMarks s.atTimer)
         if u.ln.ho.gotEnd then { u with ln.ho.st := .completed } else { u with ln.ho := { st := .abandoned }, ln.members := [] }))) ∧
    (s.ln.role ≠ .parent → s.ln.ho.gotEnd = true → exec .handoverH4Check s = .next (settle
      (let u := closeWindow { s.atTimer with ln.ho := { st := .idle } }
       if s.atTimer.ln.gotBeacon == some (s.atTimer.ln.ho.h + 4) then { u with ln.members := [] } else becomeParent 2 u))) ∧
    (∀ f x u, linkUp s = true → receiving .transfer (followReceiver s) = true →
      heardWhole (psduTime 1 f.psdu (followReceiver s)) (followReceiver s) = true → receive f (followReceiver s) = (.deliver x, u) →
      x.typ = 5 → exec (.handover f) s = .next (settle (acceptHandover x u))) ∧
    exec .marksCopy s = .next (settle (copyMarks s.atTimer)) ∧
    (s.ln.promote = true → exec .deputyPromotion s = .next (settle (becomeParent 3 (logEvent 0x0C09
      (w32 s.atTimer.r.lnk.parentid.toNat) { s.atTimer with ln.promote := false, ln.members := [] }))))

/-- A listen window that is due is opened and tuned or its seat goes back (openListen), and closes, its seat kept for a
reply window that follows; a wake word for this device ends listening with the window and the reply window that would
follow, counts in WAKEDET and makes a HELLO due; the HELLO opens a session with a fresh challenge and counts it. Each
of the seven session requests, delivered under a reader key with the challenge of the session, is answered. A session
that times out closes with its cause; a reader gives up its run. A reader that hears a frame while it has no run and
has not read its source lately takes it up and queues the wake pattern, and goes on when the HELLO or a response is
delivered. A legacy telegram that is due is queued. (Work done at the end of the command is `settle`, whose frame
StandingWorkMovesOnlyItsParts states.)  Completes here: LEGACY_TELEGRAM_DUE, LISTEN_WINDOW_CLOSE, LISTEN_WINDOW_OPEN,
READER_FRAME_HEARD, READER_SESSION_RESPONSE, SESSION_ACKSTORE, SESSION_CLOSE, SESSION_HELLO, SESSION_READEVT,
SESSION_READMAP, SESSION_READPROF, SESSION_READSTORE, SESSION_TIME, SESSION_TIMEOUT, WAKE_WORD. (R360, R362, R387,
R388, R389, R390, R391, R392) -/
def Obligations.ReaderSessionCommandsComplete : Prop :=
  ∀ (s : State) (smp : Sample),
    (∀ hz num, s.ln.listenDue = some (hz, num) → s.ln.rxSince = none → s.timed = true →
      exec .listenWindowOpen s = .next (settle (openListen hz num s.atTimer))) ∧
    (s.ln.listening = true →
      (s.rad.replyDue = false → exec .listenWindowClose s = .next (settle (closeWindow { s with ln.listening := false }))) ∧
      (s.rad.replyDue = true → exec .listenWindowClose s = .next (settle (receiverOff { s with ln.listening := false })))) ∧
    (∀ w, s.ln.listening = true → s.ln.session = none → wakeFor w = true → exec (.wakeWord w) s = .next (settle
      (closeWindow { s with ln.listening := false, ln.helloDue := true, rad.replyDue := false, r.lnk.wakedet := inc16 s.r.lnk.wakedet }))) ∧
    (∀ k, s.ln.helloDue = true → linkUp s = true →
      let u := sample smp { s with ln.helloDue := false }
      readerKey u = some k →
      exec (.sessionHello smp) s = .next (settle
        (let (v, w) := draw u
         let (p, _, x) := secureFrame 6 false false k broadcast (helloPayload (leBytes 4 v) w) w
         sendSession .hello w.r.rf.rfchanNum.toNat 0 0 p { x with
           ln.session := some { challenge := leBytes 4 v, opened := x.now, c0 := w.r.rf.rfchanNum.toNat }
           r.lnk.sessions := inc16 x.r.lnk.sessions }))) ∧
    (∀ f x y k u, s.ln.session = some x → receiving .reader s = true → linkUp s = true → receive f s = (.deliver y, u) →
      loadedKey y.kind y.keyid u = some k → y.typ = 6 → y.kind = 2 → y.body.take 4 = x.challenge → 5 ≤ y.body.length →
      exec (.sessionReadmap f) s = .next (settle (answerRequest y k u)) ∧
      exec (.sessionReadprof f) s = .next (settle (answerRequest y k u)) ∧
      exec (.sessionReadevt f) s = .next (settle (answerRequest y k u)) ∧
      exec (.sessionReadstore f) s = .next (settle (answerRequest y k u)) ∧
      exec (.sessionAckstore f) s = .next (settle (answerRequest y k u)) ∧
      exec (.sessionTime f) s = .next (settle (answerRequest y k u)) ∧
      exec (.sessionClose f) s = .next (settle (answerRequest y k u))) ∧
    (∀ x, s.ln.session = some x → exec .sessionTimeout s =
      .next (settle (closeSession (if x.opened + 120000000 ≤ s.now then 3 else 2) s))) ∧
    (∀ x, s.ln.session = none → s.ln.run = some x → exec .sessionTimeout s = .next (settle { s with ln.run := none })) ∧
    (s.ln.role = .reader → receiving .reader s = true → linkUp s = true →
      (∀ src f, f.good = true → s.ln.run = none →
        let u := { s with r.rf.rxcnt := inc16 s.r.rf.rxcnt, r.rf.rfrssi := satI 16 f.rssi, r.rf.rffei := satI 16 f.fei }
        readLately src u = false →
        exec (.readerFrameHeard (some src) f) s = .next (settle
          (let c0 := s.r.rf.rfchanNum.toNat
           queueTx { use := .wake, channel := if c0 = 0xFF then none else some c0, rate := 2, airtime := 60000 + ramps
                     deadline := some (u.now + 1000), bytes := wakePattern src }
             (receiverOff { u with ln.run := some { meter := src, c0 } })))) ∧
      (∀ f x y z k u, s.ln.run = some x → receive f s = (.deliver y, u) → loadedKey y.kind y.keyid u = some k → y.typ = 6 → y.kind = 2 →
        (x.challenge = [] → helloRun x y = some z →
          exec (.readerSessionResponse f) s = .next (settle (readerNext z k y.ctr [] u))) ∧
        (x.challenge ≠ [] → y.src = x.meter → 2 ≤ y.body.length →
          exec (.readerSessionResponse f) s = .next (settle
            (readerNext { x with k := x.k + 1 } k y.ctr (if u8 y.body 1 = 0 then y.body.drop 2 else []) u))))) ∧
    (s.timed = true → s.ln.role = .legacy → s.cat.link.telday ≠ 0 → s.rad.unavailable = false →
      exec (.legacyTelegramDue smp) s = .next (settle (queueTx (telegram .legacy none (sample smp s.atTimer)).1
        (telegram .legacy none (sample smp s.atTimer)).2)))

/-- With VDDIO present and the AON domain running: while the Curator serves, READ shifts out the status byte and the
words, high byte first, of the reads one after the other; WRITE writes its words where the port may write; REQUEST
executes a whole frame when no response is unread and else counts in HSTERR; RESPONSE shifts out the last response
padded with 0x00 and marks it read; WAKE does nothing; an unlisted opcode counts in HSTERR. Each ends with HST_CS
high. While the Curator does not serve, nothing is shifted out and HSTNRDY counts (a device in Run whose Curator is
off asks for its service seat first, serveRequest, log 78, which changes nothing while it serves). (Work done at the
end of the command is `settle`, whose frame StandingWorkMovesOnlyItsParts states.)  Completes here:
HOST_UNLISTED_OPCODE, READ, REQUEST, RESPONSE, WAKE, WRITE. (R417, R418, R419, R420, R421, R43) -/
def Obligations.HostTransactionsAreServedOrCounted : Prop :=
  ∀ (s : State), s.io.vddio = true → s.aon = true →
    (s.serving = true →
      (∀ (addr : Word) (n : Nat), exec (.read addr n) s = .next (settle { (readWords (some .host) n addr.toNat s).2 with
        io.cs := false, pw.choose := true
        sv.miso := leBytes 1 (statusByte s) ++ hostWords (readWords (some .host) n addr.toNat s).1 })) ∧
      (∀ (addr : Word) ws, portWrites .host s = true → exec (.write addr ws) s = .next (settle
        { writeWords .host addr.toNat ws s with io.cs := false, pw.choose := true, sv.miso := leBytes 1 (statusByte s) ++ [] })) ∧
      (∀ f code tag d, s.sv.unread = false → parseRequest f = some (code, tag, d) → exec (.request f) s = .next (settle
        { executeRequest .host code tag d s with io.cs := false, pw.choose := true, sv.miso := leBytes 1 (statusByte s) ++ [] })) ∧
      (∀ f, s.sv.unread = true → exec (.request f) s = .next (settle
        { s with r.io.hsterr := inc16 s.r.io.hsterr, io.cs := false, pw.choose := true, sv.miso := leBytes 1 (statusByte s) ++ [] })) ∧
      (∀ n, exec (.response n) s = .next (settle { s with
        sv.unread := false, io.cs := false, pw.choose := true
        sv.miso := leBytes 1 (statusByte s) ++ (s.sv.hst.resp ++ List.replicate n 0).take n })) ∧
      exec .wake s = .next (settle
        { s with io.cs := false, pw.choose := true, sv.miso := leBytes 1 (statusByte s) ++ [] }) ∧
      (∀ op : Byte, op ≠ 0x03 → op ≠ 0x02 → op ≠ 0x5C → op ≠ 0x5D → op ≠ 0xA5 → exec (.hostUnlistedOpcode op) s = .next (settle
        { s with r.io.hsterr := inc16 s.r.io.hsterr, io.cs := false, pw.choose := true, sv.miso := leBytes 1 (statusByte s) ++ [] }))) ∧
    ((serveRequest s).serving = false → ∀ (addr : Word) (n : Nat) ws f,
      let u := serveRequest s
      let t : State := { u with r.io.hstnrdy := inc16 u.r.io.hstnrdy, io.cs := false, pw.choose := true, sv.miso := [] }
      exec (.read addr n) s = .next (settle t) ∧ exec (.write addr ws) s = .next (settle t) ∧
      exec (.request f) s = .next (settle t) ∧ exec (.response n) s = .next (settle t) ∧ exec .wake s = .next (settle t))

/-- For every port, tag and data, each Ohmueri command runs as the request with its code of Table 16.3. On the optical
port, while the Curator serves, a frame of legal length is executed. On the host port, in a served transaction with no
response unread, it is executed and the status byte shifted out; with one unread it is discarded and counted in
HSTERR. (Work done at the end of the command is `settle`, whose frame StandingWorkMovesOnlyItsParts states.)
Completes here: ACKSTORE, AUTH, BAUD, BGTEST, CLOSE, HELLO, LEARN, PATCHCLOSE, PATCHDATA, PATCHOPEN, POWER, READEVT,
READMAP, READPROF, READSNAP, READSTORE, RELOAD, SLOTCLOSE, SLOTDATA, SLOTOPEN, STATQ, TIMESET, WRITEMAP. (R426, R427,
R420, R430, R431) -/
def Obligations.OhmueriCommandsReachTheirPort : Prop :=
  ∀ (p : Port) (tag : Byte) (d : List Byte) (s : State),
    exec (.hello p tag d) s = .next (settle (ohmueri p 0x01 tag d s)) ∧
    exec (.baud p tag d) s = .next (settle (ohmueri p 0x02 tag d s)) ∧
    exec (.auth p tag d) s = .next (settle (ohmueri p 0x03 tag d s)) ∧
    exec (.close p tag d) s = .next (settle (ohmueri p 0x04 tag d s)) ∧
    exec (.statq p tag d) s = .next (settle (ohmueri p 0x05 tag d s)) ∧
    exec (.readmap p tag d) s = .next (settle (ohmueri p 0x10 tag d s)) ∧
    exec (.writemap p tag d) s = .next (settle (ohmueri p 0x11 tag d s)) ∧
    exec (.readprof p tag d) s = .next (settle (ohmueri p 0x12 tag d s)) ∧
    exec (.readevt p tag d) s = .next (settle (ohmueri p 0x13 tag d s)) ∧
    exec (.readstore p tag d) s = .next (settle (ohmueri p 0x14 tag d s)) ∧
    exec (.ackstore p tag d) s = .next (settle (ohmueri p 0x15 tag d s)) ∧
    exec (.readsnap p tag d) s = .next (settle (ohmueri p 0x16 tag d s)) ∧
    exec (.timeset p tag d) s = .next (settle (ohmueri p 0x20 tag d s)) ∧
    exec (.learn p tag d) s = .next (settle (ohmueri p 0x21 tag d s)) ∧
    exec (.bgtest p tag d) s = .next (settle (ohmueri p 0x22 tag d s)) ∧
    exec (.power p tag d) s = .next (settle (ohmueri p 0x23 tag d s)) ∧
    exec (.slotopen p tag d) s = .next (settle (ohmueri p 0x30 tag d s)) ∧
    exec (.slotdata p tag d) s = .next (settle (ohmueri p 0x31 tag d s)) ∧
    exec (.slotclose p tag d) s = .next (settle (ohmueri p 0x32 tag d s)) ∧
    exec (.reload p tag d) s = .next (settle (ohmueri p 0x33 tag d s)) ∧
    exec (.patchopen p tag d) s = .next (settle (ohmueri p 0x38 tag d s)) ∧
    exec (.patchdata p tag d) s = .next (settle (ohmueri p 0x39 tag d s)) ∧
    exec (.patchclose p tag d) s = .next (settle (ohmueri p 0x3A tag d s)) ∧
    ∀ code, d.length ≤ 248 → s.aon = true → s.serving = true →
      ohmueri .optical code tag d s = executeRequest .optical code tag d s ∧
      (s.io.vddio = true → s.sv.unread = false → ohmueri .host code tag d s =
        { executeRequest .host code tag d s with io.cs := false, pw.choose := true, sv.miso := leBytes 1 (statusByte s) ++ [] }) ∧
      (s.io.vddio = true → s.sv.unread = true → ohmueri .host code tag d s =
        { s with r.io.hsterr := inc16 s.r.io.hsterr, io.cs := false, pw.choose := true, sv.miso := leBytes 1 (statusByte s) ++ [] })

/-- A request that repeats tag and body of the previous one on the port sends the stored response again and executes
nothing: only the time of the last request and the output of the response move. Any other request is answered: where
the port, the session, the level or the state turn it away (refusal, never 0 for a command of level S outside service
mode in operation: there it is 0x03), with that status and no effect; else its command runs and the answer carries its
status and data. The answer is stored for a repeat. (R426, R427, R431) -/
def Obligations.RequestIsExecutedOnceAndAtItsLevel : Prop :=
  ∀ (p : Port) (code : Nat) (tag : Byte) (d : List Byte) (s : State),
    let u := updSes p (fun x => { x with last := s.now }) s
    ((s.sv.ses p).req = some (tag :: leBytes 1 code ++ d) →
      executeRequest p code tag d s = sendResponse p (s.sv.ses p).resp u) ∧
    ((s.sv.ses p).req ≠ some (tag :: leBytes 1 code ++ d) →
      (refusal p code d u ≠ 0 → executeRequest p code tag d s =
        (let frame := answerFrame code tag (leBytes 1 (refusal p code d u) ++ [])
         sendResponse p frame (updSes p (fun x => { x with req := some (tag :: leBytes 1 code ++ d), resp := frame }) u))) ∧
      (refusal p code d u = 0 → executeRequest p code tag d s =
        (let r := command p code d u
         let frame := answerFrame code tag (leBytes 1 r.1 ++ r.2.1)
         sendResponse p frame (updSes p (fun x => { x with req := some (tag :: leBytes 1 code ++ d), resp := frame }) r.2.2)))) ∧
    (s.phase = .operating → (s.sv.ses p).open_ = false → code ≠ 0x01 → ∀ l, commandLevel code = some l → refusal p code d s = 3) ∧
    (s.phase = .operating → (s.sv.ses p).open_ = true → (s.sv.ses p).service = false → commandLevel code = some 3 →
      refusal p code d s = 3) ∧
    (s.phase = .operating → commandLevel code = none → refusal p code d s = 4)

/-- A register write from a port that may write is one word written by its access code. The optical rate that waits is
taken; a lockout that ends is over; an open session that times out ends with cause 2. A pending command completes with
status 0 and HIRQ.RSP set, its writes kept while its port holds service mode. A reload that waits seals at its
interval boundary and then switches to the image once the seal is committed. An optical frame with a gap, or one that
its check discards, counts in IRERR. (Work done at the end of the command is `settle`, whose frame
StandingWorkMovesOnlyItsParts states.)  Completes here: AUTH_LOCKOUT_END, BAUD_SWITCH, OHMUERI_FRAME_DISCARD,
OHMUERI_SESSION_TIMEOUT, PENDING_COMMAND_COMPLETE, REGISTER_WRITE, RELOAD_COMMIT_DONE, RELOAD_SWITCH. (R7, R76, R78,
R426, R427, R428, R430) -/
def Obligations.PortSideCommandsComplete : Prop :=
  ∀ (s : State),
    (∀ p (a v : Word), portWrites p s = true → exec (.registerWrite p a v) s = .next (settle (writeWord p a.toNat v s))) ∧
    (∀ b, s.sv.baudNext = some b → ∃ t, exec .baudSwitch s = .next t ∧
      t = State.withWork { s with sv.baud := BitVec.ofNat 2 b, sv.baudNext := none } t) ∧
    (∃ t, exec (.authLockoutEnd .optical) s = .next t ∧ t = State.withWork { s with sv.opt.lockUntil := none } t) ∧
    (∃ t, exec (.authLockoutEnd .host) s = .next t ∧ t = State.withWork { s with sv.hst.lockUntil := none } t) ∧
    (∀ p, (s.sv.ses p).open_ = true → exec (.ohmueriSessionTimeout p) s = .next (settle (endSession p 2 s))) ∧
    (∀ rep p, pendingRuns s = true → s.serving = true → s.operating = true ∨ s.safe = true →
      (s.sv.pendCmd = 0x38 ∨ s.sv.pendCmd = 0x3A → bankBusy s = false) → s.sv.pendPort = some p →
      let t := pendingWork rep { s with sv.pendStatus := 0, r.io.hirqRsp := true }
      (t.sv.pendPort = some p → t.service p = true → exec (.pendingCommandComplete rep) s = .next (settle t)) ∧
      (t.sv.pendPort = some p → t.service p = false →
        exec (.pendingCommandComplete rep) s = .next (settle { t with sv.slotW := none, sv.patchW := none }))) ∧
    (∀ x, s.sv.reload = some x → s.operating = true → s.serving = true →
      (x.sealing = false → copyWritten x s = true → atIntervalBoundary s = true → s.rg.stopped = false →
        exec .reloadSwitch s = .next (settle (sealSwitch x s))) ∧
      (x.sealing = true → switchCommitted s = true → s.ps.run = none →
        exec .reloadCommitDone s = .next (settle (switchImage x s)))) ∧
    (∀ f gap, s.aon = true → s.serving = true → gap = true ∨ parseRequest f = none → ∃ t,
      exec (.ohmueriFrameDiscard f gap) s = .next t ∧ t = State.withWork { s with r.io.irerr := inc16 s.r.io.irerr } t)

/-- A word written to an address other than the W1C, WO and RW words of the map changes nothing. Outside service mode a
write to an RW word, or of PWRCMD, changes nothing. To MEMSTAT, HIRQ and FLTSTAT a bit written as 1 is clear
afterwards and a bit written as 0 is as before; nothing else moves, in service mode or not. (R5, R7, R302, R420) -/
def Obligations.WritesFollowTheAccessCodes : Prop :=
  ∀ (p : Port) (a : Nat) (v : Word) (s : State),
    (a ∉ [0x0101, 0x0222, 0x0310, 0x0A00, 0x0A01, 0x0A0E, 0x0F00, 0x1000] → writeWord p a v s = s) ∧
    (a ∈ [0x0101, 0x0222, 0x0310] → s.service p = false → writeWord p a v s = s) ∧
    writeWord p 0x0A00 v s = { s with
      r.mem.memstatUe := s.r.mem.memstatUe && !v.getLsbD 15
      r.mem.memstatXcol := s.r.mem.memstatXcol && !v.getLsbD 14
      r.mem.memstatBgfail := s.r.mem.memstatBgfail && !v.getLsbD 13 } ∧
    writeWord p 0x0F00 v s = { s with
      r.io.hirqRsp := s.r.io.hirqRsp && !v.getLsbD 15
      r.io.hirqFres := s.r.io.hirqFres && !v.getLsbD 14
      r.io.hirqTres := s.r.io.hirqTres && !v.getLsbD 13
      r.io.hirqSbchg := s.r.io.hirqSbchg && !v.getLsbD 12
      r.io.hirqStart := s.r.io.hirqStart && !v.getLsbD 11
      r.io.hirqAlarm := s.r.io.hirqAlarm && !v.getLsbD 10
      r.io.hirqStore := s.r.io.hirqStore && !v.getLsbD 9 } ∧
    writeWord p 0x1000 v s = { s with
      r.flt.fltstatTamper := s.r.flt.fltstatTamper && !v.getLsbD 15
      r.flt.fltstatAlarm := s.r.flt.fltstatAlarm && !v.getLsbD 14 }

/-- Outside a start, with page 1 selected by the reading port, word 0x2000 + w reads the XB bytes at 16 384 + 2w and 16
384 + 2w + 1, the lower offset in the low byte; with page 0 and w below 0x1000 those at 2w and 2w + 1; the read
changes nothing. A word that is known to hold an uncorrectable error reads as 0 (R295; shown here of page 1), and with
page 0 so do the words of the reserved region (0x3000 to 0x3FFF). A write to the window changes nothing, in every
mode. (What the firmware keeps in the regions of page 0 is a free value, log 68, and is not stated here.) (R295, R301,
R302) -/
def Obligations.WindowShowsTheSelectedPageOfXb : Prop :=
  ∀ (p : Port) (w : Nat) (s : State), w < 0x2000 → s.starting = false →
    ((readPort (some p) s).page = 1 → s.xbBad.contains (4096 + w / 2) = false → readWord (some p) (0x2000 + w) s =
      ((Mem.get s.xb (16384 + 2 * w)).toNat + 256 * (Mem.get s.xb (16384 + 2 * w + 1)).toNat, s)) ∧
    ((readPort (some p) s).page = 1 → s.xbBad.contains (4096 + w / 2) = true → readWord (some p) (0x2000 + w) s = (0, s)) ∧
    ((readPort (some p) s).page = 0 → w < 0x1000 → s.xbBad.contains (w / 2) = false → readWord (some p) (0x2000 + w) s =
      ((Mem.get s.xb (2 * w)).toNat + 256 * (Mem.get s.xb (2 * w + 1)).toNat, s)) ∧
    ((readPort (some p) s).page = 0 → 0x1000 ≤ w → readWord (some p) (0x2000 + w) s = (0, s)) ∧
    (∀ v, writeWord p (0x2000 + w) v s = s)

/-- A glass frame that is on reads back its pins, takes the pump word and turns the polarity over; a positive frame takes
up what is rendered or stops where asked. An emissive frame that drives counts in EMFRAMES, reads back and gives its
seat back before the next; one that waits is evaluated again; the end of the activity stops the drive. With a bistable
panel that is not parked a request of a region is taken after a sample, and a phase with the rails up takes VP and VN,
the checks and its tick. A park ends, and the procedure that waits for it goes on. The display returns to screen 0
after its idle time and leaves the segment test. (Work done at the end of the command is `settle`, whose frame
StandingWorkMovesOnlyItsParts states.)  Completes here: BISTABLE_PARK_DISCHARGE, BISTABLE_PHASE_TICK,
BISTABLE_UPDATE_REQUEST, DISPLAY_IDLE_TIMEOUT, EMISSIVE_ACTIVITY_END, EMISSIVE_FRAME, GLASS_FRAME, SEGMENT_TEST_END.
(R398, R399, R401, R403, R405, R409, R410, R412, R413, R439) -/
def Obligations.DisplayCommandsComplete : Prop :=
  ∀ (s : State) (smp : Sample),
    (∀ mv failing, s.cat.disp.dtype = .glass → s.dp.glassOn = true → s.dp.emDriving = false →
      let r := readBack ((glassPins s).map (fun p => (p, !failing.contains p))) (glassSample mv s)
      let u := { r with r.dsp.dspstatPump := glassPump r, dp.positive := !r.dp.positive }
      exec (.glassFrame mv failing) s = .next
        (if u.dp.positive then
          (if u.dp.stopReq then { u with dp.glassOn := false, dp.stopReq := false, dp.applied := [], dp.appliedB := [] }
           else positiveFrame u)
         else u)) ∧
    (∀ failing, s.dp.emUntil.isSome = true →
      let u := sample smp s
      (u.dp.emDriving = true → exec (.emissiveFrame smp failing) s = .next (settle (emissiveNext (releaseSeat 6
        (readBack ((emissivePins u).map (fun p => (p, !failing.contains p)))
          { u with r.dsp.emframes := inc16 u.r.dsp.emframes, r.dsp.emstatSubper := sat 8 (forwardPeriods u), dp.emDriving := false }))))) ∧
      (u.dp.emDriving = false → exec (.emissiveFrame smp failing) s = .next (settle (emissiveNext (evaluate u))))) ∧
    (s.dp.emUntil.isSome = true → exec .emissiveActivityEnd s = .next (settle { emissiveStop s with pw.choose := true })) ∧
    (s.hasDisplay = true → s.cat.disp.dtype = .bistable → s.dp.park = none →
      (∀ (rg : Fin 8) content, s.operating = true ∨ s.safe = true → exec (.bistableUpdateRequest rg content smp) s =
        .next (settle (regionRequest rg.val content (sample smp s)))) ∧
      (∀ vp vn, s.dp.railsOk = true → exec (.bistablePhaseTick vp vn []) s = .next (settle
        { phaseTick { s with r.dsp.epdvp := sat 16 vp, r.dsp.epdvn := sat 16 vn } with pw.choose := true })) ∧
      (∀ vp vn c cs, s.dp.railsOk = true → exec (.bistablePhaseTick vp vn (c :: cs)) s = .next (settle
        { phaseTick (readBack (c :: cs) { s with r.dsp.epdvp := sat 16 vp, r.dsp.epdvn := sat 16 vn }) with pw.choose := true }))) ∧
    (s.dp.park.isSome = true →
      ((parkEnd s).flt.proc = none → exec .bistableParkDischarge s = .next (settle (parkEnd s))) ∧
      (∀ c, (parkEnd s).flt.proc = some ⟨c, .park⟩ → exec .bistableParkDischarge s = .next (procAlarm c (parkEnd s)))) ∧
    (s.hasDisplay = true → s.dp.screen ≠ 0 → s.timed = true →
      exec .displayIdleTimeout s = .next (settle { s.atTimer with dp.screen := 0, dp.renderNow := true })) ∧
    (s.dp.segTest = true → s.timed = true →
      exec .segmentTestEnd s = .next (settle { s.atTimer with dp.segTest := false, dp.renderNow := true })) ∧
    (s.dp.segTest = true → s.timed = false →
      exec .segmentTestEnd s = .next (settle { s with dp.segTest := false, dp.renderNow := true }))

/-- While the engines are watched, the Curator watchdog triggers the watchdog reset of cause 1. The Signal core and the
Link core are reset and logged (0x1002 with 2, 0x1003 with the role) on the first two expiries of a day, and the third
triggers the reset of cause 2 or 3; the Link core's role then restarts after its alarm telegram. The Registrar
recovers with 0x1002. The Warden watchdog triggers the reset of cause 5, and within such a reset ends it at its last
step. The alarm telegram whose seat is not admitted in time is dropped. A due 24-hour check of the modules asks for
its seat and runs with it; SCL or SDA held low for too long is fault 2 of the port. (Work done at the end of the
command is `settle`, whose frame StandingWorkMovesOnlyItsParts states.)  Completes here: ALARM_TELEGRAM_SEAT_TIMEOUT,
CURATOR_WATCHDOG, I2C_STRETCH_TIMEOUT, LINK_WATCHDOG, MODULE_CHECK_24H, REGISTRAR_WATCHDOG, SIGNAL_WATCHDOG,
WARDEN_WATCHDOG. (R242, R266, R432, R433, R435, R452, R454, R457) -/
def Obligations.WatchdogsAndModuleChecksComplete : Prop :=
  ∀ (s : State) (smp : Sample),
    (watched s = true → s.operating = true → exec .curatorWatchdog s = .next (settle (watchdogReset 1 s))) ∧
    (watched s = true → s.operating = true → s.isOn .sig = true →
      let h := expiries s.flt.sigHist s
      let u := { s with flt.sigHist := h }
      (h.length < 3 → exec .signalWatchdog s = .next (settle (logEvent 0x1002 [2] (resetSignal (countExpiry 2 u))))) ∧
      (3 ≤ h.length → exec .signalWatchdog s = .next (settle (watchdogReset 2 u)))) ∧
    (watched s = true → s.operating = true → s.isOn .lnk = true →
      let v := sample smp s
      let h := expiries v.flt.lnkHist v
      let u := { v with flt.lnkHist := h }
      (h.length < 3 → exec (.linkWatchdog smp) s = .next (settle
        (let w := if alarmUnderWay u then loseFrame u else u
         linkAlarm (logEvent 0x1003 [(w.ln.role.code : Int)] { resetLink (countExpiry 3 w) with rad.linkRestart := true })))) ∧
      (3 ≤ h.length → exec (.linkWatchdog smp) s = .next (settle (watchdogReset 3 u)))) ∧
    (watched s = true → regRuns s = true → registrarBusy s = true → exec .registrarWatchdog s = .next (settle (regRecover
      (logEvent 0x1002 [4] (countExpiry 4 { s with flt.regHist := expiries s.flt.regHist s }))))) ∧
    (s.aon = true →
      (s.flt.proc = none → s.phase ≠ .brownout → s.phase ≠ .resetHold →
        exec .wardenWatchdog s = .next (settle (watchdogReset 5 s))) ∧
      (∀ st, s.flt.proc = some ⟨5, st⟩ → exec .wardenWatchdog s = .next (procFinish 5 (countExpiry 5 s)))) ∧
    (∀ x f, s.cl.waiting.find? (fun x => x.work == .transmit .alarm) = some x →
      s.rad.queue.find? (fun f => f.use == .alarm) = some f → exec .alarmTelegramSeatTimeout s = .next (settle
        (tellDropped f { s with cl.waiting := s.cl.waiting.filter (fun y => y.order != x.order) }))) ∧
    (∀ reads ok, s.timed = true → exec (.moduleCheck24h reads ok smp) s = .next (settle
      (let u := sample smp s.atTimer
       let v := if u.io.modCheckAt + 86400000000 ≤ u.tl.monoUs then
           requestSeat 4 50 5000 none .moduleCheck { u with io.modCheckAt := u.tl.monoUs } else u
       if heldWork 4 v == some .moduleCheck then runModuleCheck reads ok v else v))) ∧
    (∀ p : Fin 7, s.serving = true → s.isOn .mod = true → ∃ t, exec (.i2cStretchTimeout p) s = .next t ∧
      t = State.withWork { s with r.mp := vupd s.r.mp p.val (fun w => { w with mpstatFault := 2, mpstatMatch := false }) } t)

/-- Where the Curator serves, a request of legal length that does not repeat the previous one on its port and that nothing
turns away completes: hello, baud, auth, close, statq, readmap, writemap, readprof, readevt, readstore, ackstore,
readsnap, timeset, learn, bgtest, power, slotopen, slotdata, slotclose, reload, patchopen, patchdata and patchclose
each take the effect of their code of Table 16.3, the request and its response are kept for a repeat, and the response
goes out: at the optical port at once; at the host port, in a transaction with no response unread, it waits for
RESPONSE with HIRQ.RSP set. What each code does is stated by OhmueriCommandsDoWhatTheirCodesSay. Completes here:
ACKSTORE, AUTH, BAUD, BGTEST, CLOSE, HELLO, LEARN, PATCHCLOSE, PATCHDATA, PATCHOPEN, POWER, READEVT, READMAP,
READPROF, READSNAP, READSTORE, RELOAD, SLOTCLOSE, SLOTDATA, SLOTOPEN, STATQ, TIMESET, WRITEMAP. (R420, R426, R427,
R431) -/
def Obligations.EachOhmueriCommandTakesItsEffectAtItsPort : Prop :=
  ∀ (p : Port) (tag : Byte) (d : List Byte) (s : State), s.aon = true → s.serving = true → d.length ≤ 248 →
    (p = .host → s.io.vddio = true ∧ s.sv.unread = false) →
    let u := updSes p (fun x => { x with last := s.now }) s
    let after := fun (code : Nat) =>
      let r := command p code d u
      let frame := answerFrame code tag (leBytes 1 r.1 ++ r.2.1)
      let kept := updSes p (fun x => { x with req := some (tag :: leBytes 1 code ++ d), resp := frame }) r.2.2
      let t : State := match p with
        | .optical => { kept with sv.irTx := frame }
        | .host => { kept with
            sv.unread := true, r.io.hirqRsp := true, io.cs := false, pw.choose := true
            sv.miso := leBytes 1 (statusByte s) ++ [] }
      settle t
    let runs := fun (code : Nat) => (s.sv.ses p).req ≠ some (tag :: leBytes 1 code ++ d) ∧ refusal p code d u = 0
    (runs 0x01 → exec (.hello p tag d) s = .next (after 0x01)) ∧
    (runs 0x02 → exec (.baud p tag d) s = .next (after 0x02)) ∧
    (runs 0x03 → exec (.auth p tag d) s = .next (after 0x03)) ∧
    (runs 0x04 → exec (.close p tag d) s = .next (after 0x04)) ∧
    (runs 0x05 → exec (.statq p tag d) s = .next (after 0x05)) ∧
    (runs 0x10 → exec (.readmap p tag d) s = .next (after 0x10)) ∧
    (runs 0x11 → exec (.writemap p tag d) s = .next (after 0x11)) ∧
    (runs 0x12 → exec (.readprof p tag d) s = .next (after 0x12)) ∧
    (runs 0x13 → exec (.readevt p tag d) s = .next (after 0x13)) ∧
    (runs 0x14 → exec (.readstore p tag d) s = .next (after 0x14)) ∧
    (runs 0x15 → exec (.ackstore p tag d) s = .next (after 0x15)) ∧
    (runs 0x16 → exec (.readsnap p tag d) s = .next (after 0x16)) ∧
    (runs 0x20 → exec (.timeset p tag d) s = .next (after 0x20)) ∧
    (runs 0x21 → exec (.learn p tag d) s = .next (after 0x21)) ∧
    (runs 0x22 → exec (.bgtest p tag d) s = .next (after 0x22)) ∧
    (runs 0x23 → exec (.power p tag d) s = .next (after 0x23)) ∧
    (runs 0x30 → exec (.slotopen p tag d) s = .next (after 0x30)) ∧
    (runs 0x31 → exec (.slotdata p tag d) s = .next (after 0x31)) ∧
    (runs 0x32 → exec (.slotclose p tag d) s = .next (after 0x32)) ∧
    (runs 0x33 → exec (.reload p tag d) s = .next (after 0x33)) ∧
    (runs 0x38 → exec (.patchopen p tag d) s = .next (after 0x38)) ∧
    (runs 0x39 → exec (.patchdata p tag d) s = .next (after 0x39)) ∧
    (runs 0x3A → exec (.patchclose p tag d) s = .next (after 0x3A))

/-- HELLO draws a new challenge into an open session. BAUD at or below MAXBAUD keeps the rate to be taken. AUTH of 128
bytes serves one challenge: it succeeds, with service mode and event 0x0F01, where no lockout runs, the point hashes
to SVCHASH, no other port holds service mode and the signature over challenge, SERIAL and port byte verifies; else it
answers 3 and fails. CLOSE ends the session with cause 1. READMAP reads 1 to 120 words. BGTEST asks for a background
test and POWER for Hibernate (4) or Off (5). SLOTOPEN erases the inactive slot up to the length and is pending; while
a reload or a pending command runs it answers 2. A ready slot takes the next data and answers 7 to any other offset;
SLOTCLOSE, RELOAD, PATCHOPEN and PATCHCLOSE are pending; without an open write SLOTDATA, SLOTCLOSE, PATCHDATA and
PATCHCLOSE answer 7. (That BAUD does nothing on the host port is a choice of the model, log 81.) (R114, R305, R427,
R428, R430) -/
def Obligations.OhmueriCommandsDoWhatTheirCodesSay : Prop :=
  ∀ (p : Port) (d : List Byte) (s : State),
    ((s.sv.ses p).open_ = true → (command p 0x01 [] s).1 = 0 ∧ (command p 0x01 [] s).2.2 =
      updSes p (fun x => { x with open_ := true, challenge := some (leBytes 16 (draw s).1), last := s.now }) (draw s).2) ∧
    (∀ b : Byte, b.toNat ≤ s.cat.maxbaud →
      command .optical 0x02 [b] s = (0, [], { s with sv.baudNext := some b.toNat }) ∧ command .host 0x02 [b] s = (0, [], s)) ∧
    (∀ ch, d.length = 128 → (s.sv.ses p).challenge = some ch →
      let u := updSes p (fun x => { x with challenge := none }) s
      command p 0x03 d s =
        if (s.sv.ses p).lockUntil.any (fun t => decide (s.now < t)) = false ∧ sha256 (d.take 64) = s.cat.svchash ∧
            (u.sv.ses (Port.other p)).service = false ∧
            ecdsaVerify (d.take 64) (ch ++ leBytes 8 Config.serial.toNat ++ leBytes 1 p.code) (d.drop 64) = true then
          (0, [], logEvent 0x0F01 [(p.code : Int)]
            (updSes p (fun x => { x with fails := 0, lockLen := 0, lockUntil := none, service := true }) u))
        else (3, [], authFailed p u)) ∧
    command p 0x04 [] s = (0, [], endSession p 1 s) ∧
    command p 0x05 [] s = (0, leBytes 1 s.sv.pendCmd ++ leBytes 1 s.sv.pendStatus ++ s.sv.outcome, s) ∧
    (d.length = 3 → 1 ≤ u8 d 2 → u8 d 2 ≤ 120 → command p 0x10 d s =
      (0, wordBytes (readWords (some p) (u8 d 2) (u16 d 0) s).1, (readWords (some p) (u8 d 2) (u16 d 0) s).2)) ∧
    command p 0x22 [] s = (0, [], { s with bgReq := true }) ∧
    command p 0x23 [4] s = (0, [], { s with pw.request := some ⟨.hibernate, p⟩ }) ∧
    command p 0x23 [5] s = (0, [], { s with pw.request := some ⟨.off, p⟩ }) ∧
    (d.length = 4 → 1 ≤ u32 d 0 → u32 d 0 ≤ 65536 →
      (reloading s = true ∨ pendingRuns s = true → command p 0x30 d s = (2, [], s)) ∧
      (reloading s = false → pendingRuns s = false → command p 0x30 d s = (1, [], { setSlot (inactiveSlot s)
          (eraseBytes (u32 d 0) (slotBytes (inactiveSlot s) s)) s with
        sv.slotW := some { slot := inactiveSlot s, len := u32 d 0 }, sv.pendCmd := 0x30, sv.pendStatus := 1
        sv.outcome := [], sv.pendPort := some p }))) ∧
    (∀ w, 5 ≤ d.length → d.length ≤ 244 → s.sv.slotW = some w → w.ready = true →
      (u32 d 0 ≠ w.next → command p 0x31 d s = (7, [], s)) ∧
      (u32 d 0 = w.next → w.next + (d.length - 4) ≤ w.len → command p 0x31 d s =
        (0, [], { setSlot w.slot (programBytes w.next (d.drop 4) (slotBytes w.slot s)) s with
          sv.slotW := some { w with next := w.next + (d.length - 4) } }))) ∧
    (∀ w, s.sv.slotW = some w → w.ready = true → pendingRuns s = false → command p 0x32 [] s =
      (1, [], { s with sv.pendCmd := 0x32, sv.pendStatus := 1, sv.outcome := [], sv.pendPort := some p })) ∧
    (s.sv.slotW = none → command p 0x32 [] s = (7, [], s) ∧ (5 ≤ d.length → d.length ≤ 244 → command p 0x31 d s = (7, [], s))) ∧
    (reloading s = true ∨ s.sv.slotW.isSome = true ∨ pendingRuns s = true → command p 0x33 [] s = (2, [], s)) ∧
    (reloading s = false → s.sv.slotW = none → pendingRuns s = false → command p 0x33 [] s =
      (1, [], { s with sv.reloadRun := true, sv.pendCmd := 0x33, sv.pendStatus := 1, sv.outcome := [], sv.pendPort := some p })) ∧
    (∀ w, s.sv.patchW = some w → w.ready = true → pendingRuns s = false → command p 0x3A [] s =
      (1, [], { s with sv.pendCmd := 0x3A, sv.pendStatus := 1, sv.outcome := [], sv.pendPort := some p })) ∧
    (s.sv.patchW = none → command p 0x3A [] s = (7, [], s) ∧ (5 ≤ d.length → d.length ≤ 244 → command p 0x39 d s = (7, [], s)))

/-- Where not all four OTP key slots are EMPTY (the case of R67), the key of an image is accepted exactly where its key
hash equals that of an ACTIVE slot and that of no REVOKED slot: a key of a REVOKED slot is rejected, and so is a key
that no slot holds. (R66) -/
def Obligations.SignerKeyIsAcceptedByAnActiveSlotOnly : Prop :=
  ∀ (o : OtpSlots) (h : BitVec 256), o.fresh = false →
    (o.accepts h = true ↔ (∃ i : Fin 4, o[i].1 = .active ∧ o[i].2 = h) ∧ ¬ ∃ i : Fin 4, o[i].1 = .revoked ∧ o[i].2 = h) ∧
    ((∃ i : Fin 4, o[i].1 = .revoked ∧ o[i].2 = h) → o.accepts h = false) ∧
    ((¬ ∃ i : Fin 4, o[i].2 = h) → o.accepts h = false)

/-- The interval status is 3 (lost) exactly where a path of non-zero weight is lost; where none is, it is 2 (substituted)
exactly where a path of non-zero weight is substituted; else it is 1 (valid). Paths of weight 0 do not affect it:
dropping them leaves the status. (R237) -/
def Obligations.IntervalStatusTakesTheWorstWeightedPath : Prop :=
  ∀ (os : List (Nat × PathOut)) (s : State),
    (intervalStatus os s = 3 ↔ ∃ x ∈ os, weight x.1 s ≠ 0 ∧ x.2.status = 3) ∧
    (intervalStatus os s = 2 ↔ (∃ x ∈ os, weight x.1 s ≠ 0 ∧ x.2.status = 2) ∧ ¬ ∃ x ∈ os, weight x.1 s ≠ 0 ∧ x.2.status = 3) ∧
    (intervalStatus os s = 1 ↔ ∀ x ∈ os, weight x.1 s ≠ 0 → x.2.status ≠ 2 ∧ x.2.status ≠ 3) ∧
    intervalStatus (os.filter (fun x => decide (weight x.1 s ≠ 0))) s = intervalStatus os s

/-- For every CLUSTERID and every n, the Slalom sequence is a permutation of 0 to n − 1. So in every state the channel of
a superframe is one of the channels of the band, and within n consecutive superframes no channel comes twice. (R368) -/
def Obligations.SlalomIsAPermutationOfTheChannels : Prop :=
  (∀ clusterid n : Nat, (slalomPerm clusterid n).Perm (List.range n)) ∧
  (∀ (sfn : Nat) (s : State), 0 < channelCount s.cat.radio.band → slalom sfn s < channelCount s.cat.radio.band) ∧
  (∀ (a b : Nat) (s : State), a < b → b < a + channelCount s.cat.radio.band → slalom a s ≠ slalom b s)

/-- The sum of a duty ledger is that of the current minute and the 60 before it. For a ledger of the duty kind (not the
dwell ledger, code 5), a transmission of airtime a has the present moment as its permitted time where the 61-bin sum
plus a does not exceed the allowance; where the sum exceeds it, the permitted time lies later than the present moment.
(R347, R348) -/
def Obligations.DutyLedgerPermitsWithinItsAllowance : Prop :=
  ∀ (code : Nat) (ch : Option Nat) (a : Nat) (s : State), code ≠ 5 →
    (dutySum code (tlmono s / 60) s * 1000 + a ≤ allowance code * 1000 → permittedAt code ch a s = s.tl.monoUs) ∧
    (allowance code * 1000 < dutySum code (tlmono s / 60) s * 1000 + a → s.tl.monoUs < permittedAt code ch a s)

/-- Over the correction table, at every die temperature: with no valid value of the error the prediction is 0 and is not
extrapolated. A prediction that is extrapolated is the value of a valid bin, and the bin of the temperature holds no
valid value. (R150) -/
def Obligations.PredictionsComeFromValidBins : Prop :=
  ∀ (vals : List (Option Int)) (t : Int),
    ((∀ v ∈ vals, v = none) → predict vals t = (0, false)) ∧
    ((predict vals t).2 = true → vals.getD (binOf t) none = none ∧ ∃ v, some v ∈ vals ∧ (predict vals t).1 = (v : Rat))

/-- Each of these commands answers a next state, with the phase, counters and words that the rules give.
COLD_START_STAGE_END of stage 1 goes on with stage 2 and adds the time to STARTDUR; of stage 15 it enters Run with
HIRQ.START and WDSTART 0. RESERVOIR_WAIT_MET goes on with stage 3, XT32_RUNNING and XT32_START_TIMEOUT with stage 9
(the timeout with XT32 bad and counted), each with its wait in VRESWAIT or XTWAIT; OTP_PROGRAM_WAIT_MET goes on with
stage 8 and the chosen image in force, and so does OTP_PROGRAM_WAIT_TIMEOUT with a key present. STAGE_SEAT_TIMEOUT
ends in safe-beacon with SBEVT 0x00E0. HIBERNATE_START_STEP_END of H1 goes on with H2, of H12 it enters Run.
SAFE_BEACON_RETRY stands at stage 1 with STARTCAUSE 6, BROWNOUT_RECOVERY with 9. Outside a start, VITRDY_TIMEOUT,
OVEN_OVERTEMP and VITRINE_DEFER_LIMIT leave VITSTAT.RESULT 2, 5 and 3 and count CALFAIL. XT32_STOP counts XT32LOSS,
LPRC_CHECK leaves LPRCOK as found, CLOCK_RECOVERY_ATTEMPT takes the RTC to LPRC, LPRC_CAL_GATE_END fills LPRCERR and
CAL_STALE_24H marks STALE. Completes here: BROWNOUT_RECOVERY, CAL_STALE_24H, CLOCK_RECOVERY_ATTEMPT,
COLD_START_STAGE_END, HIBERNATE_START_STEP_END, LPRC_CAL_GATE_END, LPRC_CHECK, OTP_PROGRAM_WAIT_MET,
OTP_PROGRAM_WAIT_TIMEOUT, OVEN_OVERTEMP, RESERVOIR_WAIT_MET, SAFE_BEACON_RETRY, STAGE_SEAT_TIMEOUT, VITRDY_TIMEOUT,
VITRINE_DEFER_LIMIT, XT32_RUNNING, XT32_START_TIMEOUT, XT32_STOP. (R87, R88, R89, R90, R91, R95, R98, R99, R139, R145,
R151, R152) -/
def Obligations.StartAndClockCommandsLeaveTheirWords : Prop :=
  ∀ (s : State) (rep : StageReport) (smp : Sample),
    (s.phase = .cold 1 → s.start.wait = .none → s.flt.proc = none → ∃ t, exec (.coldStartStageEnd rep) s = .next t ∧
      t.phase = .cold 2 ∧ t.start.dur = s.start.dur + rep.dur ∧ t.r.sys.startdur = sat 16 (s.start.dur + rep.dur)) ∧
    (s.phase = .cold 15 → s.start.wait = .none → s.flt.proc = none → ∃ t, exec (.coldStartStageEnd rep) s = .next t ∧
      t.phase = .operating ∧ t.pw.st = .run ∧ t.r.io.hirqStart = true ∧ t.r.sys.wdstart = 0 ∧ t.r.sys.sbstatFails = 0) ∧
    (s.starting = true → s.start.wait = .reservoir → s.flt.proc = none → reservoirMet (sample smp s) = true →
      ∃ t, exec (.reservoirWaitMet smp) s = .next t ∧ t.phase = .cold 3 ∧
        t.start.vresWait = s.start.vresWait + (s.now - s.start.waitFrom) ∧
        t.r.sys.vreswait = waitMs (s.start.vresWait + (s.now - s.start.waitFrom))) ∧
    (s.starting = true → s.r.clk.clkstatXt32ok = true → s.start.wait = .xt32 → s.flt.proc = none →
      (∃ t, exec .xt32Running s = .next t ∧ t.phase = .cold 9 ∧ t.ck.xtRun = true ∧
        t.start.xtWait = s.now - s.start.waitFrom ∧ t.r.sys.xtwait = waitMs (s.now - s.start.waitFrom)) ∧
      (s.ck.xtRun = false → ∃ t, exec .xt32StartTimeout s = .next t ∧ t.phase = .cold 9 ∧ t.start.noXt32 = true ∧
        t.r.clk.clkstatXt32ok = false ∧ t.r.clk.xt32loss = inc16 s.r.clk.xt32loss ∧
        t.start.xtWait = s.now - s.start.waitFrom ∧ t.r.sys.xtwait = waitMs (s.now - s.start.waitFrom))) ∧
    (∀ i c, s.phase = .cold 7 → s.start.wait = .otp → s.flt.proc = none → s.start.chosen = some (i, c) →
      (otpReady (sample smp s) = true → ∃ t, exec (.otpProgramWaitMet smp) s = .next t ∧
        t.phase = .cold 8 ∧ t.governs = true ∧ t.cat = c ∧ t.active = some i) ∧
      (keysEmpty s = false → ∃ t, exec .otpProgramWaitTimeout s = .next t ∧
        t.phase = .cold 8 ∧ t.governs = true ∧ t.cat = c ∧ t.active = some i)) ∧
    (∀ n x, s.phase = .cold n → s.start.wait = .seat → s.flt.proc = none → s.cl.waiting.find? (fun y => y.unit == 0) = some x →
      ∃ t, exec .stageSeatTimeout s = .next t ∧ t.phase = .safeBeacon false ∧ t.r.sys.sbevt = 0x00E0 ∧ t.r.io.hirqSbchg = true) ∧
    (s.phase = .hib 1 → s.start.wait = .none → s.flt.proc = none → ∃ t, exec (.hibernateStartStepEnd rep) s = .next t ∧
      t.phase = .hib 2 ∧ t.start.dur = s.start.dur + rep.dur) ∧
    (s.phase = .hib 12 → s.start.wait = .none → s.flt.proc = none → ∃ t, exec (.hibernateStartStepEnd rep) s = .next t ∧
      t.phase = .operating ∧ t.pw.st = .run ∧ t.r.io.hirqStart = true) ∧
    (s.safe = true → s.flt.proc = none → s.r.sys.sbstatFails.toNat < 3 → ∃ t, exec .safeBeaconRetry s = .next t ∧
      t.phase = .cold 1 ∧ t.r.sys.startcause = 6 ∧ t.r.io.hirqSbchg = true) ∧
    (s.phase = .brownout → s.io.rstLow = false → s.io.tap ≠ .extest → ∃ t, exec .brownoutRecovery s = .next t ∧
      t.phase = .cold 1 ∧ t.r.sys.startcause = 9) ∧
    (∀ x, s.ck.run = some x → x.done = false → s.starting = false →
      (x.ready = none → ∃ t, exec .vitrdyTimeout s = .next t ∧
        t.r.clk.vitstatResult = 2 ∧ t.r.clk.calfail = inc16 s.r.clk.calfail) ∧
      (s.isOn .vit = true → ∃ t, exec .ovenOvertemp s = .next t ∧
        t.r.clk.vitstatResult = 5 ∧ t.r.clk.calfail = inc16 s.r.clk.calfail) ∧
      (x.ready.isSome = true → s.r.clk.clkstatPllvit = false → ∃ t, exec .vitrineDeferLimit s = .next t ∧
        t.r.clk.vitstatResult = 3 ∧ t.r.clk.calfail = inc16 s.r.clk.calfail)) ∧
    (s.aon = true →
      (s.r.clk.clkstatXt32ok = true → ∃ t, exec .xt32Stop s = .next t ∧
        t.r.clk.clkstatXt32ok = false ∧ t.r.clk.xt32loss = inc16 s.r.clk.xt32loss) ∧
      (∀ ok, s.r.clk.clkstatRtcsrc ≠ 2 → s.r.clk.clkstatLprcok = !ok → ∃ t, exec (.lprcCheck ok) s = .next t ∧
        t.r.clk.clkstatLprcok = ok) ∧
      (∀ b, s.r.clk.clkstatRtcsrc = 2 → ∃ t, exec (.clockRecoveryAttempt b true) s = .next t ∧
        t.r.clk.clkstatLprcok = true ∧ t.r.clk.clkstatRtcsrc = 1) ∧
      (∀ ppm : Int, s.ck.xtRun = true → ∃ t, exec (.lprcCalGateEnd ppm) s = .next t ∧
        t.r.clk.lprcerr = BitVec.ofInt 16 (max (-32768) (min ppm 32767)) ∧ t.ck.lprcDue = false) ∧
      (s.ck.staleLogged = false → ∃ t, exec .calStale24h s = .next t ∧
        t.r.clk.clkstatStale = true ∧ t.ck.staleLogged = true))

/-- Each of these commands answers a next state that holds what the rules give. BOOST_TIMEOUT takes VDRVMV and counts
BOOSTFAIL; FAST_SEQUENCE_TIMEOUT ends Fast; AVAILABILITY_BIN_CLOSE drops the oldest of 30 bins and opens the bin of
the next 24 h; LEDGER_RECORD_DUE and WARDEN_AREA_ERASE mark the record and the erase due; TLZONE_APPLY puts the
waiting zone in force. REPLY_WINDOW_OPEN turns the receiver to the channel of the reply window; EN13757_ACK_RECEIVED
counts RXCNT, BEACON_WINDOW_CLOSE counts BCNMISS and MISSRUN, POLL_SLOT_END counts UPMISS where a due slot was not
served, WAKE_WORD counts WAKEDET, READER_FRAME_HEARD counts RXCNT and SESSION_TIMEOUT of a reader drops its run.
DISPLAY_IDLE_TIMEOUT shows screen 0, SEGMENT_TEST_END ends the test and EMISSIVE_ACTIVITY_END the activity.
RESERVOIR_RISE_TIMED takes RESCEST where the estimate is below 70 % of CRES. A watchdog of the Curator, or of the
Warden outside a procedure, begins the reset procedure with its cause: with a record to commit and VRES at 2.0 V the
commit is under way. Completes here: AVAILABILITY_BIN_CLOSE, BEACON_WINDOW_CLOSE, BOOST_TIMEOUT, CURATOR_WATCHDOG,
DISPLAY_IDLE_TIMEOUT, EMISSIVE_ACTIVITY_END, EN13757_ACK_RECEIVED, FAST_SEQUENCE_TIMEOUT, LEDGER_RECORD_DUE,
POLL_SLOT_END, READER_FRAME_HEARD, REPLY_WINDOW_OPEN, RESERVOIR_RISE_TIMED, SEGMENT_TEST_END, SESSION_TIMEOUT,
TLZONE_APPLY, WAKE_WORD, WARDEN_AREA_ERASE, WARDEN_WATCHDOG. (R127, R156, R193, R216, R284, R325, R335, R371, R379,
R390, R405, R454) -/
def Obligations.MeasurementRadioAndPanelCommandsLeaveTheirWords : Prop :=
  ∀ (s : State) (smp : Sample),
    (∀ mv x, shotStep s = true → s.ps.run = some x → s.r.drv.xdstatBooston = true → s.r.drv.xdstatVdrvok = false →
      ∃ t, exec (.boostTimeout mv) s = .next t ∧ t.r.drv.vdrvmv = sat 16 mv ∧ t.r.drv.boostfail = inc16 s.r.drv.boostfail) ∧
    (s.timed = true → s.ps.fast = true → ∃ t, exec .fastSequenceTimeout s = .next t ∧ t.ps.fast = false) ∧
    (s.aon = true → ∃ t, exec .availabilityBinClose s = .next t ∧
      t.rg.bins = ({} :: s.rg.bins).take 30 ∧ t.rg.binStart = s.rg.binStart + 86400000000) ∧
    (s.timed = true → ∃ t, exec (.ledgerRecordDue smp) s = .next t ∧ t.ar.ledgerDue = true) ∧
    (s.timed = true → wardenEraseDue (sample smp s.atTimer) = true → (wardenVictim (sample smp s.atTimer)).isSome = true →
      ∃ t, exec (.wardenAreaErase smp) s = .next t ∧ t.ar.eraseDue = true) ∧
    (∀ v, s.tl.zoneNext = some v → ∃ t, exec .tlzoneApply s = .next t ∧ t.tl.zone = v ∧ t.tl.zoneNext = none) ∧
    (s.timed = true → s.rad.replyDue = true → exec .replyWindowOpen s = .next (settle (openWindow .reply 1000 (replyTuning s.atTimer)
      (receiverOff { s.atTimer with rad.replyDue := false, ln.listenDue := none, ln.listening := false })))) ∧
    (∀ fr, receiving .reply s = true → ∃ t, exec (.en13757AckReceived fr) s = .next t ∧ t.r.rf.rxcnt = inc16 s.r.rf.rxcnt) ∧
    (receiving .search s = false → receiving .beacon s = true → s.r.lnk.missrun.toNat < 2 →
      exec .beaconWindowClose s = .next (settle (closeWindow
        { s with r.lnk.bcnmiss := inc16 s.r.lnk.bcnmiss, r.lnk.missrun := s.r.lnk.missrun + 1 }))) ∧
    (∀ from_, actsAsParent s = true → (followReceiver s).ln.slot = none → unservedSlot (followReceiver s) = some from_ →
      exec .pollSlotEnd s = .next (settle { followReceiver s with
        ln.asked := some from_, r.lnk.upmiss := inc16 (followReceiver s).r.lnk.upmiss })) ∧
    (∀ w, s.ln.listening = true → s.ln.session = none → wakeFor w = true →
      ∃ t, exec (.wakeWord w) s = .next t ∧ t.r.lnk.wakedet = inc16 s.r.lnk.wakedet) ∧
    (∀ src (f : RxFrame), s.ln.role = .reader → receiving .reader s = true → linkUp s = true → f.good = true →
      ∃ t, exec (.readerFrameHeard src f) s = .next t ∧ t.r.rf.rxcnt = inc16 s.r.rf.rxcnt) ∧
    (∀ x, s.ln.session = none → s.ln.run = some x → ∃ t, exec .sessionTimeout s = .next t ∧ t.ln.run = none) ∧
    (s.hasDisplay = true → s.timed = true → s.dp.screen ≠ 0 → ∃ t, exec .displayIdleTimeout s = .next t ∧ t.dp.screen = 0) ∧
    (s.dp.segTest = true → ∃ t, exec .segmentTestEnd s = .next t ∧ t.dp.segTest = false) ∧
    (s.dp.emUntil.isSome = true → ∃ t, exec .emissiveActivityEnd s = .next t ∧ t.dp.emUntil = none ∧ t.dp.positive = false) ∧
    (∀ us : Nat, s.aon = true → s.cl.held = [] → s.cl.commit = none → vres s + 200 ≤ vbat s →
      s.cat.chair.ibatlim * us < 70000 * s.cat.chair.cres → ∃ t, exec (.reservoirRiseTimed us) s = .next t ∧
        t.r.pwr.rescest = sat 16 (max 1 (roundOpen (((s.cat.chair.ibatlim * us : Nat) : Rat) / 100000)).toNat)) ∧
    (commitReady s = true → s.flt.proc = none →
      s.operating = true → (s.pw.st = .run → ∃ t, exec .curatorWatchdog s = .next t ∧
        t.flt.proc = some ⟨1, .commit⟩ ∧ t.r.flt.wdstatCause = 1 ∧ t.ps.fast = false) ∧
      (∃ t, exec .wardenWatchdog s = .next t ∧
        t.flt.proc = some ⟨5, .commit⟩ ∧ t.r.flt.wdstatCause = 5 ∧ t.ps.fast = false))
end

