-- ==== Sys2Proof/Laws/Works.lean ====
section
/-! SUPPORT. The standing work that ends a command moves only the parts that `State.withWork` names: one lemma for each
shared operation that takes part in it. -/

namespace Sys2Proof.Machine

/-- `t` differs from `s` only in what standing work may move. -/
def Works (s t : State) : Prop := t = s.withWork t
/-- `Works` of the next state that an outcome answers, if it answers one. -/
def WorksO (s : State) (o : Host.Outcome State Fault Refusal) : Prop := ∀ t, o = .next t → Works s t
theorem Works.refl (s : State) : Works s s := rfl
theorem Works.trans {s t u : State} (h : Works s t) (k : Works t u) : Works s u := by
  unfold Works at *
  rw [k]
  conv => lhs; rw [h]
  rfl
theorem Works.ite {s t u : State} {c : Prop} [Decidable c] (h : c → Works s t) (k : ¬c → Works s u) : Works s (if c then t else u) := by
  split
  · exact h ‹_›
  · exact k ‹_›
theorem Works.foldl {α : Type} {s0 : State} {f : State → α → State} (hf : ∀ s x, Works s0 s → Works s0 (f s x)) {l : List α} {s : State}
    (h : Works s0 s) : Works s0 (l.foldl f s) := by
  induction l generalizing s with
  | nil => exact h
  | cons x xs ih => exact ih (hf _ _ h)
theorem Works.foldr {α : Type} {s0 : State} {f : α → State → State} (hf : ∀ x s, Works s0 s → Works s0 (f x s)) {l : List α} {s : State}
    (h : Works s0 s) : Works s0 (l.foldr f s) := by
  induction l with
  | nil => exact h
  | cons x xs ih => exact hf _ _ ih
theorem onlyIf_works {s0 : State} {b : Bool} {f : State → State} (hf : ∀ t, Works s0 t → Works s0 (f t)) {s : State} (h : Works s0 s) : Works s0 (onlyIf b f s) := by
  unfold onlyIf; split
  · exact hf _ h
  · exact h
theorem WorksO.next {s t : State} (h : Works s t) : WorksO s (.next t) := by
  intro u hu; cases hu; exact h
theorem WorksO.ite {s : State} {t u} {c : Prop} [Decidable c] (h : c → WorksO s t) (k : ¬c → WorksO s u) : WorksO s (if c then t else u) := by
  split
  · exact h ‹_›
  · exact k ‹_›
theorem WorksO.fault {s : State} {f} : WorksO s (.fault f) := by intro u hu; cases hu
theorem Works.of_pair1 {α : Type} {s t : State} {p : α × State} {a : α} (e : p = (a, t)) (h : Works s p.2) : Works s t := by
  subst e; exact h

theorem Works.put {s t : State}
    {x_free x_start_wait x_r_pwr_clavail x_r_pwr_clfree x_r_pwr_cldropUnit x_r_pwr_cldropReason x_r_pwr_clmiss
    x_r_pwr_pwrefcnt x_r_pwr_pwrefuseRefuser x_r_pwr_pwrefuseTarget x_r_pwr_pwrefuseReason x_r_pwr_pendrepl
    x_r_clk_clkstatVitrdy x_r_clk_clkstatPllvit x_r_tdc_tdccalCause x_r_tdc_tdccalRetry x_r_tdc_tdccalAbandon
    x_r_tdc_tdccaltemp x_r_tdc_tdccaltime x_r_tdc_tdccalok x_r_tdc_tdccalfail x_r_ch x_r_drv_xdstatBooston
    x_r_drv_xdstatVdrvok x_r_drv_vdrvtgt x_r_path x_r_tmp_twaitv x_r_mem_arcsuspcnt x_r_mem_evqdrop
    x_r_rf_rfstatLock x_r_rf_rffreq x_r_rf_rfchanNum x_r_rf_rfchanRate x_r_lnk_sfn x_r_lnk_missrun
    x_r_lnk_searchn x_r_lnk_pollfail x_r_lnk_cslost x_r_lnk_upmiss x_r_lnk_bcnskip x_r_dsp_epdold
    x_r_dsp_epdset x_r_dsp_epddrop x_r_dsp_epdpark x_r_dsp_emwait x_r_io_hirqAlarm x_r_io_hirqStore
    x_r_flt_fltstatTamper x_r_flt_fltstatAlarm x_r_flt_lastalarm x_r_flt_lasttamper x_r_flt_tamptime
    x_r_flt_alarmcnt x_r_flt_tampcnt x_r_flt_gopskip x_pw_target x_pw_pend x_pw_latched x_pw_dom x_pw_seen
    x_pw_fast x_pw_uncleared x_pw_choose x_cl x_ck_heldReq x_ck_run x_rg_legal_aseal x_ar_run x_ar_paused
    x_ar_warden x_ar_jobs x_ar_sealedSlot x_ar_ledger x_evq x_evDrop x_ch x_cal_wait x_cal_run x_cal_blocks
    x_cal_abandoned x_cal_retryAt x_cal_lastOk x_cal_seqLogged x_path x_ps_waiting x_ps_run x_ps_cals
    x_ps_burst x_tp_started x_tp_startT x_tp_got x_tp_open_ x_tp_waited x_rad_mode x_rad_owner x_rad_queue
    x_rad_seqCmd x_rad_synTemp x_rad_synBand x_rad_synFails x_rad_ctl0 x_rad_ctl1 x_rad_replyDue
    x_rad_linkRestart x_ln_role x_ln_member x_ln_index x_ln_sync x_ln_boundary x_ln_deputy x_ln_loaded
    x_ln_ctrs x_ln_obj x_ln_owed x_ln_exch x_ln_ackOpen x_ln_alarms x_ln_search x_ln_backoff x_ln_nextSearch
    x_ln_nextFallback x_ln_members x_ln_store x_ln_queued x_ln_csNext x_ln_lowLogged x_ln_slot x_ln_asked
    x_ln_rxWait x_ln_ho x_ln_session x_ln_qlink x_ln_bcnLogged x_ln_access x_ln_rxSince x_ln_helloDue
    x_ln_listenDue x_ln_cfg x_ln_gotBeacon x_ln_promote x_ln_listening x_ln_lastResp x_dp_image x_dp_imageB
    x_dp_lastRender x_dp_glassOn x_dp_stopReq x_dp_renderDue x_dp_renderNow x_dp_evtShown x_dp_emDriving
    x_dp_emBlink x_dp_regions x_dp_dark x_dp_ledger x_dp_seatLeft x_dp_park x_dp_railsOk x_sv_opt x_sv_hst
    x_sv_slotW x_sv_patchW x_mp x_flt_standing x_flt_alarm x_flt_alarmHeld x_flt_reported x_flt_alarmPulse}
    (h : Works s t) :
    Works s
      (State.mk t.now x_free t.pending t.phase (Start.mk x_start_wait t.start.began t.start.waitFrom
      t.start.dur t.start.vresWait t.start.xtWait t.start.restored t.start.noXt32 t.start.chosen
      t.start.warned t.start.dispOk t.start.radioOk t.start.bank t.start.arcOk t.start.vitFail) t.nv t.sb
      t.cat t.governs t.active (Regs.mk t.r.sys (PowerRegs.mk t.r.pwr.wakesrc t.r.pwr.vbatmv t.r.pwr.vresmv
      t.r.pwr.vresmin t.r.pwr.rescest x_r_pwr_clavail x_r_pwr_clfree x_r_pwr_cldropUnit x_r_pwr_cldropReason
      x_r_pwr_clmiss x_r_pwr_pwrefcnt x_r_pwr_pwrefuseRefuser x_r_pwr_pwrefuseTarget x_r_pwr_pwrefuseReason
      t.r.pwr.latewake x_r_pwr_pendrepl t.r.pwr.borcnt t.r.pwr.vreslowcnt t.r.pwr.clabort) (ClockRegs.mk
      x_r_clk_clkstatVitrdy x_r_clk_clkstatPllvit t.r.clk.clkstatXt32ok t.r.clk.clkstatLprcok
      t.r.clk.clkstatStale t.r.clk.clkstatRtcsrc t.r.clk.vitstatResult t.r.clk.vitwarm t.r.clk.vitlast
      t.r.clk.xt32err t.r.clk.hfrcerr t.r.clk.hfrctrim t.r.clk.tcoarse t.r.clk.xrferr t.r.clk.lprcerr
      t.r.clk.dietemp t.r.clk.calok t.r.clk.calfail t.r.clk.xt32loss t.r.clk.tlstatLost t.r.clk.tlstatSrc
      t.r.clk.tlsteps) (TdcRegs.mk x_r_tdc_tdccalCause x_r_tdc_tdccalRetry x_r_tdc_tdccalAbandon
      x_r_tdc_tdccaltemp x_r_tdc_tdccaltime x_r_tdc_tdccalok x_r_tdc_tdccalfail t.r.tdc.binselCh
      t.r.tdc.binselIndex) x_r_ch (DriveRegs.mk x_r_drv_xdstatBooston x_r_drv_xdstatVdrvok t.r.drv.vdrvmv
      x_r_drv_vdrvtgt t.r.drv.boostfail t.r.drv.fastcnt t.r.drv.psover) x_r_path t.r.port t.r.flow t.r.pw
      t.r.zero t.r.gas t.r.tblk t.r.tch (TempRegs.mk t.r.tmp.tmpstatNocoef t.r.tmp.swaprun t.r.tmp.swapok
      t.r.tmp.swapcnt t.r.tmp.tmeascnt x_r_tmp_twaitv) t.r.rgr (MemRegs.mk t.r.mem.memstatUe
      t.r.mem.memstatXcol t.r.mem.memstatBgfail t.r.mem.xcolinfoAgent t.r.mem.xcolinfoWaddr t.r.mem.xcolcnt
      t.r.mem.cecnt t.r.mem.uecnt t.r.mem.ueseg t.r.mem.ueaddr t.r.mem.bgpass t.r.mem.bgabort t.r.mem.bgskip
      t.r.mem.bglast t.r.mem.erasemax t.r.mem.spareblk t.r.mem.recovDone t.r.mem.recovDisc t.r.mem.arcue
      x_r_mem_arcsuspcnt x_r_mem_evqdrop) (RadioRegs.mk x_r_rf_rfstatLock t.r.rf.rfstatClamp
      t.r.rf.rfstatVitwait t.r.rf.rfstatCalok x_r_rf_rffreq x_r_rf_rfchanNum x_r_rf_rfchanRate t.r.rf.rfrssi
      t.r.rf.rffei t.r.rf.txcnt t.r.rf.rxcnt t.r.rf.rxerr t.r.rf.defduty t.r.rf.defdwell t.r.rf.defdrop
      t.r.rf.seqtx t.r.rf.rfcalfail t.r.rf.txabort) (LinkRegs.mk t.r.lnk.parentid x_r_lnk_sfn t.r.lnk.guard
      t.r.lnk.lastcont x_r_lnk_missrun t.r.lnk.bcnrx t.r.lnk.bcnmiss x_r_lnk_searchn t.r.lnk.pollok
      x_r_lnk_pollfail t.r.lnk.retries t.r.lnk.rxold t.r.lnk.rxrepeat t.r.lnk.rxmic t.r.lnk.rxnokey
      t.r.lnk.rxbad t.r.lnk.fbtx t.r.lnk.legtx t.r.lnk.legack t.r.lnk.wakedet t.r.lnk.sessions
      t.r.lnk.hosucc t.r.lnk.hosfn t.r.lnk.hodone t.r.lnk.hofail t.r.lnk.deputyid t.r.lnk.pardays
      x_r_lnk_cslost x_r_lnk_upmiss t.r.lnk.joins t.r.lnk.bcntx x_r_lnk_bcnskip) (DispRegs.mk
      t.r.dsp.dspstatGlassfail t.r.dsp.dspstatVlcdlow t.r.dsp.dspstatPump t.r.dsp.dspstatNomap
      t.r.dsp.dspstatTblbad t.r.dsp.vlcdmv t.r.dsp.rbfail t.r.dsp.rblast t.r.dsp.rbfailcnt x_r_dsp_epdold
      t.r.dsp.epdvp t.r.dsp.epdvn x_r_dsp_epdset t.r.dsp.epdupd x_r_dsp_epddrop x_r_dsp_epdpark
      t.r.dsp.emstatSubper t.r.dsp.emframes x_r_dsp_emwait) (IoRegs.mk t.r.io.hirqRsp t.r.io.hirqFres
      t.r.io.hirqTres t.r.io.hirqSbchg t.r.io.hirqStart x_r_io_hirqAlarm x_r_io_hirqStore t.r.io.authfail
      t.r.io.hsterr t.r.io.hstnrdy t.r.io.irerr t.r.io.pi0cnt t.r.io.pi1cnt t.r.io.poback0 t.r.io.poback1
      t.r.io.tmpcnt0 t.r.io.tmpcnt1 t.r.io.keycnt) t.r.mp (FaultRegs.mk x_r_flt_fltstatTamper
      x_r_flt_fltstatAlarm t.r.flt.fltstatRevsusp t.r.flt.wdstatStep t.r.flt.wdstatCause t.r.flt.wdtime
      t.r.flt.wdcnt t.r.flt.unavail t.r.flt.pinflt x_r_flt_lastalarm x_r_flt_lasttamper x_r_flt_tamptime
      x_r_flt_alarmcnt x_r_flt_tampcnt t.r.flt.revdays t.r.flt.alarmtx x_r_flt_gopskip)) (Power.mk t.pw.st
      x_pw_target x_pw_pend x_pw_latched x_pw_dom x_pw_seen t.pw.wokeAt x_pw_fast t.pw.request t.pw.heldReq
      t.pw.issuer t.pw.retbank t.pw.retsb t.pw.lowSeen t.pw.aboveAbort x_pw_uncleared x_pw_choose) x_cl
      (Clocks.mk t.ck.bins t.ck.binsCopy x_ck_heldReq x_ck_run t.ck.retries t.ck.retryAt t.ck.lastOk
      t.ck.everOk t.ck.staleLogged t.ck.okTemp t.ck.xrfTemp t.ck.tempReqAt t.ck.predErr t.ck.fallbackAt
      t.ck.restoring t.ck.lprcAt t.ck.lprcTemp t.ck.lprcDue t.ck.xtRun t.ck.pllFails t.ck.trimNext) t.tl
      (Registrar.mk (Legal.mk t.rg.legal.vfwd t.rg.legal.vrev t.rg.legal.eheat t.rg.legal.ecool
      t.rg.legal.etar t.rg.legal.vbfwd t.rg.legal.vbrev t.rg.legal.vbdist t.rg.legal.convf t.rg.legal.terr
      t.rg.legal.toper t.rg.legal.qmax t.rg.legal.qmaxt t.rg.legal.pmax t.rg.legal.pmaxt t.rg.legal.text
      t.rg.legal.audit t.rg.legal.intnum t.rg.legal.resV t.rg.legal.resE t.rg.legal.resB x_rg_legal_aseal
      t.rg.legal.fseq t.rg.legal.tseq) t.rg.tvfwd t.rg.tvrev t.rg.tenet t.rg.sh1 t.rg.sh2 t.rg.posted
      t.rg.errrun t.rg.elost t.rg.etemp t.rg.ehalt t.rg.egas t.rg.tariff t.rg.regtime t.rg.prev t.rg.fracs
      t.rg.acc t.rg.estop t.rg.gdist t.rg.pressure t.rg.pseq t.rg.lastValidP t.rg.bins t.rg.binStart
      t.rg.lsHist t.rg.stopped) t.seg t.bg t.bgReq t.xb t.xbBad (Archive.mk t.ar.minutes t.ar.quarters
      t.ar.events t.ar.fulls t.ar.audits t.ar.snaps t.ar.wrapped x_ar_run x_ar_paused t.ar.tseq t.ar.tags
      x_ar_warden t.ar.log t.ar.regions x_ar_jobs x_ar_sealedSlot x_ar_ledger t.ar.image t.ar.current
      t.ar.currentAudit t.ar.currentOther t.ar.lastDigest t.ar.pendingCopy t.ar.moduleCrc t.ar.floorCopy
      t.ar.digestCopy t.ar.moduleCopy t.ar.rowMap t.ar.counters t.ar.banks t.ar.bankCopy t.ar.erases
      t.ar.spares t.ar.retiredBlocks t.ar.ledgerDue t.ar.eraseDue t.ar.fewSpares t.ar.unusable) x_evq
      x_evDrop x_ch (TdcCal.mk x_cal_wait x_cal_run x_cal_blocks x_cal_abandoned x_cal_retryAt x_cal_lastOk
      t.cal.tempCopy x_cal_seqLogged) x_path (Piste.mk t.ps.epoch t.ps.next x_ps_waiting x_ps_run t.ps.fast
      t.ps.fastTimer t.ps.fastFrom t.ps.fastUs t.ps.overAt t.ps.checkedAt x_ps_cals x_ps_burst t.ps.waveBuf
      t.ps.limArm) t.fl (TempCore.mk t.tp.last t.tp.prev t.tp.lastValid t.tp.lastT0 t.tp.swap t.tp.swapCopy
      x_tp_started x_tp_startT x_tp_got x_tp_open_ x_tp_waited) (Radio.mk x_rad_mode x_rad_owner t.rad.duty
      t.rad.dwell t.rad.legCount x_rad_queue t.rad.air x_rad_seqCmd x_rad_synTemp x_rad_synBand
      x_rad_synFails t.rad.calStored t.rad.calAt t.rad.unavailable t.rad.clampLogged x_rad_ctl0 x_rad_ctl1
      x_rad_replyDue x_rad_linkRestart) (Link.mk x_ln_role x_ln_member x_ln_index x_ln_sync x_ln_boundary
      x_ln_deputy t.ln.bres t.ln.bflags t.ln.bsucc t.ln.bhsfn x_ln_loaded x_ln_ctrs t.ln.marks x_ln_obj
      t.ln.objCopy t.ln.other x_ln_owed x_ln_exch x_ln_ackOpen x_ln_alarms x_ln_search x_ln_backoff
      x_ln_nextSearch x_ln_nextFallback x_ln_members x_ln_store x_ln_queued x_ln_csNext x_ln_lowLogged
      x_ln_slot x_ln_asked x_ln_rxWait x_ln_ho x_ln_session x_ln_qlink t.ln.borSeen t.ln.lowSeenAt
      t.ln.micHist t.ln.micLogged x_ln_bcnLogged x_ln_access x_ln_rxSince x_ln_helloDue x_ln_listenDue
      t.ln.readAt t.ln.run t.ln.parDay x_ln_cfg x_ln_gotBeacon x_ln_promote x_ln_listening x_ln_lastResp)
      (Display.mk t.dp.map t.dp.mapOk t.dp.screen t.dp.lastKey x_dp_image x_dp_imageB t.dp.applied
      t.dp.appliedB x_dp_lastRender x_dp_glassOn t.dp.positive x_dp_stopReq t.dp.groupB x_dp_renderDue
      x_dp_renderNow x_dp_evtShown t.dp.segTest t.dp.emUntil t.dp.fallback x_dp_emDriving x_dp_emBlink
      x_dp_regions x_dp_dark x_dp_ledger x_dp_seatLeft t.dp.tickAt x_dp_park x_dp_railsOk t.dp.rbBad
      t.dp.rbGood) (Service.mk x_sv_opt x_sv_hst t.sv.baud t.sv.baudNext t.sv.optPort t.sv.hstPort
      t.sv.rdrPort t.sv.unread t.sv.miso t.sv.irTx t.sv.pendCmd t.sv.pendStatus t.sv.outcome t.sv.pendPort
      x_sv_slotW x_sv_patchW t.sv.reload t.sv.reloadRun) x_mp t.io (Faults.mk x_flt_standing t.flt.sigHist
      t.flt.lnkHist t.flt.regHist x_flt_alarm x_flt_alarmHeld t.flt.alarmCause t.flt.alarmDue t.flt.proc
      x_flt_reported x_flt_alarmPulse t.flt.dayStart)) := by
  unfold Works at *
  rw [h]
  rfl

theorem draw_works {s0 s} (h : Works s0 s) : Works s0 (draw s).2 := by
  unfold draw
  with_reducible exact Works.put h

theorem endStanding_works {s0 code args s} (h : Works s0 s) : Works s0 (endStanding code args s) := by
  unfold endStanding
  with_reducible exact Works.put h

theorem addStanding_works {s0 code args s} (h : Works s0 s) : Works s0 (addStanding code args s) := by
  unfold addStanding
  with_reducible exact onlyIf_works (fun x2 h3 => Works.put h3) h

theorem alarmEffects_works {s0 code s} (h : Works s0 s) : Works s0 (alarmEffects code s) := by
  unfold alarmEffects
  extract_lets +onlyGivenNames s1 s2 s3 s4 s5
  have h5 : Works s0 s5 := Works.put h
  clear_value s5
  with_reducible exact Works.ite (fun _ => h5) (fun _ => Works.put h5)

theorem tamperEffects_works {s0 code s} (h : Works s0 s) : Works s0 (tamperEffects code s) := by
  unfold tamperEffects
  with_reducible exact Works.put h

theorem classEffects_works {s0 code args s} (h : Works s0 s) : Works s0 (classEffects code args s) := by
  unfold classEffects
  with_reducible exact onlyIf_works (fun x2 h3 => tamperEffects_works h3) (onlyIf_works (fun x3 h4 => alarmEffects_works h4) (addStanding_works (endStanding_works h)))

theorem enqueueEvent_works {s0 e s} (h : Works s0 s) : Works s0 (enqueueEvent e s) := by
  unfold enqueueEvent
  with_reducible exact Works.ite (fun _ => Works.put h) (fun _ => Works.put h)

theorem flushDrops_works {s0 s} (h : Works s0 s) : Works s0 (flushDrops s) := by
  unfold flushDrops
  with_reducible exact Works.ite (fun _ => (by
    extract_lets +onlyGivenNames s3
    with_reducible exact classEffects_works (Works.put h))) (fun _ => h)

theorem logEvent_works {s0 code args s} (h : Works s0 s) : Works s0 (logEvent code args s) := by
  unfold logEvent
  extract_lets +onlyGivenNames s1
  have h1 : Works s0 s1 := flushDrops_works h
  clear_value s1
  with_reducible exact classEffects_works (enqueueEvent_works h1)

theorem domOn_works {s0 ds s} (h : Works s0 s) : Works s0 (domOn ds s) := by
  unfold domOn
  with_reducible exact Works.put h

theorem domOff_works {s0 ds s} (h : Works s0 s) : Works s0 (domOff ds s) := by
  unfold domOff
  with_reducible exact Works.put h

theorem updSes_works {s0 p f s} (h : Works s0 s) : Works s0 (updSes p f s) := by
  unfold updSes
  split
  · with_reducible exact Works.put h
  · with_reducible exact Works.put h

theorem wardenFrame_works {s0 obj payload state s} (h : Works s0 s) : Works s0 (wardenFrame obj payload state s) := by
  unfold wardenFrame
  with_reducible exact Works.put h

theorem tdcIdle_works {s0 s} (h : Works s0 s) : Works s0 (tdcIdle s) := by
  unfold tdcIdle
  with_reducible exact domOn_works (Works.put h)

theorem loadTable_works {s0 s n} (h : Works s0 s) : Works s0 (loadTable s n) := by
  unfold loadTable
  extract_lets +onlyGivenNames s2 s3
  split
  · with_reducible exact h
  · with_reducible exact Works.ite (fun _ => h) (fun _ => logEvent_works (Works.put h))

theorem tdcUp_works {s0 s} (h : Works s0 s) : Works s0 (tdcUp s) := by
  unfold tdcUp
  extract_lets +onlyGivenNames s2
  have h2 : Works s0 s2 := Works.foldl (fun x3 x5 h4 => loadTable_works h4) (tdcIdle_works h)
  clear_value s2
  with_reducible exact Works.ite (fun _ => Works.put h2) (fun _ => h2)

theorem tdcDown_works {s0 s} (h : Works s0 s) : Works s0 (tdcDown s) := by
  unfold tdcDown
  with_reducible exact domOff_works (Works.put h)

theorem runFast_works {s0 s} (h : Works s0 s) : Works s0 (runFast s) := by
  unfold runFast
  with_reducible exact Works.put h

theorem runNormal_works {s0 s} (h : Works s0 s) : Works s0 (runNormal s) := by
  unfold runNormal
  with_reducible exact Works.put h

theorem beginShots_works {s0 step s} (h : Works s0 s) : Works s0 (beginShots step s) := by
  unfold beginShots
  extract_lets +onlyGivenNames s2 s3 s4 s5 s6
  with_reducible exact tdcUp_works (runFast_works (domOn_works (Works.put h)))

theorem beginStep_works {s0 step s} (h : Works s0 s) : Works s0 (beginStep step s) := by
  unfold beginStep
  extract_lets +onlyGivenNames s1
  with_reducible exact Works.put h

theorem addJob_works {s0 j s} (h : Works s0 s) : Works s0 (addJob j s) := by
  unfold addJob
  with_reducible exact Works.put h

theorem writeObject_works {s0 id s} (h : Works s0 s) : Works s0 (writeObject id s) := by
  unfold writeObject
  with_reducible exact Works.ite (fun _ => h) (fun _ => addJob_works h)

theorem takeRun_works {s0 r s} (h : Works s0 s) : Works s0 (takeRun r s) := by
  unfold takeRun
  with_reducible exact Works.put h

theorem startOps_works {s0 s} (h : Works s0 s) : Works s0 (startOps s) := by
  unfold startOps
  dsimp only
  repeat' split
  all_goals first
    | exact h
    | exact takeRun_works h

theorem pauseRun_works {s0 s} (h : Works s0 s) : Works s0 (pauseRun s) := by
  unfold pauseRun
  split
  · with_reducible exact h
  · extract_lets +onlyGivenNames s2 s3
    have h3 : Works s0 s3 := Works.put h
    clear_value s3
    with_reducible exact Works.ite (fun _ => Works.put h3) (fun _ => h3)

theorem portsOn_works {s0 ns s} (h : Works s0 s) : Works s0 (portsOn ns s) := by
  unfold portsOn
  with_reducible exact Works.put h

theorem beginVitrine_works {s0 s} (h : Works s0 s) : Works s0 (beginVitrine s) := by
  unfold beginVitrine
  with_reducible exact domOn_works (Works.put h)

theorem beginStageWork_works {s0 n s} (h : Works s0 s) : Works s0 (beginStageWork n s) := by
  unfold beginStageWork
  with_reducible exact Works.ite (fun _ => (by
    extract_lets +onlyGivenNames s2 s3
    have h3 : Works s0 s3 := domOn_works (Works.put h)
    clear_value s3
    split
    · with_reducible exact beginVitrine_works (tdcIdle_works (portsOn_works h3))
    · with_reducible exact tdcIdle_works h3
    · with_reducible exact tdcIdle_works h3
    · with_reducible exact tdcIdle_works h3
    · with_reducible exact h3)) (fun _ => (by
    extract_lets +onlyGivenNames s4 s5
    have h5 : Works s0 s5 := domOn_works (Works.put h)
    clear_value s5
    split
    · with_reducible exact portsOn_works h5
    · with_reducible exact beginVitrine_works (tdcIdle_works h5)
    · with_reducible exact tdcIdle_works h5
    · with_reducible exact tdcIdle_works h5
    · with_reducible exact tdcIdle_works h5
    · with_reducible exact h5))

theorem onAdmit_works {s0 w s} (h : Works s0 s) : Works s0 (onAdmit w s) := by
  unfold onAdmit
  split
  · with_reducible exact beginStageWork_works h
  · with_reducible exact startOps_works (domOn_works h)
  · with_reducible exact startOps_works (domOn_works h)
  · with_reducible exact startOps_works (domOn_works h)
  · with_reducible exact startOps_works (domOn_works h)
  · with_reducible exact beginShots_works h
  · with_reducible exact beginShots_works h
  · with_reducible exact tdcUp_works (domOn_works (by
      extract_lets +onlyGivenNames s2
      have h2 : Works s0 s2 := beginStep_works h
      clear_value s2
      with_reducible exact Works.put h2))
  · with_reducible exact domOn_works (portsOn_works (beginStep_works h))
  · with_reducible exact domOn_works (portsOn_works h)
  · with_reducible exact domOn_works h
  · with_reducible exact domOn_works h
  · with_reducible exact domOn_works (Works.put h)
  · with_reducible exact domOn_works (Works.put h)
  · with_reducible exact domOn_works h
  · with_reducible exact domOn_works h
  · with_reducible exact domOn_works h
  · with_reducible exact domOn_works h
  · with_reducible exact beginVitrine_works (tdcUp_works h)
  · extract_lets +onlyGivenNames s3
    have h3 : Works s0 s3 := tdcUp_works h
    clear_value s3
    extract_lets +onlyGivenNames s4 s5 s6 s7
    with_reducible exact domOn_works (Works.put h3)
  · with_reducible exact h

theorem onDrop_works {s0 w s} (h : Works s0 s) : Works s0 (onDrop w s) := by
  unfold onDrop
  split
  · with_reducible exact Works.put h
  · with_reducible exact Works.put h
  · with_reducible exact Works.put h
  · with_reducible exact Works.put h
  · with_reducible exact Works.put h
  · with_reducible exact Works.put h
  · with_reducible exact Works.put h
  · with_reducible exact h

theorem dropRequest_works {s0 x reason s} (h : Works s0 s) : Works s0 (dropRequest x reason s) := by
  unfold dropRequest
  with_reducible exact onDrop_works (Works.put h)

theorem dropLate_works {s0 s} (h : Works s0 s) : Works s0 (dropLate s) := by
  unfold dropLate
  with_reducible exact Works.foldl (fun x2 x4 h3 => dropRequest_works h3) h

theorem evaluate.go_works {s0 x s} (h : Works s0 s) : Works s0 (evaluate.go x s) := by
  unfold evaluate.go
  extract_lets +onlyGivenNames s1 s2 s3 s4
  have h4 : Works s0 s4 := Works.put h
  clear_value s4
  with_reducible exact Works.ite (fun _ => onAdmit_works (Works.put h4)) (fun _ => h4)

theorem evaluate.head_works {s0 s} (h : Works s0 s) : Works s0 (evaluate.head s) := by
  unfold evaluate.head
  split
  · with_reducible exact Works.put h
  · split
    · with_reducible exact Works.ite (fun _ => h) (fun _ => evaluate.go_works h)
    · with_reducible exact evaluate.go_works h

theorem evaluate_works {s0 s} (h : Works s0 s) : Works s0 (evaluate s) := by
  unfold evaluate
  with_reducible exact evaluate.head_works (dropLate_works h)

theorem postSeat_works {s0 u cls hold deadline w s} (h : Works s0 s) : Works s0 (postSeat u cls hold deadline w s) := by
  unfold postSeat
  with_reducible exact Works.ite (fun _ => h) (fun _ => (by
    extract_lets +onlyGivenNames s2 s3 s4
    have h4 : Works s0 s4 := Works.put h
    clear_value s4
    with_reducible exact Works.ite (fun _ => logEvent_works (dropRequest_works h4)) (fun _ => Works.put h4)))

theorem requestsTogether_works {s0 f s} (hf : ∀ t0, Works s0 t0 → Works s0 (f t0)) (h : Works s0 s) : Works s0 (requestsTogether f s) := by
  unfold requestsTogether
  extract_lets +onlyGivenNames s2
  have h2 : Works s0 s2 := hf _ h
  clear_value s2
  with_reducible exact Works.ite (fun _ => h2) (fun _ => evaluate_works h2)

theorem requestSeat_works {s0 u cls hold deadline w s} (h : Works s0 s) : Works s0 (requestSeat u cls hold deadline w s) := by
  unfold requestSeat
  with_reducible exact requestsTogether_works (fun x2 h3 => postSeat_works h3) h

theorem releaseSeat_works {s0 u s} (h : Works s0 s) : Works s0 (releaseSeat u s) := by
  unfold releaseSeat
  with_reducible exact Works.ite (fun _ => evaluate_works (Works.put h)) (fun _ => h)

theorem yieldService_works {s0 s} (h : Works s0 s) : Works s0 (yieldService s) := by
  unfold yieldService
  with_reducible exact Works.ite (fun _ => releaseSeat_works h) (fun _ => Works.put h)

theorem displaySeat_works {s0 cls hold w s} (h : Works s0 s) : Works s0 (displaySeat cls hold w s) := by
  unfold displaySeat
  with_reducible exact requestSeat_works (yieldService_works h)

theorem serviceSeat_works {s0 s} (h : Works s0 s) : Works s0 (serviceSeat s) := by
  unfold serviceSeat
  with_reducible exact requestSeat_works h

theorem restCurator_works {s0 s} (h : Works s0 s) : Works s0 (restCurator s) := by
  unfold restCurator
  with_reducible exact Works.ite (fun _ => h) (fun _ => domOff_works h)

theorem updRegion_works {s0 r f s} (h : Works s0 s) : Works s0 (updRegion r f s) := by
  unfold updRegion
  with_reducible exact Works.put h

theorem requestPanelSeat_works {s0 s} (h : Works s0 s) : Works s0 (requestPanelSeat s) := by
  unfold requestPanelSeat
  extract_lets +onlyGivenNames s2
  with_reducible exact Works.ite (fun _ => h) (fun _ => displaySeat_works h)

theorem regionRequest_works {s0 r content s} (h : Works s0 s) : Works s0 (regionRequest r content s) := by
  unfold regionRequest
  extract_lets +onlyGivenNames s1 s2
  split
  · extract_lets +onlyGivenNames s4 s5
    have h5 : Works s0 s5 := updRegion_works h
    clear_value s5
    with_reducible exact requestPanelSeat_works (by
      extract_lets +onlyGivenNames s7
      have h7 : Works s0 s7 := updRegion_works h5
      clear_value s7
      with_reducible exact Works.put h7)
  · with_reducible exact updRegion_works h
  · with_reducible exact onlyIf_works (fun x5 h6 => Works.put h6) (updRegion_works h)
  · with_reducible exact onlyIf_works (fun x5 h6 => Works.put h6) (updRegion_works h)

theorem setLedger_works {s0 g v s} (h : Works s0 s) : Works s0 (setLedger g v s) := by
  unfold setLedger
  extract_lets +onlyGivenNames s2 s3 s4
  with_reducible exact onlyIf_works (fun x5 h6 => logEvent_works h6) (Works.put h)

theorem parkRegion_works {s0 r s} (h : Works s0 s) : Works s0 (parkRegion r s) := by
  unfold parkRegion
  extract_lets +onlyGivenNames s2 s3 s4 s5 s6 s7 s8
  have h8 : Works s0 s8 := Works.foldl (fun x9 x11 h10 => setLedger_works h10) h
  clear_value s8
  with_reducible exact updRegion_works (Works.put h8)

theorem parkStart_works {s0 cause s} (h : Works s0 s) : Works s0 (parkStart cause s) := by
  unfold parkStart
  with_reducible exact Works.ite (fun _ => h) (fun _ => (by
    split
    · rename_i y2_0 y2_1 y2_2 y2_3
      extract_lets +onlyGivenNames s3 s4
      have e : Works s0 y2_2 := by
        revert y2_3
        split
        · exact fun e => Works.of_pair1 e (draw_works h)
        · exact fun e => Works.of_pair1 e h
      have h4 : Works s0 s4 := Works.foldl (fun x5 x7 h6 => parkRegion_works h6) e
      clear_value s4
      extract_lets +onlyGivenNames s8 s9
      have h9 : Works s0 s9 := Works.ite (fun _ => Works.put h4) (fun _ => h4)
      clear_value s9
      with_reducible exact logEvent_works (Works.put h9)))

theorem render_works {s0 s} (h : Works s0 s) : Works s0 (render s) := by
  unfold render
  with_reducible exact Works.ite (fun _ => h) (fun _ => (by
    split
    · extract_lets +onlyGivenNames s4 s5
      have h5 : Works s0 s5 := Works.put h
      clear_value s5
      split
      · with_reducible exact Works.foldl (fun x8 x9 h10 => (by
          extract_lets +onlyGivenNames s11 s12 s13 s14
          with_reducible exact Works.ite (fun _ => h10) (fun _ => Works.ite (fun _ => regionRequest_works h10) (fun _ => Works.ite (fun _ => h10) (fun _ => regionRequest_works h10))))) (Works.put h5)
      · with_reducible exact domOn_works (Works.put h5)
      · with_reducible exact h5))

theorem reserve_works {s0 s keyid} (h : Works s0 s) : Works s0 (reserve s keyid) := by
  unfold reserve
  extract_lets +onlyGivenNames s2 s3 s4 s5 s6
  with_reducible exact Works.ite (fun _ => h) (fun _ => onlyIf_works (fun x7 h8 => logEvent_works h8) (writeObject_works (Works.put h)))

theorem loadKeys_works {s0 s} (h : Works s0 s) : Works s0 (loadKeys s) := by
  unfold loadKeys
  with_reducible exact Works.foldl (fun x2 x4 h3 => reserve_works h3) (Works.put h)

theorem takeCtr_works {s0 keyid s} (h : Works s0 s) : Works s0 (takeCtr keyid s).2 := by
  unfold takeCtr
  extract_lets +onlyGivenNames s2
  have h2 : Works s0 s2 := reserve_works h
  clear_value s2
  extract_lets +onlyGivenNames s3 s4 s5
  have h5 : Works s0 s5 := reserve_works (Works.put h2)
  clear_value s5
  with_reducible exact onlyIf_works (fun x6 h7 => logEvent_works h7) h5

theorem stepMessageCounter_works {s0 s} (h : Works s0 s) : Works s0 (stepMessageCounter s) := by
  unfold stepMessageCounter
  split
  · with_reducible exact Works.ite (fun _ => h) (fun _ => takeCtr_works h)
  · with_reducible exact h

theorem buildAlarmFrame_works {s0 s} (h : Works s0 s) : Works s0 (buildAlarmFrame s) := by
  unfold buildAlarmFrame
  extract_lets +onlyGivenNames s1 s2 s3
  with_reducible exact stepMessageCounter_works (Works.put h)

theorem telegram_works {s0 use extra s} (h : Works s0 s) : Works s0 (telegram use extra s).2 := by
  unfold telegram
  with_reducible exact stepMessageCounter_works (Works.put h)

theorem queueTx_works {s0 f s} (h : Works s0 s) : Works s0 (queueTx f s) := by
  unfold queueTx
  with_reducible exact Works.put h

theorem calibrateSynth_works {s0 band s} (h : Works s0 s) : Works s0 (calibrateSynth band s) := by
  unfold calibrateSynth
  with_reducible exact Works.put h

theorem recalibrate_works {s0 hz s} (h : Works s0 s) : Works s0 (recalibrate hz s) := by
  unfold recalibrate
  with_reducible exact Works.ite (fun _ => calibrateSynth_works h) (fun _ => h)

theorem tune_works {s0 hz num rate s} (h : Works s0 s) : Works s0 (tune hz num rate s) := by
  unfold tune
  extract_lets +onlyGivenNames s2 s3 s4 s5 s6
  with_reducible exact recalibrate_works (Works.put h)

theorem tuneTo_works {s0 t s} (h : Works s0 s) : Works s0 (tuneTo t s) := by
  unfold tuneTo
  with_reducible exact tune_works h

theorem pumpTx_works {s0 s} (h : Works s0 s) : Works s0 (pumpTx s) := by
  unfold pumpTx
  with_reducible exact Works.ite (fun _ => h) (fun _ => (by
    split
    · with_reducible exact h
    · with_reducible exact Works.ite (fun _ => h) (fun _ => Works.ite (fun _ => h) (fun _ => Works.ite (fun _ => h) (fun _ => postSeat_works (Works.put h))))))

theorem sequencerSend_works {s0 f s} (h : Works s0 s) : Works s0 (sequencerSend f s) := by
  unfold sequencerSend
  with_reducible exact Works.ite (fun _ => Works.put h) (fun _ => requestsTogether_works (fun x2 h3 => pumpTx_works h3) (Works.put h))

theorem pumpSequencer_works {s0 s} (h : Works s0 s) : Works s0 (pumpSequencer s) := by
  unfold pumpSequencer
  split
  · with_reducible exact Works.ite (fun _ => h) (fun _ => sequencerSend_works h)
  · with_reducible exact h

theorem pumpArchive_works {s0 s} (h : Works s0 s) : Works s0 (pumpArchive s) := by
  unfold pumpArchive
  with_reducible exact Works.ite (fun _ => h) (fun _ => (by
    extract_lets +onlyGivenNames s2
    have h2 : Works s0 s2 := (by
      unfold s2
      split
      · with_reducible exact postSeat_works h
      · with_reducible exact Works.ite (fun _ => postSeat_works h) (fun _ => Works.ite (fun _ => postSeat_works h) (fun _ => h)))
    clear_value s2
    split
    · with_reducible exact postSeat_works h2
    · with_reducible exact h2))

theorem endService_works {s0 p cause s} (h : Works s0 s) : Works s0 (endService p cause s) := by
  unfold endService
  with_reducible exact Works.ite (fun _ => (by
    extract_lets +onlyGivenNames s2 s3
    have h3 : Works s0 s3 := Works.ite (fun _ => h) (fun _ => Works.put h)
    clear_value s3
    with_reducible exact logEvent_works (updSes_works h3))) (fun _ => h)

theorem endServiceAll_works {s0 cause s} (h : Works s0 s) : Works s0 (endServiceAll cause s) := by
  unfold endServiceAll
  with_reducible exact endService_works (endService_works h)

theorem writeLedger_works {s0 s} (h : Works s0 s) : Works s0 (writeLedger s) := by
  unfold writeLedger
  with_reducible exact wardenFrame_works (Works.put h)

theorem commitShadow_works {s0 s} (h : Works s0 s) : Works s0 (commitShadow s) := by
  unfold commitShadow
  extract_lets +onlyGivenNames s2 s3
  have h3 : Works s0 s3 := (by
    unfold s3
    split
    · with_reducible exact Works.ite (fun _ => Works.put h) (fun _ => pauseRun_works h)
    · with_reducible exact h)
  clear_value s3
  with_reducible exact writeLedger_works (wardenFrame_works (Works.put h3))

theorem skipCommit_works {s0 s} (h : Works s0 s) : Works s0 (skipCommit s) := by
  unfold skipCommit
  with_reducible exact logEvent_works (Works.put h)

theorem commitOrSkip_works {s0 s} (h : Works s0 s) : Works s0 (commitOrSkip s) := by
  unfold commitOrSkip
  with_reducible exact Works.ite (fun _ => commitShadow_works h) (fun _ => skipCommit_works h)

theorem holdAlarm_works {s0 cause s} (h : Works s0 s) : Works s0 (holdAlarm cause s) := by
  unfold holdAlarm
  with_reducible exact Works.ite (fun _ => Works.put h) (fun _ => h)

theorem updCh_works {s0 n f g s} (h : Works s0 s) : Works s0 (updCh n f g s) := by
  unfold updCh
  with_reducible exact Works.put h

theorem armChannel_works {s0 n cfg s} (h : Works s0 s) : Works s0 (armChannel n cfg s) := by
  unfold armChannel
  extract_lets +onlyGivenNames s1
  with_reducible exact Works.ite (fun _ => updCh_works h) (fun _ => h)

theorem disarm_works {s0 n s} (h : Works s0 s) : Works s0 (disarm n s) := by
  unfold disarm
  with_reducible exact updCh_works h

theorem updPath_works {s0 k f s} (h : Works s0 s) : Works s0 (updPath k f s) := by
  unfold updPath
  with_reducible exact Works.put h

theorem setTexp_works {s0 k t s} (h : Works s0 s) : Works s0 (setTexp k t s) := by
  unfold setTexp
  extract_lets +onlyGivenNames s2
  have h2 : Works s0 s2 := updPath_works h
  clear_value s2
  with_reducible exact Works.put h2

theorem renewPairs_works {s0 s} (h : Works s0 s) : Works s0 (renewPairs s) := by
  unfold renewPairs
  with_reducible exact Works.foldl (fun x2 x4 h3 => setTexp_works h3) h

theorem endStep_works {s0 u s} (h : Works s0 s) : Works s0 (endStep u s) := by
  unfold endStep
  with_reducible exact releaseSeat_works (Works.put h)

theorem requestCals_works {s0 s} (h : Works s0 s) : Works s0 (requestCals s) := by
  unfold requestCals
  with_reducible exact Works.ite (fun _ => h) (fun _ => (by
    extract_lets +onlyGivenNames s2 s3
    have h3 : Works s0 s3 := Works.ite (fun _ => postSeat_works (Works.put h)) (fun _ => h)
    clear_value s3
    with_reducible exact Works.ite (fun _ => postSeat_works h3) (fun _ => h3)))

theorem sealFullFor_works {s0 c kind a0 a1 s} (h : Works s0 s) : Works s0 (sealFullFor c kind a0 a1 s) := by
  unfold sealFullFor
  extract_lets +onlyGivenNames s2 s3 s4
  have h4 : Works s0 s4 := Works.put h
  clear_value s4
  with_reducible exact addJob_works h4

theorem sealFull_works {s0 kind a0 a1 s} (h : Works s0 s) : Works s0 (sealFull kind a0 a1 s) := by
  unfold sealFull
  with_reducible exact sealFullFor_works h

theorem receiverOn_works {s0 t s} (h : Works s0 s) : Works s0 (receiverOn t s) := by
  unfold receiverOn
  with_reducible exact tuneTo_works (domOn_works (Works.put h))

theorem receiverOffAt_works {s0 at_ s} (h : Works s0 s) : Works s0 (receiverOffAt at_ s) := by
  unfold receiverOffAt
  split
  · with_reducible exact Works.put h
  · with_reducible exact h

theorem receiverOff_works {s0 s} (h : Works s0 s) : Works s0 (receiverOff s) := by
  unfold receiverOff
  with_reducible exact receiverOffAt_works h

theorem askWindow_works {s0 u start len s} (h : Works s0 s) : Works s0 (askWindow u start len s) := by
  unfold askWindow
  with_reducible exact postSeat_works h

theorem closeWindow_works {s0 s} (h : Works s0 s) : Works s0 (closeWindow s) := by
  unfold closeWindow
  with_reducible exact releaseSeat_works (receiverOff_works (Works.put h))

theorem closeTransmit_works {s0 u s} (h : Works s0 s) : Works s0 (closeTransmit u s) := by
  unfold closeTransmit
  extract_lets +onlyGivenNames s2 s3
  have h3 : Works s0 s3 := Works.put h
  clear_value s3
  with_reducible exact Works.ite (fun _ => releaseSeat_works h3) (fun _ => h3)

theorem endExchange_works {s0 s} (h : Works s0 s) : Works s0 (endExchange s) := by
  unfold endExchange
  with_reducible exact closeTransmit_works (closeTransmit_works (closeWindow_works (Works.put h)))

theorem csAdd_works {s0 e s} (h : Works s0 s) : Works s0 (csAdd e s) := by
  unfold csAdd
  with_reducible exact addJob_works (Works.put h)

theorem csStore_works {s0 kind src ctr payload s} (h : Works s0 s) : Works s0 (csStore kind src ctr payload s) := by
  unfold csStore
  with_reducible exact csAdd_works (Works.put h)

theorem csOwn_works {s0 kind payload s} (h : Works s0 s) : Works s0 (csOwn kind payload s) := by
  unfold csOwn
  split
  · rename_i y2_0 y2_1 y2_2 y2_3
    with_reducible exact csStore_works ((Works.of_pair1 y2_3 (by
      split
      · with_reducible exact takeCtr_works h
      · with_reducible exact h)))

theorem saveLink_works {s0 s} (h : Works s0 s) : Works s0 (saveLink s) := by
  unfold saveLink
  with_reducible exact writeObject_works (Works.put h)

theorem beginSearch_works {s0 s} (h : Works s0 s) : Works s0 (beginSearch s) := by
  unfold beginSearch
  extract_lets +onlyGivenNames s2 s3 s4 s5 s6
  with_reducible exact Works.put h

theorem resumeTracking_works {s0 o s} (h : Works s0 s) : Works s0 (resumeTracking o s) := by
  unfold resumeTracking
  extract_lets +onlyGivenNames s2 s3 s4 s5 s6
  with_reducible exact Works.put h

theorem startRole_works {s0 s} (h : Works s0 s) : Works s0 (startRole s) := by
  unfold startRole
  extract_lets +onlyGivenNames s2 s3 s4 s5 s6 s7
  have h7 : Works s0 s7 := closeWindow_works (loadKeys_works (Works.put h))
  clear_value s7
  split
  · with_reducible exact saveLink_works (Works.put h7)
  · with_reducible exact saveLink_works (Works.put h7)
  · with_reducible exact saveLink_works (Works.put h7)
  · with_reducible exact Works.ite (fun _ => (by
      extract_lets +onlyGivenNames s8 s9
      have h9 : Works s0 s9 := resumeTracking_works (Works.put h7)
      clear_value s9
      with_reducible exact Works.ite (fun _ => Works.put h9) (fun _ => beginSearch_works h9))) (fun _ => beginSearch_works (Works.put h7))

theorem markReported_works {s0 code s} (h : Works s0 s) : Works s0 (markReported code s) := by
  unfold markReported
  with_reducible exact Works.put h

theorem reportAlarms_works {s0 s} (h : Works s0 s) : Works s0 (reportAlarms s) := by
  unfold reportAlarms
  with_reducible exact Works.ite (fun _ => h) (fun _ => (by
    extract_lets +onlyGivenNames s2 s3
    split
    · with_reducible exact Works.foldl (fun x4 x6 h5 => markReported_works (csOwn_works h5)) (Works.put h)
    · with_reducible exact Works.put h
    · with_reducible exact Works.put h
    · with_reducible exact Works.ite (fun _ => Works.foldl (fun x7 x9 h8 => (by
        split
        · rename_i y10_0 y10_1 y10_2 y10_3
          with_reducible exact markReported_works (queueTx_works ((Works.of_pair1 y10_3 (telegram_works h8)))))) (Works.put h)) (fun _ => h)))

theorem askBeacon_works {s0 s} (h : Works s0 s) : Works s0 (askBeacon s) := by
  unfold askBeacon
  split
  · with_reducible exact h
  · with_reducible exact Works.ite (fun _ => h) (fun _ => askWindow_works (Works.put h))

theorem endSlot_works {s0 x s} (h : Works s0 s) : Works s0 (endSlot x s) := by
  unfold endSlot
  with_reducible exact closeTransmit_works (closeWindow_works (receiverOffAt_works (Works.put h)))

theorem askSlot_works {s0 x s} (h : Works s0 s) : Works s0 (askSlot x s) := by
  unfold askSlot
  with_reducible exact postSeat_works (askWindow_works (Works.put h))

theorem skipSlot_works {s0 s} (h : Works s0 s) : Works s0 (skipSlot s) := by
  unfold skipSlot
  split
  · with_reducible exact closeTransmit_works (closeWindow_works (Works.put h))
  · with_reducible exact h

theorem serveSlots_works {s0 s} (h : Works s0 s) : Works s0 (serveSlots s) := by
  unfold serveSlots
  with_reducible exact Works.ite (fun _ => h) (fun _ => (by
    extract_lets +onlyGivenNames s2
    have h2 : Works s0 s2 := (by
      unfold s2
      split
      · extract_lets +onlyGivenNames s3
        with_reducible exact Works.ite (fun _ => endSlot_works h) (fun _ => h)
      · with_reducible exact h)
    clear_value s2
    split
    · with_reducible exact Works.ite (fun _ => askSlot_works h2) (fun _ => h2)
    · with_reducible exact h2))

theorem slotReceive_works {s0 s} (h : Works s0 s) : Works s0 (slotReceive s) := by
  unfold slotReceive
  split
  · with_reducible exact h
  · with_reducible exact Works.ite (fun _ => h) (fun _ => Works.ite (fun _ => skipSlot_works h) (fun _ => (by
      extract_lets +onlyGivenNames s2 s3
      have h3 : Works s0 s3 := receiverOn_works h
      clear_value s3
      with_reducible exact Works.put h3)))

theorem renewSeat_works {s0 u s} (h : Works s0 s) : Works s0 (renewSeat u s) := by
  unfold renewSeat
  extract_lets +onlyGivenNames s2
  with_reducible exact Works.ite (fun _ => releaseSeat_works (receiverOff_works h)) (fun _ => h)

theorem standingReceive_works {s0 s} (h : Works s0 s) : Works s0 (standingReceive s) := by
  unfold standingReceive
  split
  · with_reducible exact Works.ite (fun _ => closeWindow_works h) (fun _ => h)
  · with_reducible exact Works.ite (fun _ => h) (fun _ => Works.ite (fun _ => Works.ite (fun _ => closeWindow_works h) (fun _ => h)) (fun _ => (by
      extract_lets +onlyGivenNames s2
      have h2 : Works s0 s2 := renewSeat_works h
      clear_value s2
      with_reducible exact Works.ite (fun _ => h2) (fun _ => (by
        extract_lets +onlyGivenNames s3
        have h3 : Works s0 s3 := requestSeat_works h2
        clear_value s3
        with_reducible exact Works.ite (fun _ => receiverOn_works h3) (fun _ => h3))))))

theorem pumpRx_works {s0 s} (h : Works s0 s) : Works s0 (pumpRx s) := by
  unfold pumpRx
  split
  · with_reducible exact Works.ite (fun _ => h) (fun _ => Works.ite (fun _ => receiverOn_works h) (fun _ => Works.put h))
  · with_reducible exact h

theorem followReceiver_works {s0 s} (h : Works s0 s) : Works s0 (followReceiver s) := by
  unfold followReceiver
  with_reducible exact Works.ite (fun _ => standingReceive_works (slotReceive_works (pumpRx_works h))) (fun _ => h)

theorem askWindows_works {s0 s} (h : Works s0 s) : Works s0 (askWindows s) := by
  unfold askWindows
  with_reducible exact Works.ite (fun _ => serveSlots_works (askBeacon_works h)) (fun _ => h)

theorem channelPasses_works {s0 n s} (h : Works s0 s) : Works s0 (channelPasses n s) := by
  unfold channelPasses
  extract_lets +onlyGivenNames s2
  with_reducible exact onlyIf_works (fun x3 h4 => logEvent_works h4) (updCh_works h)

theorem channelFails_works {s0 n code s} (h : Works s0 s) : Works s0 (channelFails n code s) := by
  unfold channelFails
  extract_lets +onlyGivenNames s2
  with_reducible exact updCh_works h

theorem reroute_works {s0 s} (h : Works s0 s) : Works s0 (reroute s) := by
  unfold reroute
  extract_lets +onlyGivenNames s2
  have h2 : Works s0 s2 := renewPairs_works h
  clear_value s2
  extract_lets +onlyGivenNames s3 s4
  with_reducible exact Works.ite (fun _ => logEvent_works (Works.put h2)) (fun _ => h2)

theorem judgeChannels_works {s0 codes s} (h : Works s0 s) : Works s0 (judgeChannels codes s) := by
  unfold judgeChannels
  with_reducible exact Works.foldl (fun x2 x4 h3 => Works.ite (fun _ => channelPasses_works h3) (fun _ => channelFails_works h3)) h

theorem reportFailures_works {s0 codes s} (h : Works s0 s) : Works s0 (reportFailures codes s) := by
  unfold reportFailures
  extract_lets +onlyGivenNames s2 s3
  have h3 : Works s0 s3 := Works.foldl (fun x4 x6 h5 => (by
    extract_lets +onlyGivenNames s7
    with_reducible exact onlyIf_works (fun x8 h9 => logEvent_works h9) h5)) h
  clear_value s3
  extract_lets +onlyGivenNames s10
  have h10 : Works s0 s10 := Works.foldl (fun x11 x13 h12 => onlyIf_works (fun x14 h15 => logEvent_works h15) h12) h3
  clear_value s10
  with_reducible exact Works.foldl (fun x16 x18 h17 => logEvent_works (updCh_works h17)) h10

theorem countCal_works {s0 codes s} (h : Works s0 s) : Works s0 (countCal codes s) := by
  unfold countCal
  with_reducible exact Works.ite (fun _ => writeObject_works (Works.put h)) (fun _ => Works.put h)

theorem planRetry_works {s0 codes s} (h : Works s0 s) : Works s0 (planRetry codes s) := by
  unfold planRetry
  with_reducible exact Works.ite (fun _ => Works.put h) (fun _ => Works.put h)

theorem endCal_works {s0 codes s} (h : Works s0 s) : Works s0 (endCal codes s) := by
  unfold endCal
  with_reducible exact releaseSeat_works (reroute_works (planRetry_works (countCal_works (reportFailures_works (judgeChannels_works (Works.put h))))))

theorem interruptBlock_works {s0 s} (h : Works s0 s) : Works s0 (interruptBlock s) := by
  unfold interruptBlock
  with_reducible exact Works.ite (fun _ => h) (fun _ => (by
    extract_lets +onlyGivenNames s2 s3 s4 s5
    have h5 : Works s0 s5 := Works.put h
    with_reducible exact Works.ite (fun _ => endCal_works h5) (fun _ => h5)))

theorem resumeBlock_works {s0 s} (h : Works s0 s) : Works s0 (resumeBlock s) := by
  unfold resumeBlock
  with_reducible exact Works.ite (fun _ => Works.put h) (fun _ => h)

theorem configureRun_works {s0 n cfg s} (h : Works s0 s) : Works s0 (configureRun n cfg s) := by
  unfold configureRun
  with_reducible exact Works.ite (fun _ => armChannel_works (interruptBlock_works h)) (fun _ => armChannel_works h)

theorem endShots_works {s0 s} (h : Works s0 s) : Works s0 (endShots s) := by
  unfold endShots
  with_reducible exact endStep_works (onlyIf_works (fun x2 h3 => domOff_works h3) (domOff_works (runNormal_works (Works.put h))))

theorem endTemperature_works {s0 s} (h : Works s0 s) : Works s0 (endTemperature s) := by
  unfold endTemperature
  with_reducible exact endStep_works (onlyIf_works (fun x2 h3 => domOff_works h3) (domOff_works (disarm_works h)))

theorem closeSession_works {s0 cause s} (h : Works s0 s) : Works s0 (closeSession cause s) := by
  unfold closeSession
  split
  · with_reducible exact h
  · with_reducible exact logEvent_works (closeWindow_works (Works.put h))

theorem withdrawBeacon_works {s0 cause s} (h : Works s0 s) : Works s0 (withdrawBeacon cause s) := by
  unfold withdrawBeacon
  extract_lets +onlyGivenNames s1 s2 s3 s4
  have h4 : Works s0 s4 := Works.put h
  clear_value s4
  with_reducible exact Works.ite (fun _ => h4) (fun _ => logEvent_works (Works.put h4))

theorem uploadFailed_works {s0 s} (h : Works s0 s) : Works s0 (uploadFailed s) := by
  unfold uploadFailed
  with_reducible exact Works.put h

theorem restartLink_works {s0 s} (h : Works s0 s) : Works s0 (restartLink s) := by
  unfold restartLink
  with_reducible exact Works.ite (fun _ => startRole_works (Works.put h)) (fun _ => h)

theorem txDropped_works {s0 f s} (h : Works s0 s) : Works s0 (txDropped f s) := by
  unfold txDropped
  extract_lets +onlyGivenNames s2 s3
  have h3 : Works s0 s3 := Works.put h
  clear_value s3
  split
  · with_reducible exact closeWindow_works (withdrawBeacon_works h3)
  · with_reducible exact endExchange_works (uploadFailed_works h3)
  · with_reducible exact endExchange_works h3
  · with_reducible exact closeWindow_works h3
  · with_reducible exact closeWindow_works h3
  · with_reducible exact closeWindow_works h3
  · with_reducible exact closeSession_works h3
  · with_reducible exact closeSession_works h3
  · with_reducible exact restartLink_works (holdAlarm_works h3)
  · with_reducible exact h3

theorem heedDrop_works {s0 s w} (h : Works s0 s) : Works s0 (heedDrop s w) := by
  unfold heedDrop
  split
  · split
    · with_reducible exact txDropped_works h
    · with_reducible exact Works.ite (fun _ => skipSlot_works h) (fun _ => h)
  · split
    · with_reducible exact endExchange_works (Works.ite (fun _ => h) (fun _ => uploadFailed_works h))
    · with_reducible exact h
  · with_reducible exact closeSession_works h
  · extract_lets +onlyGivenNames s2 s3 s4
    have h4 : Works s0 s4 := Works.put h
    clear_value s4
    split
    · with_reducible exact closeTransmit_works (txDropped_works h4)
    · with_reducible exact h4
  · extract_lets +onlyGivenNames s5 s6 s7
    have h7 : Works s0 s7 := Works.put h
    clear_value s7
    split
    · with_reducible exact closeTransmit_works (txDropped_works h7)
    · with_reducible exact h7
  · with_reducible exact skipSlot_works h
  · with_reducible exact h

theorem heedDrops_works {s0 s} (h : Works s0 s) : Works s0 (heedDrops s) := by
  unfold heedDrops
  with_reducible exact Works.foldl (fun x2 x3 h4 => heedDrop_works h4) (Works.put h)

theorem heedLate_works {s0 s} (h : Works s0 s) : Works s0 (heedLate s) := by
  unfold heedLate
  with_reducible exact heedDrops_works (dropLate_works h)

theorem beginHibernate_works {s0 s} (h : Works s0 s) : Works s0 (beginHibernate s) := by
  unfold beginHibernate
  with_reducible exact logEvent_works (sealFull_works (endServiceAll_works h))

theorem beginOff_works {s0 s} (h : Works s0 s) : Works s0 (beginOff s) := by
  unfold beginOff
  with_reducible exact logEvent_works (parkStart_works (writeLedger_works (commitOrSkip_works (endServiceAll_works h))))

theorem beginEntryTo_works {s0 t s} (h : Works s0 s) : Works s0 (beginEntryTo t s) := by
  unfold beginEntryTo
  split
  · with_reducible exact beginHibernate_works h
  · with_reducible exact beginOff_works h
  · with_reducible exact h

theorem evaluateRequest_works {s0 t s} (h : Works s0 s) : Works s0 (evaluateRequest t s) := by
  unfold evaluateRequest
  split
  · with_reducible exact beginEntryTo_works (Works.put h)
  · extract_lets +onlyGivenNames s2 s3 s4 s5
    with_reducible exact Works.put h

theorem stateRequest_works {s0 t s} (h : Works s0 s) : Works s0 (stateRequest t s) := by
  unfold stateRequest
  split
  · with_reducible exact Works.ite (fun _ => Works.put h) (fun _ => Works.put h)
  · with_reducible exact Works.ite (fun _ => h) (fun _ => evaluateRequest_works h)

theorem chooseState_works {s0 s} (h : Works s0 s) : Works s0 (chooseState s) := by
  unfold chooseState
  with_reducible exact Works.ite (fun _ => (by
    extract_lets +onlyGivenNames s3 s4
    have h4 : Works s0 s4 := Works.put h
    clear_value s4
    split
    · extract_lets +onlyGivenNames s6 s7
      have h7 : Works s0 s7 := stateRequest_works (Works.put h4)
      clear_value s7
      with_reducible exact Works.ite (fun _ => h7) (fun _ => stateRequest_works h7)
    · with_reducible exact stateRequest_works h4)) (fun _ => h)

theorem vitrineOff_works {s0 s} (h : Works s0 s) : Works s0 (vitrineOff s) := by
  unfold vitrineOff
  with_reducible exact releaseSeat_works (domOff_works (disarm_works (Works.put h)))

theorem switchReference_works {s0 s} (h : Works s0 s) : Works s0 (switchReference s) := by
  unfold switchReference
  split
  · with_reducible exact Works.ite (fun _ => h) (fun _ => Works.ite (fun _ => Works.ite (fun _ => vitrineOff_works h) (fun _ => h)) (fun _ => Works.ite (fun _ => configureRun_works (Works.put h)) (fun _ => h)))
  · with_reducible exact h

theorem beginRecord_works {s0 i due s} (h : Works s0 s) : Works s0 (beginRecord i due s) := by
  unfold beginRecord
  with_reducible exact sealFull_works (Works.put h)

theorem endRecord_works {s0 s} (h : Works s0 s) : Works s0 (endRecord s) := by
  unfold endRecord
  with_reducible exact Works.ite (fun _ => Works.put h) (fun _ => h)

theorem waitForGate_works {s0 i due s} (h : Works s0 s) : Works s0 (waitForGate i due s) := by
  unfold waitForGate
  with_reducible exact Works.ite (fun _ => h) (fun _ => Works.put h)

theorem pisteRequest_works {s0 s} (h : Works s0 s) : Works s0 (pisteRequest s) := by
  unfold pisteRequest
  with_reducible exact Works.ite (fun _ => h) (fun _ => (by
    split
    · with_reducible exact h
    · with_reducible exact Works.ite (fun _ => beginRecord_works h) (fun _ => Works.ite (fun _ => onlyIf_works (fun x2 h3 => waitForGate_works h3) h) (fun _ => postSeat_works h))))

theorem followDischarge_works {s0 s} (h : Works s0 s) : Works s0 (followDischarge s) := by
  unfold followDischarge
  with_reducible exact Works.ite (fun _ => h) (fun _ => (by
    extract_lets +onlyGivenNames s2 s3
    split
    · with_reducible exact Works.put h
    · with_reducible exact Works.put h
    · with_reducible exact h))

theorem armMeasure_works {s0 s} (h : Works s0 s) : Works s0 (armMeasure s) := by
  unfold armMeasure
  with_reducible exact Works.ite (fun _ => h) (fun _ => Works.ite (fun _ => (by
    split
    · with_reducible exact waitForGate_works h
    · with_reducible exact h)) (fun _ => configureRun_works h))

theorem restCals_works {s0 s} (h : Works s0 s) : Works s0 (restCals s) := by
  unfold restCals
  with_reducible exact Works.put h

theorem abandonRuns_works {s0 s} (h : Works s0 s) : Works s0 (abandonRuns s) := by
  unfold abandonRuns
  split
  · split
    · with_reducible exact endTemperature_works h
    · with_reducible exact endShots_works h
  · with_reducible exact h

theorem restTdc_works {s0 s} (h : Works s0 s) : Works s0 (restTdc s) := by
  unfold restTdc
  with_reducible exact Works.ite (fun _ => h) (fun _ => (by
    extract_lets +onlyGivenNames s2
    have h2 : Works s0 s2 := Works.foldl (fun x3 x5 h4 => disarm_works h4) h
    clear_value s2
    with_reducible exact Works.ite (fun _ => h2) (fun _ => tdcDown_works h2)))

theorem keepAlarmFrame_works {s0 s} (h : Works s0 s) : Works s0 (keepAlarmFrame s) := by
  unfold keepAlarmFrame
  with_reducible exact Works.ite (fun _ => h) (fun _ => (by
    split
    · with_reducible exact buildAlarmFrame_works h
    · with_reducible exact Works.ite (fun _ => buildAlarmFrame_works h) (fun _ => h)))

theorem renderService_works {s0 s} (h : Works s0 s) : Works s0 (renderService s) := by
  unfold renderService
  with_reducible exact Works.ite (fun _ => h) (fun _ => (by
    extract_lets +onlyGivenNames s2
    have h2 : Works s0 s2 := Works.ite (fun _ => displaySeat_works h) (fun _ => h)
    clear_value s2
    with_reducible exact Works.ite (fun _ => render_works (releaseSeat_works h2)) (fun _ => Works.ite (fun _ => render_works h2) (fun _ => h2))))

theorem portService_works {s0 s} (h : Works s0 s) : Works s0 (portService s) := by
  unfold portService
  extract_lets +onlyGivenNames s2 s3
  have h3 : Works s0 s3 := Works.ite (fun _ => releaseSeat_works h) (fun _ => h)
  clear_value s3
  with_reducible exact Works.ite (fun _ => serviceSeat_works h3) (fun _ => h3)

theorem settle_works {s0 s} (h : Works s0 s) : Works s0 (settle s) := by
  unfold settle
  extract_lets +onlyGivenNames s2
  have h2 : Works s0 s2 := reportAlarms_works (heedLate_works h)
  clear_value s2
  extract_lets +onlyGivenNames s3
  have h3 : Works s0 s3 := Works.ite (fun _ => restCurator_works (portService_works (renderService_works (followReceiver_works (pumpSequencer_works (keepAlarmFrame_works (restTdc_works (resumeBlock_works (armMeasure_works (followDischarge_works (abandonRuns_works (requestsTogether_works (fun x4 h5 => askWindows_works (requestCals_works (pumpArchive_works (pumpTx_works (pisteRequest_works h5))))) (restCals_works (endRecord_works (switchReference_works h2))))))))))))))) (fun _ => Works.ite (fun _ => requestsTogether_works (fun x6 h7 => pumpArchive_works h7) h2) (fun _ => h2))
  clear_value s3
  with_reducible exact chooseState_works h3

theorem done_works {s0 s} (h : Works s0 s) : WorksO s0 (done s) := by
  unfold done
  with_reducible exact WorksO.next (settle_works h)

/-- The standing work moves only what `withWork` names. -/
theorem settle_frame (s : State) : settle s = s.withWork (settle s) := settle_works (Works.refl s)

end Sys2Proof.Machine
end

