-- ==== Sys2Proof/Laws/Drifts.lean ====
section
/-! SUPPORT. A wake from Doze or Standby and a sample of the AON monitor move only the parts that `State.withDrift` names. -/

namespace Sys2Proof.Machine

/-- `t` differs from `s` only in what standing work, a wake or a sample may move. -/
def Drifts (s t : State) : Prop := t = s.withDrift t
/-- `Drifts` of the next state that an outcome answers, if it answers one. -/
def DriftsO (s : State) (o : Host.Outcome State Fault Refusal) : Prop := ∀ t, o = .next t → Drifts s t
theorem Drifts.refl (s : State) : Drifts s s := rfl
theorem Drifts.trans {s t u : State} (h : Drifts s t) (k : Drifts t u) : Drifts s u := by
  unfold Drifts at *
  rw [k]
  conv => lhs; rw [h]
  rfl
theorem Drifts.ite {s t u : State} {c : Prop} [Decidable c] (h : c → Drifts s t) (k : ¬c → Drifts s u) : Drifts s (if c then t else u) := by
  split
  · exact h ‹_›
  · exact k ‹_›
theorem Drifts.foldl {α : Type} {s0 : State} {f : State → α → State} (hf : ∀ s x, Drifts s0 s → Drifts s0 (f s x)) {l : List α} {s : State}
    (h : Drifts s0 s) : Drifts s0 (l.foldl f s) := by
  induction l generalizing s with
  | nil => exact h
  | cons x xs ih => exact ih (hf _ _ h)
theorem Drifts.foldr {α : Type} {s0 : State} {f : α → State → State} (hf : ∀ x s, Drifts s0 s → Drifts s0 (f x s)) {l : List α} {s : State}
    (h : Drifts s0 s) : Drifts s0 (l.foldr f s) := by
  induction l with
  | nil => exact h
  | cons x xs ih => exact hf _ _ ih
theorem onlyIf_drifts {s0 : State} {b : Bool} {f : State → State} (hf : ∀ t, Drifts s0 t → Drifts s0 (f t)) {s : State} (h : Drifts s0 s) : Drifts s0 (onlyIf b f s) := by
  unfold onlyIf; split
  · exact hf _ h
  · exact h
theorem DriftsO.next {s t : State} (h : Drifts s t) : DriftsO s (.next t) := by
  intro u hu; cases hu; exact h
theorem DriftsO.ite {s : State} {t u} {c : Prop} [Decidable c] (h : c → DriftsO s t) (k : ¬c → DriftsO s u) : DriftsO s (if c then t else u) := by
  split
  · exact h ‹_›
  · exact k ‹_›
theorem DriftsO.fault {s : State} {f} : DriftsO s (.fault f) := by intro u hu; cases hu
theorem Drifts.of_pair1 {α : Type} {s t : State} {p : α × State} {a : α} (e : p = (a, t)) (h : Drifts s p.2) : Drifts s t := by
  subst e; exact h

theorem Drifts.put {s t : State}
    {x_free x_start_wait x_r_pwr_wakesrc x_r_pwr_vbatmv x_r_pwr_vresmv x_r_pwr_vresmin x_r_pwr_clavail
    x_r_pwr_clfree x_r_pwr_cldropUnit x_r_pwr_cldropReason x_r_pwr_clmiss x_r_pwr_pwrefcnt
    x_r_pwr_pwrefuseRefuser x_r_pwr_pwrefuseTarget x_r_pwr_pwrefuseReason x_r_pwr_pendrepl x_r_pwr_vreslowcnt
    x_r_clk_clkstatVitrdy x_r_clk_clkstatPllvit x_r_clk_hfrctrim x_r_clk_tcoarse x_r_clk_dietemp
    x_r_tdc_tdccalCause x_r_tdc_tdccalRetry x_r_tdc_tdccalAbandon x_r_tdc_tdccaltemp x_r_tdc_tdccaltime
    x_r_tdc_tdccalok x_r_tdc_tdccalfail x_r_ch x_r_drv_xdstatBooston x_r_drv_xdstatVdrvok x_r_drv_vdrvtgt
    x_r_path x_r_tmp_twaitv x_r_mem_arcsuspcnt x_r_mem_evqdrop x_r_rf_rfstatLock x_r_rf_rffreq
    x_r_rf_rfchanNum x_r_rf_rfchanRate x_r_lnk_sfn x_r_lnk_missrun x_r_lnk_searchn x_r_lnk_pollfail
    x_r_lnk_cslost x_r_lnk_upmiss x_r_lnk_bcnskip x_r_dsp_epdold x_r_dsp_epdset x_r_dsp_epddrop
    x_r_dsp_epdpark x_r_dsp_emwait x_r_io_hirqAlarm x_r_io_hirqStore x_r_flt_fltstatTamper
    x_r_flt_fltstatAlarm x_r_flt_lastalarm x_r_flt_lasttamper x_r_flt_tamptime x_r_flt_alarmcnt
    x_r_flt_tampcnt x_r_flt_gopskip x_pw_st x_pw_target x_pw_pend x_pw_latched x_pw_dom x_pw_seen x_pw_wokeAt
    x_pw_fast x_pw_lowSeen x_pw_aboveAbort x_pw_uncleared x_pw_choose x_cl x_ck_heldReq x_ck_run x_ck_lprcDue
    x_ck_pllFails x_ck_trimNext x_tl_unc x_tl_contu x_tl_segStart x_rg_legal_aseal x_ar_run x_ar_paused
    x_ar_warden x_ar_jobs x_ar_sealedSlot x_ar_ledger x_evq x_evDrop x_ch x_cal_wait x_cal_run x_cal_blocks
    x_cal_abandoned x_cal_retryAt x_cal_lastOk x_cal_seqLogged x_path x_ps_waiting x_ps_run x_ps_cals
    x_ps_burst x_tp_started x_tp_startT x_tp_got x_tp_open_ x_tp_waited x_rad_mode x_rad_owner x_rad_queue
    x_rad_seqCmd x_rad_synTemp x_rad_synBand x_rad_synFails x_rad_ctl0 x_rad_ctl1 x_rad_replyDue
    x_rad_linkRestart x_ln_role x_ln_member x_ln_index x_ln_sync x_ln_boundary x_ln_deputy x_ln_loaded
    x_ln_ctrs x_ln_obj x_ln_owed x_ln_exch x_ln_ackOpen x_ln_alarms x_ln_search x_ln_backoff x_ln_nextSearch
    x_ln_nextFallback x_ln_members x_ln_store x_ln_queued x_ln_csNext x_ln_lowLogged x_ln_slot x_ln_asked
    x_ln_rxWait x_ln_ho x_ln_session x_ln_qlink x_ln_lowSeenAt x_ln_bcnLogged x_ln_access x_ln_rxSince
    x_ln_helloDue x_ln_listenDue x_ln_cfg x_ln_gotBeacon x_ln_promote x_ln_listening x_ln_lastResp x_dp_image
    x_dp_imageB x_dp_lastRender x_dp_glassOn x_dp_stopReq x_dp_renderDue x_dp_renderNow x_dp_evtShown
    x_dp_fallback x_dp_emDriving x_dp_emBlink x_dp_regions x_dp_dark x_dp_ledger x_dp_seatLeft x_dp_park
    x_dp_railsOk x_sv_opt x_sv_hst x_sv_slotW x_sv_patchW x_mp x_flt_standing x_flt_alarm x_flt_alarmHeld
    x_flt_reported x_flt_alarmPulse}
    (h : Drifts s t) :
    Drifts s
      (State.mk t.now x_free t.pending t.phase (Start.mk x_start_wait t.start.began t.start.waitFrom
      t.start.dur t.start.vresWait t.start.xtWait t.start.restored t.start.noXt32 t.start.chosen
      t.start.warned t.start.dispOk t.start.radioOk t.start.bank t.start.arcOk t.start.vitFail) t.nv t.sb
      t.cat t.governs t.active (Regs.mk t.r.sys (PowerRegs.mk x_r_pwr_wakesrc x_r_pwr_vbatmv x_r_pwr_vresmv
      x_r_pwr_vresmin t.r.pwr.rescest x_r_pwr_clavail x_r_pwr_clfree x_r_pwr_cldropUnit x_r_pwr_cldropReason
      x_r_pwr_clmiss x_r_pwr_pwrefcnt x_r_pwr_pwrefuseRefuser x_r_pwr_pwrefuseTarget x_r_pwr_pwrefuseReason
      t.r.pwr.latewake x_r_pwr_pendrepl t.r.pwr.borcnt x_r_pwr_vreslowcnt t.r.pwr.clabort) (ClockRegs.mk
      x_r_clk_clkstatVitrdy x_r_clk_clkstatPllvit t.r.clk.clkstatXt32ok t.r.clk.clkstatLprcok
      t.r.clk.clkstatStale t.r.clk.clkstatRtcsrc t.r.clk.vitstatResult t.r.clk.vitwarm t.r.clk.vitlast
      t.r.clk.xt32err t.r.clk.hfrcerr x_r_clk_hfrctrim x_r_clk_tcoarse t.r.clk.xrferr t.r.clk.lprcerr
      x_r_clk_dietemp t.r.clk.calok t.r.clk.calfail t.r.clk.xt32loss t.r.clk.tlstatLost t.r.clk.tlstatSrc
      t.r.clk.tlsteps) (TdcRegs.mk x_r_tdc_tdccalCause x_r_tdc_tdccalRetry x_r_tdc_tdccalAbandon
      x_r_tdc_tdccaltemp x_r_tdc_tdccaltime x_r_tdc_tdccalok x_r_tdc_tdccalfail t.r.tdc.binselCh
      t.r.tdc.binselIndex) x_r_ch (DriveRegs.mk x_r_drv_xdstatBooston x_r_drv_xdstatVdrvok t.r.drv.vdrvmv
      x_r_drv_vdrvtgt t.r.drv.boostfail t.r.drv.fastcnt t.r.drv.psover) x_r_path t.r.port t.r.flow t.r.pw
      t.r.zero t.r.gas t.r.tblk t.r.tch (TempRegs.mk t.r.tmp.tmpstatNocoef t.r.tmp.swaprun t.r.tmp.swapok
      t.r.tmp.swapcnt t.r.tmp.tmeascnt x_r_tmp_twaitv) t.r.rgr (MemRegs.mk t.r.mem.memstatUe
      t.r.mem.memstatXcol t.r.mem.memstatBgfail t.r.mem.xcolinfoAgent t.r.mem.xcolinfoWaddr t.r.mem.xcolcnt
      t.r.mem.cecnt t.r.mem.uecnt t.r.mem.ueseg t.r.mem.ueaddr t.r.mem.bgpass t.r.mem.bgabort t.r.mem.bgskip
      t.r.mem.bglast t.r.mem.erasemax t.r.mem.spareblk t.r.mem.recovDone t.r.mem.recovDisc t.r.mem.arcue
      x_r_mem_arcsuspcnt x_r_mem_evqdrop) (RadioRegs.mk x_r_rf_rfstatLock t.r.rf.rfstatClamp
      t.r.rf.rfstatVitwait t.r.rf.rfstatCalok x_r_rf_rffreq x_r_rf_rfchanNum x_r_rf_rfchanRate t.r.rf.rfrssi
      t.r.rf.rffei t.r.rf.txcnt t.r.rf.rxcnt t.r.rf.rxerr t.r.rf.defduty t.r.rf.defdwell t.r.rf.defdrop
      t.r.rf.seqtx t.r.rf.rfcalfail t.r.rf.txabort) (LinkRegs.mk t.r.lnk.parentid x_r_lnk_sfn t.r.lnk.guard
      t.r.lnk.lastcont x_r_lnk_missrun t.r.lnk.bcnrx t.r.lnk.bcnmiss x_r_lnk_searchn t.r.lnk.pollok
      x_r_lnk_pollfail t.r.lnk.retries t.r.lnk.rxold t.r.lnk.rxrepeat t.r.lnk.rxmic t.r.lnk.rxnokey
      t.r.lnk.rxbad t.r.lnk.fbtx t.r.lnk.legtx t.r.lnk.legack t.r.lnk.wakedet t.r.lnk.sessions
      t.r.lnk.hosucc t.r.lnk.hosfn t.r.lnk.hodone t.r.lnk.hofail t.r.lnk.deputyid t.r.lnk.pardays
      x_r_lnk_cslost x_r_lnk_upmiss t.r.lnk.joins t.r.lnk.bcntx x_r_lnk_bcnskip) (DispRegs.mk
      t.r.dsp.dspstatGlassfail t.r.dsp.dspstatVlcdlow t.r.dsp.dspstatPump t.r.dsp.dspstatNomap
      t.r.dsp.dspstatTblbad t.r.dsp.vlcdmv t.r.dsp.rbfail t.r.dsp.rblast t.r.dsp.rbfailcnt x_r_dsp_epdold
      t.r.dsp.epdvp t.r.dsp.epdvn x_r_dsp_epdset t.r.dsp.epdupd x_r_dsp_epddrop x_r_dsp_epdpark
      t.r.dsp.emstatSubper t.r.dsp.emframes x_r_dsp_emwait) (IoRegs.mk t.r.io.hirqRsp t.r.io.hirqFres
      t.r.io.hirqTres t.r.io.hirqSbchg t.r.io.hirqStart x_r_io_hirqAlarm x_r_io_hirqStore t.r.io.authfail
      t.r.io.hsterr t.r.io.hstnrdy t.r.io.irerr t.r.io.pi0cnt t.r.io.pi1cnt t.r.io.poback0 t.r.io.poback1
      t.r.io.tmpcnt0 t.r.io.tmpcnt1 t.r.io.keycnt) t.r.mp (FaultRegs.mk x_r_flt_fltstatTamper
      x_r_flt_fltstatAlarm t.r.flt.fltstatRevsusp t.r.flt.wdstatStep t.r.flt.wdstatCause t.r.flt.wdtime
      t.r.flt.wdcnt t.r.flt.unavail t.r.flt.pinflt x_r_flt_lastalarm x_r_flt_lasttamper x_r_flt_tamptime
      x_r_flt_alarmcnt x_r_flt_tampcnt t.r.flt.revdays t.r.flt.alarmtx x_r_flt_gopskip)) (Power.mk x_pw_st
      x_pw_target x_pw_pend x_pw_latched x_pw_dom x_pw_seen x_pw_wokeAt x_pw_fast t.pw.request t.pw.heldReq
      t.pw.issuer t.pw.retbank t.pw.retsb x_pw_lowSeen x_pw_aboveAbort x_pw_uncleared x_pw_choose) x_cl
      (Clocks.mk t.ck.bins t.ck.binsCopy x_ck_heldReq x_ck_run t.ck.retries t.ck.retryAt t.ck.lastOk
      t.ck.everOk t.ck.staleLogged t.ck.okTemp t.ck.xrfTemp t.ck.tempReqAt t.ck.predErr t.ck.fallbackAt
      t.ck.restoring t.ck.lprcAt t.ck.lprcTemp x_ck_lprcDue t.ck.xtRun x_ck_pllFails x_ck_trimNext)
      (Ledger.mk t.tl.phase t.tl.civNs t.tl.monoUs x_tl_unc x_tl_contu x_tl_segStart t.tl.slew t.tl.zone
      t.tl.zoneNext t.tl.contact) (Registrar.mk (Legal.mk t.rg.legal.vfwd t.rg.legal.vrev t.rg.legal.eheat
      t.rg.legal.ecool t.rg.legal.etar t.rg.legal.vbfwd t.rg.legal.vbrev t.rg.legal.vbdist t.rg.legal.convf
      t.rg.legal.terr t.rg.legal.toper t.rg.legal.qmax t.rg.legal.qmaxt t.rg.legal.pmax t.rg.legal.pmaxt
      t.rg.legal.text t.rg.legal.audit t.rg.legal.intnum t.rg.legal.resV t.rg.legal.resE t.rg.legal.resB
      x_rg_legal_aseal t.rg.legal.fseq t.rg.legal.tseq) t.rg.tvfwd t.rg.tvrev t.rg.tenet t.rg.sh1 t.rg.sh2
      t.rg.posted t.rg.errrun t.rg.elost t.rg.etemp t.rg.ehalt t.rg.egas t.rg.tariff t.rg.regtime t.rg.prev
      t.rg.fracs t.rg.acc t.rg.estop t.rg.gdist t.rg.pressure t.rg.pseq t.rg.lastValidP t.rg.bins
      t.rg.binStart t.rg.lsHist t.rg.stopped) t.seg t.bg t.bgReq t.xb t.xbBad (Archive.mk t.ar.minutes
      t.ar.quarters t.ar.events t.ar.fulls t.ar.audits t.ar.snaps t.ar.wrapped x_ar_run x_ar_paused
      t.ar.tseq t.ar.tags x_ar_warden t.ar.log t.ar.regions x_ar_jobs x_ar_sealedSlot x_ar_ledger t.ar.image
      t.ar.current t.ar.currentAudit t.ar.currentOther t.ar.lastDigest t.ar.pendingCopy t.ar.moduleCrc
      t.ar.floorCopy t.ar.digestCopy t.ar.moduleCopy t.ar.rowMap t.ar.counters t.ar.banks t.ar.bankCopy
      t.ar.erases t.ar.spares t.ar.retiredBlocks t.ar.ledgerDue t.ar.eraseDue t.ar.fewSpares t.ar.unusable)
      x_evq x_evDrop x_ch (TdcCal.mk x_cal_wait x_cal_run x_cal_blocks x_cal_abandoned x_cal_retryAt
      x_cal_lastOk t.cal.tempCopy x_cal_seqLogged) x_path (Piste.mk t.ps.epoch t.ps.next x_ps_waiting
      x_ps_run t.ps.fast t.ps.fastTimer t.ps.fastFrom t.ps.fastUs t.ps.overAt t.ps.checkedAt x_ps_cals
      x_ps_burst t.ps.waveBuf t.ps.limArm) t.fl (TempCore.mk t.tp.last t.tp.prev t.tp.lastValid t.tp.lastT0
      t.tp.swap t.tp.swapCopy x_tp_started x_tp_startT x_tp_got x_tp_open_ x_tp_waited) (Radio.mk x_rad_mode
      x_rad_owner t.rad.duty t.rad.dwell t.rad.legCount x_rad_queue t.rad.air x_rad_seqCmd x_rad_synTemp
      x_rad_synBand x_rad_synFails t.rad.calStored t.rad.calAt t.rad.unavailable t.rad.clampLogged
      x_rad_ctl0 x_rad_ctl1 x_rad_replyDue x_rad_linkRestart) (Link.mk x_ln_role x_ln_member x_ln_index
      x_ln_sync x_ln_boundary x_ln_deputy t.ln.bres t.ln.bflags t.ln.bsucc t.ln.bhsfn x_ln_loaded x_ln_ctrs
      t.ln.marks x_ln_obj t.ln.objCopy t.ln.other x_ln_owed x_ln_exch x_ln_ackOpen x_ln_alarms x_ln_search
      x_ln_backoff x_ln_nextSearch x_ln_nextFallback x_ln_members x_ln_store x_ln_queued x_ln_csNext
      x_ln_lowLogged x_ln_slot x_ln_asked x_ln_rxWait x_ln_ho x_ln_session x_ln_qlink t.ln.borSeen
      x_ln_lowSeenAt t.ln.micHist t.ln.micLogged x_ln_bcnLogged x_ln_access x_ln_rxSince x_ln_helloDue
      x_ln_listenDue t.ln.readAt t.ln.run t.ln.parDay x_ln_cfg x_ln_gotBeacon x_ln_promote x_ln_listening
      x_ln_lastResp) (Display.mk t.dp.map t.dp.mapOk t.dp.screen t.dp.lastKey x_dp_image x_dp_imageB
      t.dp.applied t.dp.appliedB x_dp_lastRender x_dp_glassOn t.dp.positive x_dp_stopReq t.dp.groupB
      x_dp_renderDue x_dp_renderNow x_dp_evtShown t.dp.segTest t.dp.emUntil x_dp_fallback x_dp_emDriving
      x_dp_emBlink x_dp_regions x_dp_dark x_dp_ledger x_dp_seatLeft t.dp.tickAt x_dp_park x_dp_railsOk
      t.dp.rbBad t.dp.rbGood) (Service.mk x_sv_opt x_sv_hst t.sv.baud t.sv.baudNext t.sv.optPort
      t.sv.hstPort t.sv.rdrPort t.sv.unread t.sv.miso t.sv.irTx t.sv.pendCmd t.sv.pendStatus t.sv.outcome
      t.sv.pendPort x_sv_slotW x_sv_patchW t.sv.reload t.sv.reloadRun) x_mp t.io (Faults.mk x_flt_standing
      t.flt.sigHist t.flt.lnkHist t.flt.regHist x_flt_alarm x_flt_alarmHeld t.flt.alarmCause t.flt.alarmDue
      t.flt.proc x_flt_reported x_flt_alarmPulse t.flt.dayStart)) := by
  unfold Drifts at *
  rw [h]
  rfl

/-- What moves only standing work drifts. -/
theorem Works.drifts {s t : State} (h : Works s t) : Drifts s t := by
  unfold Drifts State.withDrift
  rw [← (show t = s.withWork t from h)]

theorem logEvent_drifts {s0 code args s} (h : Drifts s0 s) : Drifts s0 (logEvent code args s) :=
  h.trans (logEvent_works (Works.refl s)).drifts

theorem domOn_drifts {s0 ds s} (h : Drifts s0 s) : Drifts s0 (domOn ds s) :=
  h.trans (domOn_works (Works.refl s)).drifts

theorem closeSegment_drifts {s0 old s} (h : Drifts s0 s) : Drifts s0 (closeSegment old s) := by
  unfold closeSegment
  extract_lets +onlyGivenNames s1
  with_reducible exact Drifts.put h

theorem segmented_drifts {s0 f s} (hf : ∀ t, Drifts s0 t → Drifts s0 (f t)) (h : Drifts s0 s) : Drifts s0 (segmented f s) := by
  unfold segmented accounted
  split
  · exact hf _ h
  · exact closeSegment_drifts (hf _ h)

theorem checkVresLow_drifts {s0 vres s} (h : Drifts s0 s) : Drifts s0 (checkVresLow vres s) := by
  unfold checkVresLow
  with_reducible exact Drifts.ite (fun _ => Drifts.put h) (fun _ => Drifts.ite (fun _ => h) (fun _ => logEvent_drifts (Drifts.put h)))

theorem checkFallback_drifts {s0 s} (h : Drifts s0 s) : Drifts s0 (checkFallback s) := by
  unfold checkFallback
  with_reducible exact Drifts.ite (fun _ => Drifts.put h) (fun _ => Drifts.ite (fun _ => Drifts.put h) (fun _ => Drifts.ite (fun _ => Drifts.put h) (fun _ => h)))

theorem checkLprc_drifts {s0 s} (h : Drifts s0 s) : Drifts s0 (checkLprc s) := by
  unfold checkLprc
  with_reducible exact Drifts.ite (fun _ => Drifts.put h) (fun _ => h)

theorem checkCaldt_drifts {s0 before s} (h : Drifts s0 s) : Drifts s0 (checkCaldt before s) := by
  unfold checkCaldt
  with_reducible exact Drifts.ite (fun _ => Drifts.put h) (fun _ => h)

theorem sample_drifts {s0 x s} (h : Drifts s0 s) : Drifts s0 (sample x s) := by
  unfold sample
  beta_reduce
  with_reducible exact Drifts.ite (fun _ => Drifts.put (checkCaldt_drifts (checkLprc_drifts (checkFallback_drifts (checkVresLow_drifts (segmented_drifts (fun x2 h3 => Drifts.put h3) h)))))) (fun _ => Drifts.put (checkCaldt_drifts (checkLprc_drifts (checkFallback_drifts (checkVresLow_drifts (segmented_drifts (fun x4 h5 => Drifts.put h5) h))))))

theorem loadKeys_drifts {s0 s} (h : Drifts s0 s) : Drifts s0 (loadKeys s) :=
  h.trans (loadKeys_works (Works.refl s)).drifts

theorem toRun_drifts {s0 code s} (h : Drifts s0 s) : Drifts s0 (toRun code s) := by
  unfold toRun
  with_reducible exact onlyIf_drifts (fun x2 h3 => loadKeys_drifts h3) (Drifts.put h)

theorem sameCycleWake_drifts {s0 code s} (h : Drifts s0 s) : Drifts s0 (sameCycleWake code s) := by
  unfold sameCycleWake
  with_reducible exact Drifts.ite (fun _ => Drifts.put h) (fun _ => h)

theorem settle_drifts {s0 s} (h : Drifts s0 s) : Drifts s0 (settle s) := h.trans (settle_works (Works.refl s)).drifts

/-- A timer of a timed device runs its work on the woken state. -/
theorem onTimer_eq {f : State → State} {s : State} (h : s.timed = true) : onTimer f s = .next (settle (f s.atTimer)) := if_pos h

/-- Parts that no drift moves, one by one. -/
theorem Drifts.parts {s t : State} (h : Drifts s t) : t.phase = s.phase ∧ t.start.chosen = s.start.chosen ∧ t.cat = s.cat ∧
    t.flt.proc = s.flt.proc ∧ t.io = s.io ∧ t.nv = s.nv := by
  unfold Drifts at h
  rw [h]
  exact ⟨rfl, rfl, rfl, rfl, rfl, rfl⟩

/-- A wake from a state that is not Hibernate drifts. -/
theorem wake_drifts {s0 s : State} {code : Nat} (hh : s.pw.st ≠ .hibernate) (h : Drifts s0 s) : Drifts s0 (wake code s) := by
  unfold wake
  split
  · exact Drifts.ite (fun _ => Drifts.put h) (fun _ => h)
  · refine Drifts.ite (fun _ => ?_) (fun _ => Drifts.ite (fun _ => sameCycleWake_drifts h) (fun _ => h))
    rw [if_neg (by simpa using hh)]
    exact toRun_drifts h

/-- A timed device is not in Hibernate. -/
theorem timed_not_hibernate {s : State} (h : s.timed = true) : s.pw.st ≠ .hibernate := by
  intro e
  simp [State.timed, e] at h

/-- A timer's work, done on what the wake leaves: where that work drifts, so does the command. -/
theorem onTimer_next {f : State → State} {s : State} (h : s.timed = true) :
    ∃ w, Drifts s w ∧ onTimer f s = .next (settle (f w)) := by
  refine ⟨{ wake 1 s with pw.choose := true }, Drifts.put (wake_drifts (timed_not_hibernate h) (Drifts.refl s)), ?_⟩
  simp [onTimer, h, done]

end Sys2Proof.Machine
end

