-- ==== Sys2Proof/Laws/Events.lean ====
section
/-! SUPPORT. What logging an event may move (R319, R443 to R446), and what it leaves as it is. -/

namespace Sys2Proof.Machine

/-- `t` differs from `s` at most in what logging an event may move. -/
def Logs (s t : State) : Prop := t = s.withLog t

theorem Logs.refl (s : State) : Logs s s := rfl

theorem Logs.trans {s t u : State} (h : Logs s t) (k : Logs t u) : Logs s u := by
  unfold Logs at *
  rw [k, h]
  rfl

theorem onlyIf_logs {b : Bool} {f : State → State} (hf : ∀ s, Logs s (f s)) (s : State) : Logs s (onlyIf b f s) := by
  unfold onlyIf; split
  · exact hf s
  · exact Logs.refl s

theorem endStanding_logs (code : Nat) (args : List Int) (s : State) : Logs s (endStanding code args s) := rfl

theorem addStanding_logs (code : Nat) (args : List Int) (s : State) : Logs s (addStanding code args s) := by
  unfold addStanding onlyIf; split <;> rfl

theorem alarmEffects_logs (code : Nat) (s : State) : Logs s (alarmEffects code s) := by
  unfold alarmEffects
  extract_lets +onlyGivenNames _ _ _ _ t
  have h : Logs s t := rfl
  clear_value t
  split
  · exact h
  · exact h.trans rfl

theorem tamperEffects_logs (code : Nat) (s : State) : Logs s (tamperEffects code s) := rfl

theorem classEffects_logs (code : Nat) (args : List Int) (s : State) : Logs s (classEffects code args s) :=
  (endStanding_logs code args s).trans ((addStanding_logs code args _).trans
    ((onlyIf_logs (alarmEffects_logs code) _).trans (onlyIf_logs (tamperEffects_logs code) _)))

theorem enqueueEvent_logs (e : Event) (s : State) : Logs s (enqueueEvent e s) := by
  unfold enqueueEvent; split <;> rfl

theorem flushDrops_logs (s : State) : Logs s (flushDrops s) := by
  unfold flushDrops; split
  · exact Logs.trans (t := { s with evDrop := 0, evq := s.evq ++ [mkEvent 0x0A0C [(s.evDrop : Int)] s] }) rfl
      (classEffects_logs _ _ _)
  · exact Logs.refl s

/-- Logging an event moves only what `withLog` names. -/
theorem logEvent_logs (code : Nat) (args : List Int) (s : State) : Logs s (logEvent code args s) :=
  (flushDrops_logs s).trans ((enqueueEvent_logs _ _).trans (classEffects_logs code args _))

/-- The parts that no log moves, one by one. -/
theorem Logs.parts {s t : State} (h : Logs s t) : t.rg = s.rg ∧ t.pw = s.pw ∧ t.cl = s.cl ∧ t.phase = s.phase ∧ t.r.pwr = s.r.pwr ∧
    t.r.clk = s.r.clk ∧ t.nv = s.nv ∧ t.tl = s.tl ∧ t.cat = s.cat ∧ t.xb = s.xb ∧ t.start = s.start ∧ t.flt.proc = s.flt.proc := by
  unfold Logs at h
  rw [h]
  exact ⟨rfl, rfl, rfl, rfl, rfl, rfl, rfl, rfl, rfl, rfl, rfl, rfl⟩

end Sys2Proof.Machine
end

