-- ==== Sys2Proof/Laws/Memory.lean ====
section
/-! SUPPORT. The laws of the exchange bank's memory: reads after writes, and that every write keeps the canonical form. -/

namespace Sys2Proof.Machine

/-- A memory in canonical form above a bound is so above any lower bound. -/
theorem Mem.okFrom_mono {m : List Host.Cell} {a b : Nat} (hab : a ≤ b) (h : Mem.okFrom b m = true) : Mem.okFrom a m = true := by
  cases m with
  | nil => rfl
  | cons c rest =>
    simp only [Mem.okFrom, Bool.and_eq_true, decide_eq_true_eq] at h ⊢
    exact ⟨⟨Nat.le_trans hab h.1.1, h.1.2⟩, h.2⟩

/-- A write keeps the canonical form above any bound below its address. -/
theorem Mem.set_okFrom {m : List Host.Cell} {lo a : Nat} (b : Byte) (ha : lo ≤ a) (h : Mem.okFrom lo m = true) :
    Mem.okFrom lo (Mem.set m a b) = true := by
  induction m generalizing lo with
  | nil =>
    unfold Mem.set
    split
    · rfl
    · rename_i hb
      simp [Mem.okFrom, ha, hb]
  | cons c rest ih =>
    simp only [Mem.okFrom, Bool.and_eq_true, decide_eq_true_eq] at h
    obtain ⟨⟨h1, h2⟩, h3⟩ := h
    unfold Mem.set
    split
    · split
      · simp [Mem.okFrom, h1, h2, h3]
      · rename_i hlt hb
        have h2' : c.2 ≠ default := by simpa using h2
        simp [Mem.okFrom, ha, hb, h2', h3]; omega
    · split
      · rename_i hge heq
        subst heq
        split
        · exact Mem.okFrom_mono (by omega) h3
        · rename_i hb
          simp [Mem.okFrom, ha, hb, h3]
      · rename_i hge hne
        have h2' : c.2 ≠ default := by simpa using h2
        simp only [Mem.okFrom, Bool.and_eq_true, decide_eq_true_eq]
        exact ⟨⟨h1, h2⟩, ih (by omega) h3⟩

/-- A write of one byte keeps the canonical form. -/
theorem Mem.set_wf {m : List Host.Cell} (a : Nat) (b : Byte) (h : Memory.wf m = true) : Memory.wf (Mem.set m a b) = true :=
  Mem.set_okFrom b (Nat.zero_le a) h

/-- A write of consecutive bytes keeps the canonical form. -/
theorem Mem.setBytes_wf (bs : List Byte) : ∀ {m : List Host.Cell} (a : Nat), Memory.wf m = true → Memory.wf (Mem.setBytes m a bs) = true := by
  induction bs with
  | nil => intro m a h; exact h
  | cons b bs ih => intro m a h; exact ih (a + 1) (Mem.set_wf a b h)

/-- Writes of bytes in any order keep the canonical form. -/
theorem Mem.foldl_set_wf {α : Type} {g : α → Nat} {v : α → Byte} (l : List α) : ∀ {m : List Host.Cell}, Memory.wf m = true →
    Memory.wf (l.foldl (fun m b => Mem.set m (g b) (v b)) m) = true := by
  induction l with
  | nil => intro m h; exact h
  | cons b bs ih => intro m h; exact ih (Mem.set_wf _ _ h)

/-- Below the first listed address every byte reads as the default. -/
theorem Mem.get_below {m : List Host.Cell} {lo a : Nat} (h : Mem.okFrom lo m = true) (ha : a < lo) : Mem.get m a = Mem.default := by
  induction m generalizing lo with
  | nil => rfl
  | cons c rest ih =>
    simp only [Mem.okFrom, Bool.and_eq_true, decide_eq_true_eq] at h
    unfold Mem.get
    rw [if_neg (by omega)]
    exact ih h.2 (by omega)

/-- A byte reads back as it was written. -/
theorem Mem.get_set_same {m : List Host.Cell} {lo a : Nat} {b : Byte} (h : Mem.okFrom lo m = true) : Mem.get (Mem.set m a b) a = b := by
  induction m generalizing lo with
  | nil =>
    unfold Mem.set
    split
    · rename_i e; simp [Mem.get, e]
    · simp [Mem.get]
  | cons c rest ih =>
    simp only [Mem.okFrom, Bool.and_eq_true, decide_eq_true_eq] at h
    unfold Mem.set
    split
    · rename_i hlt
      split
      · rename_i e
        unfold Mem.get
        rw [if_neg (by omega), Mem.get_below h.2 (by omega), e]
      · simp [Mem.get]
    · split
      · rename_i e
        split
        · rename_i e'
          rw [Mem.get_below h.2 (by omega), e']
        · simp [Mem.get]
      · rename_i e
        unfold Mem.get
        rw [if_neg (Ne.symm e)]
        exact ih h.2

/-- A write leaves every other byte as it was. -/
theorem Mem.get_set_other {m : List Host.Cell} {a x : Nat} {b : Byte} (hx : x ≠ a) : Mem.get (Mem.set m a b) x = Mem.get m x := by
  induction m with
  | nil =>
    unfold Mem.set
    split
    · rfl
    · simp [Mem.get, Ne.symm hx]
  | cons c rest ih =>
    unfold Mem.set
    split
    · split
      · rfl
      · simp [Mem.get, Ne.symm hx]
    · split
      · rename_i e
        split
        · simp [Mem.get, ← e, Ne.symm hx]
        · simp [Mem.get, ← e, Ne.symm hx]
      · simp only [Mem.get]
        split
        · rfl
        · exact ih

/-- A write of consecutive bytes leaves every byte outside them as it was. -/
theorem Mem.get_setBytes_other (bs : List Byte) : ∀ {m : List Host.Cell} {a x : Nat}, x < a ∨ a + bs.length ≤ x →
    Mem.get (Mem.setBytes m a bs) x = Mem.get m x := by
  induction bs with
  | nil => intro m a x _; rfl
  | cons b bs ih =>
    intro m a x hx
    rw [List.length_cons] at hx
    unfold Mem.setBytes
    rw [ih (by omega), Mem.get_set_other (by omega)]

/-- Consecutive bytes read back as they were written. -/
theorem Mem.get_setBytes (bs : List Byte) : ∀ {m : List Host.Cell} {a : Nat} (i : Nat) (hi : i < bs.length), Memory.wf m = true →
    Mem.get (Mem.setBytes m a bs) (a + i) = bs[i] := by
  induction bs with
  | nil => intro m a i hi; exact absurd hi (Nat.not_lt_zero _)
  | cons b bs ih =>
    intro m a i hi h
    unfold Mem.setBytes
    cases i with
    | zero => rw [Mem.get_setBytes_other bs (by omega)]; exact Mem.get_set_same h
    | succ i =>
      rw [show a + (i + 1) = a + 1 + i by omega]
      exact ih i (by simpa using hi) (Mem.set_wf a b h)

/-- The memory of the reset state is in canonical form. -/
theorem reset_xb_wf : Memory.wf State.reset.xb = true := rfl

end Sys2Proof.Machine
end

