-- ==== Sys2Proof/Laws/Facts.lean ====
section
/-! SUPPORT. What shared operations do, said once: the stop of the engines and the ends of procedures, the ledger's segments,
the measurements of a sample, the words that an event sets, a host transaction, writes to XB. -/

namespace Sys2Proof.Machine

/-! ## Stops and procedures -/

theorem stopEngines_facts (s : State) : (stopEngines s).pw.dom = 1 ∧ (stopEngines s).cl = { cest := s.cl.cest } ∧ (stopEngines s).rg.stopped = true ∧
    (stopEngines s).r.flt = s.r.flt ∧ (stopEngines s).flt = s.flt ∧ (stopEngines s).r.clk = s.r.clk := by
  have e : ∀ s : State, (endFast s).r.flt = s.r.flt ∧ (endFast s).flt = s.flt ∧ (endFast s).r.clk = s.r.clk ∧ (endFast s).cl = s.cl := by
    intro s; unfold endFast; split <;> exact ⟨rfl, rfl, rfl, rfl⟩
  unfold stopEngines
  exact ⟨rfl, congrArg (fun c : Chairlift => ({ cest := c.cest } : Chairlift)) (e s).2.2.2, rfl, (e s).1, (e s).2.1, (e s).2.2.1⟩

theorem procFinish_held (s : State) (h : s.io.rstLow = true) : (procFinish 7 s).phase = .resetHold ∧ (procFinish 7 s).pw.dom = 1 := by
  unfold procFinish
  rw [if_neg (by decide), if_pos rfl, if_pos h]
  exact ⟨rfl, (stopEngines_facts _).1⟩

theorem procFinish_brown (s : State) : (procFinish 9 s).phase = .brownout ∧ (procFinish 9 s).pw.dom = 1 ∧ (procFinish 9 s).cl.held = [] ∧
    (procFinish 9 s).r.flt.wdstatStep = 6 ∧ (procFinish 9 s).flt.proc = none ∧ (procFinish 9 s).rg.stopped = true := by
  unfold procFinish
  rw [if_pos rfl]
  obtain ⟨a, b, c, d, e, _⟩ := stopEngines_facts { s with r.flt.wdstatStep := 6, flt.proc := none, cl.commit := none, io.tap := if (9 : Nat) ≠ 9 ∧ s.io.tap = .extest then .idcode else s.io.tap }
  exact ⟨rfl, a, by simp only [b], by simp only [d], by simp only [e], c⟩

theorem tamper_log (s : State) : (logEvent 0x100A [] s).rg = s.rg ∧ (logEvent 0x100A [] s).pw = s.pw ∧ (logEvent 0x100A [] s).cl = s.cl ∧
    (logEvent 0x100A [] s).r.flt.fltstatTamper = true ∧ (logEvent 0x100A [] s).r.flt.lasttamper = 0x100A ∧ (logEvent 0x100A [] s).r.flt.lastalarm = 0x100A := by
  have h := (logEvent_logs 0x100A [] s).parts
  refine ⟨h.1, h.2.1, h.2.2.1, rfl, rfl, ?_⟩
  show (classEffects _ _ _).r.flt.lastalarm = _
  generalize enqueueEvent _ _ = v
  show (alarmEffects 0x100A _).r.flt.lastalarm = _
  unfold alarmEffects
  extract_lets a b c d e
  have : e.r.flt.lastalarm = 0x100A := rfl
  clear_value e
  split <;> exact this

/-! ## Segments of the time ledger -/

theorem segmented_or (f : State → State) (s) : segmented f s = f s ∨ segmented f s = closeSegment s (f s) := by
  unfold segmented accounted
  split
  · exact .inl rfl
  · exact .inr rfl

/-- The accounting of a segment moves the ledger of time alone, and there neither a clock nor the zone. -/
theorem accounted_parts (a b : State) : (accounted a b).phase = b.phase ∧ (accounted a b).r = b.r ∧ (accounted a b).io = b.io ∧
    (accounted a b).tl.civNs = b.tl.civNs ∧ (accounted a b).tl.monoUs = b.tl.monoUs ∧ (accounted a b).nv = b.nv ∧
    (accounted a b).start = b.start ∧ (accounted a b).sb = b.sb ∧ (accounted a b).ar = b.ar := by
  have k : ∃ u c m, closeSegment a b = { b with tl.unc := u, tl.contu := c, tl.segStart := m } := ⟨_, _, _, by unfold closeSegment; rfl⟩
  obtain ⟨u, c, m, k⟩ := k
  unfold accounted
  split
  · exact ⟨rfl, rfl, rfl, rfl, rfl, rfl, rfl, rfl, rfl⟩
  · rw [k]; exact ⟨rfl, rfl, rfl, rfl, rfl, rfl, rfl, rfl, rfl⟩

theorem closeSegment_parts (a b : State) :
    (closeSegment a b).start = b.start ∧ (closeSegment a b).flt.proc = b.flt.proc ∧ (closeSegment a b).phase = b.phase := by
  have k : ∃ u c m, closeSegment a b = { b with tl.unc := u, tl.contu := c, tl.segStart := m } := ⟨_, _, _, by unfold closeSegment; rfl⟩
  obtain ⟨u, c, m, k⟩ := k
  rw [k]; exact ⟨rfl, rfl, rfl⟩

theorem segmented_parts (f : State → State) (s : State) (h : (f s).start = s.start ∧ (f s).flt.proc = s.flt.proc ∧ (f s).phase = s.phase) :
    (segmented f s).start = s.start ∧ (segmented f s).flt.proc = s.flt.proc ∧ (segmented f s).phase = s.phase := by
  rcases segmented_or f s with e | e
  · rw [e]; exact h
  · obtain ⟨a, b, c⟩ := closeSegment_parts s (f s)
    rw [e, a, b, c]; exact h

theorem writeObject_parts (n : Nat) (s : State) :
    (writeObject n s).start = s.start ∧ (writeObject n s).flt.proc = s.flt.proc ∧ (writeObject n s).phase = s.phase := by
  unfold writeObject; split <;> exact ⟨rfl, rfl, rfl⟩

/-- The loss of XT32 leaves the start, a watchdog reset under way and the phase as they are. -/
theorem loseXt32_parts (c : Nat) (a : List Int) (s : State) :
    (loseXt32 c a s).start = s.start ∧ (loseXt32 c a s).flt.proc = s.flt.proc ∧ (loseXt32 c a s).phase = s.phase := by
  unfold loseXt32
  dsimp only
  generalize hv : writeObject _ _ = v
  have hv' : v.start = s.start ∧ v.flt.proc = s.flt.proc ∧ v.phase = s.phase := by
    rw [← hv, (writeObject_parts _ _).1, (writeObject_parts _ _).2.1, (writeObject_parts _ _).2.2]
    exact segmented_parts _ _ ⟨rfl, rfl, rfl⟩
  have k : ∀ code args (t : State), (logEvent code args t).start = t.start ∧ (logEvent code args t).flt.proc = t.flt.proc ∧
      (logEvent code args t).phase = t.phase := fun code args t =>
    have l := (logEvent_logs code args t).parts
    ⟨l.2.2.2.2.2.2.2.2.2.2.1, l.2.2.2.2.2.2.2.2.2.2.2, l.2.2.2.1⟩
  obtain ⟨l1, l2, l3⟩ := k c a v
  unfold onlyIf; split
  · obtain ⟨m1, m2, m3⟩ := k 0x0203 [] (logEvent c a v)
    rw [m1, m2, m3, l1, l2, l3]; exact hv'
  · rw [l1, l2, l3]; exact hv'

theorem phase_eta {s : State} {p : Phase} (h : s.phase = p) : { s with phase := p } = s := by subst h; rfl

/-- A start runs by the phase alone. -/
theorem starting_of_phase {s t : State} (h : t.phase = s.phase) : t.starting = s.starting := by unfold State.starting; rw [h]

/-! ## Requests of a power state -/

theorem stateRequest_new {t : PState} {s : State} (h : s.pw.target = none) (g : s.pw.st ≠ t) : stateRequest t s = evaluateRequest t s := by
  unfold stateRequest
  rw [h]
  exact if_neg g

/-- Where nothing refuses, the entry begins (R115). -/
theorem evaluateRequest_free {t : PState} {s : State} (h : refusers t s = []) :
    evaluateRequest t s = beginEntryTo t { s with pw.target := some t, pw.latched := none, pw.choose := false } := by
  unfold evaluateRequest
  rw [h]; rfl

/-- Where something refuses, no entry begins, and `PWREFUSE` names the last that does (R115). -/
theorem evaluateRequest_refused {t : PState} {s : State} {x : Nat × Nat} (h : (refusers t s).getLast? = some x) :
    (evaluateRequest t s).pw = { s.pw with choose := false } ∧ (evaluateRequest t s).r.pwr.pwrefuseRefuser = BitVec.ofNat 4 x.1 ∧
    (evaluateRequest t s).r.pwr.pwrefuseTarget = BitVec.ofNat 4 t.code ∧ (evaluateRequest t s).r.pwr.pwrefuseReason = BitVec.ofNat 8 x.2 := by
  unfold evaluateRequest
  rw [h]
  exact ⟨rfl, rfl, rfl, rfl⟩

/-- A request that neither the parent role nor a hand-over refuses is not held (R459). -/
theorem issueRequest_free {q : PowerRequest} {s : State} (h : s.pw.target = none) (g : s.pw.st ≠ q.target)
    (k : ∀ x ∈ refusers q.target { s with pw.issuer := some q.port }, x.2 ≠ 0x42 ∧ x.2 ≠ 0x43) :
    issueRequest q s = evaluateRequest q.target { s with pw.issuer := some q.port } := by
  have e : (refusers q.target { s with pw.issuer := some q.port }).any (fun x => x.2 == 0x42 || x.2 == 0x43) = false := by
    rw [List.any_eq_false]
    intro x hx
    simp [(k x hx).1, (k x hx).2]
  unfold issueRequest
  dsimp only
  rw [e, Bool.and_false, if_neg (by decide)]
  exact stateRequest_new h g

/-! ## The words that an event sets -/

/-- The tamper words. -/

def tamperW (s : State) : Bool × BitVec 16 × BitVec 48 × BitVec 16 := (s.r.flt.fltstatTamper, s.r.flt.lasttamper, s.r.flt.tamptime, s.r.flt.tampcnt)

theorem alarm_tamperW (code s) : tamperW (alarmEffects code s) = tamperW s := by
  unfold alarmEffects
  extract_lets a b c d e
  have : tamperW e = tamperW s := rfl
  clear_value e
  split <;> exact this

theorem pre_tamperW (code args s) : tamperW (onlyIf (isAlarm code args) (alarmEffects code) (addStanding code args (endStanding code args s))) = tamperW s := by
  have h : tamperW (addStanding code args (endStanding code args s)) = tamperW s := by
    unfold addStanding onlyIf; split <;> rfl
  unfold onlyIf; split
  · rw [alarm_tamperW, h]
  · exact h

theorem class_tamperW (code args s) (h : isTamper code args = false) : tamperW (classEffects code args s) = tamperW s := by
  unfold classEffects
  show tamperW (onlyIf (isTamper code args) _ _) = _
  rw [h]
  exact pre_tamperW code args s

theorem flush_tamperW (s) : tamperW (flushDrops s) = tamperW s := by
  unfold flushDrops; split
  · exact (class_tamperW _ _ _ (by rfl)).trans rfl
  · rfl

theorem enq_tamperW (e s) : tamperW (enqueueEvent e s) = tamperW s := by unfold enqueueEvent; split <;> rfl

theorem class_tamperW_set (code args s) (h : isTamper code args = true) : tamperW (classEffects code args s) = (true, BitVec.ofNat 16 code, BitVec.ofNat 48 (tltime s), inc16 s.r.flt.tampcnt) := by
  unfold classEffects
  show tamperW (onlyIf (isTamper code args) _ _) = _
  rw [h]
  have k := pre_tamperW code args s
  have l : tltime (onlyIf (isAlarm code args) (alarmEffects code) (addStanding code args (endStanding code args s))) = tltime s := by
    have := ((endStanding_logs code args s).trans ((addStanding_logs code args _).trans (onlyIf_logs (alarmEffects_logs code) (b := isAlarm code args) _))).parts
    unfold tltime; rw [this.2.2.2.2.2.2.2.1]
  revert k l
  show ∀ k l, tamperW (onlyIf true (tamperEffects code) (onlyIf (isAlarm code args) (alarmEffects code) (addStanding code args (endStanding code args s)))) = _
  generalize (onlyIf (isAlarm code args) (alarmEffects code) (addStanding code args (endStanding code args s))) = v
  intro k l
  have k4 : v.r.flt.tampcnt = s.r.flt.tampcnt := congrArg (·.2.2.2) k
  show ((true, BitVec.ofNat 16 code, BitVec.ofNat 48 (tltime v), inc16 v.r.flt.tampcnt) : Bool × BitVec 16 × BitVec 48 × BitVec 16) = _
  rw [l, k4]

/-- The queue of events and its count. -/

def ew (s : State) : List Event × Nat × BitVec 16 := (s.evq, s.evDrop, s.r.mem.evqdrop)

theorem class_ew (code args s) : ew (classEffects code args s) = ew s := by
  unfold classEffects
  have h : ew (addStanding code args (endStanding code args s)) = ew s := by
    unfold addStanding onlyIf; split <;> rfl
  show ew (onlyIf _ _ (onlyIf _ _ (addStanding code args (endStanding code args s)))) = _
  generalize addStanding code args (endStanding code args s) = v at h
  have h2 : ew (alarmEffects code v) = ew v := by
    unfold alarmEffects
    extract_lets a b c d e
    have : ew e = ew v := rfl
    clear_value e
    split <;> exact this
  unfold onlyIf
  have h3 : ∀ u, ew (tamperEffects code u) = ew u := fun _ => rfl
  split <;> split <;> simp only [h3, h2, h]
/-- The alarm words. -/

def aw (s : State) : Bool × Bool × BitVec 16 × BitVec 16 := (s.r.io.hirqAlarm, s.r.flt.fltstatAlarm, s.r.flt.lastalarm, s.r.flt.alarmcnt)

theorem class_aw (code args s) (h : isAlarm code args = true) : aw (classEffects code args s) = (true, true, BitVec.ofNat 16 code, inc16 s.r.flt.alarmcnt) := by
  unfold classEffects
  show aw (onlyIf _ _ (onlyIf (isAlarm code args) _ (addStanding code args (endStanding code args s)))) = _
  rw [h]
  have h1 : (addStanding code args (endStanding code args s)).r.flt.alarmcnt = s.r.flt.alarmcnt := by
    unfold addStanding onlyIf; split <;> rfl
  generalize addStanding code args (endStanding code args s) = v at h1
  have h2 : aw (alarmEffects code v) = (true, true, BitVec.ofNat 16 code, inc16 s.r.flt.alarmcnt) := by
    rw [← h1]
    unfold alarmEffects
    extract_lets a b c d e
    have : aw e = (true, true, BitVec.ofNat 16 code, inc16 v.r.flt.alarmcnt) := rfl
    clear_value e
    split <;> exact this
  show aw (onlyIf _ _ (alarmEffects code v)) = _
  have h3 : ∀ u, aw (tamperEffects code u) = aw u := fun _ => rfl
  unfold onlyIf; split <;> simp only [h3, h2]

/-! ## The words of a sample -/

/-- The measured words. -/

def mw (s : State) : BitVec 16 × BitVec 16 × BitVec 16 × BitVec 16 := (s.r.pwr.vbatmv, s.r.pwr.vresmv, s.r.clk.dietemp, s.r.pwr.vresmin)

theorem works_mw {s t : State} (h : Works s t) : mw t = mw s := by unfold Works at h; rw [h]; rfl

theorem logs_mw {s t : State} (h : Logs s t) : mw t = mw s := by
  unfold mw; rw [h.parts.2.2.2.2.1, h.parts.2.2.2.2.2.1]

theorem tl_mw (s : State) (T : Ledger) : mw { s with tl := T } = mw s := rfl

theorem segmented_mw (f s) : mw (segmented f s) = mw (f s) := by
  rcases segmented_or f s with e | e <;> rw [e]
  exact tl_mw _ _

theorem low_mw (v s) : mw (checkVresLow v s) = mw s := by
  unfold checkVresLow
  split
  · rfl
  · split
    · rfl
    · exact (logs_mw (logEvent_logs _ _ _)).trans rfl

theorem fb_mw (s) : mw (checkFallback s) = mw s := by
  unfold checkFallback; (repeat' split) <;> rfl

theorem lp_mw (s) : mw (checkLprc s) = mw s := by
  unfold checkLprc; split <;> rfl

theorem caldt_mw (b s) : mw (checkCaldt b s) = mw s := by
  unfold checkCaldt; split <;> rfl

theorem sample_mw (x s) : mw (sample x s) = (BitVec.ofNat 16 x.vbat, BitVec.ofNat 16 x.vres, BitVec.ofInt 16 x.temp, BitVec.ofNat 16 (min x.vres s.r.pwr.vresmin.toNat)) := by
  unfold sample
  beta_reduce
  generalize hu : checkCaldt _ _ = u
  have k : mw u = (BitVec.ofNat 16 x.vbat, BitVec.ofNat 16 x.vres, BitVec.ofInt 16 x.temp, BitVec.ofNat 16 (min x.vres s.r.pwr.vresmin.toNat)) := by
    rw [← hu, caldt_mw, lp_mw, fb_mw, low_mw, segmented_mw]; rfl
  split <;> exact k

/-! ## The radio -/

theorem askFollowing_works {s0 s : State} {f : TxFrame} (h : Works s0 s) : Works s0 (askFollowing f s) := by
  unfold askFollowing
  dsimp only
  split
  · exact askWindow_works h
  · exact onlyIf_works (fun _ k => askWindow_works k) h
  · exact onlyIf_works (fun _ k => askWindow_works k) h
  · split
    · exact askWindow_works h
    · exact onlyIf_works (fun _ k => askWindow_works k) h
  · split
    · exact askWindow_works h
    · exact onlyIf_works (fun _ k => askWindow_works k) h
  · exact h

/-- The seats that follow a frame's ramp-up leave it on the air. -/
theorem rampUp_air (f : TxFrame) (s : State) : (rampUp f s).rad.air = some f := by
  unfold rampUp
  dsimp only
  generalize tune _ _ _ _ = v
  rw [show ∀ w, requestsTogether (askFollowing f) w = w.withWork (requestsTogether (askFollowing f) w) from
    fun w => requestsTogether_works (fun _ k => askFollowing_works k) (Works.refl w)]
  rfl

/-! ## A host transaction -/

theorem host_served {f : State → List Byte × State} {s : State} (a : s.io.vddio = true) (b : s.aon = true) (c : (serveRequest s).serving = true) :
    hostTransaction f s = csRise { (f (serveRequest s)).2 with
      sv.miso := leBytes 1 (statusByte (serveRequest s)) ++ (f (serveRequest s)).1 } := by
  unfold hostTransaction
  rw [a, b, if_neg (by decide)]
  dsimp only
  rw [c, if_neg (by decide)]

theorem host_busy {f : State → List Byte × State} {s : State} (a : s.io.vddio = true) (b : s.aon = true) (c : (serveRequest s).serving = false) :
    hostTransaction f s = csRise { serveRequest s with r.io.hstnrdy := inc16 (serveRequest s).r.io.hstnrdy, sv.miso := [] } := by
  unfold hostTransaction
  rw [a, b, if_neg (by decide)]
  dsimp only
  rw [c, if_pos (by decide)]

/-- A Curator that serves asks for no service seat. -/
theorem serveRequest_of_serving {s : State} (c : s.serving = true) : serveRequest s = s := by
  unfold serveRequest
  rw [c]; rfl

theorem host_served_here {f : State → List Byte × State} {s : State} (a : s.io.vddio = true) (b : s.aon = true) (c : s.serving = true) :
    hostTransaction f s = { (f s).2 with io.cs := false, pw.choose := true, sv.miso := leBytes 1 (statusByte s) ++ (f s).1 } := by
  have := host_served (f := f) a b (by rw [serveRequest_of_serving c]; exact c)
  rwa [serveRequest_of_serving c] at this

/-! ## Writes to XB -/

theorem foldl_other (g : Fin 4 → Nat) (a : Nat) : ∀ (l : List (Fin 4 × Byte)) (m : List Host.Cell), (∀ y ∈ l, a ≠ g y.1) →
    Mem.get (l.foldl (fun m b => Mem.set m (g b.1) b.2) m) a = Mem.get m a := by
  intro l
  induction l with
  | nil => intro m h; rfl
  | cons y ys ih =>
    intro m h
    rw [List.foldl_cons, ih _ (fun z hz => h z (List.mem_cons_of_mem _ hz))]
    exact Mem.get_set_other (h y List.mem_cons_self)

end Sys2Proof.Machine
end

