-- ==== Sys2Proof/Laws/Frames.lean ====
section
/-! SUPPORT. A secured frame opens again: lengths of the cipher's blocks, the round trip of CCM, and what the receiver
makes of a new frame to all (R361, R362, R365). -/

namespace Sys2Proof.Machine

@[simp] theorem xorBytes_length (a b : List Byte) : (xorBytes a b).length = min a.length b.length := by
  simp [xorBytes]

theorem xorBytes_twice (a b : List Byte) (h : a.length ≤ b.length) : xorBytes (xorBytes a b) b = a := by
  induction a generalizing b with
  | nil => simp [xorBytes]
  | cons x xs ih =>
    cases b with
    | nil => simp at h
    | cons y ys =>
      have := ih ys (by simpa using h)
      simp only [xorBytes, List.zipWith_cons_cons] at this ⊢
      rw [this, BitVec.xor_assoc, BitVec.xor_self, BitVec.xor_zero]

/-- The last round key of a 16-byte key has 16 bytes. -/
theorem aesKeys_length (key : List Byte) (h : key.length = 16) : ((aesKeys key).getD 10 []).length = 16 := by
  unfold aesKeys
  have inv : ∀ (l : List Nat) (acc : List (List Byte) × List Byte × Byte),
      acc.2.1.length = 16 → (∀ k ∈ acc.1, k.length = 16) →
      let r := l.foldl (fun (acc : List (List Byte) × List Byte × Byte) _ =>
        let k := acc.2.1
        let t := slice k 12 4
        let g := xorBytes ((t.drop 1 ++ t.take 1).map sbox) [acc.2.2, 0, 0, 0]
        let w0 := xorBytes (k.take 4) g
        let w1 := xorBytes (slice k 4 4) w0
        let w2 := xorBytes (slice k 8 4) w1
        let w3 := xorBytes t w2
        let n := w0 ++ w1 ++ w2 ++ w3
        (acc.1 ++ [n], n, xtime acc.2.2)) acc
      r.1.length = acc.1.length + l.length ∧ ∀ k ∈ r.1, k.length = 16 := by
    intro l
    induction l with
    | nil => intro acc _ h2; exact ⟨rfl, h2⟩
    | cons x xs ih =>
      intro acc h1 h2
      rw [List.foldl_cons]
      refine ⟨((ih _ ?_ ?_).1).trans (by simp; omega), (ih _ ?_ ?_).2⟩
      all_goals
        first
        | (intro k hk
           rcases List.mem_append.1 hk with hk | hk
           · exact h2 k hk
           · rw [List.mem_singleton.1 hk]; simp [slice, h1])
        | simp [slice, h1]
  have k := inv (List.range 10) ([key], key, 1#8) h (by simpa using h)
  refine k.2 _ ?_
  rw [List.getD_eq_getElem _ _ (by rw [k.1]; simp)]
  exact List.getElem_mem _

@[simp] theorem aesBlock_length (key blk : List Byte) (h : key.length = 16) : (aesBlock key blk).length = 16 := by
  unfold aesBlock
  extract_lets ks s
  have : (ks.getD 10 []).length = 16 := aesKeys_length key h
  rw [xorBytes_length, this]
  simp [shiftRows]

theorem foldl_snd_length (f : List Byte × List Byte → Nat → List Byte × List Byte) (n : Nat)
    (hf : ∀ acc x, (f acc x).2.length = n) (l : List Nat) (acc : List Byte × List Byte) (h : acc.2.length = n) :
    (l.foldl f acc).2.length = n := by
  induction l generalizing acc with
  | nil => exact h
  | cons x xs ih => rw [List.foldl_cons]; exact ih _ (hf acc x)

theorem cbcMac_length (key bs : List Byte) (h : key.length = 16) : (cbcMac key bs).length = 16 := by
  unfold cbcMac
  refine foldl_snd_length _ 16 (fun acc x => ?_) _ _ List.length_replicate
  dsimp only
  rw [aesBlock_length _ _ h]

theorem ctrBlock_length (key nonce : List Byte) (i : Nat) (h : key.length = 16) : (ctrBlock key nonce i).length = 16 := by
  unfold ctrBlock
  exact aesBlock_length _ _ h

/-- Length of the counter stream over a message. -/
theorem stream_length (key nonce : List Byte) (n : Nat) (h : key.length = 16) :
    (((List.range n).map (fun i => ctrBlock key nonce (i + 1))).flatten).length = 16 * n := by
  induction n with
  | zero => rfl
  | succ n ih =>
    rw [List.range_succ, List.map_append, List.flatten_append, List.length_append, ih]
    simp only [List.map_cons, List.map_nil, List.flatten_cons, List.flatten_nil, List.append_nil]
    rw [ctrBlock_length _ _ _ h]
    omega

theorem ccmStream_length (key nonce msg : List Byte) (h : key.length = 16) : (ccmStream key nonce msg).length = msg.length := by
  unfold ccmStream
  rw [xorBytes_length, stream_length _ _ _ h]; omega

theorem ccmStream_twice (key nonce msg : List Byte) (h : key.length = 16) :
    ccmStream key nonce (ccmStream key nonce msg) = msg := by
  have l := ccmStream_length key nonce msg h
  have e : ∀ m : List Byte, ccmStream key nonce m =
      xorBytes m (((List.range ((m.length + 15) / 16)).map (fun i => ctrBlock key nonce (i + 1))).flatten) := fun _ => rfl
  rw [e (ccmStream key nonce msg), l, e msg]
  exact xorBytes_twice _ _ (by rw [stream_length _ _ _ h]; omega)

theorem ccmSeal_fst (key nonce aad msg : List Byte) : (ccmSeal 8 key nonce aad msg).1 = ccmStream key nonce msg := by
  unfold ccmSeal; dsimp only

theorem ccmSeal_tag_length (key nonce aad msg : List Byte) (h : key.length = 16) : (ccmSeal 8 key nonce aad msg).2.length = 8 := by
  unfold ccmSeal ccmMac ctrBlock
  simp only [xorBytes_length, List.length_take]
  rw [cbcMac_length _ _ h, aesBlock_length _ _ h]; rfl

/-- What CCM seals opens again (R362). -/
theorem ccmOpen_ccmSeal (key nonce aad msg : List Byte) (h : key.length = 16) :
    ccmOpen key nonce aad (ccmSeal 8 key nonce aad msg).1 (ccmSeal 8 key nonce aad msg).2 = some msg := by
  unfold ccmOpen
  rw [ccmSeal_tag_length _ _ _ _ h]
  simp only [ccmSeal_fst, ccmStream_twice key nonce msg h, beq_self_eq_true, if_true]

/-- A PSDU secured under a key: header, cipher text, MIC. -/
def sealPsdu (key head body : List Byte) : List Byte :=
  head ++ (ccmSeal 8 key (frameNonce head) head body).1 ++ (ccmSeal 8 key (frameNonce head) head body).2

/-- Whatever bytes follow a header of 14 are not read with it. -/
theorem u8_append (a b : List Byte) (i : Nat) (h : i < a.length) : u8 (a ++ b) i = u8 a i := by
  unfold u8
  rw [List.getD_eq_getElem?_getD, List.getD_eq_getElem?_getD, List.getElem?_append_left h]

theorem slice_append (a b : List Byte) (i n : Nat) (h : i + n ≤ a.length) : slice (a ++ b) i n = slice a i n := by
  unfold slice
  rw [List.drop_append_of_le_length (by omega), List.take_append_of_le_length (by simp; omega)]

/-- A new frame to all, under a loaded key that takes it, is delivered and marked (R361, R365). -/
theorem receive_new (x : RxFrame) (s : State) (f : LinkFrame) (k : KeyRec) (body : List Byte) (good : x.good = true)
    (parse : parseFrame x.psdu = some f) (dst : f.dst = broadcast) (key : receiveKey f s = some k) (marks : s.ln.marks = [])
    (opens : ccmOpen k.key (frameNonce x.psdu) (x.psdu.take 14) f.body f.mic = some body) :
    receive x s = (.deliver { f with body }, setMark f { s with
      r.rf.rxcnt := inc16 s.r.rf.rxcnt, r.rf.rfrssi := satI 16 x.rssi, r.rf.rffei := satI 16 x.fei }) := by
  have key' : receiveKey f { s with
      r.rf.rxcnt := inc16 s.r.rf.rxcnt, r.rf.rfrssi := satI 16 x.rssi, r.rf.rffei := satI 16 x.fei } = some k := key
  unfold receive
  simp only [good, Bool.not_true, Bool.false_eq_true, if_false, parse, dst, ne_eq, not_true_eq_false, and_false, key', marks,
    List.find?_nil, opens]

/-- The fields of a header, with a payload and a MIC. -/
def headFields (head body mic : List Byte) : LinkFrame :=
  { typ := u8 head 0 / 16, ackreq := (u8 head 0).testBit 1, more := (u8 head 0).testBit 0, kind := u8 head 1 / 64
    keyid := u8 head 1 % 16, dst := u32 head 2, src := u32 head 6, ctr := u32 head 10, body, mic }

/-- A secured PSDU is taken apart into its header, its cipher text and its MIC (R359). -/
theorem parse_sealed (key head body : List Byte) (hk : key.length = 16) (hl : head.length = 14) (hb : body.length ≤ 229)
    (h0 : u8 head 0 / 4 % 4 = 0) (h1 : u8 head 1 / 16 % 4 = 0) (t1 : 1 ≤ u8 head 0 / 16) (t6 : u8 head 0 / 16 ≤ 6) :
    parseFrame (sealPsdu key head body) = some (headFields head (ccmSeal 8 key (frameNonce head) head body).1
      (ccmSeal 8 key (frameNonce head) head body).2) := by
  unfold sealPsdu
  have lc : (ccmSeal 8 key (frameNonce head) head body).1.length = body.length := by
    rw [ccmSeal_fst, ccmStream_length _ _ _ hk]
  have lt := ccmSeal_tag_length key (frameNonce head) head body hk
  generalize (ccmSeal 8 key (frameNonce head) head body).1 = c at lc
  generalize (ccmSeal 8 key (frameNonce head) head body).2 = t at lt
  have len : (head ++ c ++ t).length = body.length + 22 := by simp only [List.length_append, hl, lc, lt]; omega
  have f : ∀ i, i < 14 → u8 (head ++ c ++ t) i = u8 head i := fun i h => by
    rw [List.append_assoc, u8_append _ _ _ (by omega)]
  have g : ∀ i, i + 4 ≤ 14 → u32 (head ++ c ++ t) i = u32 head i := fun i h => by
    unfold u32; rw [List.append_assoc, slice_append _ _ _ _ (by omega)]
  have b : slice (head ++ c ++ t) 14 (body.length + 22 - 22) = c := by
    unfold slice
    rw [List.append_assoc, List.drop_append_of_le_length (by omega), ← hl, List.drop_length, List.nil_append, Nat.add_sub_cancel,
      ← lc, List.take_left']
    rfl
  have m : slice (head ++ c ++ t) (body.length + 22 - 8) 8 = t := by
    unfold slice
    have e : body.length + 22 - 8 = (head ++ c).length := by simp only [List.length_append, hl, lc]; omega
    rw [e, List.drop_left', ← lt, List.take_length]
    rfl
  unfold parseFrame headFields
  simp only [len, f 0 (by omega), f 1 (by omega), g 2 (by omega), g 6 (by omega), g 10 (by omega), b, m]
  rw [if_neg (by omega)]

theorem nonce_sealed (key head body : List Byte) (hl : head.length = 14) : frameNonce (sealPsdu key head body) = frameNonce head := by
  unfold frameNonce sealPsdu
  rw [List.append_assoc, slice_append _ _ _ _ (by omega), slice_append _ _ _ _ (by omega)]

theorem head_sealed (key head body : List Byte) (hl : head.length = 14) : (sealPsdu key head body).take 14 = head := by
  unfold sealPsdu
  rw [List.append_assoc, ← hl, List.take_left']
  rfl

/-- A new frame to all that is secured under a loaded key is delivered with its payload (R361, R362, R365). -/
theorem receive_sealed (k : KeyRec) (head body : List Byte) (s : State) (hk : k.key.length = 16) (hl : head.length = 14)
    (hb : body.length ≤ 229) (h0 : u8 head 0 / 4 % 4 = 0) (h1 : u8 head 1 / 16 % 4 = 0) (t1 : 1 ≤ u8 head 0 / 16)
    (t6 : u8 head 0 / 16 ≤ 6) (dst : u32 head 2 = broadcast) (marks : s.ln.marks = [])
    (key : ∀ c t, receiveKey (headFields head c t) s = some k) :
    receive { psdu := sealPsdu k.key head body } s =
      (.deliver (headFields head body (ccmSeal 8 k.key (frameNonce head) head body).2),
       setMark (headFields head (ccmSeal 8 k.key (frameNonce head) head body).1 (ccmSeal 8 k.key (frameNonce head) head body).2)
        { s with r.rf.rxcnt := inc16 s.r.rf.rxcnt, r.rf.rfrssi := satI 16 0, r.rf.rffei := satI 16 0 }) := by
  refine receive_new { psdu := sealPsdu k.key head body } s _ k body rfl
    (parse_sealed k.key head body hk hl hb h0 h1 t1 t6) dst (key _ _) marks ?_
  rw [nonce_sealed _ _ _ hl, head_sealed _ _ _ hl]
  exact ccmOpen_ccmSeal k.key (frameNonce head) head body hk

end Sys2Proof.Machine
end

