-- ==== Sys2Proof/Laws/Keeps.lean ====
section
/-! SUPPORT. What every operation keeps: the canonical form of XB (R301), the bound of the event queue
(R319), the life of the OTP key slots (R65), the queue of commands and the time. The lemmas that build such a fact along
a definition: one for each way in which an operation is put together. -/

namespace Sys2Proof.Machine

/-- What every operation of the block keeps: XB stays canonical, the event queue stays within 64 entries, key slots only
go forward, and neither the queue of commands nor the time moves. -/
structure Keeps (s t : State) : Prop where
  xb : Memory.wf s.xb = true → Memory.wf t.xb = true
  evq : s.evq.length ≤ 64 → t.evq.length ≤ 64
  otp : KeySlotsForward s t
  pend : t.pending = s.pending
  now : t.now = s.now

/-- Doing nothing keeps everything. -/
theorem Keeps.refl (s : State) : Keeps s s := ⟨id, id, fun _ => Nat.le_refl _, rfl, rfl⟩
/-- Two operations in turn keep what each keeps. -/
theorem Keeps.trans {s t u : State} (h : Keeps s t) (k : Keeps t u) : Keeps s u :=
  ⟨fun x => k.xb (h.xb x), fun x => k.evq (h.evq x), fun i => Nat.le_trans (h.otp i) (k.otp i), k.pend.trans h.pend, k.now.trans h.now⟩
theorem Keeps.of_eq {s t u : State} (h : Keeps s t) (a : u.xb = t.xb) (b : u.evq = t.evq) (c : u.nv.otp = t.nv.otp)
   (d : u.pending = t.pending) (e : u.now = t.now) : Keeps s u :=
  h.trans ⟨by rw [a]; exact id, by rw [b]; exact id, fun i => by rw [c], d, e⟩
theorem Keeps.ite {s t u : State} {c : Prop} [Decidable c] (h : c → Keeps s t) (k : ¬c → Keeps s u) : Keeps s (if c then t else u) := by
  split
  · exact h ‹_›
  · exact k ‹_›
theorem Keeps.foldl {α : Type} {s0 : State} {f : State → α → State} (hf : ∀ s x, Keeps s0 s → Keeps s0 (f s x)) {l : List α} {s : State}
    (h : Keeps s0 s) : Keeps s0 (l.foldl f s) := by
  induction l generalizing s with
  | nil => exact h
  | cons x xs ih => exact ih (hf _ _ h)
theorem Keeps.foldr {α : Type} {s0 : State} {f : α → State → State} (hf : ∀ x s, Keeps s0 s → Keeps s0 (f x s)) {l : List α} {s : State}
    (h : Keeps s0 s) : Keeps s0 (l.foldr f s) := by
  induction l with
  | nil => exact h
  | cons x xs ih => exact hf _ _ ih
theorem onlyIf_keeps {s0 : State} {b : Bool} {f : State → State} (hf : ∀ t, Keeps s0 t → Keeps s0 (f t)) {s : State} (h : Keeps s0 s) : Keeps s0 (onlyIf b f s) := by
  unfold onlyIf; split
  · exact hf _ h
  · exact h
/-- `Keeps` of the next state that an outcome answers, if it answers one. -/
def KeepsO (s : State) (o : Host.Outcome State Fault Refusal) : Prop := ∀ t, o = .next t → Keeps s t
theorem KeepsO.next {s t : State} (h : Keeps s t) : KeepsO s (.next t) := by
  intro u hu; cases hu; exact h
theorem KeepsO.ite {s : State} {t u} {c : Prop} [Decidable c] (h : c → KeepsO s t) (k : ¬c → KeepsO s u) : KeepsO s (if c then t else u) := by
  split
  · exact h ‹_›
  · exact k ‹_›
theorem KeepsO.fault {s : State} {f} : KeepsO s (.fault f) := by intro u hu; cases hu

theorem Keeps.of_pair1 {α : Type} {s t : State} {p : α × State} {a : α} (e : p = (a, t)) (h : Keeps s p.2) : Keeps s t := by
  subst e; exact h
theorem Keeps.of_pair2 {α β : Type} {s t : State} {p : α × β × State} {a : α} {b : β} (e : p = (a, b, t)) (h : Keeps s p.2.2) : Keeps s t := by
  subst e; exact h
theorem Keeps.of_pair3 {α β γ : Type} {s t : State} {p : α × β × γ × State} {a : α} {b : β} {c : γ} (e : p = (a, b, c, t)) (h : Keeps s p.2.2.2) : Keeps s t := by
  subst e; exact h

theorem Keeps.put {s t : State} {free phase start sb cat governs active r pw cl ck tl rg seg bg bgReq xbBad ar evDrop ch cal path ps fl tp rad ln dp sv mp io flt slotA slotB rows} (h : Keeps s t) : Keeps s (State.mk t.now free t.pending phase start (NonVol.mk t.nv.otp slotA slotB rows) sb cat governs active r pw cl ck tl rg seg bg bgReq t.xb xbBad ar t.evq evDrop ch cal path ps fl tp rad ln dp sv mp io flt) :=
  h.of_eq rfl rfl rfl rfl rfl

theorem KeySlot.rank_le_revoked (k : KeySlot) : k.rank ≤ KeySlot.revoked.rank := by cases k <;> decide

theorem vupd_rank {v : OtpSlots} {n : Nat} {f : KeySlot × BitVec 256 → KeySlot × BitVec 256} {i : Fin 4}
    (hf : ∀ x : KeySlot × BitVec 256, x.1.rank ≤ (f x).1.rank) : v[i].1.rank ≤ (vupd v n f)[i].1.rank := by
  unfold vupd
  split
  · simp only [Fin.getElem_fin, Vector.getElem_set]
    split
    · rename_i e; subst e; exact hf _
    · exact Nat.le_refl _
  · exact Nat.le_refl _

theorem vupd_rank_slot {v : OtpSlots} {n : Nat} {k : KeySlot × BitVec 256} (hk : (vget v n (.empty, 0)).1.rank ≤ k.1.rank)
    (i : Fin 4) : v[i].1.rank ≤ (vupd v n (fun _ => k))[i].1.rank := by
  unfold vupd
  split
  · rename_i hn
    simp only [vget, hn, dite_true] at hk
    simp only [Fin.getElem_fin, Vector.getElem_set]
    split
    · rename_i e; subst e; exact hk
    · exact Nat.le_refl _
  · exact Nat.le_refl _

theorem keysEmpty_get {s : State} {n : Nat} (h : keysEmpty s = true) : (vget s.nv.otp n (.empty, 0)).1 = .empty := by
  unfold vget
  split
  · rename_i hn
    have := List.all_eq_true.mp h s.nv.otp[n] (by simp)
    simpa using this
  · rfl

theorem Keeps.of {s t u : State} (h : Keeps s t) (a : Memory.wf t.xb = true → Memory.wf u.xb = true) (b : t.evq.length ≤ 64 → u.evq.length ≤ 64)
   (c : ∀ i : Fin 4, t.nv.otp[i].1.rank ≤ u.nv.otp[i].1.rank) (d : u.pending = t.pending) (e : u.now = t.now) : Keeps s u := h.trans ⟨a, b, c, d, e⟩

end Sys2Proof.Machine
end

