-- ==== Sys2Proof/Laws/KeepsOps.lean ====
section
/-! SUPPORT. `Keeps` of the shared operations: events, seats, panel, frames, procedures, registers, jobs and the standing work. -/

namespace Sys2Proof.Machine

/-! ## Ops -/

theorem draw_keeps {s0 s} (h : Keeps s0 s) : Keeps s0 (draw s).2 := by
  unfold draw
  with_reducible exact Keeps.put h

theorem putXb_keeps {s0 off bs s} (h : Keeps s0 s) : Keeps s0 (putXb off bs s) :=
  h.of (fun k => Mem.setBytes_wf _ _ k) id (fun _ => Nat.le_refl _) rfl rfl

theorem fillXb_keeps {s0 off n s} (h : Keeps s0 s) : Keeps s0 (fillXb off n s) := by
  unfold fillXb
  split
  · rename_i y2_0 y2_1 y2_2 y2_3
    with_reducible exact putXb_keeps ((Keeps.of_pair1 y2_3 (draw_keeps h)))

theorem closeSegment_keeps {s0 old s} (h : Keeps s0 s) : Keeps s0 (closeSegment old s) := by
  unfold closeSegment
  extract_lets +onlyGivenNames s1
  with_reducible exact Keeps.put h

theorem accounted_keeps {s0 old s} (h : Keeps s0 s) : Keeps s0 (accounted old s) := by
  unfold accounted
  with_reducible exact Keeps.ite (fun _ => h) (fun _ => closeSegment_keeps h)

theorem segmented_keeps {s0 f s} (hf : ∀ t0, Keeps s0 t0 → Keeps s0 (f t0)) (h : Keeps s0 s) : Keeps s0 (segmented f s) := by
  unfold segmented
  with_reducible exact accounted_keeps (hf _ h)

theorem endStanding_keeps {s0 code args s} (h : Keeps s0 s) : Keeps s0 (endStanding code args s) := by
  unfold endStanding
  with_reducible exact Keeps.put h

theorem addStanding_keeps {s0 code args s} (h : Keeps s0 s) : Keeps s0 (addStanding code args s) := by
  unfold addStanding
  with_reducible exact onlyIf_keeps (fun x2 h3 => Keeps.put h3) h

theorem alarmEffects_keeps {s0 code s} (h : Keeps s0 s) : Keeps s0 (alarmEffects code s) := by
  unfold alarmEffects
  extract_lets +onlyGivenNames s1 s2 s3 s4 s5
  have h5 : Keeps s0 s5 := Keeps.put h
  clear_value s5
  with_reducible exact Keeps.ite (fun _ => h5) (fun _ => Keeps.put h5)

theorem tamperEffects_keeps {s0 code s} (h : Keeps s0 s) : Keeps s0 (tamperEffects code s) := by
  unfold tamperEffects
  with_reducible exact Keeps.put h

theorem classEffects_keeps {s0 code args s} (h : Keeps s0 s) : Keeps s0 (classEffects code args s) := by
  unfold classEffects
  with_reducible exact onlyIf_keeps (fun x2 h3 => tamperEffects_keeps h3) (onlyIf_keeps (fun x3 h4 => alarmEffects_keeps h4) (addStanding_keeps (endStanding_keeps h)))

theorem enqueueEvent_keeps {s0 : State} {e s} (h : Keeps s0 s) : Keeps s0 (enqueueEvent e s) := by
  unfold enqueueEvent
  split
  · exact h.of id (fun _ => by simp; omega) (fun _ => Nat.le_refl _) rfl rfl
  · exact h.put

theorem flushDrops_keeps {s0 s} (h : Keeps s0 s) : Keeps s0 (flushDrops s) := by
  unfold flushDrops
  split
  · rename_i c
    exact classEffects_keeps (h.of id (fun _ => by simp; omega) (fun _ => Nat.le_refl _) rfl rfl)
  · exact h

theorem logEvent_keeps {s0 code args s} (h : Keeps s0 s) : Keeps s0 (logEvent code args s) := by
  unfold logEvent
  extract_lets +onlyGivenNames s1
  have h1 : Keeps s0 s1 := flushDrops_keeps h
  clear_value s1
  with_reducible exact classEffects_keeps (enqueueEvent_keeps h1)

theorem domOn_keeps {s0 ds s} (h : Keeps s0 s) : Keeps s0 (domOn ds s) := by
  unfold domOn
  with_reducible exact Keeps.put h

theorem domOff_keeps {s0 ds s} (h : Keeps s0 s) : Keeps s0 (domOff ds s) := by
  unfold domOff
  with_reducible exact Keeps.put h

theorem updSes_keeps {s0 p f s} (h : Keeps s0 s) : Keeps s0 (updSes p f s) := by
  unfold updSes
  split
  · with_reducible exact Keeps.put h
  · with_reducible exact Keeps.put h

/-! ## Flash -/

theorem wardenFrame_keeps {s0 obj payload state s} (h : Keeps s0 s) : Keeps s0 (wardenFrame obj payload state s) := by
  unfold wardenFrame
  with_reducible exact Keeps.put h

/-! ## Seats -/

theorem checkVresLow_keeps {s0 vres s} (h : Keeps s0 s) : Keeps s0 (checkVresLow vres s) := by
  unfold checkVresLow
  with_reducible exact Keeps.ite (fun _ => Keeps.put h) (fun _ => Keeps.ite (fun _ => h) (fun _ => logEvent_keeps (Keeps.put h)))

theorem checkFallback_keeps {s0 s} (h : Keeps s0 s) : Keeps s0 (checkFallback s) := by
  unfold checkFallback
  with_reducible exact Keeps.ite (fun _ => Keeps.put h) (fun _ => Keeps.ite (fun _ => Keeps.put h) (fun _ => Keeps.ite (fun _ => Keeps.put h) (fun _ => h)))

theorem checkLprc_keeps {s0 s} (h : Keeps s0 s) : Keeps s0 (checkLprc s) := by
  unfold checkLprc
  with_reducible exact Keeps.ite (fun _ => Keeps.put h) (fun _ => h)

theorem checkCaldt_keeps {s0 before s} (h : Keeps s0 s) : Keeps s0 (checkCaldt before s) := by
  unfold checkCaldt
  with_reducible exact Keeps.ite (fun _ => Keeps.put h) (fun _ => h)

theorem sample_keeps {s0 x s} (h : Keeps s0 s) : Keeps s0 (sample x s) := by
  unfold sample
  beta_reduce
  with_reducible exact Keeps.ite (fun _ => Keeps.put (checkCaldt_keeps (checkLprc_keeps (checkFallback_keeps (checkVresLow_keeps (segmented_keeps (fun x2 h3 => Keeps.put h3) h)))))) (fun _ => Keeps.put (checkCaldt_keeps (checkLprc_keeps (checkFallback_keeps (checkVresLow_keeps (segmented_keeps (fun x4 h5 => Keeps.put h5) h))))))

theorem tdcIdle_keeps {s0 s} (h : Keeps s0 s) : Keeps s0 (tdcIdle s) := by
  unfold tdcIdle
  with_reducible exact domOn_keeps (Keeps.put h)

theorem loadTable_keeps {s0 s n} (h : Keeps s0 s) : Keeps s0 (loadTable s n) := by
  unfold loadTable
  extract_lets +onlyGivenNames s2 s3
  split
  · with_reducible exact h
  · with_reducible exact Keeps.ite (fun _ => h) (fun _ => logEvent_keeps (Keeps.put h))

theorem tdcUp_keeps {s0 s} (h : Keeps s0 s) : Keeps s0 (tdcUp s) := by
  unfold tdcUp
  extract_lets +onlyGivenNames s2
  have h2 : Keeps s0 s2 := Keeps.foldl (fun x3 x5 h4 => loadTable_keeps h4) (tdcIdle_keeps h)
  clear_value s2
  with_reducible exact Keeps.ite (fun _ => Keeps.put h2) (fun _ => h2)

theorem tdcDown_keeps {s0 s} (h : Keeps s0 s) : Keeps s0 (tdcDown s) := by
  unfold tdcDown
  with_reducible exact domOff_keeps (Keeps.put h)

theorem runFast_keeps {s0 s} (h : Keeps s0 s) : Keeps s0 (runFast s) := by
  unfold runFast
  with_reducible exact Keeps.put h

theorem runNormal_keeps {s0 s} (h : Keeps s0 s) : Keeps s0 (runNormal s) := by
  unfold runNormal
  with_reducible exact Keeps.put h

theorem beginShots_keeps {s0 step s} (h : Keeps s0 s) : Keeps s0 (beginShots step s) := by
  unfold beginShots
  extract_lets +onlyGivenNames s2 s3 s4 s5 s6
  with_reducible exact tdcUp_keeps (runFast_keeps (domOn_keeps (Keeps.put h)))

theorem beginStep_keeps {s0 step s} (h : Keeps s0 s) : Keeps s0 (beginStep step s) := by
  unfold beginStep
  extract_lets +onlyGivenNames s1
  with_reducible exact Keeps.put h

theorem addJob_keeps {s0 j s} (h : Keeps s0 s) : Keeps s0 (addJob j s) := by
  unfold addJob
  with_reducible exact Keeps.put h

theorem writeObject_keeps {s0 id s} (h : Keeps s0 s) : Keeps s0 (writeObject id s) := by
  unfold writeObject
  with_reducible exact Keeps.ite (fun _ => h) (fun _ => addJob_keeps h)

theorem takeRun_keeps {s0 r s} (h : Keeps s0 s) : Keeps s0 (takeRun r s) := by
  unfold takeRun
  with_reducible exact Keeps.put h

theorem startOps_keeps {s0 s} (h : Keeps s0 s) : Keeps s0 (startOps s) := by
  unfold startOps
  dsimp only
  repeat' split
  all_goals first
    | exact h
    | exact takeRun_keeps h

theorem pauseRun_keeps {s0 s} (h : Keeps s0 s) : Keeps s0 (pauseRun s) := by
  unfold pauseRun
  split
  · with_reducible exact h
  · extract_lets +onlyGivenNames s2 s3
    have h3 : Keeps s0 s3 := Keeps.put h
    clear_value s3
    with_reducible exact Keeps.ite (fun _ => Keeps.put h3) (fun _ => h3)

theorem beginCommit_keeps {s0 s} (h : Keeps s0 s) : Keeps s0 (beginCommit s) := by
  unfold beginCommit
  extract_lets +onlyGivenNames s2
  have h2 : Keeps s0 s2 := domOn_keeps h
  clear_value s2
  extract_lets +onlyGivenNames s3 s4
  have h4 : Keeps s0 s4 := Keeps.put h2
  clear_value s4
  with_reducible exact startOps_keeps (Keeps.ite (fun _ => pauseRun_keeps h4) (fun _ => h4))

theorem portsOn_keeps {s0 ns s} (h : Keeps s0 s) : Keeps s0 (portsOn ns s) := by
  unfold portsOn
  with_reducible exact Keeps.put h

theorem portsOff_keeps {s0 s} (h : Keeps s0 s) : Keeps s0 (portsOff s) := by
  unfold portsOff
  with_reducible exact Keeps.put h

theorem beginVitrine_keeps {s0 s} (h : Keeps s0 s) : Keeps s0 (beginVitrine s) := by
  unfold beginVitrine
  with_reducible exact domOn_keeps (Keeps.put h)

theorem beginStageWork_keeps {s0 n s} (h : Keeps s0 s) : Keeps s0 (beginStageWork n s) := by
  unfold beginStageWork
  with_reducible exact Keeps.ite (fun _ => (by
    extract_lets +onlyGivenNames s2 s3
    have h3 : Keeps s0 s3 := domOn_keeps (Keeps.put h)
    clear_value s3
    split
    · with_reducible exact beginVitrine_keeps (tdcIdle_keeps (portsOn_keeps h3))
    · with_reducible exact tdcIdle_keeps h3
    · with_reducible exact tdcIdle_keeps h3
    · with_reducible exact tdcIdle_keeps h3
    · with_reducible exact h3)) (fun _ => (by
    extract_lets +onlyGivenNames s4 s5
    have h5 : Keeps s0 s5 := domOn_keeps (Keeps.put h)
    clear_value s5
    split
    · with_reducible exact portsOn_keeps h5
    · with_reducible exact beginVitrine_keeps (tdcIdle_keeps h5)
    · with_reducible exact tdcIdle_keeps h5
    · with_reducible exact tdcIdle_keeps h5
    · with_reducible exact tdcIdle_keeps h5
    · with_reducible exact h5))

theorem onAdmit_keeps {s0 w s} (h : Keeps s0 s) : Keeps s0 (onAdmit w s) := by
  unfold onAdmit
  split
  · with_reducible exact beginStageWork_keeps h
  · with_reducible exact startOps_keeps (domOn_keeps h)
  · with_reducible exact startOps_keeps (domOn_keeps h)
  · with_reducible exact startOps_keeps (domOn_keeps h)
  · with_reducible exact startOps_keeps (domOn_keeps h)
  · with_reducible exact beginShots_keeps h
  · with_reducible exact beginShots_keeps h
  · with_reducible exact tdcUp_keeps (domOn_keeps (by
      extract_lets +onlyGivenNames s2
      have h2 : Keeps s0 s2 := beginStep_keeps h
      clear_value s2
      with_reducible exact Keeps.put h2))
  · with_reducible exact domOn_keeps (portsOn_keeps (beginStep_keeps h))
  · with_reducible exact domOn_keeps (portsOn_keeps h)
  · with_reducible exact domOn_keeps h
  · with_reducible exact domOn_keeps h
  · with_reducible exact domOn_keeps (Keeps.put h)
  · with_reducible exact domOn_keeps (Keeps.put h)
  · with_reducible exact domOn_keeps h
  · with_reducible exact domOn_keeps h
  · with_reducible exact domOn_keeps h
  · with_reducible exact domOn_keeps h
  · with_reducible exact beginVitrine_keeps (tdcUp_keeps h)
  · extract_lets +onlyGivenNames s3
    have h3 : Keeps s0 s3 := tdcUp_keeps h
    clear_value s3
    extract_lets +onlyGivenNames s4 s5 s6 s7
    with_reducible exact domOn_keeps (Keeps.put h3)
  · with_reducible exact h

theorem onDrop_keeps {s0 w s} (h : Keeps s0 s) : Keeps s0 (onDrop w s) := by
  unfold onDrop
  split
  · with_reducible exact Keeps.put h
  · with_reducible exact Keeps.put h
  · with_reducible exact Keeps.put h
  · with_reducible exact Keeps.put h
  · with_reducible exact Keeps.put h
  · with_reducible exact Keeps.put h
  · with_reducible exact Keeps.put h
  · with_reducible exact h

theorem dropRequest_keeps {s0 x reason s} (h : Keeps s0 s) : Keeps s0 (dropRequest x reason s) := by
  unfold dropRequest
  with_reducible exact onDrop_keeps (Keeps.put h)

theorem dropLate_keeps {s0 s} (h : Keeps s0 s) : Keeps s0 (dropLate s) := by
  unfold dropLate
  with_reducible exact Keeps.foldl (fun x2 x4 h3 => dropRequest_keeps h3) h

theorem evaluate.go_keeps {s0 x s} (h : Keeps s0 s) : Keeps s0 (evaluate.go x s) := by
  unfold evaluate.go
  extract_lets +onlyGivenNames s1 s2 s3 s4
  have h4 : Keeps s0 s4 := Keeps.put h
  clear_value s4
  with_reducible exact Keeps.ite (fun _ => onAdmit_keeps (Keeps.put h4)) (fun _ => h4)

theorem evaluate.head_keeps {s0 s} (h : Keeps s0 s) : Keeps s0 (evaluate.head s) := by
  unfold evaluate.head
  split
  · with_reducible exact Keeps.put h
  · split
    · with_reducible exact Keeps.ite (fun _ => h) (fun _ => evaluate.go_keeps h)
    · with_reducible exact evaluate.go_keeps h

theorem evaluate_keeps {s0 s} (h : Keeps s0 s) : Keeps s0 (evaluate s) := by
  unfold evaluate
  with_reducible exact evaluate.head_keeps (dropLate_keeps h)

theorem postSeat_keeps {s0 u cls hold deadline w s} (h : Keeps s0 s) : Keeps s0 (postSeat u cls hold deadline w s) := by
  unfold postSeat
  with_reducible exact Keeps.ite (fun _ => h) (fun _ => (by
    extract_lets +onlyGivenNames s2 s3 s4
    have h4 : Keeps s0 s4 := Keeps.put h
    clear_value s4
    with_reducible exact Keeps.ite (fun _ => logEvent_keeps (dropRequest_keeps h4)) (fun _ => Keeps.put h4)))

theorem requestsTogether_keeps {s0 f s} (hf : ∀ t0, Keeps s0 t0 → Keeps s0 (f t0)) (h : Keeps s0 s) : Keeps s0 (requestsTogether f s) := by
  unfold requestsTogether
  extract_lets +onlyGivenNames s2
  have h2 : Keeps s0 s2 := hf _ h
  clear_value s2
  with_reducible exact Keeps.ite (fun _ => h2) (fun _ => evaluate_keeps h2)

theorem requestSeat_keeps {s0 u cls hold deadline w s} (h : Keeps s0 s) : Keeps s0 (requestSeat u cls hold deadline w s) := by
  unfold requestSeat
  with_reducible exact requestsTogether_keeps (fun x2 h3 => postSeat_keeps h3) h

theorem releaseSeat_keeps {s0 u s} (h : Keeps s0 s) : Keeps s0 (releaseSeat u s) := by
  unfold releaseSeat
  with_reducible exact Keeps.ite (fun _ => evaluate_keeps (Keeps.put h)) (fun _ => h)

theorem yieldService_keeps {s0 s} (h : Keeps s0 s) : Keeps s0 (yieldService s) := by
  unfold yieldService
  with_reducible exact Keeps.ite (fun _ => releaseSeat_keeps h) (fun _ => Keeps.put h)

theorem displaySeat_keeps {s0 cls hold w s} (h : Keeps s0 s) : Keeps s0 (displaySeat cls hold w s) := by
  unfold displaySeat
  with_reducible exact requestSeat_keeps (yieldService_keeps h)

theorem serviceSeat_keeps {s0 s} (h : Keeps s0 s) : Keeps s0 (serviceSeat s) := by
  unfold serviceSeat
  with_reducible exact requestSeat_keeps h

theorem restCurator_keeps {s0 s} (h : Keeps s0 s) : Keeps s0 (restCurator s) := by
  unfold restCurator
  with_reducible exact Keeps.ite (fun _ => h) (fun _ => domOff_keeps h)

/-! ## Panel -/

theorem displayUnavailable_keeps {s0 cause s} (h : Keeps s0 s) : Keeps s0 (displayUnavailable cause s) := by
  unfold displayUnavailable
  with_reducible exact Keeps.ite (fun _ => Keeps.put h) (fun _ => logEvent_keeps (domOff_keeps (Keeps.put h)))

theorem loadMap_keeps {s0 matched s} (h : Keeps s0 s) : Keeps s0 (loadMap matched s) := by
  unfold loadMap
  with_reducible exact Keeps.ite (fun _ => h) (fun _ => Keeps.ite (fun _ => displayUnavailable_keeps h) (fun _ => (by
    split
    · with_reducible exact displayUnavailable_keeps h
    · split
      · with_reducible exact displayUnavailable_keeps (logEvent_keeps (Keeps.put h))
      · with_reducible exact Keeps.put h)))

theorem updRegion_keeps {s0 r f s} (h : Keeps s0 s) : Keeps s0 (updRegion r f s) := by
  unfold updRegion
  with_reducible exact Keeps.put h

theorem requestPanelSeat_keeps {s0 s} (h : Keeps s0 s) : Keeps s0 (requestPanelSeat s) := by
  unfold requestPanelSeat
  extract_lets +onlyGivenNames s2
  with_reducible exact Keeps.ite (fun _ => h) (fun _ => displaySeat_keeps h)

theorem regionRequest_keeps {s0 r content s} (h : Keeps s0 s) : Keeps s0 (regionRequest r content s) := by
  unfold regionRequest
  extract_lets +onlyGivenNames s1 s2
  split
  · extract_lets +onlyGivenNames s4 s5
    have h5 : Keeps s0 s5 := updRegion_keeps h
    clear_value s5
    with_reducible exact requestPanelSeat_keeps (by
      extract_lets +onlyGivenNames s7
      have h7 : Keeps s0 s7 := updRegion_keeps h5
      clear_value s7
      with_reducible exact Keeps.put h7)
  · with_reducible exact updRegion_keeps h
  · with_reducible exact onlyIf_keeps (fun x5 h6 => Keeps.put h6) (updRegion_keeps h)
  · with_reducible exact onlyIf_keeps (fun x5 h6 => Keeps.put h6) (updRegion_keeps h)

theorem setLedger_keeps {s0 g v s} (h : Keeps s0 s) : Keeps s0 (setLedger g v s) := by
  unfold setLedger
  extract_lets +onlyGivenNames s1 s2
  with_reducible exact onlyIf_keeps (fun x4 h5 => logEvent_keeps h5) (Keeps.put h)

theorem parkRegion_keeps {s0 r s} (h : Keeps s0 s) : Keeps s0 (parkRegion r s) := by
  unfold parkRegion
  extract_lets +onlyGivenNames s1 s2 s3 s4 s5 s6 s7
  have h7 : Keeps s0 s7 := Keeps.foldl (fun x9 x10 h11 => setLedger_keeps h11) h
  clear_value s7
  with_reducible exact updRegion_keeps (Keeps.put h7)

theorem parkStart_keeps {s0 cause s} (h : Keeps s0 s) : Keeps s0 (parkStart cause s) := by
  unfold parkStart
  with_reducible exact Keeps.ite (fun _ => h) (fun _ => logEvent_keeps (Keeps.put (Keeps.ite (fun _ => Keeps.put (Keeps.foldl (fun x9 x10 h11 => parkRegion_keeps h11) (by
    try dsimp only
    split
    · with_reducible exact draw_keeps h
    · with_reducible exact h))) (fun _ => Keeps.foldl (fun x8 x9 h10 => parkRegion_keeps h10) (by
    try dsimp only
    split
    · with_reducible exact draw_keeps h
    · with_reducible exact h)))))

theorem parkEnd_keeps {s0 s} (h : Keeps s0 s) : Keeps s0 (parkEnd s) := by
  unfold parkEnd
  split
  · with_reducible exact h
  · extract_lets +onlyGivenNames s2 s3 s4 s5
    have h5 : Keeps s0 s5 := Keeps.put h
    clear_value s5
    with_reducible exact Keeps.foldl (fun x7 x8 h9 => (by
      split
      · with_reducible exact regionRequest_keeps (updRegion_keeps h9)
      · with_reducible exact h9)) h5

theorem render_keeps {s0 s} (h : Keeps s0 s) : Keeps s0 (render s) := by
  unfold render
  with_reducible exact Keeps.ite (fun _ => h) (fun _ => (by
    split
    · extract_lets +onlyGivenNames s4 s5
      have h5 : Keeps s0 s5 := Keeps.put h
      clear_value s5
      split
      · with_reducible exact Keeps.foldl (fun x8 x9 h10 => (by
          extract_lets +onlyGivenNames s11 s12 s13 s14
          with_reducible exact Keeps.ite (fun _ => h10) (fun _ => Keeps.ite (fun _ => regionRequest_keeps h10) (fun _ => Keeps.ite (fun _ => h10) (fun _ => regionRequest_keeps h10))))) (Keeps.put h5)
      · with_reducible exact domOn_keeps (Keeps.put h5)
      · with_reducible exact h5))

theorem rbCheckPin_keeps {s0 ok p s} (h : Keeps s0 s) : Keeps s0 (rbCheckPin ok p s) := by
  unfold rbCheckPin
  with_reducible exact Keeps.ite (fun _ => logEvent_keeps (Keeps.put (Keeps.put h))) (fun _ => Keeps.ite (fun _ => logEvent_keeps (Keeps.put (Keeps.put h))) (fun _ => Keeps.put h))

theorem glassFail_keeps {s0 s} (h : Keeps s0 s) : Keeps s0 (glassFail s) := by
  unfold glassFail
  with_reducible exact Keeps.ite (fun _ => h) (fun _ => (by
    extract_lets +onlyGivenNames s3 s4
    with_reducible exact checkFallback_keeps (onlyIf_keeps (fun x7 h8 => logEvent_keeps h8) (Keeps.put h))))

theorem readBack_keeps {s0 checks s} (h : Keeps s0 s) : Keeps s0 (readBack checks s) := by
  unfold readBack
  extract_lets +onlyGivenNames s1 s2 s3 s4
  have h4 : Keeps s0 s4 := Keeps.put h
  clear_value s4
  extract_lets +onlyGivenNames s5
  have h5 : Keeps s0 s5 := onlyIf_keeps (fun x7 h8 => Keeps.put h8) h4
  clear_value s5
  with_reducible exact glassFail_keeps (Keeps.foldl (fun x8 x9 h10 => rbCheckPin_keeps h10) h5)

/-! ## Airwave -/

theorem charge_keeps {s0 code channel a s} (h : Keeps s0 s) : Keeps s0 (charge code channel a s) := by
  unfold charge
  extract_lets +onlyGivenNames s1 s2
  with_reducible exact Keeps.ite (fun _ => Keeps.put h) (fun _ => Keeps.put h)

theorem reserve_keeps {s0 s keyid} (h : Keeps s0 s) : Keeps s0 (reserve s keyid) := by
  unfold reserve
  extract_lets +onlyGivenNames s2 s3 s4 s5 s6
  with_reducible exact Keeps.ite (fun _ => h) (fun _ => onlyIf_keeps (fun x7 h8 => logEvent_keeps h8) (writeObject_keeps (Keeps.put h)))

theorem loadKeys_keeps {s0 s} (h : Keeps s0 s) : Keeps s0 (loadKeys s) := by
  unfold loadKeys
  with_reducible exact Keeps.foldl (fun x2 x4 h3 => reserve_keeps h3) (Keeps.put h)

theorem takeCtr_keeps {s0 keyid s} (h : Keeps s0 s) : Keeps s0 (takeCtr keyid s).2 := by
  unfold takeCtr
  extract_lets +onlyGivenNames s2
  have h2 : Keeps s0 s2 := reserve_keeps h
  clear_value s2
  extract_lets +onlyGivenNames s3 s4 s5
  have h5 : Keeps s0 s5 := reserve_keeps (Keeps.put h2)
  clear_value s5
  with_reducible exact onlyIf_keeps (fun x6 h7 => logEvent_keeps h7) h5

theorem stepMessageCounter_keeps {s0 s} (h : Keeps s0 s) : Keeps s0 (stepMessageCounter s) := by
  unfold stepMessageCounter
  split
  · with_reducible exact Keeps.ite (fun _ => h) (fun _ => takeCtr_keeps h)
  · with_reducible exact h

theorem buildAlarmFrame_keeps {s0 s} (h : Keeps s0 s) : Keeps s0 (buildAlarmFrame s) := by
  unfold buildAlarmFrame
  extract_lets +onlyGivenNames s1 s2 s3
  with_reducible exact stepMessageCounter_keeps (Keeps.put h)

theorem telegram_keeps {s0 use extra s} (h : Keeps s0 s) : Keeps s0 (telegram use extra s).2 := by
  unfold telegram
  with_reducible exact stepMessageCounter_keeps (Keeps.put h)

theorem faultTelegram_keeps {s0 s} (h : Keeps s0 s) : Keeps s0 (faultTelegram s).2 := by
  unfold faultTelegram
  with_reducible exact stepMessageCounter_keeps (Keeps.put h)

theorem queueTx_keeps {s0 f s} (h : Keeps s0 s) : Keeps s0 (queueTx f s) := by
  unfold queueTx
  with_reducible exact Keeps.put h

theorem calibrateSynth_keeps {s0 band s} (h : Keeps s0 s) : Keeps s0 (calibrateSynth band s) := by
  unfold calibrateSynth
  with_reducible exact Keeps.put h

theorem recalibrate_keeps {s0 hz s} (h : Keeps s0 s) : Keeps s0 (recalibrate hz s) := by
  unfold recalibrate
  with_reducible exact Keeps.ite (fun _ => calibrateSynth_keeps h) (fun _ => h)

theorem tune_keeps {s0 hz num rate s} (h : Keeps s0 s) : Keeps s0 (tune hz num rate s) := by
  unfold tune
  extract_lets +onlyGivenNames s2 s3 s4 s5 s6
  with_reducible exact recalibrate_keeps (Keeps.put h)

theorem tuneTo_keeps {s0 t s} (h : Keeps s0 s) : Keeps s0 (tuneTo t s) := by
  unfold tuneTo
  with_reducible exact tune_keeps h

theorem pumpTx_keeps {s0 s} (h : Keeps s0 s) : Keeps s0 (pumpTx s) := by
  unfold pumpTx
  with_reducible exact Keeps.ite (fun _ => h) (fun _ => (by
    split
    · with_reducible exact h
    · with_reducible exact Keeps.ite (fun _ => h) (fun _ => Keeps.ite (fun _ => h) (fun _ => Keeps.ite (fun _ => h) (fun _ => postSeat_keeps (Keeps.put h))))))

theorem sequencerSend_keeps {s0 f s} (h : Keeps s0 s) : Keeps s0 (sequencerSend f s) := by
  unfold sequencerSend
  with_reducible exact Keeps.ite (fun _ => Keeps.put h) (fun _ => requestsTogether_keeps (fun x2 h3 => pumpTx_keeps h3) (Keeps.put h))

theorem pumpSequencer_keeps {s0 s} (h : Keeps s0 s) : Keeps s0 (pumpSequencer s) := by
  unfold pumpSequencer
  split
  · with_reducible exact Keeps.ite (fun _ => h) (fun _ => sequencerSend_keeps h)
  · with_reducible exact h

/-! ## Procs -/

theorem logPlain_keeps {s0 k args s} (h : Keeps s0 s) : Keeps s0 (logPlain k args s) := by
  unfold logPlain
  with_reducible exact enqueueEvent_keeps (flushDrops_keeps h)

theorem pumpArchive_keeps {s0 s} (h : Keeps s0 s) : Keeps s0 (pumpArchive s) := by
  unfold pumpArchive
  with_reducible exact Keeps.ite (fun _ => h) (fun _ => (by
    extract_lets +onlyGivenNames s2
    have h2 : Keeps s0 s2 := (by
      unfold s2
      split
      · with_reducible exact postSeat_keeps h
      · with_reducible exact Keeps.ite (fun _ => postSeat_keeps h) (fun _ => Keeps.ite (fun _ => postSeat_keeps h) (fun _ => h)))
    clear_value s2
    split
    · with_reducible exact postSeat_keeps h2
    · with_reducible exact h2))

theorem losePower_keeps {s0 codes s} (h : Keeps s0 s) : Keeps s0 (losePower codes s) := by
  unfold losePower
  refine h.of (fun k => ?_) id (fun _ => Nat.le_refl _) rfl rfl
  show Memory.wf (if _ then [] else s.xb) = true
  split
  · rfl
  · exact k

theorem toRun_keeps {s0 code s} (h : Keeps s0 s) : Keeps s0 (toRun code s) := by
  unfold toRun
  with_reducible exact onlyIf_keeps (fun x2 h3 => loadKeys_keeps h3) (Keeps.put h)

theorem startWords_keeps {s0 cause s} (h : Keeps s0 s) : Keeps s0 (startWords cause s) := by
  unfold startWords
  with_reducible exact Keeps.put h

theorem beginHibStep_keeps {s0 n s} (h : Keeps s0 s) : Keeps s0 (beginHibStep n s) := by
  unfold beginHibStep
  with_reducible exact Keeps.ite (fun _ => Keeps.put h) (fun _ => requestSeat_keeps (Keeps.put h))

theorem hibernateStart_keeps {s0 code s} (h : Keeps s0 s) : Keeps s0 (hibernateStart code s) := by
  unfold hibernateStart
  beta_reduce
  with_reducible exact beginHibStep_keeps (Keeps.put (startWords_keeps (toRun_keeps (losePower_keeps h))))

theorem sameCycleWake_keeps {s0 code s} (h : Keeps s0 s) : Keeps s0 (sameCycleWake code s) := by
  unfold sameCycleWake
  with_reducible exact Keeps.ite (fun _ => Keeps.put h) (fun _ => h)

theorem wake_keeps {s0 code s} (h : Keeps s0 s) : Keeps s0 (wake code s) := by
  unfold wake
  split
  · with_reducible exact Keeps.ite (fun _ => Keeps.put h) (fun _ => h)
  · with_reducible exact Keeps.ite (fun _ => Keeps.ite (fun _ => hibernateStart_keeps h) (fun _ => toRun_keeps h)) (fun _ => Keeps.ite (fun _ => sameCycleWake_keeps h) (fun _ => h))

theorem endService_keeps {s0 p cause s} (h : Keeps s0 s) : Keeps s0 (endService p cause s) := by
  unfold endService
  with_reducible exact Keeps.ite (fun _ => (by
    extract_lets +onlyGivenNames s3 s4
    have h4 : Keeps s0 s4 := Keeps.ite (fun _ => h) (fun _ => Keeps.put h)
    clear_value s4
    with_reducible exact logEvent_keeps (updSes_keeps h4))) (fun _ => h)

theorem endServiceAll_keeps {s0 cause s} (h : Keeps s0 s) : Keeps s0 (endServiceAll cause s) := by
  unfold endServiceAll
  with_reducible exact endService_keeps (endService_keeps h)

theorem endFast_keeps {s0 s} (h : Keeps s0 s) : Keeps s0 (endFast s) := by
  unfold endFast
  with_reducible exact Keeps.ite (fun _ => Keeps.put h) (fun _ => h)

theorem writeLedger_keeps {s0 s} (h : Keeps s0 s) : Keeps s0 (writeLedger s) := by
  unfold writeLedger
  with_reducible exact wardenFrame_keeps (Keeps.put h)

theorem commitShadow_keeps {s0 s} (h : Keeps s0 s) : Keeps s0 (commitShadow s) := by
  unfold commitShadow
  extract_lets +onlyGivenNames s2 s3
  have h3 : Keeps s0 s3 := (by
    unfold s3
    split
    · with_reducible exact Keeps.ite (fun _ => Keeps.put h) (fun _ => pauseRun_keeps h)
    · with_reducible exact h)
  clear_value s3
  with_reducible exact writeLedger_keeps (wardenFrame_keeps (Keeps.put h3))

theorem skipCommit_keeps {s0 s} (h : Keeps s0 s) : Keeps s0 (skipCommit s) := by
  unfold skipCommit
  with_reducible exact logEvent_keeps (Keeps.put h)

theorem finishCommit_keeps {s0 s} (h : Keeps s0 s) : Keeps s0 (finishCommit s) := by
  unfold finishCommit
  with_reducible exact Keeps.ite (fun _ => commitShadow_keeps h) (fun _ => skipCommit_keeps h)

theorem commitOrSkip_keeps {s0 s} (h : Keeps s0 s) : Keeps s0 (commitOrSkip s) := by
  unfold commitOrSkip
  with_reducible exact Keeps.ite (fun _ => commitShadow_keeps h) (fun _ => skipCommit_keeps h)

theorem coldStart.freshStart_keeps {s0 cause s} (h : Keeps s0 s) : Keeps s0 (coldStart.freshStart cause s) :=
  h.of (fun _ => rfl) id (fun _ => Nat.le_refl _) rfl rfl

theorem coldStart_keeps {s0 cause s} (h : Keeps s0 s) : Keeps s0 (coldStart cause s) := by
  unfold coldStart
  with_reducible exact accounted_keeps (coldStart.freshStart_keeps h)

theorem porStart_keeps {s0 s} (h : Keeps s0 s) : Keeps s0 (porStart s) := by
  unfold porStart
  with_reducible exact h.of (fun _ => rfl) (fun _ => Nat.zero_le _) (fun _ => Nat.le_refl _) rfl rfl

theorem quiet_keeps {s0 s} (h : Keeps s0 s) : Keeps s0 (quiet s) := by
  unfold quiet
  with_reducible exact Keeps.put h

theorem enterOff_keeps {s0 ph s} (h : Keeps s0 s) : Keeps s0 (enterOff ph s) := by
  unfold enterOff
  with_reducible exact h.of id (fun _ => Nat.zero_le _) (fun _ => Nat.le_refl _) rfl rfl

theorem enterSafeBeacon_keeps {s0 event alone s} (h : Keeps s0 s) : Keeps s0 (enterSafeBeacon event alone s) := by
  unfold enterSafeBeacon
  extract_lets +onlyGivenNames s1
  have h1 : Keeps s0 s1 := Keeps.ite (fun _ => h) (fun _ => commitOrSkip_keeps h)
  clear_value s1
  extract_lets +onlyGivenNames s2
  have h2 : Keeps s0 s2 := endFast_keeps (endServiceAll_keeps (parkStart_keeps h1))
  clear_value s2
  with_reducible exact render_keeps (logEvent_keeps (tdcDown_keeps (domOff_keeps (Keeps.put h2))))

theorem failStart_keeps {s0 event alone s} (h : Keeps s0 s) : Keeps s0 (failStart event alone s) := by
  unfold failStart
  extract_lets +onlyGivenNames s1 s2 s3 s4 s5
  have h5 : Keeps s0 s5 := Keeps.ite (fun _ => onlyIf_keeps (fun x9 h10 => logEvent_keeps h10) (logEvent_keeps (Keeps.put h))) (fun _ => Keeps.ite (fun _ => logEvent_keeps (Keeps.put h)) (fun _ => h))
  clear_value s5
  with_reducible exact writeObject_keeps (enterSafeBeacon_keeps h5)

theorem recordFatal_keeps {s0 stage event s} (h : Keeps s0 s) : Keeps s0 (recordFatal stage event s) := by
  unfold recordFatal
  with_reducible exact Keeps.ite (fun _ => Keeps.put h) (fun _ => h)

theorem fatal_keeps {s0 stage event args s} (h : Keeps s0 s) : Keeps s0 (fatal stage event args s) := by
  unfold fatal
  with_reducible exact failStart_keeps (recordFatal_keeps (logEvent_keeps h))

theorem fallBack_keeps {s0 step event s} (h : Keeps s0 s) : Keeps s0 (fallBack step event s) := by
  unfold fallBack
  extract_lets +onlyGivenNames s2
  have h2 : Keeps s0 s2 := coldStart_keeps h
  clear_value s2
  with_reducible exact Keeps.put h2

theorem abandonHib_keeps {s0 step event args s} (h : Keeps s0 s) : Keeps s0 (abandonHib step event args s) := by
  unfold abandonHib
  with_reducible exact fallBack_keeps (logEvent_keeps h)

theorem stageTold_keeps {s0 s} (h : Keeps s0 s) : Keeps s0 (stageTold s) := by
  unfold stageTold
  split
  · with_reducible exact fatal_keeps h
  · with_reducible exact abandonHib_keeps h
  · with_reducible exact h

theorem stageSeatDropped_keeps {s0 x s} (h : Keeps s0 s) : Keeps s0 (stageSeatDropped x s) := by
  unfold stageSeatDropped
  with_reducible exact stageTold_keeps (dropRequest_keeps h)

theorem warn_keeps {s0 stage event args s} (h : Keeps s0 s) : Keeps s0 (warn stage event args s) := by
  unfold warn
  with_reducible exact logEvent_keeps (Keeps.put h)

theorem stopEngines_keeps {s0 s} (h : Keeps s0 s) : Keeps s0 (stopEngines s) := by
  unfold stopEngines
  extract_lets +onlyGivenNames s1
  have h1 : Keeps s0 s1 := endFast_keeps h
  clear_value s1
  with_reducible exact Keeps.put h1

theorem cancelHeld_keeps {s0 cause s} (h : Keeps s0 s) : Keeps s0 (cancelHeld cause s) := by
  unfold cancelHeld
  with_reducible exact Keeps.ite (fun _ => logEvent_keeps (Keeps.put h)) (fun _ => h)

theorem procFinish_keeps {s0 cause s} (h : Keeps s0 s) : Keeps s0 (procFinish cause s) := by
  unfold procFinish
  extract_lets +onlyGivenNames s2 s3 s4 s5 s6 s7
  have h7 : Keeps s0 s7 := Keeps.put h
  clear_value s7
  with_reducible exact Keeps.ite (fun _ => (by
    extract_lets +onlyGivenNames s8
    have h8 : Keeps s0 s8 := stopEngines_keeps h7
    clear_value s8
    with_reducible exact Keeps.put h8)) (fun _ => Keeps.ite (fun _ => Keeps.ite (fun _ => (by
    extract_lets +onlyGivenNames s9
    have h9 : Keeps s0 s9 := stopEngines_keeps h7
    clear_value s9
    with_reducible exact Keeps.put h9)) (fun _ => coldStart_keeps h7)) (fun _ => coldStart_keeps h7))

theorem holdAlarm_keeps {s0 cause s} (h : Keeps s0 s) : Keeps s0 (holdAlarm cause s) := by
  unfold holdAlarm
  with_reducible exact Keeps.ite (fun _ => Keeps.put h) (fun _ => h)

theorem procAlarm_keeps {s0 cause s} (h : Keeps s0 s) : Keeps s0 (procAlarm cause s) := by
  unfold procAlarm
  with_reducible exact Keeps.ite (fun _ => (by
    beta_reduce
    with_reducible exact Keeps.ite (fun _ => requestSeat_keeps (Keeps.put h)) (fun _ => procFinish_keeps (holdAlarm_keeps (requestSeat_keeps (Keeps.put h)))))) (fun _ => procFinish_keeps h)

theorem endAlarm_keeps {s0 s} (h : Keeps s0 s) : Keeps s0 (endAlarm s) := by
  unfold endAlarm
  split
  · with_reducible exact procFinish_keeps h
  · with_reducible exact h

theorem procAfterCommit_keeps {s0 cause s} (h : Keeps s0 s) : Keeps s0 (procAfterCommit cause s) := by
  unfold procAfterCommit
  with_reducible exact Keeps.ite (fun _ => Keeps.put h) (fun _ => procAlarm_keeps h)

theorem resetTrigger_keeps {s0 cause s} (h : Keeps s0 s) : Keeps s0 (resetTrigger cause s) := by
  unfold resetTrigger
  with_reducible exact logEvent_keeps (Keeps.put h)

theorem watchdogReset_keeps {s0 cause s} (h : Keeps s0 s) : Keeps s0 (watchdogReset cause s) := by
  unfold watchdogReset
  extract_lets +onlyGivenNames s2
  have h2 : Keeps s0 s2 := resetTrigger_keeps h
  clear_value s2
  split
  · with_reducible exact Keeps.put h2
  · extract_lets +onlyGivenNames s3
    have h3 : Keeps s0 s3 := endFast_keeps h2
    clear_value s3
    extract_lets +onlyGivenNames s4 s5 s6 s7 s8 s9 s10 s11
    have h11 : Keeps s0 s11 := Keeps.put h3
    clear_value s11
    extract_lets +onlyGivenNames s12 s13 s14
    have h14 : Keeps s0 s14 := parkStart_keeps (Keeps.put h11)
    clear_value s14
    with_reducible exact Keeps.ite (fun _ => (by
      extract_lets +onlyGivenNames s15
      have h15 : Keeps s0 s15 := beginCommit_keeps h14
      clear_value s15
      with_reducible exact Keeps.put h15)) (fun _ => procAfterCommit_keeps (skipCommit_keeps h14))

/-! ## Acoustic -/

theorem updCh_keeps {s0 n f g s} (h : Keeps s0 s) : Keeps s0 (updCh n f g s) := by
  unfold updCh
  with_reducible exact Keeps.put h

theorem armChannel_keeps {s0 n cfg s} (h : Keeps s0 s) : Keeps s0 (armChannel n cfg s) := by
  unfold armChannel
  extract_lets +onlyGivenNames s1
  with_reducible exact Keeps.ite (fun _ => updCh_keeps h) (fun _ => h)

theorem disarm_keeps {s0 n s} (h : Keeps s0 s) : Keeps s0 (disarm n s) := by
  unfold disarm
  with_reducible exact updCh_keeps h

theorem updPath_keeps {s0 k f s} (h : Keeps s0 s) : Keeps s0 (updPath k f s) := by
  unfold updPath
  with_reducible exact Keeps.put h

theorem setTexp_keeps {s0 k t s} (h : Keeps s0 s) : Keeps s0 (setTexp k t s) := by
  unfold setTexp
  extract_lets +onlyGivenNames s1
  have h1 : Keeps s0 s1 := updPath_keeps h
  clear_value s1
  with_reducible exact Keeps.put h1

theorem initPath_keeps {s0 k s} (h : Keeps s0 s) : Keeps s0 (initPath k s) := by
  unfold initPath
  extract_lets +onlyGivenNames s1 s2 s3 s4
  have h4 : Keeps s0 s4 := Keeps.put h
  clear_value s4
  extract_lets +onlyGivenNames s5
  have h5 : Keeps s0 s5 := setTexp_keeps h4
  clear_value s5
  with_reducible exact Keeps.put h5

theorem regrid_keeps {s0 t s} (h : Keeps s0 s) : Keeps s0 (regrid t s) := by
  unfold regrid
  with_reducible exact Keeps.put h

theorem restoreClass_keeps {s0 s} (h : Keeps s0 s) : Keeps s0 (restoreClass s) := by
  unfold restoreClass
  with_reducible exact Keeps.ite (fun _ => Keeps.put h) (fun _ => Keeps.put h)

theorem useFreq_keeps {s0 k f s} (h : Keeps s0 s) : Keeps s0 (useFreq k f s) := by
  unfold useFreq
  extract_lets +onlyGivenNames s2 s3
  have h3 : Keeps s0 s3 := Keeps.put h
  clear_value s3
  extract_lets +onlyGivenNames s4 s5
  have h5 : Keeps s0 s5 := Keeps.put h3
  clear_value s5
  with_reducible exact setTexp_keeps h5

theorem initPaths_keeps {s0 s} (h : Keeps s0 s) : Keeps s0 (initPaths s) := by
  unfold initPaths
  with_reducible exact Keeps.foldl (fun x2 x4 h3 => initPath_keeps h3) (restoreClass_keeps h)

theorem renewPairs_keeps {s0 s} (h : Keeps s0 s) : Keeps s0 (renewPairs s) := by
  unfold renewPairs
  with_reducible exact Keeps.foldl (fun x2 x4 h3 => setTexp_keeps h3) h

theorem startPiste_keeps {s0 s} (h : Keeps s0 s) : Keeps s0 (startPiste s) := by
  unfold startPiste
  extract_lets +onlyGivenNames s2 s3 s4
  have h4 : Keeps s0 s4 := Keeps.put h
  clear_value s4
  with_reducible exact Keeps.put h4

theorem endStep_keeps {s0 u s} (h : Keeps s0 s) : Keeps s0 (endStep u s) := by
  unfold endStep
  with_reducible exact releaseSeat_keeps (Keeps.put h)

theorem requestVitrine_keeps {s0 s} (h : Keeps s0 s) : Keeps s0 (requestVitrine s) := by
  unfold requestVitrine
  with_reducible exact Keeps.ite (fun _ => h) (fun _ => Keeps.put h)

theorem newVitrine_keeps {s0 s} (h : Keeps s0 s) : Keeps s0 (newVitrine s) := by
  unfold newVitrine
  with_reducible exact requestVitrine_keeps (Keeps.ite (fun _ => Keeps.put h) (fun _ => h))

theorem requestTdcCal_keeps {s0 cause s} (h : Keeps s0 s) : Keeps s0 (requestTdcCal cause s) := by
  unfold requestTdcCal
  with_reducible exact Keeps.ite (fun _ => h) (fun _ => Keeps.put h)

theorem requestCals_keeps {s0 s} (h : Keeps s0 s) : Keeps s0 (requestCals s) := by
  unfold requestCals
  with_reducible exact Keeps.ite (fun _ => h) (fun _ => (by
    extract_lets +onlyGivenNames s2 s3
    have h3 : Keeps s0 s3 := Keeps.ite (fun _ => postSeat_keeps (Keeps.put h)) (fun _ => h)
    clear_value s3
    with_reducible exact Keeps.ite (fun _ => postSeat_keeps h3) (fun _ => h3)))

/-! ## RegistrarOps -/

theorem secsOf_keeps {s0 k us s} (h : Keeps s0 s) : Keeps s0 (secsOf k us s).2 := by
  unfold secsOf
  with_reducible exact Keeps.put h

theorem addEnergy_keeps {s0 heat e f t tau s} (h : Keeps s0 s) : Keeps s0 (addEnergy heat e f t tau s) := by
  unfold addEnergy
  with_reducible exact Keeps.ite (fun _ => Keeps.put (Keeps.put h)) (fun _ => (by
    extract_lets +onlyGivenNames s3 s4 s5 s6 s7 s8
    have h8 : Keeps s0 s8 := Keeps.ite (fun _ => Keeps.put (Keeps.put h)) (fun _ => Keeps.put (Keeps.put h))
    with_reducible exact Keeps.ite (fun _ => (by
      extract_lets +onlyGivenNames s11
      with_reducible exact Keeps.put h8)) (fun _ => h8)))

theorem extreme_keeps {s0 i low v time s} (h : Keeps s0 s) : Keeps s0 (extreme i low v time s) := by
  unfold extreme
  with_reducible exact Keeps.put h

theorem extremes_keeps {s0 t s} (h : Keeps s0 s) : Keeps s0 (extremes t s) := by
  unfold extremes
  with_reducible exact extreme_keeps (extreme_keeps (extreme_keeps (extreme_keeps h)))

theorem energyStop_keeps {s0 cond s} (h : Keeps s0 s) : Keeps s0 (energyStop cond s) := by
  unfold energyStop
  split
  · with_reducible exact Keeps.ite (fun _ => h) (fun _ => logEvent_keeps (Keeps.put h))
  · with_reducible exact Keeps.ite (fun _ => logEvent_keeps (Keeps.put h)) (fun _ => h)

theorem integrateEnergy_keeps {s0 f dv tau s} (h : Keeps s0 s) : Keeps s0 (integrateEnergy f dv tau s).2 := by
  unfold integrateEnergy
  try dsimp only
  split
  · with_reducible exact energyStop_keeps h
  · try dsimp only
    split
    · with_reducible exact energyStop_keeps (Keeps.ite (fun _ => Keeps.put h) (fun _ => h))
    · try dsimp only
      split
      · with_reducible exact addEnergy_keeps (onlyIf_keeps (fun x6 h7 => extremes_keeps h7) (Keeps.put (energyStop_keeps (Keeps.ite (fun _ => Keeps.put h) (fun _ => h)))))
      · with_reducible exact onlyIf_keeps (fun x5 h6 => extremes_keeps h6) (Keeps.put (energyStop_keeps (Keeps.ite (fun _ => Keeps.put h) (fun _ => h))))

theorem integrateGas_keeps {s0 dv s} (h : Keeps s0 s) : Keeps s0 (integrateGas dv s).2 := by
  unfold integrateGas
  try dsimp only
  split
  · with_reducible exact Keeps.ite (fun _ => Keeps.ite (fun _ => Keeps.put h) (fun _ => Keeps.ite (fun _ => Keeps.put h) (fun _ => Keeps.put h))) (fun _ => logEvent_keeps (Keeps.put (Keeps.ite (fun _ => Keeps.put h) (fun _ => Keeps.ite (fun _ => Keeps.put h) (fun _ => Keeps.put h)))))
  · with_reducible exact Keeps.ite (fun _ => logEvent_keeps (Keeps.put (Keeps.ite (fun _ => Keeps.put h) (fun _ => Keeps.ite (fun _ => Keeps.put h) (fun _ => Keeps.put h))))) (fun _ => Keeps.ite (fun _ => Keeps.put h) (fun _ => Keeps.ite (fun _ => Keeps.put h) (fun _ => Keeps.put h)))

theorem sealFullFor_keeps {s0 c kind a0 a1 s} (h : Keeps s0 s) : Keeps s0 (sealFullFor c kind a0 a1 s) := by
  unfold sealFullFor
  extract_lets +onlyGivenNames s1 s2 s3
  have h3 : Keeps s0 s3 := Keeps.put h
  clear_value s3
  with_reducible exact addJob_keeps h3

theorem sealFull_keeps {s0 kind a0 a1 s} (h : Keeps s0 s) : Keeps s0 (sealFull kind a0 a1 s) := by
  unfold sealFull
  with_reducible exact sealFullFor_keeps h

theorem minuteMaxima_keeps {s0 m s} (h : Keeps s0 s) : Keeps s0 (minuteMaxima m s) := by
  unfold minuteMaxima
  extract_lets +onlyGivenNames s1
  with_reducible exact Keeps.ite (fun _ => h) (fun _ => (by
    extract_lets +onlyGivenNames s4 s5 s6 s7 s8 s9
    have h9 : Keeps s0 s9 := Keeps.ite (fun _ => Keeps.put h) (fun _ => h)
    clear_value s9
    with_reducible exact Keeps.ite (fun _ => Keeps.put h9) (fun _ => h9)))

theorem sealMinute.sealCut_keeps {s0 m s} (h : Keeps s0 s) : Keeps s0 (sealMinute.sealCut m s) := by
  unfold sealMinute.sealCut
  extract_lets +onlyGivenNames s2 s3 s4 s5
  have h5 : Keeps s0 s5 := minuteMaxima_keeps h
  clear_value s5
  with_reducible exact onlyIf_keeps (fun x6 h7 => sealFull_keeps h7) (addJob_keeps (Keeps.put h5))

theorem sealMinute_keeps {s0 m s} (h : Keeps s0 s) : Keeps s0 (sealMinute m s) := by
  unfold sealMinute
  with_reducible exact onlyIf_keeps (fun x2 h3 => sealFull_keeps h3) (sealMinute.sealCut_keeps h)

theorem sealMinutes_keeps {s0 a a1 a2} (h : Keeps s0 a2) : Keeps s0 (sealMinutes a a1 a2) := by
  induction a generalizing a1 a2 with
  | zero => exact h
  | succ n ih => exact ih (sealMinute_keeps h)

theorem sealUpTo_keeps {s0 upTo s} (h : Keeps s0 s) : Keeps s0 (sealUpTo upTo s) := by
  unfold sealUpTo
  split
  · with_reducible exact Keeps.put h
  · with_reducible exact sealMinutes_keeps h

theorem timeStepped_keeps {s0 was d s} (h : Keeps s0 s) : Keeps s0 (timeStepped was d s) := by
  unfold timeStepped
  with_reducible exact Keeps.ite (fun _ => h) (fun _ => (by
    extract_lets +onlyGivenNames s2
    have h2 : Keeps s0 s2 := sealUpTo_keeps h
    clear_value s2
    extract_lets +onlyGivenNames s3
    have h3 : Keeps s0 s3 := sealMinute.sealCut_keeps h2
    clear_value s3
    extract_lets +onlyGivenNames s4
    have h4 : Keeps s0 s4 := sealFull_keeps h3
    clear_value s4
    with_reducible exact Keeps.put h4))

theorem queuePulses_keeps {s0 o n s} (h : Keeps s0 s) : Keeps s0 (queuePulses o n s) := by
  unfold queuePulses
  with_reducible exact Keeps.ite (fun _ => onlyIf_keeps (fun x4 h5 => logEvent_keeps h5) (Keeps.put h)) (fun _ => onlyIf_keeps (fun x4 h5 => logEvent_keeps h5) (Keeps.put h))

theorem postCopy_keeps {s0 s} (h : Keeps s0 s) : Keeps s0 (postCopy s) := by
  unfold postCopy
  with_reducible exact fillXb_keeps (Keeps.put h)

theorem postAndPulse_keeps {s0 s} (h : Keeps s0 s) : Keeps s0 (postAndPulse s) := by
  unfold postAndPulse
  extract_lets +onlyGivenNames s1 s2
  have h2 : Keeps s0 s2 := postCopy_keeps h
  clear_value s2
  with_reducible exact queuePulses_keeps (queuePulses_keeps h2)

theorem writeShadow_keeps {s0 s} (h : Keeps s0 s) : Keeps s0 (writeShadow s) := by
  unfold writeShadow
  extract_lets +onlyGivenNames s2 s3
  split
  · with_reducible exact Keeps.put h
  · with_reducible exact Keeps.put h
  · with_reducible exact Keeps.ite (fun _ => Keeps.put h) (fun _ => Keeps.put h)

theorem countRecord_keeps {s0 s x} (h : Keeps s0 s) : Keeps s0 (countRecord s x) := by
  unfold countRecord
  extract_lets +onlyGivenNames s1
  with_reducible exact logPlain_keeps (Keeps.put h)

theorem countFirst_keeps {s0 s} (h : Keeps s0 s) : Keeps s0 (countFirst s) := by
  unfold countFirst
  with_reducible exact logPlain_keeps (Keeps.put h)

theorem logOtherChange_keeps {s0 c s} (h : Keeps s0 s) : Keeps s0 (logOtherChange c s) := by
  unfold logOtherChange
  with_reducible exact Keeps.ite (fun _ => h) (fun _ => logPlain_keeps h)

theorem acceptCopy_keeps {s0 c s} (h : Keeps s0 s) : Keeps s0 (acceptCopy c s) := by
  unfold acceptCopy
  with_reducible exact Keeps.put h

theorem countSwitch_keeps {s0 s} (h : Keeps s0 s) : Keeps s0 (countSwitch s) := by
  unfold countSwitch
  split
  · extract_lets +onlyGivenNames s2
    have h2 : Keeps s0 s2 := Keeps.foldl (fun x3 x5 h4 => countRecord_keeps h4) h
    clear_value s2
    with_reducible exact writeShadow_keeps (acceptCopy_keeps (onlyIf_keeps (fun x6 h7 => logOtherChange_keeps h7) h2))
  · with_reducible exact h

theorem addVolume_keeps {s0 dv s} (h : Keeps s0 s) : Keeps s0 (addVolume dv s) := by
  unfold addVolume
  with_reducible exact Keeps.ite (fun _ => Keeps.ite (fun _ => Keeps.put (Keeps.put h)) (fun _ => Keeps.put (Keeps.put h))) (fun _ => Keeps.ite (fun _ => Keeps.put (Keeps.put h)) (fun _ => Keeps.put (Keeps.put h)))

theorem addTimes_keeps {s0 tau excess lost etemp egas s} (h : Keeps s0 s) : Keeps s0 (addTimes tau excess lost etemp egas s) := by
  unfold addTimes
  extract_lets +onlyGivenNames s1
  with_reducible exact Keeps.put (secsOf_keeps (secsOf_keeps (secsOf_keeps (secsOf_keeps (secsOf_keeps (secsOf_keeps h))))))

theorem countOk_keeps {s0 s} (h : Keeps s0 s) : Keeps s0 (countOk s) := by
  unfold countOk
  split
  · with_reducible exact Keeps.put h
  · with_reducible exact h

theorem countScheduled_keeps {s0 s} (h : Keeps s0 s) : Keeps s0 (countScheduled s) := by
  unfold countScheduled
  split
  · with_reducible exact Keeps.put h
  · with_reducible exact h

theorem integrateResult_keeps {s0 f s} (h : Keeps s0 s) : Keeps s0 (integrateResult f s) := by
  unfold integrateResult
  extract_lets +onlyGivenNames s1
  have h1 : Keeps s0 s1 := sealUpTo_keeps h
  clear_value s1
  with_reducible exact postAndPulse_keeps (writeShadow_keeps (onlyIf_keeps (fun x5 h6 => countOk_keeps h6) (Keeps.put (addTimes_keeps (by
    try dsimp only
    split
    · try dsimp only
      split
      · try dsimp only
        split
        · with_reducible exact integrateGas_keeps (integrateEnergy_keeps (addVolume_keeps (Keeps.put h1)))
        · with_reducible exact integrateEnergy_keeps (addVolume_keeps (Keeps.put h1))
      · try dsimp only
        split
        · with_reducible exact integrateGas_keeps (addVolume_keeps (Keeps.put h1))
        · with_reducible exact addVolume_keeps (Keeps.put h1)
    · try dsimp only
      split
      · try dsimp only
        split
        · with_reducible exact integrateGas_keeps (integrateEnergy_keeps (addVolume_keeps (Keeps.put h1)))
        · with_reducible exact integrateEnergy_keeps (addVolume_keeps (Keeps.put h1))
      · try dsimp only
        split
        · with_reducible exact integrateGas_keeps (addVolume_keeps (Keeps.put h1))
        · with_reducible exact addVolume_keeps (Keeps.put h1))))))

theorem integrateSlot_keeps {s0 s} (h : Keeps s0 s) : Keeps s0 (integrateSlot s) := by
  unfold integrateSlot
  split
  · with_reducible exact h
  · extract_lets +onlyGivenNames s2 s3 s4
    have h4 : Keeps s0 s4 := Keeps.put h
    extract_lets +onlyGivenNames s5
    with_reducible exact Keeps.ite (fun _ => h4) (fun _ => (by
      extract_lets +onlyGivenNames s8 s9 s10
      have h10 : Keeps s0 s10 := Keeps.ite (fun _ => h4) (fun _ => logEvent_keeps (Keeps.put h4))
      clear_value s10
      with_reducible exact integrateResult_keeps h10))

theorem loadLegal_keeps {s0 l s} (h : Keeps s0 s) : Keeps s0 (loadLegal l s) := by
  unfold loadLegal
  with_reducible exact Keeps.put h

theorem restoreRegistrar_keeps {s0 s t} (e : (restoreRegistrar s) = some t) (h : Keeps s0 s) : Keeps s0 t := by
  revert e
  unfold restoreRegistrar
  extract_lets +onlyGivenNames sealOk
  generalize hs : ({ s with r.sys.restsrcSealok := sealOk
                            r.sys.restsrcShok := BitVec.ofNat 2 ((if shadowKept s.rg.sh1 s then 1 else 0)
                              + (if shadowKept s.rg.sh2 s then 2 else 0)) } : State) = s1
  have h1 : Keeps s0 s1 := hs ▸ Keeps.put h
  clear hs
  dsimp only
  split
  · exact fun e => nomatch e
  · split
    · intro e
      rw [← Option.some.inj e]
      with_reducible exact postCopy_keeps (Keeps.put (loadLegal_keeps h1))
    · intro e
      rw [← Option.some.inj e]
      with_reducible exact postCopy_keeps (sealFull_keeps (logEvent_keeps (Keeps.put (Keeps.put (loadLegal_keeps h1)))))

/-! ## LinkOps -/

theorem offerTime_keeps {s0 src ts us s} (h : Keeps s0 s) : Keeps s0 (offerTime src ts us s).2 := by
  unfold offerTime
  try dsimp only
  split
  · with_reducible exact h
  · try dsimp only
    split
    · with_reducible exact Keeps.put h
    · with_reducible exact timeStepped_keeps (logEvent_keeps (Keeps.put h))

theorem setMark_keeps {s0 f s} (h : Keeps s0 s) : Keeps s0 (setMark f s) := by
  unfold setMark
  extract_lets +onlyGivenNames s1 s2 s3
  with_reducible exact Keeps.put h

theorem micFailure_keeps {s0 src s} (h : Keeps s0 s) : Keeps s0 (micFailure src s) := by
  unfold micFailure
  extract_lets +onlyGivenNames s1 s2 s3 s4 s5 s6
  have h6 : Keeps s0 s6 := Keeps.put h
  clear_value s6
  extract_lets +onlyGivenNames s7
  with_reducible exact Keeps.ite (fun _ => logEvent_keeps (Keeps.put h6)) (fun _ => h6)

theorem receive_keeps {s0 x s} (h : Keeps s0 s) : Keeps s0 (receive x s).2 := by
  unfold receive
  try dsimp only
  split
  · with_reducible exact Keeps.put h
  · try dsimp only
    split
    · with_reducible exact Keeps.put h
    · try dsimp only
      split
      · with_reducible exact Keeps.put h
      · try dsimp only
        split
        · with_reducible exact Keeps.put h
        · try dsimp only
          split
          · with_reducible exact Keeps.put h
          · try dsimp only
            split
            · with_reducible exact micFailure_keeps (Keeps.put h)
            · try dsimp only
              split
              · try dsimp only
                split
                · try dsimp only
                  split
                  · with_reducible exact Keeps.put h
                  · with_reducible exact Keeps.put h
                · with_reducible exact setMark_keeps (Keeps.put h)
              · with_reducible exact setMark_keeps (Keeps.put h)

theorem secureFrame_keeps {s0 typ ackreq more k dst body s} (h : Keeps s0 s) : Keeps s0 (secureFrame typ ackreq more k dst body s).2.2 := by
  unfold secureFrame
  with_reducible exact takeCtr_keeps h

theorem contact_keeps {s0 s} (h : Keeps s0 s) : Keeps s0 (contact s) := by
  unfold contact
  with_reducible exact Keeps.put h

theorem receiverOn_keeps {s0 t s} (h : Keeps s0 s) : Keeps s0 (receiverOn t s) := by
  unfold receiverOn
  with_reducible exact tuneTo_keeps (domOn_keeps (Keeps.put h))

theorem receiverOffAt_keeps {s0 at_ s} (h : Keeps s0 s) : Keeps s0 (receiverOffAt at_ s) := by
  unfold receiverOffAt
  split
  · with_reducible exact Keeps.put h
  · with_reducible exact h

theorem receiverOff_keeps {s0 s} (h : Keeps s0 s) : Keeps s0 (receiverOff s) := by
  unfold receiverOff
  with_reducible exact receiverOffAt_keeps h

theorem askWindow_keeps {s0 u start len s} (h : Keeps s0 s) : Keeps s0 (askWindow u start len s) := by
  unfold askWindow
  with_reducible exact postSeat_keeps h

theorem relabel_keeps {s0 u s} (h : Keeps s0 s) : Keeps s0 (relabel u s) := by
  unfold relabel
  with_reducible exact Keeps.put h

theorem openWindow_keeps {s0 u len t s} (h : Keeps s0 s) : Keeps s0 (openWindow u len t s) := by
  unfold openWindow
  with_reducible exact Keeps.ite (fun _ => dropRequest_keeps h) (fun _ => Keeps.ite (fun _ => (by
    extract_lets +onlyGivenNames s2
    have h2 : Keeps s0 s2 := relabel_keeps h
    clear_value s2
    with_reducible exact Keeps.ite (fun _ => Keeps.put h2) (fun _ => receiverOn_keeps h2))) (fun _ => Keeps.ite (fun _ => dropLate_keeps h) (fun _ => evaluate_keeps (askWindow_keeps h))))

theorem closeWindow_keeps {s0 s} (h : Keeps s0 s) : Keeps s0 (closeWindow s) := by
  unfold closeWindow
  with_reducible exact releaseSeat_keeps (receiverOff_keeps (Keeps.put h))

theorem closeTransmit_keeps {s0 u s} (h : Keeps s0 s) : Keeps s0 (closeTransmit u s) := by
  unfold closeTransmit
  extract_lets +onlyGivenNames s2 s3
  have h3 : Keeps s0 s3 := Keeps.put h
  clear_value s3
  with_reducible exact Keeps.ite (fun _ => releaseSeat_keeps h3) (fun _ => h3)

theorem endExchange_keeps {s0 s} (h : Keeps s0 s) : Keeps s0 (endExchange s) := by
  unfold endExchange
  with_reducible exact closeTransmit_keeps (closeTransmit_keeps (closeWindow_keeps (Keeps.put h)))

theorem sendBase_keeps {s0 u p deadline notBefore s} (h : Keeps s0 s) : Keeps s0 (sendBase u p deadline notBefore s) := by
  unfold sendBase
  with_reducible exact queueTx_keeps h

theorem startExchange_keeps {s0 kind p ctr b slot delay s} (h : Keeps s0 s) : Keeps s0 (startExchange kind p ctr b slot delay s) := by
  unfold startExchange
  extract_lets +onlyGivenNames s2 s3 s4 s5 s6 s7
  have h7 : ∀ t, Keeps s0 t → Keeps s0 (s7 t) := fun t ht => postSeat_keeps (postSeat_keeps ht)
  exact onlyIf_keeps (fun _ k => requestsTogether_keeps h7 k) (sendBase_keeps (Keeps.put h))

theorem drawK_keeps {s0 s} (h : Keeps s0 s) : Keeps s0 (drawK s).2 := by
  unfold drawK
  exact draw_keeps h

theorem csMap_keeps {s0 f s} (h : Keeps s0 s) : Keeps s0 (csMap f s) := by
  unfold csMap
  with_reducible exact Keeps.put h

theorem csAdd_keeps {s0 e s} (h : Keeps s0 s) : Keeps s0 (csAdd e s) := by
  unfold csAdd
  with_reducible exact addJob_keeps (Keeps.put h)

theorem csStore_keeps {s0 kind src ctr payload s} (h : Keeps s0 s) : Keeps s0 (csStore kind src ctr payload s) := by
  unfold csStore
  with_reducible exact csAdd_keeps (Keeps.put h)

theorem csOwn_keeps {s0 kind payload s} (h : Keeps s0 s) : Keeps s0 (csOwn kind payload s) := by
  unfold csOwn
  split
  · rename_i y2_0 y2_1 y2_2 y2_3
    with_reducible exact csStore_keeps ((Keeps.of_pair1 y2_3 (by
      split
      · with_reducible exact takeCtr_keeps h
      · with_reducible exact h)))

theorem saveLink_keeps {s0 s} (h : Keeps s0 s) : Keeps s0 (saveLink s) := by
  unfold saveLink
  with_reducible exact writeObject_keeps (Keeps.put h)

theorem becomeParent_keeps {s0 cause s} (h : Keeps s0 s) : Keeps s0 (becomeParent cause s) := by
  unfold becomeParent
  extract_lets +onlyGivenNames s1
  with_reducible exact saveLink_keeps (logEvent_keeps (Keeps.put h))

theorem beginSearch_keeps {s0 s} (h : Keeps s0 s) : Keeps s0 (beginSearch s) := by
  unfold beginSearch
  extract_lets +onlyGivenNames s2 s3 s4 s5 s6
  with_reducible exact Keeps.put h

theorem becomeEndpoint_keeps {s0 search s} (h : Keeps s0 s) : Keeps s0 (becomeEndpoint search s) := by
  unfold becomeEndpoint
  with_reducible exact saveLink_keeps (onlyIf_keeps (fun x3 h4 => beginSearch_keeps h4) (Keeps.put h))

theorem resumeTracking_keeps {s0 o s} (h : Keeps s0 s) : Keeps s0 (resumeTracking o s) := by
  unfold resumeTracking
  extract_lets +onlyGivenNames s2 s3 s4 s5 s6
  with_reducible exact Keeps.put h

theorem startRole_keeps {s0 s} (h : Keeps s0 s) : Keeps s0 (startRole s) := by
  unfold startRole
  extract_lets +onlyGivenNames s2 s3 s4 s5 s6 s7
  have h7 : Keeps s0 s7 := closeWindow_keeps (loadKeys_keeps (Keeps.put h))
  clear_value s7
  split
  · with_reducible exact saveLink_keeps (Keeps.put h7)
  · with_reducible exact saveLink_keeps (Keeps.put h7)
  · with_reducible exact saveLink_keeps (Keeps.put h7)
  · with_reducible exact Keeps.ite (fun _ => (by
      extract_lets +onlyGivenNames s8 s9
      have h9 : Keeps s0 s9 := resumeTracking_keeps (Keeps.put h7)
      clear_value s9
      with_reducible exact Keeps.ite (fun _ => Keeps.put h9) (fun _ => beginSearch_keeps h9))) (fun _ => beginSearch_keeps (Keeps.put h7))

theorem applyCfg_keeps {s0 s} (h : Keeps s0 s) : Keeps s0 (applyCfg s) := by
  unfold applyCfg
  split
  · with_reducible exact loadKeys_keeps (Keeps.put h)
  · with_reducible exact h

theorem dissolve_keeps {s0 s} (h : Keeps s0 s) : Keeps s0 (dissolve s) := by
  unfold dissolve
  split
  · with_reducible exact startRole_keeps (applyCfg_keeps h)
  · with_reducible exact saveLink_keeps (beginSearch_keeps (Keeps.put h))

theorem forceHandover_keeps {s0 s} (h : Keeps s0 s) : Keeps s0 (forceHandover s) := by
  unfold forceHandover
  with_reducible exact Keeps.ite (fun _ => h) (fun _ => (by
    split
    · with_reducible exact dissolve_keeps h
    · extract_lets +onlyGivenNames s4
      with_reducible exact Keeps.put h))

theorem markReported_keeps {s0 code s} (h : Keeps s0 s) : Keeps s0 (markReported code s) := by
  unfold markReported
  with_reducible exact Keeps.put h

theorem reportAlarms_keeps {s0 s} (h : Keeps s0 s) : Keeps s0 (reportAlarms s) := by
  unfold reportAlarms
  with_reducible exact Keeps.ite (fun _ => h) (fun _ => (by
    extract_lets +onlyGivenNames s2 s3
    split
    · with_reducible exact Keeps.foldl (fun x4 x6 h5 => markReported_keeps (csOwn_keeps h5)) (Keeps.put h)
    · with_reducible exact Keeps.put h
    · with_reducible exact Keeps.put h
    · with_reducible exact Keeps.ite (fun _ => Keeps.foldl (fun x7 x9 h8 => (by
        split
        · rename_i y10_0 y10_1 y10_2 y10_3
          with_reducible exact markReported_keeps (queueTx_keeps ((Keeps.of_pair1 y10_3 (telegram_keeps h8)))))) (Keeps.put h)) (fun _ => h)))

/-! ## Windows -/

theorem askBeacon_keeps {s0 s} (h : Keeps s0 s) : Keeps s0 (askBeacon s) := by
  unfold askBeacon
  split
  · with_reducible exact h
  · with_reducible exact Keeps.ite (fun _ => h) (fun _ => askWindow_keeps (Keeps.put h))

theorem endSlot_keeps {s0 x s} (h : Keeps s0 s) : Keeps s0 (endSlot x s) := by
  unfold endSlot
  with_reducible exact closeTransmit_keeps (closeWindow_keeps (receiverOffAt_keeps (Keeps.put h)))

theorem endServedSlot_keeps {s0 s} (h : Keeps s0 s) : Keeps s0 (endServedSlot s) := by
  unfold endServedSlot
  split
  · with_reducible exact endSlot_keeps h
  · with_reducible exact h

theorem askSlot_keeps {s0 x s} (h : Keeps s0 s) : Keeps s0 (askSlot x s) := by
  unfold askSlot
  with_reducible exact postSeat_keeps (askWindow_keeps (Keeps.put h))

theorem skipSlot_keeps {s0 s} (h : Keeps s0 s) : Keeps s0 (skipSlot s) := by
  unfold skipSlot
  split
  · with_reducible exact closeTransmit_keeps (closeWindow_keeps (Keeps.put h))
  · with_reducible exact h

theorem serveSlots_keeps {s0 s} (h : Keeps s0 s) : Keeps s0 (serveSlots s) := by
  unfold serveSlots
  with_reducible exact Keeps.ite (fun _ => h) (fun _ => (by
    extract_lets +onlyGivenNames s2
    have h2 : Keeps s0 s2 := (by
      unfold s2
      split
      · extract_lets +onlyGivenNames s3
        with_reducible exact Keeps.ite (fun _ => endSlot_keeps h) (fun _ => h)
      · with_reducible exact h)
    clear_value s2
    split
    · with_reducible exact Keeps.ite (fun _ => askSlot_keeps h2) (fun _ => h2)
    · with_reducible exact h2))

theorem slotReceive_keeps {s0 s} (h : Keeps s0 s) : Keeps s0 (slotReceive s) := by
  unfold slotReceive
  split
  · with_reducible exact h
  · with_reducible exact Keeps.ite (fun _ => h) (fun _ => Keeps.ite (fun _ => skipSlot_keeps h) (fun _ => (by
      extract_lets +onlyGivenNames s2 s3
      have h3 : Keeps s0 s3 := receiverOn_keeps h
      clear_value s3
      with_reducible exact Keeps.put h3)))

theorem renewSeat_keeps {s0 u s} (h : Keeps s0 s) : Keeps s0 (renewSeat u s) := by
  unfold renewSeat
  extract_lets +onlyGivenNames s2
  with_reducible exact Keeps.ite (fun _ => releaseSeat_keeps (receiverOff_keeps h)) (fun _ => h)

theorem standingReceive_keeps {s0 s} (h : Keeps s0 s) : Keeps s0 (standingReceive s) := by
  unfold standingReceive
  split
  · with_reducible exact Keeps.ite (fun _ => closeWindow_keeps h) (fun _ => h)
  · with_reducible exact Keeps.ite (fun _ => h) (fun _ => Keeps.ite (fun _ => Keeps.ite (fun _ => closeWindow_keeps h) (fun _ => h)) (fun _ => (by
      extract_lets +onlyGivenNames s2
      have h2 : Keeps s0 s2 := renewSeat_keeps h
      clear_value s2
      with_reducible exact Keeps.ite (fun _ => h2) (fun _ => (by
        extract_lets +onlyGivenNames s3
        have h3 : Keeps s0 s3 := requestSeat_keeps h2
        clear_value s3
        with_reducible exact Keeps.ite (fun _ => receiverOn_keeps h3) (fun _ => h3))))))

theorem pumpRx_keeps {s0 s} (h : Keeps s0 s) : Keeps s0 (pumpRx s) := by
  unfold pumpRx
  split
  · with_reducible exact Keeps.ite (fun _ => h) (fun _ => Keeps.ite (fun _ => receiverOn_keeps h) (fun _ => Keeps.put h))
  · with_reducible exact h

theorem followReceiver_keeps {s0 s} (h : Keeps s0 s) : Keeps s0 (followReceiver s) := by
  unfold followReceiver
  with_reducible exact Keeps.ite (fun _ => standingReceive_keeps (slotReceive_keeps (pumpRx_keeps h))) (fun _ => h)

theorem askWindows_keeps {s0 s} (h : Keeps s0 s) : Keeps s0 (askWindows s) := by
  unfold askWindows
  with_reducible exact Keeps.ite (fun _ => serveSlots_keeps (askBeacon_keeps h)) (fun _ => h)

/-! ## Engine -/

theorem switchEdge_keeps {s0 n level s} (h : Keeps s0 s) : Keeps s0 (switchEdge n level s).2 := by
  unfold switchEdge
  dsimp only
  split
  · exact h
  · exact updCh_keeps h

theorem endRun_keeps {s0 n s} (h : Keeps s0 s) : Keeps s0 (endRun n s) := by
  unfold endRun
  extract_lets +onlyGivenNames s1 s2
  have h2 : Keeps s0 s2 := updCh_keeps h
  clear_value s2
  split
  · with_reducible exact h2
  · extract_lets +onlyGivenNames s4 s5
    with_reducible exact Keeps.ite (fun _ => updCh_keeps h2) (fun _ => updCh_keeps h2)

theorem acceptStop_keeps {s0 n x sat rising s} (h : Keeps s0 s) : Keeps s0 (acceptStop n x sat rising s) := by
  unfold acceptStop
  extract_lets +onlyGivenNames s1 s2 s3 s4
  have h4 : Keeps s0 s4 := updCh_keeps h
  clear_value s4
  with_reducible exact Keeps.ite (fun _ => endRun_keeps h4) (fun _ => h4)

theorem takeStop_keeps {s0 n x sat rising s} (h : Keeps s0 s) : Keeps s0 (takeStop n x sat rising s) := by
  unfold takeStop
  split
  · with_reducible exact Keeps.ite (fun _ => h) (fun _ => Keeps.ite (fun _ => updCh_keeps h) (fun _ => acceptStop_keeps h))
  · with_reducible exact acceptStop_keeps h

theorem runningStop_keeps {s0 n count f rising s} (h : Keeps s0 s) : Keeps s0 (runningStop n count f rising s) := by
  unfold runningStop
  extract_lets +onlyGivenNames s2 s3
  with_reducible exact Keeps.ite (fun _ => h) (fun _ => Keeps.ite (fun _ => endRun_keeps h) (fun _ => (by
    split
    · with_reducible exact h
    · with_reducible exact takeStop_keeps h)))

theorem channelPasses_keeps {s0 n s} (h : Keeps s0 s) : Keeps s0 (channelPasses n s) := by
  unfold channelPasses
  extract_lets +onlyGivenNames s1
  with_reducible exact onlyIf_keeps (fun x3 h4 => logEvent_keeps h4) (updCh_keeps h)

theorem channelFails_keeps {s0 n code s} (h : Keeps s0 s) : Keeps s0 (channelFails n code s) := by
  unfold channelFails
  extract_lets +onlyGivenNames s1
  with_reducible exact updCh_keeps h

theorem reroute_keeps {s0 s} (h : Keeps s0 s) : Keeps s0 (reroute s) := by
  unfold reroute
  extract_lets +onlyGivenNames s1
  have h1 : Keeps s0 s1 := Keeps.foldl (fun x3 x4 h5 => setTexp_keeps h5) h
  clear_value s1
  extract_lets +onlyGivenNames s2
  with_reducible exact Keeps.ite (fun _ => logEvent_keeps (Keeps.put h1)) (fun _ => h1)

theorem judgeChannels_keeps {s0 codes s} (h : Keeps s0 s) : Keeps s0 (judgeChannels codes s) := by
  unfold judgeChannels
  with_reducible exact Keeps.foldl (fun x2 x3 h4 => Keeps.ite (fun _ => channelPasses_keeps h4) (fun _ => channelFails_keeps h4)) h

theorem reportFailures_keeps {s0 codes s} (h : Keeps s0 s) : Keeps s0 (reportFailures codes s) := by
  unfold reportFailures
  extract_lets +onlyGivenNames s1 s2
  have h2 : Keeps s0 s2 := Keeps.foldl (fun x4 x5 h6 => (by
    extract_lets +onlyGivenNames s7
    with_reducible exact onlyIf_keeps (fun x9 h10 => logEvent_keeps h10) h6)) h
  clear_value s2
  extract_lets +onlyGivenNames s3
  have h3 : Keeps s0 s3 := Keeps.foldl (fun x5 x6 h7 => onlyIf_keeps (fun x9 h10 => logEvent_keeps h10) h7) h2
  clear_value s3
  with_reducible exact Keeps.foldl (fun x5 x6 h7 => logEvent_keeps (updCh_keeps h7)) h3

theorem countCal_keeps {s0 codes s} (h : Keeps s0 s) : Keeps s0 (countCal codes s) := by
  unfold countCal
  with_reducible exact Keeps.ite (fun _ => writeObject_keeps (Keeps.put h)) (fun _ => Keeps.put h)

theorem planRetry_keeps {s0 codes s} (h : Keeps s0 s) : Keeps s0 (planRetry codes s) := by
  unfold planRetry
  with_reducible exact Keeps.ite (fun _ => Keeps.put h) (fun _ => Keeps.put h)

theorem endCal_keeps {s0 codes s} (h : Keeps s0 s) : Keeps s0 (endCal codes s) := by
  unfold endCal
  with_reducible exact releaseSeat_keeps (reroute_keeps (planRetry_keeps (countCal_keeps (reportFailures_keeps (judgeChannels_keeps (Keeps.put h))))))

theorem interruptBlock_keeps {s0 s} (h : Keeps s0 s) : Keeps s0 (interruptBlock s) := by
  unfold interruptBlock
  with_reducible exact Keeps.ite (fun _ => h) (fun _ => (by
    extract_lets +onlyGivenNames s2 s3 s4 s5
    have h5 : Keeps s0 s5 := Keeps.put h
    with_reducible exact Keeps.ite (fun _ => endCal_keeps h5) (fun _ => h5)))

theorem resumeBlock_keeps {s0 s} (h : Keeps s0 s) : Keeps s0 (resumeBlock s) := by
  unfold resumeBlock
  with_reducible exact Keeps.ite (fun _ => Keeps.put h) (fun _ => h)

theorem configureRun_keeps {s0 n cfg s} (h : Keeps s0 s) : Keeps s0 (configureRun n cfg s) := by
  unfold configureRun
  with_reducible exact Keeps.ite (fun _ => armChannel_keeps (interruptBlock_keeps h)) (fun _ => armChannel_keeps h)

theorem startChannel_keeps {s0 n startF s} (h : Keeps s0 s) : Keeps s0 (startChannel n startF s) := by
  unfold startChannel
  split
  · with_reducible exact updCh_keeps h
  · with_reducible exact updCh_keeps h
  · with_reducible exact h

theorem endShots_keeps {s0 s} (h : Keeps s0 s) : Keeps s0 (endShots s) := by
  unfold endShots
  with_reducible exact endStep_keeps (onlyIf_keeps (fun x2 h3 => domOff_keeps h3) (domOff_keeps (runNormal_keeps (Keeps.put h))))

theorem endTemperature_keeps {s0 s} (h : Keeps s0 s) : Keeps s0 (endTemperature s) := by
  unfold endTemperature
  with_reducible exact endStep_keeps (onlyIf_keeps (fun x2 h3 => domOff_keeps h3) (domOff_keeps (disarm_keeps h)))

/-! ## Settle -/

theorem closeSession_keeps {s0 cause s} (h : Keeps s0 s) : Keeps s0 (closeSession cause s) := by
  unfold closeSession
  split
  · with_reducible exact h
  · with_reducible exact logEvent_keeps (closeWindow_keeps (Keeps.put h))

theorem withdrawBeacon_keeps {s0 cause s} (h : Keeps s0 s) : Keeps s0 (withdrawBeacon cause s) := by
  unfold withdrawBeacon
  extract_lets +onlyGivenNames s1 s2 s3 s4
  have h4 : Keeps s0 s4 := Keeps.put h
  clear_value s4
  with_reducible exact Keeps.ite (fun _ => h4) (fun _ => logEvent_keeps (Keeps.put h4))

theorem uploadFailed_keeps {s0 s} (h : Keeps s0 s) : Keeps s0 (uploadFailed s) := by
  unfold uploadFailed
  with_reducible exact Keeps.put h

theorem restartLink_keeps {s0 s} (h : Keeps s0 s) : Keeps s0 (restartLink s) := by
  unfold restartLink
  with_reducible exact Keeps.ite (fun _ => startRole_keeps (Keeps.put h)) (fun _ => h)

theorem txDropped_keeps {s0 f s} (h : Keeps s0 s) : Keeps s0 (txDropped f s) := by
  unfold txDropped
  extract_lets +onlyGivenNames s2 s3
  have h3 : Keeps s0 s3 := Keeps.put h
  clear_value s3
  split
  · with_reducible exact closeWindow_keeps (withdrawBeacon_keeps h3)
  · with_reducible exact endExchange_keeps (uploadFailed_keeps h3)
  · with_reducible exact endExchange_keeps h3
  · with_reducible exact closeWindow_keeps h3
  · with_reducible exact closeWindow_keeps h3
  · with_reducible exact closeWindow_keeps h3
  · with_reducible exact closeSession_keeps h3
  · with_reducible exact closeSession_keeps h3
  · with_reducible exact restartLink_keeps (holdAlarm_keeps h3)
  · with_reducible exact h3

theorem heedDrop_keeps {s0 s w} (h : Keeps s0 s) : Keeps s0 (heedDrop s w) := by
  unfold heedDrop
  split
  · split
    · with_reducible exact txDropped_keeps h
    · with_reducible exact Keeps.ite (fun _ => skipSlot_keeps h) (fun _ => h)
  · split
    · with_reducible exact endExchange_keeps (Keeps.ite (fun _ => h) (fun _ => uploadFailed_keeps h))
    · with_reducible exact h
  · with_reducible exact closeSession_keeps h
  · extract_lets +onlyGivenNames s2 s3 s4
    have h4 : Keeps s0 s4 := Keeps.put h
    clear_value s4
    split
    · with_reducible exact closeTransmit_keeps (txDropped_keeps h4)
    · with_reducible exact h4
  · extract_lets +onlyGivenNames s5 s6 s7
    have h7 : Keeps s0 s7 := Keeps.put h
    clear_value s7
    split
    · with_reducible exact closeTransmit_keeps (txDropped_keeps h7)
    · with_reducible exact h7
  · with_reducible exact skipSlot_keeps h
  · with_reducible exact h

theorem heedDrops_keeps {s0 s} (h : Keeps s0 s) : Keeps s0 (heedDrops s) := by
  unfold heedDrops
  with_reducible exact Keeps.foldl (fun x2 x3 h4 => heedDrop_keeps h4) (Keeps.put h)

theorem heedLate_keeps {s0 s} (h : Keeps s0 s) : Keeps s0 (heedLate s) := by
  unfold heedLate
  with_reducible exact heedDrops_keeps (dropLate_keeps h)

theorem beginHibernate_keeps {s0 s} (h : Keeps s0 s) : Keeps s0 (beginHibernate s) := by
  unfold beginHibernate
  with_reducible exact logEvent_keeps (sealFull_keeps (endServiceAll_keeps h))

theorem beginOff_keeps {s0 s} (h : Keeps s0 s) : Keeps s0 (beginOff s) := by
  unfold beginOff
  with_reducible exact logEvent_keeps (parkStart_keeps (writeLedger_keeps (commitOrSkip_keeps (endServiceAll_keeps h))))

theorem beginEntryTo_keeps {s0 t s} (h : Keeps s0 s) : Keeps s0 (beginEntryTo t s) := by
  unfold beginEntryTo
  split
  · with_reducible exact beginHibernate_keeps h
  · with_reducible exact beginOff_keeps h
  · with_reducible exact h

theorem evaluateRequest_keeps {s0 t s} (h : Keeps s0 s) : Keeps s0 (evaluateRequest t s) := by
  unfold evaluateRequest
  split
  · with_reducible exact beginEntryTo_keeps (Keeps.put h)
  · extract_lets +onlyGivenNames s2 s3 s4 s5
    with_reducible exact Keeps.put h

theorem stateRequest_keeps {s0 t s} (h : Keeps s0 s) : Keeps s0 (stateRequest t s) := by
  unfold stateRequest
  split
  · with_reducible exact Keeps.ite (fun _ => Keeps.put h) (fun _ => Keeps.put h)
  · with_reducible exact Keeps.ite (fun _ => h) (fun _ => evaluateRequest_keeps h)

theorem chooseState_keeps {s0 s} (h : Keeps s0 s) : Keeps s0 (chooseState s) := by
  unfold chooseState
  with_reducible exact Keeps.ite (fun _ => (by
    extract_lets +onlyGivenNames s3 s4
    have h4 : Keeps s0 s4 := Keeps.put h
    clear_value s4
    split
    · extract_lets +onlyGivenNames s6 s7
      have h7 : Keeps s0 s7 := stateRequest_keeps (Keeps.put h4)
      clear_value s7
      with_reducible exact Keeps.ite (fun _ => h7) (fun _ => stateRequest_keeps h7)
    · with_reducible exact stateRequest_keeps h4)) (fun _ => h)

theorem vitrineOff_keeps {s0 s} (h : Keeps s0 s) : Keeps s0 (vitrineOff s) := by
  unfold vitrineOff
  with_reducible exact releaseSeat_keeps (domOff_keeps (disarm_keeps (Keeps.put h)))

theorem switchReference_keeps {s0 s} (h : Keeps s0 s) : Keeps s0 (switchReference s) := by
  unfold switchReference
  split
  · with_reducible exact Keeps.ite (fun _ => h) (fun _ => Keeps.ite (fun _ => Keeps.ite (fun _ => vitrineOff_keeps h) (fun _ => h)) (fun _ => Keeps.ite (fun _ => configureRun_keeps (Keeps.put h)) (fun _ => h)))
  · with_reducible exact h

theorem beginRecord_keeps {s0 i due s} (h : Keeps s0 s) : Keeps s0 (beginRecord i due s) := by
  unfold beginRecord
  with_reducible exact sealFull_keeps (Keeps.put h)

theorem endRecord_keeps {s0 s} (h : Keeps s0 s) : Keeps s0 (endRecord s) := by
  unfold endRecord
  with_reducible exact Keeps.ite (fun _ => Keeps.put h) (fun _ => h)

theorem waitForGate_keeps {s0 i due s} (h : Keeps s0 s) : Keeps s0 (waitForGate i due s) := by
  unfold waitForGate
  with_reducible exact Keeps.ite (fun _ => h) (fun _ => Keeps.put h)

theorem pisteRequest_keeps {s0 s} (h : Keeps s0 s) : Keeps s0 (pisteRequest s) := by
  unfold pisteRequest
  with_reducible exact Keeps.ite (fun _ => h) (fun _ => (by
    split
    · with_reducible exact h
    · with_reducible exact Keeps.ite (fun _ => beginRecord_keeps h) (fun _ => Keeps.ite (fun _ => onlyIf_keeps (fun x2 h3 => waitForGate_keeps h3) h) (fun _ => postSeat_keeps h))))

theorem followDischarge_keeps {s0 s} (h : Keeps s0 s) : Keeps s0 (followDischarge s) := by
  unfold followDischarge
  with_reducible exact Keeps.ite (fun _ => h) (fun _ => (by
    extract_lets +onlyGivenNames s2 s3
    split
    · with_reducible exact Keeps.put h
    · with_reducible exact Keeps.put h
    · with_reducible exact h))

theorem armMeasure_keeps {s0 s} (h : Keeps s0 s) : Keeps s0 (armMeasure s) := by
  unfold armMeasure
  with_reducible exact Keeps.ite (fun _ => h) (fun _ => Keeps.ite (fun _ => (by
    split
    · with_reducible exact waitForGate_keeps h
    · with_reducible exact h)) (fun _ => configureRun_keeps h))

theorem restCals_keeps {s0 s} (h : Keeps s0 s) : Keeps s0 (restCals s) := by
  unfold restCals
  with_reducible exact Keeps.put h

theorem abandonRuns_keeps {s0 s} (h : Keeps s0 s) : Keeps s0 (abandonRuns s) := by
  unfold abandonRuns
  split
  · split
    · with_reducible exact endTemperature_keeps h
    · with_reducible exact endShots_keeps h
  · with_reducible exact h

theorem restTdc_keeps {s0 s} (h : Keeps s0 s) : Keeps s0 (restTdc s) := by
  unfold restTdc
  with_reducible exact Keeps.ite (fun _ => h) (fun _ => (by
    extract_lets +onlyGivenNames s2
    have h2 : Keeps s0 s2 := Keeps.foldl (fun x3 x5 h4 => disarm_keeps h4) h
    clear_value s2
    with_reducible exact Keeps.ite (fun _ => h2) (fun _ => tdcDown_keeps h2)))

theorem keepAlarmFrame_keeps {s0 s} (h : Keeps s0 s) : Keeps s0 (keepAlarmFrame s) := by
  unfold keepAlarmFrame
  with_reducible exact Keeps.ite (fun _ => h) (fun _ => (by
    split
    · with_reducible exact buildAlarmFrame_keeps h
    · with_reducible exact Keeps.ite (fun _ => buildAlarmFrame_keeps h) (fun _ => h)))

theorem renderService_keeps {s0 s} (h : Keeps s0 s) : Keeps s0 (renderService s) := by
  unfold renderService
  with_reducible exact Keeps.ite (fun _ => h) (fun _ => (by
    extract_lets +onlyGivenNames s2
    have h2 : Keeps s0 s2 := Keeps.ite (fun _ => displaySeat_keeps h) (fun _ => h)
    clear_value s2
    with_reducible exact Keeps.ite (fun _ => render_keeps (releaseSeat_keeps h2)) (fun _ => Keeps.ite (fun _ => render_keeps h2) (fun _ => h2))))

theorem portService_keeps {s0 s} (h : Keeps s0 s) : Keeps s0 (portService s) := by
  unfold portService
  extract_lets +onlyGivenNames s2 s3
  have h3 : Keeps s0 s3 := Keeps.ite (fun _ => releaseSeat_keeps h) (fun _ => h)
  clear_value s3
  with_reducible exact Keeps.ite (fun _ => serviceSeat_keeps h3) (fun _ => h3)

theorem settle_keeps {s0 s} (h : Keeps s0 s) : Keeps s0 (settle s) := by
  unfold settle
  extract_lets +onlyGivenNames s2
  have h2 : Keeps s0 s2 := reportAlarms_keeps (heedLate_keeps h)
  clear_value s2
  extract_lets +onlyGivenNames s3
  have h3 : Keeps s0 s3 := Keeps.ite (fun _ => restCurator_keeps (portService_keeps (renderService_keeps (followReceiver_keeps (pumpSequencer_keeps (keepAlarmFrame_keeps (restTdc_keeps (resumeBlock_keeps (armMeasure_keeps (followDischarge_keeps (abandonRuns_keeps (requestsTogether_keeps (fun x4 h5 => askWindows_keeps (requestCals_keeps (pumpArchive_keeps (pumpTx_keeps (pisteRequest_keeps h5))))) (restCals_keeps (endRecord_keeps (switchReference_keeps h2))))))))))))))) (fun _ => Keeps.ite (fun _ => requestsTogether_keeps (fun x6 h7 => pumpArchive_keeps h7) h2) (fun _ => h2))
  clear_value s3
  with_reducible exact chooseState_keeps h3

theorem done_keeps {s0 s} (h : Keeps s0 s) : KeepsO s0 (done s) := by
  unfold done
  with_reducible exact KeepsO.next (settle_keeps h)

theorem onTimer_keeps {s0 f s} (hf : ∀ t, Keeps s0 t → Keeps s0 (f t)) (h : Keeps s0 s) : KeepsO s0 (onTimer f s) := by
  unfold onTimer
  with_reducible exact KeepsO.ite (fun _ => done_keeps (hf _ (by
    extract_lets +onlyGivenNames s5
    have h5 : Keeps s0 s5 := wake_keeps h
    clear_value s5
    with_reducible exact Keeps.put h5))) (fun _ => KeepsO.next h)

end Sys2Proof.Machine
end

