-- ==== Sys2Proof/Laws/KeepsMeasure.lean ====
section
/-! SUPPORT. `Keeps` of the clock, time-interval, acoustic, temperature, Registrar and memory operations and commands. -/

namespace Sys2Proof.Machine

/-! ## Clocks -/

theorem loseXt32_keeps {s0 code args s} (h : Keeps s0 s) : Keeps s0 (loseXt32 code args s) := by
  unfold loseXt32
  extract_lets +onlyGivenNames s1
  with_reducible exact onlyIf_keeps (fun _ h5 => logEvent_keeps h5) (logEvent_keeps (writeObject_keeps (segmented_keeps (fun x7 h8 => Keeps.put h8) h)))

theorem vitrineFails_keeps {s0 result s} (h : Keeps s0 s) : Keeps s0 (vitrineFails result s) := by
  unfold vitrineFails
  with_reducible exact vitrineOff_keeps (Keeps.put h)

theorem failStartVitrine_keeps {s0 result s} (h : Keeps s0 s) : Keeps s0 (failStartVitrine result s) := by
  unfold failStartVitrine
  with_reducible exact vitrineOff_keeps (Keeps.put h)

theorem vitrineFailed_keeps {s0 result s} (h : Keeps s0 s) : Keeps s0 (vitrineFailed result s) := by
  unfold vitrineFailed
  with_reducible exact Keeps.ite (fun _ => failStartVitrine_keeps h) (fun _ => logEvent_keeps (vitrineFails_keeps h))

theorem updBin_keeps {s0 t f s} (h : Keeps s0 s) : Keeps s0 (updBin t f s) := by
  unfold updBin
  with_reducible exact Keeps.put h

theorem applyXt32_keeps {s0 g s} (h : Keeps s0 s) : Keeps s0 (applyXt32 g s) := by
  unfold applyXt32
  extract_lets +onlyGivenNames s2 s3 s4 s5
  have h5 : Keeps s0 s5 := segmented_keeps (fun x6 h7 => updBin_keeps (Keeps.put h7)) h
  clear_value s5
  with_reducible exact Keeps.ite (fun _ => Keeps.ite (fun _ => loseXt32_keeps h5) (fun _ => logEvent_keeps (Keeps.put h5))) (fun _ => Keeps.ite (fun _ => (by
    extract_lets +onlyGivenNames s8
    with_reducible exact logEvent_keeps (segmented_keeps (fun x9 h10 => Keeps.put h10) h5))) (fun _ => h5))

theorem applyHfrc_keeps {s0 q s} (h : Keeps s0 s) : Keeps s0 (applyHfrc q s) := by
  unfold applyHfrc
  extract_lets +onlyGivenNames s1 s2 s3
  with_reducible exact segmented_keeps (fun x5 h6 => updBin_keeps h6) (Keeps.put h)

theorem applyXrf_keeps {s0 q s} (h : Keeps s0 s) : Keeps s0 (applyXrf q s) := by
  unfold applyXrf
  extract_lets +onlyGivenNames s1
  with_reducible exact segmented_keeps (fun x3 h4 => updBin_keeps h4) (Keeps.put h)

theorem applyGate_keeps {s0 g s} (h : Keeps s0 s) : Keeps s0 (applyGate g s) := by
  unfold applyGate
  split
  · with_reducible exact applyXt32_keeps h
  · with_reducible exact applyHfrc_keeps h
  · with_reducible exact applyXrf_keeps h

theorem applyGates_keeps {s0 l s} (h : Keeps s0 s) : Keeps s0 (applyGates l s) := by
  unfold applyGates
  with_reducible exact Keeps.foldl (fun x2 x4 h3 => (by
    split
    · with_reducible exact applyGate_keeps h3
    · with_reducible exact h3)) h

theorem applyCalibration_keeps {s0 l s} (h : Keeps s0 s) : Keeps s0 (applyCalibration l s) := by
  unfold applyCalibration
  with_reducible exact Keeps.ite (fun _ => applyGates_keeps h) (fun _ => applyGates_keeps (segmented_keeps (fun x2 h3 => Keeps.put h3) h))

theorem vitrineSucceeds_keeps {s0 s} (h : Keeps s0 s) : Keeps s0 (vitrineSucceeds s) := by
  unfold vitrineSucceeds
  beta_reduce
  with_reducible exact writeObject_keeps (Keeps.put (segmented_keeps (fun x4 h5 => Keeps.put h5) h))

theorem vitrineAsked_keeps {s0 s} (h : Keeps s0 s) : Keeps s0 (vitrineAsked s) := by
  unfold vitrineAsked
  with_reducible exact Keeps.ite (fun _ => newVitrine_keeps h) (fun _ => h)

theorem execVitrineCalDue_keeps {s0 cause smp s} (h : Keeps s0 s) : KeepsO s0 (execVitrineCalDue cause smp s) := by
  unfold execVitrineCalDue
  with_reducible exact KeepsO.ite (fun _ => KeepsO.next h) (fun _ => (by
    extract_lets +onlyGivenNames s2
    have h2 : Keeps s0 s2 := sample_keeps (wake_keeps h)
    clear_value s2
    split
    · with_reducible exact done_keeps (Keeps.ite (fun _ => vitrineAsked_keeps (Keeps.put h2)) (fun _ => h2))
    · with_reducible exact done_keeps (vitrineAsked_keeps h2)))

theorem execVitrdySet_keeps {s0 s} (h : Keeps s0 s) : KeepsO s0 (execVitrdySet s) := by
  unfold execVitrdySet
  split
  · with_reducible exact KeepsO.ite (fun _ => KeepsO.next h) (fun _ => done_keeps (Keeps.put h))
  · with_reducible exact KeepsO.next h

theorem execVitrdyLost_keeps {s0 s} (h : Keeps s0 s) : KeepsO s0 (execVitrdyLost s) := by
  unfold execVitrdyLost
  split
  · with_reducible exact KeepsO.ite (fun _ => KeepsO.next h) (fun _ => (by
      extract_lets +onlyGivenNames s2 s3 s4
      have h4 : Keeps s0 s4 := Keeps.put h
      clear_value s4
      with_reducible exact KeepsO.ite (fun _ => done_keeps h4) (fun _ => done_keeps (onlyIf_keeps (fun x5 h6 => disarm_keeps h6) (Keeps.put h4)))))
  · with_reducible exact KeepsO.next h

theorem execVitrdyTimeout_keeps {s0 s} (h : Keeps s0 s) : KeepsO s0 (execVitrdyTimeout s) := by
  unfold execVitrdyTimeout
  split
  · with_reducible exact KeepsO.ite (fun _ => done_keeps (vitrineFailed_keeps h)) (fun _ => KeepsO.next h)
  · with_reducible exact KeepsO.next h

theorem execOvenOvertemp_keeps {s0 s} (h : Keeps s0 s) : KeepsO s0 (execOvenOvertemp s) := by
  unfold execOvenOvertemp
  with_reducible exact KeepsO.ite (fun _ => KeepsO.next h) (fun _ => (by
    split
    · rename_i y2_0 y2_1 y2_2 y2_3
      with_reducible exact done_keeps (vitrineFailed_keeps (logEvent_keeps ((Keeps.of_pair1 y2_3 (draw_keeps h)))))))

theorem execVitrineDeferLimit_keeps {s0 s} (h : Keeps s0 s) : KeepsO s0 (execVitrineDeferLimit s) := by
  unfold execVitrineDeferLimit
  split
  · with_reducible exact KeepsO.ite (fun _ => done_keeps (vitrineFailed_keeps h)) (fun _ => KeepsO.next h)
  · with_reducible exact KeepsO.next h

theorem gateStop_keeps {s0 n x s} (h : Keeps s0 s) : Keeps s0 (gateStop n x s) := by
  unfold gateStop
  extract_lets +onlyGivenNames s2
  have h2 : Keeps s0 s2 := startChannel_keeps h
  clear_value s2
  with_reducible exact Keeps.ite (fun _ => acceptStop_keeps h2) (fun _ => h2)

theorem execVitrineGateEnd_keeps {s0 gate x s} (h : Keeps s0 s) : KeepsO s0 (execVitrineGateEnd gate x s) := by
  unfold execVitrineGateEnd
  split
  · with_reducible exact KeepsO.ite (fun _ => KeepsO.next h) (fun _ => (by
      extract_lets +onlyGivenNames s2 s3 s4
      have h4 : Keeps s0 s4 := gateStop_keeps (Keeps.put h)
      clear_value s4
      with_reducible exact done_keeps (Keeps.ite (fun _ => h4) (fun _ => configureRun_keeps h4))))
  · with_reducible exact KeepsO.next h

theorem execVitrineCalCompute_keeps {s0 s} (h : Keeps s0 s) : KeepsO s0 (execVitrineCalCompute s) := by
  unfold execVitrineCalCompute
  split
  · with_reducible exact KeepsO.ite (fun _ => done_keeps (vitrineSucceeds_keeps (applyCalibration_keeps h))) (fun _ => KeepsO.next h)
  · with_reducible exact KeepsO.next h

theorem execVitrineCalRetry_keeps {s0 smp s} (h : Keeps s0 s) : KeepsO s0 (execVitrineCalRetry smp s) := by
  unfold execVitrineCalRetry
  with_reducible exact KeepsO.ite (fun _ => KeepsO.next h) (fun _ => onTimer_keeps (fun x4 h5 => requestVitrine_keeps (by
    extract_lets +onlyGivenNames s7
    have h7 : Keeps s0 s7 := sample_keeps h5
    clear_value s7
    with_reducible exact Keeps.put h7)) h)

theorem execCalStale24h_keeps {s0 s} (h : Keeps s0 s) : KeepsO s0 (execCalStale24h s) := by
  unfold execCalStale24h
  with_reducible exact KeepsO.ite (fun _ => KeepsO.next h) (fun _ => (by
    extract_lets +onlyGivenNames s3
    with_reducible exact done_keeps (logEvent_keeps (segmented_keeps (fun x7 h8 => Keeps.put h8) h))))

theorem execXt32Stop_keeps {s0 s} (h : Keeps s0 s) : KeepsO s0 (execXt32Stop s) := by
  unfold execXt32Stop
  with_reducible exact KeepsO.ite (fun _ => KeepsO.next h) (fun _ => (by
    extract_lets +onlyGivenNames s2 s3
    have h3 : Keeps s0 s3 := Keeps.put h
    clear_value s3
    with_reducible exact KeepsO.ite (fun _ => done_keeps (loseXt32_keeps h3)) (fun _ => KeepsO.next h3)))

theorem execXt32RestoreCount_keeps {s0 smp s} (h : Keeps s0 s) : KeepsO s0 (execXt32RestoreCount smp s) := by
  unfold execXt32RestoreCount
  with_reducible exact KeepsO.ite (fun _ => KeepsO.next h) (fun _ => done_keeps (vitrineAsked_keeps (by
    extract_lets +onlyGivenNames s5
    have h5 : Keeps s0 s5 := sample_keeps (wake_keeps h)
    clear_value s5
    with_reducible exact Keeps.put h5)))

theorem execLprcCheck_keeps {s0 ok s} (h : Keeps s0 s) : KeepsO s0 (execLprcCheck ok s) := by
  unfold execLprcCheck
  with_reducible exact KeepsO.ite (fun _ => KeepsO.next h) (fun _ => KeepsO.ite (fun _ => done_keeps (Keeps.put h)) (fun _ => (by
    extract_lets +onlyGivenNames s5
    with_reducible exact done_keeps (onlyIf_keeps (fun x8 h9 => logEvent_keeps h9) (logEvent_keeps (segmented_keeps (fun x10 h11 => Keeps.put h11) h))))))

theorem execClockRecoveryAttempt_keeps {s0 _xt32 lprc s} (h : Keeps s0 s) : KeepsO s0 (execClockRecoveryAttempt _xt32 lprc s) := by
  unfold execClockRecoveryAttempt
  with_reducible exact KeepsO.ite (fun _ => KeepsO.next h) (fun _ => done_keeps (segmented_keeps (fun x5 h6 => Keeps.put h6) h))

theorem execLprcCalGateEnd_keeps {s0 ppm s} (h : Keeps s0 s) : KeepsO s0 (execLprcCalGateEnd ppm s) := by
  unfold execLprcCalGateEnd
  with_reducible exact KeepsO.ite (fun _ => KeepsO.next h) (fun _ => (by
    extract_lets +onlyGivenNames s3
    with_reducible exact done_keeps (segmented_keeps (fun x6 h7 => updBin_keeps (Keeps.put h7)) h)))

theorem execLprcCal1hExpiry_keeps {s0 s} (h : Keeps s0 s) : KeepsO s0 (execLprcCal1hExpiry s) := by
  unfold execLprcCal1hExpiry
  with_reducible exact KeepsO.ite (fun _ => KeepsO.next h) (fun _ => done_keeps (segmented_keeps (fun x5 h6 => Keeps.put h6) h))

theorem execLedgerRecordDue_keeps {s0 smp s} (h : Keeps s0 s) : KeepsO s0 (execLedgerRecordDue smp s) := by
  unfold execLedgerRecordDue
  with_reducible exact KeepsO.ite (fun _ => KeepsO.next h) (fun _ => done_keeps (by
    extract_lets +onlyGivenNames s4
    have h4 : Keeps s0 s4 := sample_keeps (wake_keeps h)
    clear_value s4
    with_reducible exact Keeps.put h4))

theorem execTlzoneWrite_keeps {s0 port value s} (h : Keeps s0 s) : KeepsO s0 (execTlzoneWrite port value s) := by
  unfold execTlzoneWrite
  with_reducible exact KeepsO.ite (fun _ => done_keeps (Keeps.put h)) (fun _ => KeepsO.next h)

theorem execTlzoneApply_keeps {s0 s} (h : Keeps s0 s) : KeepsO s0 (execTlzoneApply s) := by
  unfold execTlzoneApply
  split
  · with_reducible exact KeepsO.next h
  · extract_lets +onlyGivenNames s2
    with_reducible exact done_keeps (logEvent_keeps (onlyIf_keeps (fun x6 h7 => sealFull_keeps h7) (writeObject_keeps (by
      extract_lets +onlyGivenNames s7
      have h7 : Keeps s0 s7 := wake_keeps h
      clear_value s7
      with_reducible exact Keeps.put h7))))

theorem execTimeSlewEnd_keeps {s0 s} (h : Keeps s0 s) : KeepsO s0 (execTimeSlewEnd s) := by
  unfold execTimeSlewEnd
  with_reducible exact KeepsO.ite (fun _ => KeepsO.next h) (fun _ => done_keeps (Keeps.put h))

/-! ## Tdc -/

theorem execTdcStart_keeps {s0 ch sync fine s} (h : Keeps s0 s) : KeepsO s0 (execTdcStart ch sync fine s) := by
  unfold execTdcStart
  extract_lets +onlyGivenNames s2
  split
  · with_reducible exact KeepsO.ite (fun _ => done_keeps (startChannel_keeps h)) (fun _ => KeepsO.next h)
  · with_reducible exact done_keeps (startChannel_keeps h)
  · with_reducible exact KeepsO.next h

theorem execTdcStopCrossing_keeps {s0 ch count fine level s} (h : Keeps s0 s) : KeepsO s0 (execTdcStopCrossing ch count fine level s) := by
  unfold execTdcStopCrossing
  with_reducible exact KeepsO.ite (fun _ => KeepsO.next h) (fun _ => (by
    split
    · rename_i y2_0 y2_1 y2_2 y2_3
      split
      · with_reducible exact done_keeps (updCh_keeps ((Keeps.of_pair1 y2_3 (switchEdge_keeps h))))
      · with_reducible exact done_keeps (runningStop_keeps ((Keeps.of_pair1 y2_3 (switchEdge_keeps h))))
      · with_reducible exact KeepsO.next ((Keeps.of_pair1 y2_3 (switchEdge_keeps h)))))

theorem execTdcRunEnd_keeps {s0 ch s} (h : Keeps s0 s) : KeepsO s0 (execTdcRunEnd ch s) := by
  unfold execTdcRunEnd
  with_reducible exact KeepsO.ite (fun _ => done_keeps (endRun_keeps h)) (fun _ => KeepsO.next h)

theorem execTdcCalDue_keeps {s0 cause smp s} (h : Keeps s0 s) : KeepsO s0 (execTdcCalDue cause smp s) := by
  unfold execTdcCalDue
  with_reducible exact KeepsO.ite (fun _ => KeepsO.next h) (fun _ => (by
    extract_lets +onlyGivenNames s2
    have h2 : Keeps s0 s2 := sample_keeps (wake_keeps h)
    clear_value s2
    with_reducible exact KeepsO.ite (fun _ => done_keeps h2) (fun _ => done_keeps (requestTdcCal_keeps h2))))

theorem execTdcCalBlockEnd_keeps {s0 hits s} (h : Keeps s0 s) : KeepsO s0 (execTdcCalBlockEnd hits s) := by
  unfold execTdcCalBlockEnd
  with_reducible exact KeepsO.ite (fun _ => KeepsO.next h) (fun _ => done_keeps (Keeps.put h))

theorem execTdcCalBlockAbandon_keeps {s0 s} (h : Keeps s0 s) : KeepsO s0 (execTdcCalBlockAbandon s) := by
  unfold execTdcCalBlockAbandon
  with_reducible exact KeepsO.ite (fun _ => done_keeps (interruptBlock_keeps h)) (fun _ => KeepsO.next h)

theorem execTdcCalEvaluate_keeps {s0 s} (h : Keeps s0 s) : KeepsO s0 (execTdcCalEvaluate s) := by
  unfold execTdcCalEvaluate
  with_reducible exact KeepsO.ite (fun _ => KeepsO.next h) (fun _ => done_keeps (endCal_keeps h))

theorem execTdcCalRetry_keeps {s0 smp s} (h : Keeps s0 s) : KeepsO s0 (execTdcCalRetry smp s) := by
  unfold execTdcCalRetry
  with_reducible exact KeepsO.ite (fun _ => KeepsO.next h) (fun _ => onTimer_keeps (fun x4 h5 => requestTdcCal_keeps (by
    extract_lets +onlyGivenNames s7
    have h7 : Keeps s0 s7 := sample_keeps h5
    clear_value s7
    with_reducible exact Keeps.put h7)) h)

theorem execTdcNoPass2calint_keeps {s0 ch s} (h : Keeps s0 s) : KeepsO s0 (execTdcNoPass2calint ch s) := by
  unfold execTdcNoPass2calint
  with_reducible exact KeepsO.ite (fun _ => KeepsO.next h) (fun _ => onTimer_keeps (fun x4 h5 => logEvent_keeps (updCh_keeps h5)) h)

/-! ## Shots -/

theorem startLearning_keeps {s0 k s} (h : Keeps s0 s) : Keeps s0 (startLearning k s) := by
  unfold startLearning
  extract_lets +onlyGivenNames s2
  with_reducible exact addJob_keeps (updPath_keeps h)

theorem checkTemplate_keeps {s0 k s} (h : Keeps s0 s) : Keeps s0 (checkTemplate k s) := by
  unfold checkTemplate
  split
  · with_reducible exact h
  · with_reducible exact Keeps.ite (fun _ => h) (fun _ => (by
      extract_lets +onlyGivenNames s2
      with_reducible exact logEvent_keeps (updPath_keeps h)))

theorem ensureTemplate_keeps {s0 k s} (h : Keeps s0 s) : Keeps s0 (ensureTemplate k s) := by
  unfold ensureTemplate
  extract_lets +onlyGivenNames s2
  have h2 : Keeps s0 s2 := checkTemplate_keeps (onlyIf_keeps (fun x3 h4 => startLearning_keeps h4) h)
  clear_value s2
  split
  · with_reducible exact updPath_keeps h2
  · with_reducible exact updPath_keeps h2

theorem applyClass_keeps {s0 c s} (h : Keeps s0 s) : Keeps s0 (applyClass c s) := by
  unfold applyClass
  extract_lets +onlyGivenNames s2 s3 s4 s5
  with_reducible exact Keeps.foldl (fun x6 x8 h7 => (by
    extract_lets +onlyGivenNames s9 s10
    have h10 : Keeps s0 s10 := Keeps.put h7
    clear_value s10
    with_reducible exact useFreq_keeps (updPath_keeps h10))) (Keeps.put h)

theorem requestSnap_keeps {s0 k trig event s} (h : Keeps s0 s) : Keeps s0 (requestSnap k trig event s) := by
  unfold requestSnap
  with_reducible exact updPath_keeps h

theorem dailySnap_keeps {s0 s} (h : Keeps s0 s) : Keeps s0 (dailySnap s) := by
  unfold dailySnap
  extract_lets +onlyGivenNames s1
  with_reducible exact Keeps.ite (fun _ => h) (fun _ => onlyIf_keeps (fun x5 h6 => requestSnap_keeps h6) (Keeps.put h))

theorem beginInterval_keeps {s0 s} (h : Keeps s0 s) : Keeps s0 (beginInterval s) := by
  unfold beginInterval
  extract_lets +onlyGivenNames s1
  have h1 : Keeps s0 s1 := (by
    unfold s1
    split
    · with_reducible exact applyClass_keeps h
    · with_reducible exact h)
  clear_value s1
  with_reducible exact Keeps.foldl (fun x3 x4 h5 => ensureTemplate_keeps h5) (dailySnap_keeps h1)

theorem startShot_keeps {s0 k i up s} (h : Keeps s0 s) : Keeps s0 (startShot k i up s) := by
  unfold startShot
  extract_lets +onlyGivenNames s2
  with_reducible exact startChannel_keeps (configureRun_keeps (disarm_keeps h))

theorem burst_keeps {s0 n limited s} (h : Keeps s0 s) : Keeps s0 (burst n limited s) := by
  unfold burst
  extract_lets +onlyGivenNames s1 s2
  have h2 : Keeps s0 s2 := Keeps.put h
  clear_value s2
  with_reducible exact Keeps.ite (fun _ => logEvent_keeps (Keeps.put h2)) (fun _ => h2)

theorem fireShots_keeps {s0 k i dirs ilim s} (h : Keeps s0 s) : Keeps s0 (fireShots k i dirs ilim s) := by
  unfold fireShots
  extract_lets +onlyGivenNames s2 s3 s4
  have h4 : Keeps s0 s4 := Keeps.put h
  clear_value s4
  with_reducible exact Keeps.foldl (fun x5 x7 h6 => updPath_keeps (burst_keeps (startShot_keeps h6))) h4

theorem markFirst_keeps {s0 s} (h : Keeps s0 s) : Keeps s0 (markFirst s) := by
  unfold markFirst
  split
  · with_reducible exact Keeps.ite (fun _ => h) (fun _ => (by
      extract_lets +onlyGivenNames s4 s5
      have h5 : Keeps s0 s5 := Keeps.put h
      clear_value s5
      with_reducible exact Keeps.ite (fun _ => beginInterval_keeps h5) (fun _ => Keeps.foldl (fun x9 x10 h11 => ensureTemplate_keeps h11) h5)))
  · with_reducible exact h

theorem putShot_keeps {s0 k i x s} (h : Keeps s0 s) : Keeps s0 (putShot k i x s) := by
  unfold putShot
  extract_lets +onlyGivenNames s1 s2
  with_reducible exact updPath_keeps h

theorem snapShot_keeps {s0 c hit nfh s} (h : Keeps s0 s) : Keeps s0 (snapShot c hit nfh s) := by
  unfold snapShot
  refine Keeps.ite (fun _ => h) (fun _ => ?_)
  extract_lets codes x t
  have k : Keeps s0 t := updPath_keeps h
  clear_value t codes
  exact k.of (fun k => Mem.setBytes_wf _ _ k) id (fun _ => Nat.le_refl _) rfl rfl

theorem keepShot_keeps {s0 k i x fb s} (h : Keeps s0 s) : Keeps s0 (keepShot k i x fb s) := by
  unfold keepShot
  with_reducible exact putShot_keeps (Keeps.put h)

theorem processShot_keeps {s0 c s} (h : Keeps s0 s) : Keeps s0 (processShot c s) := by
  unfold processShot
  extract_lets +onlyGivenNames s1 s2
  split
  · with_reducible exact keepShot_keeps (snapShot_keeps h)
  · extract_lets +onlyGivenNames s4 s5 s6
    with_reducible exact keepShot_keeps (snapShot_keeps (draw_keeps h))

theorem timeCrossings_keeps {s0 n l s} (h : Keeps s0 s) : Keeps s0 (timeCrossings n l s) := by
  unfold timeCrossings
  extract_lets +onlyGivenNames s2
  have h2 : Keeps s0 s2 := startChannel_keeps (configureRun_keeps h)
  clear_value s2
  extract_lets +onlyGivenNames s3
  have h3 : Keeps s0 s3 := Keeps.foldl (fun x4 x6 h5 => (by
    split
    · rename_i e
      exact Keeps.ite (fun _ => takeStop_keeps (Keeps.of_pair1 e (switchEdge_keeps h5))) (fun _ => Keeps.of_pair1 e (switchEdge_keeps h5))
    · rename_i e
      exact Keeps.of_pair1 e (switchEdge_keeps h5))) h2
  clear_value s3
  with_reducible exact Keeps.ite (fun _ => endRun_keeps h3) (fun _ => h3)

theorem portOutcome_keeps {s0 port f z ph s} (h : Keeps s0 s) : Keeps s0 (portOutcome port f z ph s) := by
  unfold portOutcome
  with_reducible exact Keeps.put h

theorem measurePort_keeps {s0 c s} (h : Keeps s0 s) : Keeps s0 (measurePort c s) := by
  unfold measurePort
  split
  · rename_i y2_0 y2_1 y2_2 y2_3
    extract_lets +onlyGivenNames s3
    have h3 : Keeps s0 s3 := timeCrossings_keeps (timeCrossings_keeps ((Keeps.of_pair1 y2_3 (draw_keeps h))))
    clear_value s3
    extract_lets +onlyGivenNames s4 s5
    with_reducible exact portOutcome_keeps h3

theorem checkPort_keeps {s0 cs port s} (h : Keeps s0 s) : Keeps s0 (checkPort cs port s) := by
  unfold checkPort
  split
  · with_reducible exact measurePort_keeps h
  · split
    · rename_i y2_0 y2_1 y2_2 y2_3
      split
      · rename_i y3_0 y3_1 y3_2 y3_3
        split
        · rename_i y4_0 y4_1 y4_2 y4_3
          with_reducible exact portOutcome_keeps ((Keeps.of_pair1 y4_3 (draw_keeps ((Keeps.of_pair1 y3_3 (draw_keeps ((Keeps.of_pair1 y2_3 (draw_keeps h)))))))))

theorem checkInOperation_keeps {s0 cs port s} (h : Keeps s0 s) : Keeps s0 (checkInOperation cs port s) := by
  unfold checkInOperation
  extract_lets +onlyGivenNames s2 s3
  have h3 : Keeps s0 s3 := checkPort_keeps h
  clear_value s3
  extract_lets +onlyGivenNames s4
  with_reducible exact Keeps.ite (fun _ => logEvent_keeps h3) (fun _ => Keeps.ite (fun _ => logEvent_keeps h3) (fun _ => h3))

theorem portChecks_keeps {s0 cs s} (h : Keeps s0 s) : Keeps s0 (portChecks cs s) := by
  unfold portChecks
  with_reducible exact Keeps.ite (fun _ => h) (fun _ => Keeps.foldl (fun x4 x5 h6 => checkInOperation_keeps h6) (Keeps.put h))

theorem skipStep_keeps {s0 i s} (h : Keeps s0 s) : Keeps s0 (skipStep i s) := by
  unfold skipStep
  extract_lets +onlyGivenNames s1 s2 s3
  have h3 : Keeps s0 s3 := Keeps.put h
  clear_value s3
  extract_lets +onlyGivenNames s4
  with_reducible exact Keeps.ite (fun _ => h3) (fun _ => logEvent_keeps (Keeps.put h3))

theorem dueStep_keeps {s0 i due s} (h : Keeps s0 s) : Keeps s0 (dueStep i due s) := by
  unfold dueStep
  with_reducible exact Keeps.ite (fun _ => skipStep_keeps h) (fun _ => (by
    split
    · extract_lets +onlyGivenNames s2
      have h2 : Keeps s0 s2 := newVitrine_keeps h
      clear_value s2
      with_reducible exact Keeps.put h2
    · extract_lets +onlyGivenNames s3
      have h3 : Keeps s0 s3 := requestTdcCal_keeps h
      clear_value s3
      with_reducible exact Keeps.put h3
    · with_reducible exact Keeps.put h))

theorem execPisteStepDue_keeps {s0 step smp s} (h : Keeps s0 s) : KeepsO s0 (execPisteStepDue step smp s) := by
  unfold execPisteStepDue
  with_reducible exact KeepsO.ite (fun _ => KeepsO.next h) (fun _ => (by
    extract_lets +onlyGivenNames s3 s4
    have h4 : Keeps s0 s4 := sample_keeps (wake_keeps h)
    clear_value s4
    extract_lets +onlyGivenNames s5 s6 s7 s8
    have h8 : Keeps s0 s8 := Keeps.put h4
    clear_value s8
    with_reducible exact done_keeps (dueStep_keeps (onlyIf_keeps (fun x12 h13 => countScheduled_keeps h13) h8))))

theorem execBoostReady_keeps {s0 mv s} (h : Keeps s0 s) : KeepsO s0 (execBoostReady mv s) := by
  unfold execBoostReady
  with_reducible exact KeepsO.ite (fun _ => done_keeps (Keeps.put h)) (fun _ => KeepsO.next h)

theorem execBoostTimeout_keeps {s0 mv s} (h : Keeps s0 s) : KeepsO s0 (execBoostTimeout mv s) := by
  unfold execBoostTimeout
  split
  · with_reducible exact KeepsO.ite (fun _ => done_keeps (logEvent_keeps (Keeps.put h))) (fun _ => KeepsO.next h)
  · with_reducible exact KeepsO.next h

theorem execShotFire_keeps {s0 mv ilim s} (h : Keeps s0 s) : KeepsO s0 (execShotFire mv ilim s) := by
  unfold execShotFire
  with_reducible exact KeepsO.ite (fun _ => KeepsO.next h) (fun _ => KeepsO.ite (fun _ => done_keeps (Keeps.put h)) (fun _ => (by
    extract_lets +onlyGivenNames s5 s6 s7
    have h7 : Keeps s0 s7 := markFirst_keeps (Keeps.put h)
    clear_value s7
    split
    · with_reducible exact KeepsO.next h7
    · with_reducible exact KeepsO.ite (fun _ => done_keeps (endShots_keeps (requestTdcCal_keeps h7))) (fun _ => done_keeps (fireShots_keeps h7)))))

theorem execShotCaptureProcess_keeps {s0 cap s} (h : Keeps s0 s) : KeepsO s0 (execShotCaptureProcess cap s) := by
  unfold execShotCaptureProcess
  extract_lets +onlyGivenNames s1
  with_reducible exact KeepsO.ite (fun _ => done_keeps (processShot_keeps h)) (fun _ => KeepsO.next h)

theorem execRetryShot_keeps {s0 path drive s} (h : Keeps s0 s) : KeepsO s0 (execRetryShot path drive s) := by
  unfold execRetryShot
  extract_lets +onlyGivenNames s2 s3 s4 s5
  have h5 : Keeps s0 s5 := Keeps.put h
  clear_value s5
  with_reducible exact KeepsO.ite (fun _ => KeepsO.next h) (fun _ => KeepsO.ite (fun _ => done_keeps (Keeps.put h)) (fun _ => (by
    split
    · with_reducible exact KeepsO.next h
    · with_reducible exact done_keeps (updPath_keeps (fireShots_keeps (Keeps.put h5))))))

theorem execFastSequenceTimeout_keeps {s0 s} (h : Keeps s0 s) : KeepsO s0 (execFastSequenceTimeout s) := by
  unfold execFastSequenceTimeout
  with_reducible exact KeepsO.ite (fun _ => KeepsO.next h) (fun _ => onTimer_keeps (fun x4 h5 => (by
    extract_lets +onlyGivenNames s6
    have h6 : Keeps s0 s6 := endFast_keeps h5
    clear_value s6
    with_reducible exact regrid_keeps h6)) h)

/-! ## Flow -/

theorem applyStatus_keeps {s0 k o e s} (h : Keeps s0 s) : Keeps s0 (applyStatus k o e s) := by
  unfold applyStatus
  extract_lets +onlyGivenNames s1
  split
  · extract_lets +onlyGivenNames s3 s4
    have h4 : Keeps s0 s4 := updPath_keeps h
    clear_value s4
    extract_lets +onlyGivenNames s5 s6
    have h6 : Keeps s0 s6 := Keeps.put h4
    clear_value s6
    extract_lets +onlyGivenNames s7
    have h7 : Keeps s0 s7 := (by
      unfold s7
      split
      · with_reducible exact logEvent_keeps h6
      · with_reducible exact h6)
    clear_value s7
    with_reducible exact setTexp_keeps h7
  · extract_lets +onlyGivenNames s3
    have h3 : Keeps s0 s3 := updPath_keeps h
    clear_value s3
    with_reducible exact Keeps.put h3
  · with_reducible exact Keeps.ite (fun _ => (by
      beta_reduce
      with_reducible exact onlyIf_keeps (fun x6 h7 => requestSnap_keeps h7) (logEvent_keeps (setTexp_keeps (by
        extract_lets +onlyGivenNames s8
        have h8 : Keeps s0 s8 := updPath_keeps h
        clear_value s8
        with_reducible exact Keeps.put h8))))) (fun _ => updPath_keeps h)

theorem applyInversion_keeps {s0 k o e s} (h : Keeps s0 s) : Keeps s0 (applyInversion k o e s) := by
  unfold applyInversion
  with_reducible exact Keeps.ite (fun _ => (by
    extract_lets +onlyGivenNames s3 s4 s5
    have h5 : Keeps s0 s5 := updPath_keeps h
    clear_value s5
    extract_lets +onlyGivenNames s6 s7
    have h7 : Keeps s0 s7 := Keeps.put h5
    clear_value s7
    extract_lets +onlyGivenNames s8
    have h8 : Keeps s0 s8 := Keeps.ite (fun _ => h7) (fun _ => onlyIf_keeps (fun x12 h13 => requestSnap_keeps h13) (logEvent_keeps h7))
    clear_value s8
    with_reducible exact Keeps.ite (fun _ => logEvent_keeps (updPath_keeps h8)) (fun _ => h8))) (fun _ => (by
    extract_lets +onlyGivenNames s3
    have h3 : Keeps s0 s3 := updPath_keeps h
    clear_value s3
    with_reducible exact Keeps.put h3))

theorem applyGain_keeps {s0 k e s} (h : Keeps s0 s) : Keeps s0 (applyGain k e s) := by
  unfold applyGain
  extract_lets +onlyGivenNames s1 s2 s3 s4 s5 s6 s7 s8
  with_reducible exact onlyIf_keeps (fun x10 h11 => logEvent_keeps h11) (by
    extract_lets +onlyGivenNames s10
    have h10 : Keeps s0 s10 := updPath_keeps h
    clear_value s10
    with_reducible exact Keeps.put h10)

theorem copyTemplate_keeps {s0 k c s} (h : Keeps s0 s) : Keeps s0 (copyTemplate k c s) := by
  unfold copyTemplate
  with_reducible exact addJob_keeps (updPath_keeps h)

theorem applyAdapt_keeps {s0 k e s} (h : Keeps s0 s) : Keeps s0 (applyAdapt k e s) := by
  unfold applyAdapt
  extract_lets +onlyGivenNames s2 s3 s4
  have h4 : Keeps s0 s4 := updPath_keeps h
  clear_value s4
  extract_lets +onlyGivenNames s5 s6
  have h6 : Keeps s0 s6 := Keeps.put h4
  clear_value s6
  with_reducible exact Keeps.ite (fun _ => h6) (fun _ => copyTemplate_keeps h6)

theorem applyTrend_keeps {s0 k e s} (h : Keeps s0 s) : Keeps s0 (applyTrend k e s) := by
  unfold applyTrend
  extract_lets +onlyGivenNames s1 s2 s3 s4
  have h4 : Keeps s0 s4 := updPath_keeps h
  clear_value s4
  extract_lets +onlyGivenNames s5 s6
  have h6 : Keeps s0 s6 := Keeps.put h4
  clear_value s6
  with_reducible exact Keeps.ite (fun _ => logEvent_keeps (updPath_keeps h6)) (fun _ => Keeps.ite (fun _ => logEvent_keeps (updPath_keeps h6)) (fun _ => h6))

theorem applyLearning_keeps {s0 k s} (h : Keeps s0 s) : Keeps s0 (applyLearning k s) := by
  unfold applyLearning
  extract_lets +onlyGivenNames s2 s3 s4 s5 s6 s7 s8
  have h8 : Keeps s0 s8 := updPath_keeps h
  clear_value s8
  with_reducible exact Keeps.ite (fun _ => copyTemplate_keeps (logEvent_keeps (Keeps.put h8))) (fun _ => Keeps.ite (fun _ => logEvent_keeps (updPath_keeps h)) (fun _ => updPath_keeps h))

theorem applyPath_keeps {s0 k o e s} (h : Keeps s0 s) : Keeps s0 (applyPath k o e s) := by
  unfold applyPath
  extract_lets +onlyGivenNames s1 s2
  have h2 : Keeps s0 s2 := onlyIf_keeps (fun x4 h5 => Keeps.put h5) (applyGain_keeps (applyInversion_keeps (onlyIf_keeps (fun x7 h8 => applyTrend_keeps (applyAdapt_keeps h8)) (applyStatus_keeps h))))
  clear_value s2
  with_reducible exact Keeps.ite (fun _ => applyLearning_keeps h2) (fun _ => h2)

theorem countFired_keeps {s0 ks s} (h : Keeps s0 s) : Keeps s0 (countFired ks s) := by
  unfold countFired
  with_reducible exact Keeps.foldl (fun x2 x4 h3 => Keeps.put h3) h

theorem pathWords_keeps {s0 k seq o e s} (h : Keeps s0 s) : Keeps s0 (pathWords k seq o e s) := by
  unfold pathWords
  extract_lets +onlyGivenNames s1 s2 s3 s4 s5 s6 s7 s8
  with_reducible exact Keeps.put h

theorem gasQuality_keeps {s0 cm s} (h : Keeps s0 s) : Keeps s0 (gasQuality cm s) := by
  unfold gasQuality
  extract_lets +onlyGivenNames s1 s2 s3 s4 s5 s6 s7 s8 s9
  have h9 : Keeps s0 s9 := Keeps.put h
  clear_value s9
  extract_lets +onlyGivenNames s10
  have h10 : Keeps s0 s10 := onlyIf_keeps (fun x12 h13 => logEvent_keeps h13) h9
  clear_value s10
  with_reducible exact Keeps.ite (fun _ => logEvent_keeps (writeObject_keeps (Keeps.put h10))) (fun _ => h10)

theorem fastSequence_keeps {s0 status q s} (h : Keeps s0 s) : Keeps s0 (fastSequence status q s) := by
  unfold fastSequence
  with_reducible exact Keeps.ite (fun _ => Keeps.ite (fun _ => Keeps.put h) (fun _ => (by
    extract_lets +onlyGivenNames s5 s6 s7 s8
    have h8 : Keeps s0 s8 := Keeps.put h
    clear_value s8
    with_reducible exact regrid_keeps h8))) (fun _ => h)

theorem postResult_keeps {s0 status q qint time mono write s} (hwrite : ∀ t0, Keeps s0 t0 → Keeps s0 (write t0)) (h : Keeps s0 s) : Keeps s0 (postResult status q qint time mono write s) := by
  unfold postResult
  extract_lets +onlyGivenNames s2 s3 s4
  have h4 : Keeps s0 s4 := Keeps.put h
  clear_value s4
  with_reducible exact Keeps.ite (fun _ => h4) (fun _ => (by
    extract_lets +onlyGivenNames s5
    have h5 : Keeps s0 s5 := hwrite _ h4
    clear_value s5
    with_reducible exact fastSequence_keeps (fillXb_keeps (Keeps.put h5))))

theorem intervalWords_keeps {s0 seq status tdconly cut q qint v re k nu th cm gqi time os s} (h : Keeps s0 s) : Keeps s0 (intervalWords seq status tdconly cut q qint v re k nu th cm gqi time os s) := by
  unfold intervalWords
  with_reducible exact Keeps.put (draw_keeps h)

theorem handSnap_keeps {s0 k seq s} (h : Keeps s0 s) : Keeps s0 (handSnap k seq s) := by
  unfold handSnap
  extract_lets +onlyGivenNames s2 s3 s4
  split
  · extract_lets +onlyGivenNames s5 s6 s7 s8
    with_reducible exact addJob_keeps (fillXb_keeps (updPath_keeps h))
  · with_reducible exact h

theorem postInterval_keeps {s0 s} (h : Keeps s0 s) : Keeps s0 (postInterval s) := by
  unfold postInterval
  extract_lets +onlyGivenNames s2 s3
  split
  rename_i y0 y1 y2 y3
  extract_lets +onlyGivenNames s5 s6 s7 s8 s9 s10 s11 s12 s13 s14
  have h13 : ∀ t, Keeps s0 t → Keeps s0 (s13 t) := by
    intro t ht
    simp only [s13]; generalize s11 = q
    split
    · exact gasQuality_keeps ht
    · exact ht
  have h14 : Keeps s0 s14 := Keeps.foldl (fun x15 x17 h16 => handSnap_keeps h16) ((Keeps.of_pair1 y3 (draw_keeps h)))
  clear_value s14 s13
  split
  extract_lets +onlyGivenNames s18 s19 s20 s21 s22 s23 s24
  split
  extract_lets +onlyGivenNames s25 s26
  have h25 : ∀ t, Keeps s0 t → Keeps s0 (s25 t) := fun t ht =>
    Keeps.foldl (fun _ _ hx => pathWords_keeps hx) (intervalWords_keeps ht)
  have h26 : Keeps s0 s26 := postResult_keeps h25 (countFired_keeps (Keeps.put h14))
  clear_value s26
  with_reducible exact Keeps.foldl (fun x29 x31 h30 => applyPath_keeps h30) (h13 _ h26)

theorem zeroPath_keeps {s0 k time s} (h : Keeps s0 s) : Keeps s0 (zeroPath k time s) := by
  unfold zeroPath
  extract_lets +onlyGivenNames s2 s3 s4 s5 s6 s7 s8 s9 s10 s11
  have h11 : Keeps s0 s11 := Keeps.put h
  clear_value s11
  extract_lets +onlyGivenNames s12
  have h12 : Keeps s0 s12 := fillXb_keeps h11
  clear_value s12
  with_reducible exact Keeps.ite (fun _ => onlyIf_keeps (fun x13 h14 => writeObject_keeps h14) (onlyIf_keeps (fun x15 h16 => logEvent_keeps h16) (by
    extract_lets +onlyGivenNames s17
    have h17 : Keeps s0 s17 := updPath_keeps h12
    clear_value s17
    with_reducible exact Keeps.put h17))) (fun _ => logEvent_keeps h12)

theorem execIntervalResultPost_keeps {s0 checks s} (h : Keeps s0 s) : KeepsO s0 (execIntervalResultPost checks s) := by
  unfold execIntervalResultPost
  with_reducible exact KeepsO.ite (fun _ => KeepsO.next h) (fun _ => (by
    extract_lets +onlyGivenNames s3
    with_reducible exact done_keeps (endShots_keeps (portChecks_keeps (postInterval_keeps (onlyIf_keeps (fun x9 h10 => beginInterval_keeps h10) h))))))

theorem execZeroCheckResult_keeps {s0 s} (h : Keeps s0 s) : KeepsO s0 (execZeroCheckResult s) := by
  unfold execZeroCheckResult
  with_reducible exact KeepsO.ite (fun _ => KeepsO.next h) (fun _ => (by
    extract_lets +onlyGivenNames s3
    with_reducible exact done_keeps (endShots_keeps (Keeps.foldl (fun x7 x8 h9 => zeroPath_keeps h9) h))))

theorem copyFresh_keeps {s0 k s} (h : Keeps s0 s) : Keeps s0 (copyFresh k s) := by
  unfold copyFresh
  with_reducible exact Keeps.foldl (fun x2 x4 h3 => onlyIf_keeps (fun x5 h6 => copyTemplate_keeps h6) h3) h

theorem execTemplateDailyCopy_keeps {s0 s} (h : Keeps s0 s) : KeepsO s0 (execTemplateDailyCopy s) := by
  unfold execTemplateDailyCopy
  with_reducible exact KeepsO.ite (fun _ => KeepsO.next h) (fun _ => done_keeps (Keeps.foldl (fun x2 x4 h3 => copyFresh_keeps h3) h))

/-! ## Temperature -/

theorem refWords_keeps {s0 ds avg s} (h : Keeps s0 s) : Keeps s0 (refWords ds avg s) := by
  unfold refWords
  extract_lets +onlyGivenNames s1 s2
  with_reducible exact Keeps.put h

theorem probeWords_keeps {s0 ds avg n p s} (h : Keeps s0 s) : Keeps s0 (probeWords ds avg n p s) := by
  unfold probeWords
  extract_lets +onlyGivenNames s1
  with_reducible exact Keeps.put h

theorem channelWords_keeps {s0 ds avg s} (h : Keeps s0 s) : Keeps s0 (channelWords ds avg s) := by
  unfold channelWords
  with_reducible exact Keeps.foldl (fun x2 x3 h4 => probeWords_keeps h4) (refWords_keeps (Keeps.put h))

theorem tempEvents_keeps {s0 old s} (h : Keeps s0 s) : Keeps s0 (tempEvents old s) := by
  unfold tempEvents
  extract_lets +onlyGivenNames s1
  have h1 : Keeps s0 s1 := Keeps.foldl (fun x3 x4 h5 => (by
    extract_lets +onlyGivenNames s6 s7
    with_reducible exact Keeps.ite (fun _ => logEvent_keeps h5) (fun _ => Keeps.ite (fun _ => logEvent_keeps h5) (fun _ => h5)))) h
  clear_value s1
  extract_lets +onlyGivenNames s2 s3 s4 s5 s6
  have h6 : Keeps s0 s6 := Keeps.put h1
  clear_value s6
  with_reducible exact Keeps.ite (fun _ => logEvent_keeps h6) (fun _ => Keeps.ite (fun _ => logEvent_keeps h6) (fun _ => h6))

theorem resultWords_keeps {s0 avg delta thetas s} (h : Keeps s0 s) : Keeps s0 (resultWords avg delta thetas s) := by
  unfold resultWords
  extract_lets +onlyGivenNames s1
  with_reducible exact Keeps.put h

theorem keepResult_keeps {s0 thetas s} (h : Keeps s0 s) : Keeps s0 (keepResult thetas s) := by
  unfold keepResult
  split
  · extract_lets +onlyGivenNames s2 s3 s4
    with_reducible exact fillXb_keeps (Keeps.put h)

theorem setSwap_keeps {s0 x s} (h : Keeps s0 s) : Keeps s0 (setSwap x s) := by
  unfold setSwap
  with_reducible exact writeObject_keeps (Keeps.put h)

theorem swapStep_keeps {s0 dt s} (h : Keeps s0 s) : Keeps s0 (swapStep dt s) := by
  unfold swapStep
  extract_lets +onlyGivenNames s1 s2
  split
  · with_reducible exact Keeps.ite (fun _ => logEvent_keeps (writeObject_keeps (by
      extract_lets +onlyGivenNames s8
      have h8 : Keeps s0 s8 := setSwap_keeps h
      clear_value s8
      with_reducible exact Keeps.put h8))) (fun _ => h)
  · with_reducible exact Keeps.ite (fun _ => logEvent_keeps (setSwap_keeps h)) (fun _ => h)
  · with_reducible exact Keeps.ite (fun _ => logEvent_keeps (setSwap_keeps h)) (fun _ => h)

theorem examineSwap_keeps {s0 s} (h : Keeps s0 s) : Keeps s0 (examineSwap s) := by
  unfold examineSwap
  split
  · extract_lets +onlyGivenNames s2
    split
    · with_reducible exact swapStep_keeps (Keeps.put h)
    · with_reducible exact swapStep_keeps (Keeps.put h)
    · with_reducible exact h
  · with_reducible exact h

theorem execTemperatureResultPost_keeps {s0 ds s} (h : Keeps s0 s) : KeepsO s0 (execTemperatureResultPost ds s) := by
  unfold execTemperatureResultPost
  with_reducible exact KeepsO.ite (fun _ => KeepsO.next h) (fun _ => (by
    extract_lets +onlyGivenNames s3 s4
    with_reducible exact done_keeps (endTemperature_keeps (examineSwap_keeps (keepResult_keeps (resultWords_keeps (tempEvents_keeps (channelWords_keeps h))))))))

/-! ## Registrar -/

theorem restoreFromShadow_keeps {s0 seq s} (h : Keeps s0 s) : Keeps s0 (restoreFromShadow seq s) := by
  unfold restoreFromShadow
  with_reducible exact sealFull_keeps (Keeps.put h)

theorem regRecover_keeps {s0 s} (h : Keeps s0 s) : Keeps s0 (regRecover s) := by
  unfold regRecover
  extract_lets +onlyGivenNames s1 s2 s3 s4 s5 s6
  have h6 : Keeps s0 s6 := Keeps.put h
  clear_value s6
  with_reducible exact Keeps.ite (fun _ => enterSafeBeacon_keeps (logEvent_keeps h6)) (fun _ => restoreFromShadow_keeps h6)

theorem closeBin_keeps {s0 s} (h : Keeps s0 s) : Keeps s0 (closeBin s) := by
  unfold closeBin
  extract_lets +onlyGivenNames s1
  with_reducible exact onlyIf_keeps (fun x3 h4 => logEvent_keeps h4) (Keeps.put h)

theorem putPressure_keeps {s0 pa valid s} (h : Keeps s0 s) : Keeps s0 (putPressure pa valid s) := by
  unfold putPressure
  extract_lets +onlyGivenNames s2 s3 s4 s5
  with_reducible exact fillXb_keeps (Keeps.put h)

theorem postPressure_keeps {s0 p good s} (h : Keeps s0 s) : Keeps s0 (postPressure p good s) := by
  unfold postPressure
  split
  · rename_i y2_0 y2_1 y2_2 y2_3
    split
    · with_reducible exact Keeps.ite (fun _ => putPressure_keeps ((Keeps.of_pair1 y2_3 (draw_keeps h)))) (fun _ => (by
        extract_lets +onlyGivenNames s3
        with_reducible exact logEvent_keeps (putPressure_keeps ((Keeps.of_pair1 y2_3 (draw_keeps h))))))
    · with_reducible exact logEvent_keeps (putPressure_keeps ((Keeps.of_pair1 y2_3 (draw_keeps h))))

theorem execPressureRead_keeps {s0 answer s} (h : Keeps s0 s) : KeepsO s0 (execPressureRead answer s) := by
  unfold execPressureRead
  with_reducible exact KeepsO.ite (fun _ => KeepsO.next h) (fun _ => done_keeps (by
    beta_reduce
    with_reducible exact endStep_keeps (domOff_keeps (Keeps.put (postPressure_keeps h)))))

theorem execRegistrarIntegrate_keeps {s0 s} (h : Keeps s0 s) : KeepsO s0 (execRegistrarIntegrate s) := by
  unfold execRegistrarIntegrate
  with_reducible exact KeepsO.ite (fun _ => KeepsO.next h) (fun _ => done_keeps (integrateSlot_keeps (Keeps.put h)))

theorem execMinuteSealTimeout_keeps {s0 s} (h : Keeps s0 s) : KeepsO s0 (execMinuteSealTimeout s) := by
  unfold execMinuteSealTimeout
  with_reducible exact KeepsO.ite (fun _ => KeepsO.next h) (fun _ => onTimer_keeps (fun x4 h5 => sealUpTo_keeps h5) h)

theorem execLockstepDisagreement_keeps {s0 s} (h : Keeps s0 s) : KeepsO s0 (execLockstepDisagreement s) := by
  unfold execLockstepDisagreement
  with_reducible exact KeepsO.ite (fun _ => KeepsO.next h) (fun _ => done_keeps (regRecover_keeps (by
    beta_reduce
    with_reducible exact Keeps.put (logEvent_keeps h))))

theorem execAvailabilityBinClose_keeps {s0 s} (h : Keeps s0 s) : KeepsO s0 (execAvailabilityBinClose s) := by
  unfold execAvailabilityBinClose
  with_reducible exact KeepsO.ite (fun _ => KeepsO.next h) (fun _ => done_keeps (closeBin_keeps h))

/-! ## Memory -/

theorem csLose_keeps {s0 s} (h : Keeps s0 s) : Keeps s0 (csLose s) := by
  unfold csLose
  extract_lets +onlyGivenNames s2 s3 s4 s5
  with_reducible exact onlyIf_keeps (fun x6 h7 => logEvent_keeps h7) (Keeps.put h)

theorem dropRecords_keeps {s0 t s} (h : Keeps s0 s) : Keeps s0 (dropRecords t s) := by
  unfold dropRecords
  extract_lets +onlyGivenNames s2 s3
  split
  · with_reducible exact Keeps.put h
  · with_reducible exact Keeps.put h
  · with_reducible exact Keeps.put h
  · with_reducible exact Keeps.put h
  · with_reducible exact Keeps.put h
  · with_reducible exact Keeps.put h
  · with_reducible exact Keeps.ite (fun _ => h) (fun _ => csLose_keeps h)

theorem updBank_keeps {s0 i f s} (h : Keeps s0 s) : Keeps s0 (updBank i f s) := by
  unfold updBank
  with_reducible exact Keeps.put h

theorem compact_keeps {s0 x s} (h : Keeps s0 s) : Keeps s0 (compact x s) := by
  unfold compact
  with_reducible exact Keeps.ite (fun _ => h) (fun _ => addJob_keeps (Keeps.foldl (fun x2 x4 h3 => addJob_keeps h3) h))

theorem levelWear_keeps {s0 sector s} (h : Keeps s0 s) : Keeps s0 (levelWear sector s) := by
  unfold levelWear
  extract_lets +onlyGivenNames s2
  with_reducible exact Keeps.ite (fun _ => h) (fun _ => (by
    split
    · split
      · with_reducible exact compact_keeps h
      · with_reducible exact h
    · with_reducible exact h))

theorem countErase_keeps {s0 sector s} (h : Keeps s0 s) : Keeps s0 (countErase sector s) := by
  unfold countErase
  extract_lets +onlyGivenNames s1
  with_reducible exact onlyIf_keeps (fun x3 h4 => logEvent_keeps h4) (Keeps.put h)

theorem commitErase_keeps {s0 n s} (h : Keeps s0 s) : Keeps s0 (commitErase n s) := by
  unfold commitErase
  extract_lets +onlyGivenNames s2 s3
  have h3 : Keeps s0 s3 := (by
    unfold s3
    split
    · with_reducible exact dropRecords_keeps (Keeps.put h)
    · with_reducible exact h)
  clear_value s3
  extract_lets +onlyGivenNames s4 s5
  have h5 : Keeps s0 s5 := Keeps.put h3
  clear_value s5
  extract_lets +onlyGivenNames s6 s7
  have h7 : Keeps s0 s7 := (by
    unfold s7
    split
    · with_reducible exact Keeps.put h5
    · with_reducible exact h5)
  clear_value s7
  extract_lets +onlyGivenNames s8 s9
  have h9 : Keeps s0 s9 := Keeps.ite (fun _ => updBank_keeps h7) (fun _ => h7)
  clear_value s9
  with_reducible exact levelWear_keeps (countErase_keeps h9)

theorem updHead_keeps {s0 area f s} (h : Keeps s0 s) : Keeps s0 (updHead area f s) := by
  unfold updHead
  split
  · with_reducible exact Keeps.put h
  · with_reducible exact h

theorem commitSlot_keeps {s0 area s} (h : Keeps s0 s) : Keeps s0 (commitSlot area s) := by
  unfold commitSlot
  with_reducible exact updHead_keeps h

theorem commitMinute_keeps {s0 m s} (h : Keeps s0 s) : Keeps s0 (commitMinute m s) := by
  unfold commitMinute
  extract_lets +onlyGivenNames s2 s3 s4 s5
  with_reducible exact Keeps.put h

theorem eraseRegions_keeps {s0 p s} (h : Keeps s0 s) : Keeps s0 (eraseRegions p s) := by
  unfold eraseRegions
  with_reducible exact Keeps.foldl (fun x2 x4 h3 => (by
    split
    · with_reducible exact Keeps.ite (fun _ => Keeps.foldl (fun x5 x7 h6 => addJob_keeps h6) h3) (fun _ => h3)
    · with_reducible exact h3)) h

theorem freeRegions_keeps {s0 obj keep s} (h : Keeps s0 s) : Keeps s0 (freeRegions obj keep s) := by
  unfold freeRegions
  with_reducible exact eraseRegions_keeps h

theorem commitFull_keeps {s0 a s} (h : Keeps s0 s) : Keeps s0 (commitFull a s) := by
  unfold commitFull
  extract_lets +onlyGivenNames s2 s3 s4
  have h4 : Keeps s0 s4 := Keeps.put h
  clear_value s4
  extract_lets +onlyGivenNames s5 s6
  have h6 : Keeps s0 s6 := Keeps.ite (fun _ => Keeps.put h4) (fun _ => Keeps.put h4)
  clear_value s6
  with_reducible exact onlyIf_keeps (fun x7 h8 => freeRegions_keeps (countSwitch_keeps h8)) h6

theorem commitEvent_keeps {s0 e s} (h : Keeps s0 s) : Keeps s0 (commitEvent e s) :=
  flushDrops_keeps (h.of id (fun k => by
    show (if s.evq.head? = some e then s.evq.drop 1 else s.evq).length ≤ 64
    split
    · rw [List.length_drop]; omega
    · exact k) (fun _ => Nat.le_refl _) rfl rfl)

theorem commitObject_keeps {s0 id s} (h : Keeps s0 s) : Keeps s0 (commitObject id s) := by
  unfold commitObject
  split
  · with_reducible exact Keeps.put h
  · with_reducible exact Keeps.put h
  · with_reducible exact Keeps.put h
  · with_reducible exact Keeps.put h
  · with_reducible exact Keeps.put h
  · with_reducible exact Keeps.put h
  · with_reducible exact Keeps.put h
  · with_reducible exact Keeps.put h
  · with_reducible exact Keeps.put h
  · with_reducible exact h

theorem commitRegion_keeps {s0 obj s} (h : Keeps s0 s) : Keeps s0 (commitRegion obj s) := by
  unfold commitRegion
  extract_lets +onlyGivenNames s2 s3
  with_reducible exact freeRegions_keeps (Keeps.put h)

theorem csWarn_keeps {s0 s} (h : Keeps s0 s) : Keeps s0 (csWarn s) := by
  unfold csWarn
  with_reducible exact Keeps.ite (fun _ => logEvent_keeps (Keeps.put h)) (fun _ => Keeps.ite (fun _ => h) (fun _ => Keeps.put h))

theorem csCommit_keeps {s0 num s} (h : Keeps s0 s) : Keeps s0 (csCommit num s) := by
  unfold csCommit
  split
  · with_reducible exact h
  · extract_lets +onlyGivenNames s2 s3 s4 s5 s6
    have h6 : Keeps s0 s6 := commitSlot_keeps (Keeps.put h)
    clear_value s6
    with_reducible exact csWarn_keeps (Keeps.put h6)

theorem commitRecord_keeps {s0 j s} (h : Keeps s0 s) : Keeps s0 (commitRecord j s) := by
  unfold commitRecord
  split
  · with_reducible exact commitMinute_keeps h
  · with_reducible exact commitFull_keeps h
  · with_reducible exact Keeps.put h
  · with_reducible exact commitEvent_keeps h
  · with_reducible exact Keeps.put h
  · with_reducible exact Keeps.put h
  · with_reducible exact commitObject_keeps h
  · with_reducible exact commitRegion_keeps (Keeps.put h)
  · with_reducible exact commitRegion_keeps (Keeps.put h)
  · with_reducible exact h
  · with_reducible exact commitErase_keeps h
  · with_reducible exact csCommit_keeps h
  · with_reducible exact updBank_keeps h
  · with_reducible exact Keeps.put h
  · with_reducible exact h

theorem dropJob_keeps {s0 j s} (h : Keeps s0 s) : Keeps s0 (dropJob j s) := by
  unfold dropJob
  with_reducible exact Keeps.put h

theorem commitJob_keeps {s0 j s} (h : Keeps s0 s) : Keeps s0 (commitJob j s) := by
  unfold commitJob
  extract_lets +onlyGivenNames s2 s3
  have h3 : Keeps s0 s3 := (by
    unfold s3
    split
    · with_reducible exact h
    · with_reducible exact commitSlot_keeps h
    · with_reducible exact Keeps.put h
    · with_reducible exact h)
  clear_value s3
  with_reducible exact commitRecord_keeps (dropJob_keeps h3)

theorem discardRun_keeps {s0 r s} (h : Keeps s0 s) : Keeps s0 (discardRun r s) := by
  unfold discardRun
  split
  · with_reducible exact updHead_keeps h
  · with_reducible exact eraseRegions_keeps h

theorem recoverRun_keeps {s0 x r} (h : Keeps s0 x.2.2) : Keeps s0 (recoverRun x r).2.2 := by
  obtain ⟨a, b, s⟩ := x
  unfold recoverRun
  dsimp only at h ⊢
  repeat' split
  all_goals first
    | exact h
    | exact commitErase_keeps h
    | exact commitJob_keeps h
    | exact discardRun_keeps h

theorem aonError_keeps {s0 s} (h : Keeps s0 s) : Keeps s0 (aonError s) := by
  unfold aonError
  split
  · rename_i y1_0 y1_1 y1_2 y1_3
    extract_lets +onlyGivenNames s2
    split
    · with_reducible exact Keeps.put (Keeps.of_pair1 y1_3 (draw_keeps h))
    · with_reducible exact Keeps.put (Keeps.of_pair1 y1_3 (draw_keeps h))
    · with_reducible exact segmented_keeps (fun x5 h6 => Keeps.put h6) (Keeps.of_pair1 y1_3 (draw_keeps h))
    · with_reducible exact Keeps.of_pair1 y1_3 (draw_keeps h)

theorem memoryError_keeps {s0 seg port s} (h : Keeps s0 s) : Keeps s0 (memoryError seg port s) := by
  unfold memoryError
  with_reducible exact Keeps.ite (fun _ => aonError_keeps h) (fun _ => Keeps.ite (fun _ => Keeps.ite (fun _ => regRecover_keeps (Keeps.put h)) (fun _ => h)) (fun _ => Keeps.ite (fun _ => Keeps.put h) (fun _ => watchdogReset_keeps h)))

theorem execSramUncorrectable_keeps {s0 segment addr port s} (h : Keeps s0 s) : KeepsO s0 (execSramUncorrectable segment addr port s) := by
  unfold execSramUncorrectable
  with_reducible exact KeepsO.ite (fun _ => KeepsO.next h) (fun _ => done_keeps (memoryError_keeps (logEvent_keeps (Keeps.put h))))

theorem rewriteHandshake_keeps {s0 b own s} (h : Keeps s0 s) : Keeps s0 (rewriteHandshake b own s) := by
  unfold rewriteHandshake
  with_reducible exact Keeps.ite (fun _ => putXb_keeps h) (fun _ => h)

theorem execXbCollision_keeps {s0 agent a b s} (h : Keeps s0 s) : KeepsO s0 (execXbCollision agent a b s) := by
  unfold execXbCollision
  with_reducible exact KeepsO.ite (fun _ => KeepsO.next h) (fun _ => (by
    split
    · with_reducible exact done_keeps (putXb_keeps (putXb_keeps h))
    · with_reducible exact done_keeps (by
        extract_lets +onlyGivenNames s2
        have h2 : Keeps s0 s2 := rewriteHandshake_keeps (putXb_keeps h)
        clear_value s2
        with_reducible exact Keeps.put h2)))

theorem selectPage_keeps {s0 port v s} (h : Keeps s0 s) : Keeps s0 (selectPage port v s) := by
  unfold selectPage
  split
  · with_reducible exact Keeps.put h
  · with_reducible exact Keeps.put h

theorem execXbpageSelWrite_keeps {s0 port value s} (h : Keeps s0 s) : KeepsO s0 (execXbpageSelWrite port value s) := by
  unfold execXbpageSelWrite
  with_reducible exact KeepsO.ite (fun _ => done_keeps (selectPage_keeps h)) (fun _ => KeepsO.next h)

theorem execBgcmdStart_keeps {s0 port s} (h : Keeps s0 s) : KeepsO s0 (execBgcmdStart port s) := by
  unfold execBgcmdStart
  with_reducible exact KeepsO.ite (fun _ => done_keeps (Keeps.put h)) (fun _ => KeepsO.next h)

theorem execBgtestDue_keeps {s0 s} (h : Keeps s0 s) : KeepsO s0 (execBgtestDue s) := by
  unfold execBgtestDue
  with_reducible exact KeepsO.ite (fun _ => done_keeps (Keeps.put h)) (fun _ => KeepsO.next h)

theorem bgComplete_keeps {s0 s} (h : Keeps s0 s) : Keeps s0 (bgComplete s) := by
  unfold bgComplete
  with_reducible exact Keeps.put h

theorem bgHold_keeps {s0 a a1} (h : Keeps s0 a1) : Keeps s0 (bgHold a a1) := by
  induction a generalizing a1 with
  | zero => exact h
  | succ n ih =>
    unfold bgHold
    split
    · exact h
    · exact Keeps.ite (fun _ => bgComplete_keeps h) (fun _ => Keeps.ite (fun _ => ih (Keeps.put h))
        (fun _ => Keeps.ite (fun _ => Keeps.ite (fun _ => h) (fun _ => Keeps.put h)) (fun _ => ih (Keeps.put h))))

theorem execBgSlice_keeps {s0 rows s} (h : Keeps s0 s) : KeepsO s0 (execBgSlice rows s) := by
  unfold execBgSlice
  with_reducible exact KeepsO.ite (fun _ => KeepsO.next h) (fun _ => (by
    extract_lets +onlyGivenNames s3
    have h3 : Keeps s0 s3 := (by
      unfold s3
      split
      · with_reducible exact h
      · with_reducible exact Keeps.ite (fun _ => Keeps.put h) (fun _ => h))
    clear_value s3
    split
    · with_reducible exact KeepsO.next h3
    · with_reducible exact KeepsO.ite (fun _ => KeepsO.next h3) (fun _ => done_keeps (bgHold_keeps (Keeps.put h3)))))

theorem bgNext_keeps {s0 s} (h : Keeps s0 s) : Keeps s0 (bgNext s) := by
  unfold bgNext
  split
  · with_reducible exact bgHold_keeps (Keeps.put h)
  · with_reducible exact h

theorem bgFailed_keeps {s0 seg row s} (h : Keeps s0 s) : Keeps s0 (bgFailed seg row s) := by
  unfold bgFailed
  extract_lets +onlyGivenNames s1 s2 s3
  have h3 : Keeps s0 s3 := Keeps.put h
  clear_value s3
  with_reducible exact writeObject_keeps (logEvent_keeps h3)

theorem execBgWindowRelease_keeps {s0 failed s} (h : Keeps s0 s) : KeepsO s0 (execBgWindowRelease failed s) := by
  unfold execBgWindowRelease
  split
  · with_reducible exact KeepsO.ite (fun _ => done_keeps (bgNext_keeps (onlyIf_keeps (fun x7 h8 => bgFailed_keeps h8) h))) (fun _ => KeepsO.next h)
  · with_reducible exact KeepsO.next h

theorem bgAbort_keeps {s0 s} (h : Keeps s0 s) : Keeps s0 (bgAbort s) := by
  unfold bgAbort
  split
  · with_reducible exact Keeps.ite (fun _ => h) (fun _ => (by
      extract_lets +onlyGivenNames s4 s5 s6
      have h6 : Keeps s0 s6 := Keeps.put h
      clear_value s6
      with_reducible exact Keeps.ite (fun _ => Keeps.put h6) (fun _ => Keeps.put h6)))
  · with_reducible exact h

theorem execBgUrgentAccess_keeps {s0 s} (h : Keeps s0 s) : KeepsO s0 (execBgUrgentAccess s) := by
  unfold execBgUrgentAccess
  split
  · with_reducible exact KeepsO.ite (fun _ => done_keeps (bgAbort_keeps h)) (fun _ => KeepsO.next h)
  · with_reducible exact KeepsO.next h

theorem execBgPassOverdue_keeps {s0 s} (h : Keeps s0 s) : KeepsO s0 (execBgPassOverdue s) := by
  unfold execBgPassOverdue
  split
  · with_reducible exact KeepsO.ite (fun _ => KeepsO.next h) (fun _ => onTimer_keeps (fun x5 h6 => logEvent_keeps (Keeps.put h6)) h)
  · with_reducible exact KeepsO.next h

theorem openSector_keeps {s0 area tstart s} (h : Keeps s0 s) : Keeps s0 (openSector area tstart s) := by
  unfold openSector
  extract_lets +onlyGivenNames s2 s3 s4
  have h4 : Keeps s0 s4 := Keeps.put h
  clear_value s4
  with_reducible exact Keeps.foldl (fun x5 x7 h6 => addJob_keeps h6) h4

theorem openMinuteSector_keeps {s0 minute s} (h : Keeps s0 s) : Keeps s0 (openMinuteSector minute s) := by
  unfold openMinuteSector
  extract_lets +onlyGivenNames s2 s3 s4
  have h4 : Keeps s0 s4 := onlyIf_keeps (fun x5 h6 => logEvent_keeps (Keeps.put h6)) h
  clear_value s4
  split
  · with_reducible exact openSector_keeps h
  · with_reducible exact openSector_keeps (Keeps.foldl (fun x7 x9 h8 => addJob_keeps h8) h4)

theorem openFor_keeps {s0 j s} (h : Keeps s0 s) : Keeps s0 (openFor j s) := by
  unfold openFor
  with_reducible exact Keeps.ite (fun _ => h) (fun _ => (by
    split
    · with_reducible exact openMinuteSector_keeps h
    · with_reducible exact openSector_keeps h
    · split
      · with_reducible exact openSector_keeps h
      · with_reducible exact h))

theorem beginSlot_keeps {s0 area s} (h : Keeps s0 s) : Keeps s0 (beginSlot area s) := by
  unfold beginSlot
  with_reducible exact updHead_keeps h

theorem writeEvent_keeps {s0 s} (h : Keeps s0 s) : Keeps s0 (writeEvent s) := by
  unfold writeEvent
  split
  · with_reducible exact h
  · with_reducible exact commitEvent_keeps (commitSlot_keeps (beginSlot_keeps (openFor_keeps h)))

theorem drainEvents_keeps {s0 s} (h : Keeps s0 s) : Keeps s0 (drainEvents s) := by
  unfold drainEvents
  with_reducible exact Keeps.foldl (fun x2 x4 h3 => writeEvent_keeps h3) h

theorem beginEntry_keeps {s0 size s} (h : Keeps s0 s) : Keeps s0 (beginEntry size s) := by
  unfold beginEntry
  with_reducible exact updHead_keeps h

theorem compactIfFull_keeps {s0 s} (h : Keeps s0 s) : Keeps s0 (compactIfFull s) := by
  unfold compactIfFull
  with_reducible exact Keeps.ite (fun _ => h) (fun _ => (by
    extract_lets +onlyGivenNames s2 s3
    split
    · with_reducible exact compact_keeps h
    · with_reducible exact h))

theorem internalLen_keeps {s0 j s} (h : Keeps s0 s) : Keeps s0 (internalLen j s).2 := by
  unfold internalLen
  split
  · with_reducible exact h
  · split
    · rename_i y2_0 y2_1 y2_2 y2_3
      with_reducible exact (Keeps.of_pair1 y2_3 (draw_keeps h))

theorem beginLog_keeps {s0 obj sub len s} (h : Keeps s0 s) : Keeps s0 (beginLog obj sub len s) := by
  unfold beginLog
  with_reducible exact compactIfFull_keeps (Keeps.put h)

theorem beginRegion_keeps {s0 obj payload s} (h : Keeps s0 s) : Keeps s0 (beginRegion obj payload s) := by
  unfold beginRegion
  extract_lets +onlyGivenNames s2 s3
  split
  · with_reducible exact Keeps.put h
  · with_reducible exact h

theorem begunJob_keeps {s0 j s} (h : Keeps s0 s) : Keeps s0 (begunJob j s).2 := by
  unfold begunJob
  split
  · with_reducible exact beginRegion_keeps h
  · with_reducible exact beginRegion_keeps h
  · with_reducible exact wardenFrame_keeps h
  · with_reducible exact h
  · with_reducible exact beginSlot_keeps (openFor_keeps h)
  · with_reducible exact beginEntry_keeps (openFor_keeps h)
  · with_reducible exact h
  · with_reducible exact h
  · split
    · with_reducible exact beginSlot_keeps (openFor_keeps h)
    · split
      · rename_i y2_0 y2_1 y2_2 y2_3
        with_reducible exact beginLog_keeps ((Keeps.of_pair1 y2_3 (internalLen_keeps h)))
    · with_reducible exact h

theorem endOp_keeps {s0 o s} (h : Keeps s0 s) : Keeps s0 (endOp o s) := by
  unfold endOp
  extract_lets +onlyGivenNames s2 s3 s4
  have h4 : Keeps s0 s4 := Keeps.put h
  clear_value s4
  with_reducible exact Keeps.ite (fun _ => startOps_keeps h4) (fun _ => (by
    extract_lets +onlyGivenNames s5
    have h5 : Keeps s0 s5 := releaseSeat_keeps h4
    clear_value s5
    with_reducible exact startOps_keeps (onlyIf_keeps (fun x6 h7 => domOff_keeps h7) h5)))

theorem nextStep_keeps {s0 r s} (h : Keeps s0 s) : Keeps s0 (nextStep r s) := by
  unfold nextStep
  extract_lets +onlyGivenNames s2 s3 s4
  have h4 : Keeps s0 s4 := Keeps.put h
  clear_value s4
  with_reducible exact Keeps.ite (fun _ => Keeps.ite (fun _ => startOps_keeps h4) (fun _ => endOp_keeps h4)) (fun _ => Keeps.put h)

theorem opDone_keeps {s0 s} (h : Keeps s0 s) : Keeps s0 (opDone s) := by
  unfold opDone
  split
  · with_reducible exact h
  · extract_lets +onlyGivenNames s2 s3
    with_reducible exact Keeps.ite (fun _ => Keeps.ite (fun _ => h) (fun _ => endOp_keeps (commitJob_keeps (Keeps.put h)))) (fun _ => Keeps.ite (fun _ => (by
      split
      · rename_i y4_0 y4_1 y4_2 y4_3
        with_reducible exact nextStep_keeps ((Keeps.of_pair1 y4_3 (begunJob_keeps h))))) (fun _ => nextStep_keeps h))

theorem retireBlock_keeps {s0 block s} (h : Keeps s0 s) : Keeps s0 (retireBlock block s) := by
  unfold retireBlock
  extract_lets +onlyGivenNames s2 s3 s4 s5 s6
  have h6 : Keeps s0 s6 := logEvent_keeps (Keeps.put h)
  clear_value s6
  with_reducible exact onlyIf_keeps (fun x7 h8 => logEvent_keeps (Keeps.put h8)) h6

theorem skipSector_keeps {s0 c s} (h : Keeps s0 s) : Keeps s0 (skipSector c s) := by
  unfold skipSector
  with_reducible exact Keeps.put h

theorem opFailed_keeps {s0 s} (h : Keeps s0 s) : Keeps s0 (opFailed s) := by
  unfold opFailed
  split
  · with_reducible exact h
  · split
    · with_reducible exact opDone_keeps h
    · with_reducible exact Keeps.ite (fun _ => opDone_keeps (retireBlock_keeps h)) (fun _ => Keeps.ite (fun _ => endOp_keeps (dropJob_keeps (skipSector_keeps (Keeps.put h)))) (fun _ => (by
        extract_lets +onlyGivenNames s2
        have h2 : Keeps s0 s2 := skipSector_keeps h
        clear_value s2
        with_reducible exact Keeps.put h2)))

theorem execArchiveOpComplete_keeps {s0 ok s} (h : Keeps s0 s) : KeepsO s0 (execArchiveOpComplete ok s) := by
  unfold execArchiveOpComplete
  split
  · with_reducible exact KeepsO.next h
  · with_reducible exact KeepsO.ite (fun _ => done_keeps (opDone_keeps h)) (fun _ => KeepsO.ite (fun _ => done_keeps (Keeps.put h)) (fun _ => done_keeps (opFailed_keeps h)))

theorem execEraseSuspend_keeps {s0 s} (h : Keeps s0 s) : KeepsO s0 (execEraseSuspend s) := by
  unfold execEraseSuspend
  split
  · with_reducible exact KeepsO.ite (fun _ => done_keeps (startOps_keeps (pauseRun_keeps h))) (fun _ => KeepsO.next h)
  · with_reducible exact KeepsO.next h

theorem execWardenAreaErase_keeps {s0 smp s} (h : Keeps s0 s) : KeepsO s0 (execWardenAreaErase smp s) := by
  unfold execWardenAreaErase
  with_reducible exact onTimer_keeps (fun x2 h3 => (by
    extract_lets +onlyGivenNames s4
    have h4 : Keeps s0 s4 := sample_keeps h3
    clear_value s4
    with_reducible exact Keeps.ite (fun _ => Keeps.put h4) (fun _ => h4))) h

theorem unreadSlot_keeps {s0 s x} (h : Keeps s0 s) : Keeps s0 (unreadSlot s x) := by
  unfold unreadSlot
  split
  · extract_lets +onlyGivenNames s2 s3 s4
    have h4 : Keeps s0 s4 := logEvent_keeps (Keeps.put h)
    clear_value s4
    split
    · with_reducible exact h4
    · with_reducible exact Keeps.ite (fun _ => h4) (fun _ => (by
        extract_lets +onlyGivenNames s5 s6 s7 s8
        have h8 : Keeps s0 s8 := Keeps.put h4
        clear_value s8
        split
        · with_reducible exact Keeps.put h8
        · with_reducible exact Keeps.put h8
        · with_reducible exact Keeps.put h8
        · with_reducible exact Keeps.put h8
        · with_reducible exact Keeps.put h8
        · with_reducible exact Keeps.put h8
        · extract_lets +onlyGivenNames s9 s10 s11
          with_reducible exact Keeps.put h8))

theorem requeueErases_keeps {s0 s} (h : Keeps s0 s) : Keeps s0 (requeueErases s) := by
  unfold requeueErases
  extract_lets +onlyGivenNames s2
  have h2 : Keeps s0 s2 := Keeps.foldl (fun x3 x5 h4 => (by
    extract_lets +onlyGivenNames s6
    with_reducible exact Keeps.ite (fun _ => Keeps.foldl (fun x7 x9 h8 => addJob_keeps h8) h4) (fun _ => h4))) h
  clear_value s2
  extract_lets +onlyGivenNames s10
  with_reducible exact onlyIf_keeps (fun x11 h12 => freeRegions_keeps h12) (freeRegions_keeps h2)

theorem recoverRecords_keeps {s0 unread s} (h : Keeps s0 s) : Keeps s0 (recoverRecords unread s).2.2 := by
  unfold recoverRecords
  extract_lets +onlyGivenNames s2
  have h2 : Keeps s0 s2 := Keeps.foldl (fun x3 x5 h4 => unreadSlot_keeps h4) h
  clear_value s2
  have k : ∀ (l : List ArcRun) (x : Nat × Nat × State), Keeps s0 x.2.2 → Keeps s0 (l.foldl recoverRun x).2.2 := by
    intro l
    induction l with
    | nil => exact fun _ hx => hx
    | cons r l ih => exact fun x hx => ih _ (recoverRun_keeps hx)
  have h3 : Keeps s0 ({ s2 with ar.paused := [] }) := Keeps.put h2
  have h4 := k s2.ar.paused (0, 0, _) h3
  dsimp only
  generalize s2.ar.paused.foldl recoverRun (0, 0, _) = z at h4 ⊢
  exact requeueErases_keeps h4

end Sys2Proof.Machine
end

