-- ==== Sys2Proof/Laws/KeepsRadio.lean ====
section
/-! SUPPORT. `Keeps` of the radio, link, display, service-map and reader-session operations and commands. -/

namespace Sys2Proof.Machine

/-! ## Radio -/

theorem clampPower_keeps {s0 f s} (h : Keeps s0 s) : Keeps s0 (clampPower f s) := by
  unfold clampPower
  extract_lets +onlyGivenNames s1 s2
  with_reducible exact Keeps.ite (fun _ => Keeps.put h) (fun _ => Keeps.ite (fun _ => Keeps.put h) (fun _ => logEvent_keeps (Keeps.put h)))

theorem restSequencer_keeps {s0 f s} (h : Keeps s0 s) : Keeps s0 (restSequencer f s) := by
  unfold restSequencer
  with_reducible exact onlyIf_keeps (fun x2 h3 => domOff_keeps h3) h

theorem tellDropped_keeps {s0 f s} (h : Keeps s0 s) : Keeps s0 (tellDropped f s) := by
  unfold tellDropped
  with_reducible exact onlyIf_keeps (fun x2 h3 => endAlarm_keeps h3) (releaseSeat_keeps (restSequencer_keeps (txDropped_keeps h)))

theorem holdFrame_keeps {s0 f g s} (h : Keeps s0 s) : Keeps s0 (holdFrame f g s) := by
  unfold holdFrame
  with_reducible exact releaseSeat_keeps (restSequencer_keeps (Keeps.put h))

theorem moveExchange_keeps {s0 f j s} (h : Keeps s0 s) : Keeps s0 (moveExchange f j s) := by
  unfold moveExchange
  with_reducible exact closeWindow_keeps (holdFrame_keeps (Keeps.put h))

theorem refuseFrame_keeps {s0 t f s} (h : Keeps s0 s) : Keeps s0 (refuseFrame t f s) := by
  unfold refuseFrame
  extract_lets +onlyGivenNames s1 s2 s3 s4
  have h4 : Keeps s0 s4 := Keeps.ite (fun _ => Keeps.put h) (fun _ => Keeps.put h)
  clear_value s4
  split
  · with_reducible exact releaseSeat_keeps (closeWindow_keeps (withdrawBeacon_keeps (Keeps.put h4)))
  · extract_lets +onlyGivenNames s6
    with_reducible exact tellDropped_keeps (Keeps.put h4)
  · split
    · with_reducible exact Keeps.ite (fun _ => tellDropped_keeps (Keeps.put h4)) (fun _ => holdFrame_keeps h4)
    · with_reducible exact Keeps.ite (fun _ => holdFrame_keeps h4) (fun _ => (by
        split
        · with_reducible exact Keeps.ite (fun _ => moveExchange_keeps h4) (fun _ => Keeps.put h4)
        · with_reducible exact Keeps.ite (fun _ => moveExchange_keeps h4) (fun _ => holdFrame_keeps h4)))

theorem waitVitrine_keeps {s0 f s} (h : Keeps s0 s) : Keeps s0 (waitVitrine f s) := by
  unfold waitVitrine
  beta_reduce
  with_reducible exact Keeps.ite (fun _ => moveExchange_keeps (newVitrine_keeps (onlyIf_keeps (fun x2 h3 => logEvent_keeps h3) (Keeps.put h)))) (fun _ => holdFrame_keeps (newVitrine_keeps (onlyIf_keeps (fun x4 h5 => logEvent_keeps h5) (Keeps.put h))))

theorem askFollowing_keeps {s0 f s} (h : Keeps s0 s) : Keeps s0 (askFollowing f s) := by
  unfold askFollowing
  extract_lets +onlyGivenNames s2 s3
  split
  · with_reducible exact askWindow_keeps h
  · with_reducible exact onlyIf_keeps (fun x4 h5 => askWindow_keeps h5) h
  · with_reducible exact onlyIf_keeps (fun x6 h7 => askWindow_keeps h7) h
  · with_reducible exact Keeps.ite (fun _ => askWindow_keeps h) (fun _ => onlyIf_keeps (fun x8 h9 => askWindow_keeps h9) h)
  · with_reducible exact Keeps.ite (fun _ => askWindow_keeps h) (fun _ => onlyIf_keeps (fun x10 h11 => askWindow_keeps h11) h)
  · with_reducible exact h

theorem rampUp_keeps {s0 f s} (h : Keeps s0 s) : Keeps s0 (rampUp f s) := by
  unfold rampUp
  beta_reduce
  extract_lets +onlyGivenNames s2 s3
  with_reducible exact requestsTogether_keeps (fun x4 h5 => askFollowing_keeps h5) (Keeps.put (tune_keeps (onlyIf_keeps (fun x6 h7 => calibrateSynth_keeps h7) (clampPower_keeps (charge_keeps h)))))

theorem askAgain_keeps {s0 f s} (h : Keeps s0 s) : Keeps s0 (askAgain f s) := by
  unfold askAgain
  with_reducible exact requestSeat_keeps h

theorem startFrame_keeps {s0 f s} (h : Keeps s0 s) : Keeps s0 (startFrame f s) := by
  unfold startFrame
  with_reducible exact Keeps.ite (fun _ => tellDropped_keeps h) (fun _ => Keeps.ite (fun _ => waitVitrine_keeps h) (fun _ => Keeps.ite (fun _ => tellDropped_keeps h) (fun _ => (by
    extract_lets +onlyGivenNames s2
    have h2 : Keeps s0 s2 := onlyIf_keeps (fun x3 h4 => askAgain_keeps h4) h
    clear_value s2
    with_reducible exact Keeps.ite (fun _ => h2) (fun _ => (by
      extract_lets +onlyGivenNames s5
      with_reducible exact Keeps.ite (fun _ => rampUp_keeps h2) (fun _ => refuseFrame_keeps h2)))))))

theorem execTransmissionStart_keeps {s0 s} (h : Keeps s0 s) : KeepsO s0 (execTransmissionStart s) := by
  unfold execTransmissionStart
  extract_lets +onlyGivenNames s2
  have h2 : Keeps s0 s2 := Keeps.ite (fun _ => requestsTogether_keeps (fun x3 h4 => pumpTx_keeps h4) h) (fun _ => h)
  clear_value s2
  with_reducible exact KeepsO.ite (fun _ => KeepsO.next h2) (fun _ => (by
    split
    · with_reducible exact done_keeps (startFrame_keeps h2)
    · with_reducible exact KeepsO.next h2))

theorem alarmSent_keeps {s0 s} (h : Keeps s0 s) : Keeps s0 (alarmSent s) := by
  unfold alarmSent
  extract_lets +onlyGivenNames s1 s2 s3 s4 s5
  have h5 : Keeps s0 s5 := logEvent_keeps (Keeps.put h)
  clear_value s5
  split
  · with_reducible exact procFinish_keeps (releaseSeat_keeps h5)
  · with_reducible exact h5

theorem faultSent_keeps {s0 s} (h : Keeps s0 s) : Keeps s0 (faultSent s) := by
  unfold faultSent
  with_reducible exact Keeps.put h

theorem listenAfter_keeps {s0 hz num s} (h : Keeps s0 s) : Keeps s0 (listenAfter hz num s) := by
  unfold listenAfter
  with_reducible exact Keeps.ite (fun _ => Keeps.put h) (fun _ => h)

theorem sessionWindow_keeps {s0 s} (h : Keeps s0 s) : Keeps s0 (sessionWindow s) := by
  unfold sessionWindow
  split
  · with_reducible exact h
  · extract_lets +onlyGivenNames s2
    have h2 : Keeps s0 s2 := openWindow_keeps h
    clear_value s2
    with_reducible exact Keeps.ite (fun _ => h2) (fun _ => closeSession_keeps h2)

theorem ackSent_keeps {s0 s} (h : Keeps s0 s) : Keeps s0 (ackSent s) := by
  unfold ackSent
  split
  · with_reducible exact Keeps.put h
  · with_reducible exact releaseSeat_keeps h

theorem afterFrame_keeps {s0 f hz num s} (h : Keeps s0 s) : Keeps s0 (afterFrame f hz num s) := by
  unfold afterFrame
  split
  · with_reducible exact listenAfter_keeps (releaseSeat_keeps (Keeps.put h))
  · with_reducible exact h
  · with_reducible exact h
  · with_reducible exact ackSent_keeps h
  · with_reducible exact h
  · with_reducible exact h
  · with_reducible exact sessionWindow_keeps (releaseSeat_keeps h)
  · with_reducible exact sessionWindow_keeps (releaseSeat_keeps h)
  · with_reducible exact releaseSeat_keeps h
  · extract_lets +onlyGivenNames s2 s3 s4
    have h4 : Keeps s0 s4 := Keeps.ite (fun _ => Keeps.put h) (fun _ => Keeps.put h)
    clear_value s4
    with_reducible exact listenAfter_keeps (releaseSeat_keeps (Keeps.put h4))
  · extract_lets +onlyGivenNames s5 s6 s7
    have h7 : Keeps s0 s7 := Keeps.ite (fun _ => Keeps.put h) (fun _ => Keeps.put h)
    clear_value s7
    with_reducible exact listenAfter_keeps (releaseSeat_keeps (Keeps.put h7))
  · with_reducible exact restartLink_keeps (releaseSeat_keeps (domOff_keeps (faultSent_keeps (Keeps.put h))))
  · with_reducible exact restartLink_keeps (releaseSeat_keeps (alarmSent_keeps (domOff_keeps (Keeps.put h))))

theorem execTransmissionEnd_keeps {s0 smp s} (h : Keeps s0 s) : KeepsO s0 (execTransmissionEnd smp s) := by
  unfold execTransmissionEnd
  split
  · with_reducible exact KeepsO.next h
  · extract_lets +onlyGivenNames s2 s3
    with_reducible exact done_keeps (afterFrame_keeps (by
      beta_reduce
      with_reducible exact Keeps.put (sample_keeps h)))

theorem loseFrame_keeps {s0 s} (h : Keeps s0 s) : Keeps s0 (loseFrame s) := by
  unfold loseFrame
  split
  · with_reducible exact h
  · extract_lets +onlyGivenNames s2 s3 s4 s5
    have h5 : Keeps s0 s5 := restSequencer_keeps (Keeps.put h)
    clear_value s5
    split
    · with_reducible exact releaseSeat_keeps (closeWindow_keeps h5)
    · with_reducible exact releaseSeat_keeps h5
    · with_reducible exact releaseSeat_keeps (closeWindow_keeps (Keeps.put h5))
    · split
      · with_reducible exact procFinish_keeps h5
      · with_reducible exact restartLink_keeps (releaseSeat_keeps h5)
    · with_reducible exact tellDropped_keeps h5

theorem execVresTxFloor_keeps {s0 s} (h : Keeps s0 s) : KeepsO s0 (execVresTxFloor s) := by
  unfold execVresTxFloor
  with_reducible exact done_keeps (loseFrame_keeps h)

theorem abandonUse_keeps {s0 s} (h : Keeps s0 s) : Keeps s0 (abandonUse s) := by
  unfold abandonUse
  extract_lets +onlyGivenNames s1
  with_reducible exact Keeps.ite (fun _ => (by
    extract_lets +onlyGivenNames s4
    have h4 : Keeps s0 s4 := logEvent_keeps (Keeps.put h)
    clear_value s4
    with_reducible exact closeWindow_keeps (by
      split
      · with_reducible exact heedDrop_keeps h4
      · with_reducible exact h4))) (fun _ => (by
    split
    · with_reducible exact tellDropped_keeps (logEvent_keeps (Keeps.put h))
    · with_reducible exact h))

theorem execSynthLockTimeout_keeps {s0 s} (h : Keeps s0 s) : KeepsO s0 (execSynthLockTimeout s) := by
  unfold execSynthLockTimeout
  with_reducible exact KeepsO.ite (fun _ => KeepsO.next h) (fun _ => (by
    extract_lets +onlyGivenNames s2 s3 s4 s5
    have h5 : Keeps s0 s5 := calibrateSynth_keeps (Keeps.put h)
    clear_value s5
    with_reducible exact KeepsO.ite (fun _ => KeepsO.next (Keeps.put h5)) (fun _ => done_keeps (abandonUse_keeps h5))))

theorem execReplyWindowOpen_keeps {s0 s} (h : Keeps s0 s) : KeepsO s0 (execReplyWindowOpen s) := by
  unfold execReplyWindowOpen
  with_reducible exact KeepsO.ite (fun _ => KeepsO.next h) (fun _ => onTimer_keeps (fun x2 h3 => openWindow_keeps (receiverOff_keeps (Keeps.put h3))) h)

theorem execReplyWindowClose_keeps {s0 s} (h : Keeps s0 s) : KeepsO s0 (execReplyWindowClose s) := by
  unfold execReplyWindowClose
  with_reducible exact KeepsO.ite (fun _ => done_keeps (closeWindow_keeps h)) (fun _ => KeepsO.next h)

theorem measureOpen_keeps {s0 s} (h : Keeps s0 s) : Keeps s0 (measureOpen s) := by
  unfold measureOpen
  split
  · rename_i y2_0 y2_1 y2_2 y2_3
    split
    · rename_i y3_0 y3_1 y3_2 y3_3
      with_reducible exact Keeps.put ((Keeps.of_pair1 y3_3 (draw_keeps ((Keeps.of_pair1 y2_3 (draw_keeps h))))))

theorem execEn13757AckReceived_keeps {s0 frame s} (h : Keeps s0 s) : KeepsO s0 (execEn13757AckReceived frame s) := by
  unfold execEn13757AckReceived
  with_reducible exact KeepsO.ite (fun _ => KeepsO.next h) (fun _ => (by
    extract_lets +onlyGivenNames s2 s3 s4 s5
    have h5 : Keeps s0 s5 := measureOpen_keeps h
    clear_value s5
    with_reducible exact done_keeps (closeWindow_keeps (Keeps.put h5))))

theorem execSequencerCommand_keeps {s0 smp s} (h : Keeps s0 s) : KeepsO s0 (execSequencerCommand smp s) := by
  unfold execSequencerCommand
  with_reducible exact KeepsO.ite (fun _ => (by
    extract_lets +onlyGivenNames s3
    have h3 : Keeps s0 s3 := pumpSequencer_keeps (sample_keeps h)
    clear_value s3
    split
    · with_reducible exact KeepsO.ite (fun _ => done_keeps h3) (fun _ => done_keeps (sequencerSend_keeps (Keeps.put h3)))
    · with_reducible exact done_keeps h3)) (fun _ => KeepsO.next h)

theorem resetLink_keeps {s0 s} (h : Keeps s0 s) : Keeps s0 (resetLink s) := by
  unfold resetLink
  extract_lets +onlyGivenNames s1 s2
  have h2 : Keeps s0 s2 := receiverOff_keeps h
  clear_value s2
  with_reducible exact onlyIf_keeps (fun x4 h5 => releaseSeat_keeps h5) (releaseSeat_keeps (domOff_keeps (Keeps.put h2)))

theorem execSequencerTakeover_keeps {s0 s} (h : Keeps s0 s) : KeepsO s0 (execSequencerTakeover s) := by
  unfold execSequencerTakeover
  split
  · with_reducible exact KeepsO.next h
  · with_reducible exact done_keeps (sequencerSend_keeps (by
      beta_reduce
      with_reducible exact Keeps.put (logEvent_keeps (resetLink_keeps h))))

theorem execLegacyTelegramDue_keeps {s0 smp s} (h : Keeps s0 s) : KeepsO s0 (execLegacyTelegramDue smp s) := by
  unfold execLegacyTelegramDue
  with_reducible exact KeepsO.ite (fun _ => KeepsO.next h) (fun _ => onTimer_keeps (fun x4 h5 => queueTx_keeps (telegram_keeps (sample_keeps h5))) h)

/-! ## Link -/

theorem searchFailed_keeps {s0 s} (h : Keeps s0 s) : Keeps s0 (searchFailed s) := by
  unfold searchFailed
  extract_lets +onlyGivenNames s1 s2 s3
  have h3 : Keeps s0 s3 := logEvent_keeps (Keeps.put h)
  clear_value s3
  with_reducible exact queueTx_keeps (telegram_keeps h3)

theorem leaveParent_keeps {s0 s} (h : Keeps s0 s) : Keeps s0 (leaveParent s) := by
  unfold leaveParent
  split
  · with_reducible exact Keeps.ite (fun _ => startRole_keeps (applyCfg_keeps h)) (fun _ => becomeEndpoint_keeps (applyCfg_keeps h))
  · with_reducible exact becomeEndpoint_keeps h

theorem sendAck_keeps {s0 f st idx chan s} (h : Keeps s0 s) : Keeps s0 (sendAck f st idx chan s) := by
  unfold sendAck
  split
  · with_reducible exact h
  · with_reducible exact queueTx_keeps (receiverOff_keeps (secureFrame_keeps h))

theorem listenAfterExchange_keeps {s0 s} (h : Keeps s0 s) : Keeps s0 (listenAfterExchange s) := by
  unfold listenAfterExchange
  extract_lets +onlyGivenNames s1
  with_reducible exact listenAfter_keeps h

theorem finishExchange_keeps {s0 s} (h : Keeps s0 s) : Keeps s0 (finishExchange s) := by
  unfold finishExchange
  extract_lets +onlyGivenNames s1 s2 s3
  have h3 : Keeps s0 s3 := releaseSeat_keeps (receiverOff_keeps (listenAfterExchange_keeps (Keeps.put h)))
  clear_value s3
  with_reducible exact Keeps.ite (fun _ => h3) (fun _ => releaseSeat_keeps h3)

theorem countParentDay_keeps {s0 s} (h : Keeps s0 s) : Keeps s0 (countParentDay s) := by
  unfold countParentDay
  with_reducible exact Keeps.ite (fun _ => Keeps.put h) (fun _ => h)

theorem ownUpload_keeps {s0 s} (h : Keeps s0 s) : Keeps s0 (ownUpload s) := by
  unfold ownUpload
  with_reducible exact Keeps.ite (fun _ => csOwn_keeps h) (fun _ => h)

theorem restartBulk_keeps {s0 s} (h : Keeps s0 s) : Keeps s0 (restartBulk s) := by
  unfold restartBulk
  with_reducible exact Keeps.put h

theorem nextSuperframe_keeps {s0 b smp s} (h : Keeps s0 s) : Keeps s0 (nextSuperframe b smp s) := by
  unfold nextSuperframe
  extract_lets +onlyGivenNames s2
  have h2 : Keeps s0 s2 := sample_keeps h
  clear_value s2
  extract_lets +onlyGivenNames s3
  have h3 : Keeps s0 s3 := endServedSlot_keeps h2
  clear_value s3
  extract_lets +onlyGivenNames s4 s5 s6 s7
  have h7 : Keeps s0 s7 := restartBulk_keeps (Keeps.put h3)
  clear_value s7
  extract_lets +onlyGivenNames s8
  have h8 : Keeps s0 s8 := Keeps.ite (fun _ => h7) (fun _ => applyCfg_keeps h7)
  clear_value s8
  extract_lets +onlyGivenNames s9
  have h9 : Keeps s0 s9 := ownUpload_keeps (countParentDay_keeps h8)
  clear_value s9
  with_reducible exact Keeps.ite (fun _ => leaveParent_keeps h9) (fun _ => h9)

theorem execSuperframeBoundary_keeps {s0 smp s} (h : Keeps s0 s) : KeepsO s0 (execSuperframeBoundary smp s) := by
  unfold execSuperframeBoundary
  split
  · with_reducible exact KeepsO.next h
  · with_reducible exact KeepsO.ite (fun _ => KeepsO.next h) (fun _ => onTimer_keeps (fun x5 h6 => nextSuperframe_keeps h6) h)

theorem queueBeacon_keeps {s0 b s} (h : Keeps s0 s) : Keeps s0 (queueBeacon b s) := by
  unfold queueBeacon
  split
  · with_reducible exact h
  · split
    · rename_i y2_0 y2_1 y2_2 y2_3 y2_4
      extract_lets +onlyGivenNames s3 s4
      with_reducible exact requestsTogether_keeps (fun x5 h6 => postSeat_keeps (onlyIf_keeps (fun x7 h8 => postSeat_keeps h8) h6)) (queueTx_keeps (Keeps.put ((Keeps.of_pair2 y2_4 (secureFrame_keeps h)))))

theorem execBeaconRequest_keeps {s0 smp s} (h : Keeps s0 s) : KeepsO s0 (execBeaconRequest smp s) := by
  unfold execBeaconRequest
  split
  · with_reducible exact KeepsO.next h
  · with_reducible exact KeepsO.ite (fun _ => KeepsO.next h) (fun _ => onTimer_keeps (fun x2 h3 => queueBeacon_keeps (endServedSlot_keeps (sample_keeps h3))) h)

theorem beaconTime_keeps {s0 p air s} (h : Keeps s0 s) : Keeps s0 (beaconTime p air s) := by
  unfold beaconTime
  with_reducible exact Keeps.ite (fun _ => offerTime_keeps h) (fun _ => h)

theorem newParent_keeps {s0 src s} (h : Keeps s0 s) : Keeps s0 (newParent src s) := by
  unfold newParent
  extract_lets +onlyGivenNames s1 s2
  with_reducible exact Keeps.ite (fun _ => logEvent_keeps (Keeps.put h)) (fun _ => h)

theorem searchFound_keeps {s0 src s} (h : Keeps s0 s) : Keeps s0 (searchFound src s) := by
  unfold searchFound
  split
  · with_reducible exact h
  · with_reducible exact logEvent_keeps (Keeps.put h)

theorem alarmExchange_keeps {s0 s} (h : Keeps s0 s) : Keeps s0 (alarmExchange s) := by
  unfold alarmExchange
  split
  · with_reducible exact Keeps.ite (fun _ => (by
      split
      · with_reducible exact startExchange_keeps (secureFrame_keeps (drawK_keeps h))
      · with_reducible exact searchFailed_keeps h)) (fun _ => h)
  · with_reducible exact h

theorem sendPoll_keeps {s0 s} (h : Keeps s0 s) : Keeps s0 (sendPoll s) := by
  unfold sendPoll
  extract_lets +onlyGivenNames s2 s3
  split
  · split
    · rename_i y4_0 y4_1 y4_2 y4_3 y4_4
      with_reducible exact startExchange_keeps (Keeps.put ((Keeps.of_pair2 y4_4 (secureFrame_keeps h))))
  · with_reducible exact searchFailed_keeps (uploadFailed_keeps (Keeps.put h))

theorem movedUpload_keeps {s0 s} (h : Keeps s0 s) : Keeps s0 (movedUpload s) := by
  unfold movedUpload
  with_reducible exact Keeps.ite (fun _ => sendPoll_keeps h) (fun _ => h)

theorem acceptBeacon_keeps {s0 f air s} (h : Keeps s0 s) : Keeps s0 (acceptBeacon f air s) := by
  unfold acceptBeacon
  beta_reduce
  extract_lets +onlyGivenNames s2
  with_reducible exact saveLink_keeps (movedUpload_keeps (alarmExchange_keeps (closeWindow_keeps (Keeps.put (searchFound_keeps (beaconTime_keeps (contact_keeps (Keeps.put (newParent_keeps h)))))))))

theorem execBeacon_keeps {s0 f s} (h : Keeps s0 s) : KeepsO s0 (execBeacon f s) := by
  unfold execBeacon
  with_reducible exact KeepsO.ite (fun _ => KeepsO.next h) (fun _ => (by
    split
    · rename_i y3_0 y3_1 y3_2 y3_3
      split
      · with_reducible exact KeepsO.ite (fun _ => done_keeps (acceptBeacon_keeps (Keeps.of_pair1 y3_3 (receive_keeps h)))) (fun _ => done_keeps (Keeps.of_pair1 y3_3 (receive_keeps h)))
      · with_reducible exact done_keeps (Keeps.of_pair1 y3_3 (receive_keeps h))))

theorem openBeacon_keeps {s0 w s} (h : Keeps s0 s) : Keeps s0 (openBeacon w s) := by
  unfold openBeacon
  extract_lets +onlyGivenNames s2 s3 s4
  have h4 : Keeps s0 s4 := (by
    unfold s4
    split
    · with_reducible exact Keeps.put h
    · with_reducible exact h)
  clear_value s4
  with_reducible exact Keeps.ite (fun _ => h4) (fun _ => openWindow_keeps (Keeps.put h4))

theorem execBeaconWindowOpen_keeps {s0 s} (h : Keeps s0 s) : KeepsO s0 (execBeaconWindowOpen s) := by
  unfold execBeaconWindowOpen
  split
  · with_reducible exact onTimer_keeps (fun x2 h3 => openBeacon_keeps h3) h
  · with_reducible exact KeepsO.next h

theorem execBeaconWindowClose_keeps {s0 s} (h : Keeps s0 s) : KeepsO s0 (execBeaconWindowClose s) := by
  unfold execBeaconWindowClose
  with_reducible exact KeepsO.ite (fun _ => KeepsO.ite (fun _ => KeepsO.next h) (fun _ => done_keeps (closeWindow_keeps h))) (fun _ => KeepsO.ite (fun _ => (by
    extract_lets +onlyGivenNames s2 s3 s4 s5
    have h5 : Keeps s0 s5 := closeWindow_keeps (Keeps.put h)
    clear_value s5
    with_reducible exact done_keeps (Keeps.ite (fun _ => h5) (fun _ => beginSearch_keeps (logEvent_keeps h5))))) (fun _ => KeepsO.next h))

theorem execUploadDue_keeps {s0 smp s} (h : Keeps s0 s) : KeepsO s0 (execUploadDue smp s) := by
  unfold execUploadDue
  with_reducible exact KeepsO.ite (fun _ => KeepsO.next h) (fun _ => onTimer_keeps (fun x2 h3 => (by
    extract_lets +onlyGivenNames s4
    have h4 : Keeps s0 s4 := sample_keeps h3
    clear_value s4
    extract_lets +onlyGivenNames s5
    have h5 : Keeps s0 s5 := onlyIf_keeps (fun x6 h7 => uploadFailed_keeps h7) h4
    clear_value s5
    with_reducible exact Keeps.ite (fun _ => sendPoll_keeps h5) (fun _ => Keeps.put h5))) h)

theorem execJoinSend_keeps {s0 smp s} (h : Keeps s0 s) : KeepsO s0 (execJoinSend smp s) := by
  unfold execJoinSend
  with_reducible exact KeepsO.ite (fun _ => KeepsO.next h) (fun _ => onTimer_keeps (fun x4 h5 => (by
    extract_lets +onlyGivenNames s6
    have h6 : Keeps s0 s6 := sample_keeps h5
    clear_value s6
    split
    · with_reducible exact startExchange_keeps (secureFrame_keeps (drawK_keeps h6))
    · with_reducible exact searchFailed_keeps h6)) h)

theorem execAckWindowOpen_keeps {s0 s} (h : Keeps s0 s) : KeepsO s0 (execAckWindowOpen s) := by
  unfold execAckWindowOpen
  split
  · with_reducible exact KeepsO.next h
  · with_reducible exact KeepsO.ite (fun _ => KeepsO.next h) (fun _ => (by
      extract_lets +onlyGivenNames s4
      have h4 : Keeps s0 s4 := openWindow_keeps h
      clear_value s4
      with_reducible exact done_keeps (Keeps.put h4)))

theorem sendHandover_keeps {s0 s} (h : Keeps s0 s) : Keeps s0 (sendHandover s) := by
  unfold sendHandover
  split
  · with_reducible exact h
  · with_reducible exact Keeps.ite (fun _ => queueTx_keeps (Keeps.put (by
      try dsimp only
      split
      · with_reducible exact h
      · try dsimp only
        split
        · with_reducible exact secureFrame_keeps h
        · with_reducible exact h))) (fun _ => (by
      try dsimp only
      split
      · with_reducible exact h
      · try dsimp only
        split
        · with_reducible exact secureFrame_keeps h
        · with_reducible exact h))

theorem handoverAcked_keeps {s0 s} (h : Keeps s0 s) : Keeps s0 (handoverAcked s) := by
  unfold handoverAcked
  split
  · with_reducible exact h
  · with_reducible exact sendHandover_keeps (onlyIf_keeps (fun x4 h5 => csMap_keeps h5) (Keeps.put h))

theorem exchangeAcked_keeps {s0 x st idx s} (h : Keeps s0 s) : Keeps s0 (exchangeAcked x st idx s) := by
  unfold exchangeAcked
  split
  · with_reducible exact Keeps.ite (fun _ => saveLink_keeps (finishExchange_keeps (logEvent_keeps (Keeps.put h)))) (fun _ => searchFailed_keeps (finishExchange_keeps (logEvent_keeps h)))
  · extract_lets +onlyGivenNames s2 s3 s4
    have h4 : Keeps s0 s4 := Keeps.put h
    clear_value s4
    extract_lets +onlyGivenNames s5 s6
    have h6 : Keeps s0 s6 := (by
      unfold s6
      split
      · with_reducible exact markReported_keeps (Keeps.put h4)
      · with_reducible exact h4)
    clear_value s6
    extract_lets +onlyGivenNames s7
    have h7 : Keeps s0 s7 := finishExchange_keeps h6
    clear_value s7
    with_reducible exact Keeps.ite (fun _ => saveLink_keeps (Keeps.put h7)) (fun _ => h7)

theorem execAck_keeps {s0 f s} (h : Keeps s0 s) : KeepsO s0 (execAck f s) := by
  unfold execAck
  with_reducible exact KeepsO.ite (fun _ => KeepsO.next h) (fun _ => (by
    split
    · rename_i y3_0 y3_1 y3_2 y3_3
      split
      · with_reducible exact KeepsO.ite (fun _ => (by
          extract_lets +onlyGivenNames s7
          have h7 : Keeps s0 s7 := Keeps.ite (fun _ => contact_keeps (Keeps.of_pair1 y3_3 (receive_keeps h))) (fun _ => Keeps.of_pair1 y3_3 (receive_keeps h))
          clear_value s7
          split
          · with_reducible exact done_keeps (exchangeAcked_keeps h7)
          · with_reducible exact done_keeps (handoverAcked_keeps (releaseSeat_keeps (receiverOff_keeps (Keeps.put h7)))))) (fun _ => done_keeps (Keeps.of_pair1 y3_3 (receive_keeps h)))
      · with_reducible exact done_keeps (Keeps.of_pair1 y3_3 (receive_keeps h))))

theorem exchangeFailed_keeps {s0 x s} (h : Keeps s0 s) : Keeps s0 (exchangeFailed x s) := by
  unfold exchangeFailed
  with_reducible exact finishExchange_keeps (Keeps.ite (fun _ => h) (fun _ => uploadFailed_keeps h))

theorem execAckWindowClose_keeps {s0 s} (h : Keeps s0 s) : KeepsO s0 (execAckWindowClose s) := by
  unfold execAckWindowClose
  with_reducible exact KeepsO.ite (fun _ => KeepsO.next h) (fun _ => (by
    extract_lets +onlyGivenNames s3 s4
    have h4 : Keeps s0 s4 := receiverOff_keeps (Keeps.put h)
    clear_value s4
    split
    · with_reducible exact KeepsO.ite (fun _ => done_keeps (sendBase_keeps (Keeps.put (drawK_keeps h4)))) (fun _ => done_keeps (exchangeFailed_keeps (drawK_keeps h4)))
    · with_reducible exact done_keeps (Keeps.ite (fun _ => sendHandover_keeps h4) (fun _ => h4))))

theorem searchLost_keeps {s0 k s} (h : Keeps s0 s) : Keeps s0 (searchLost k s) := by
  unfold searchLost
  with_reducible exact Keeps.ite (fun _ => Keeps.ite (fun _ => becomeParent_keeps h) (fun _ => (by
    extract_lets +onlyGivenNames s5
    with_reducible exact becomeParent_keeps (Keeps.put h)))) (fun _ => Keeps.ite (fun _ => Keeps.put h) (fun _ => searchFailed_keeps h))

theorem execSearchEnd_keeps {s0 s} (h : Keeps s0 s) : KeepsO s0 (execSearchEnd s) := by
  unfold execSearchEnd
  split
  · with_reducible exact KeepsO.next h
  · with_reducible exact onTimer_keeps (fun x3 h4 => searchLost_keeps (closeWindow_keeps h4)) h

theorem execSearchRetryDue_keeps {s0 s} (h : Keeps s0 s) : KeepsO s0 (execSearchRetryDue s) := by
  unfold execSearchRetryDue
  with_reducible exact KeepsO.ite (fun _ => onTimer_keeps (fun x4 h5 => beginSearch_keeps h5) h) (fun _ => KeepsO.next h)

theorem execFallbackTelegramDue_keeps {s0 smp s} (h : Keeps s0 s) : KeepsO s0 (execFallbackTelegramDue smp s) := by
  unfold execFallbackTelegramDue
  with_reducible exact KeepsO.ite (fun _ => onTimer_keeps (fun x4 h5 => queueTx_keeps (Keeps.put (telegram_keeps (sample_keeps h5)))) h) (fun _ => KeepsO.next h)

theorem execDeputyPromotion_keeps {s0 s} (h : Keeps s0 s) : KeepsO s0 (execDeputyPromotion s) := by
  unfold execDeputyPromotion
  with_reducible exact KeepsO.ite (fun _ => KeepsO.next h) (fun _ => onTimer_keeps (fun x4 h5 => becomeParent_keeps (logEvent_keeps (Keeps.put h5))) h)

theorem heardFrom_keeps {s0 src telday rs s} (h : Keeps s0 s) : Keeps s0 (heardFrom src telday rs s) := by
  unfold heardFrom
  with_reducible exact Keeps.put h

theorem acceptPoll_keeps {s0 x s} (h : Keeps s0 s) : Keeps s0 (acceptPoll x s) := by
  unfold acceptPoll
  extract_lets +onlyGivenNames s2 s3 s4 s5
  split
  · with_reducible exact sendAck_keeps h
  · extract_lets +onlyGivenNames s6 s7
    have h7 : Keeps s0 s7 := sendAck_keeps (csStore_keeps (heardFrom_keeps (Keeps.put h)))
    clear_value s7
    with_reducible exact Keeps.ite (fun _ => becomeEndpoint_keeps h7) (fun _ => h7)

theorem execPoll_keeps {s0 f s} (h : Keeps s0 s) : KeepsO s0 (execPoll f s) := by
  unfold execPoll
  with_reducible exact KeepsO.ite (fun _ => KeepsO.next h) (fun _ => (by
    extract_lets +onlyGivenNames s2
    have h2 : Keeps s0 s2 := followReceiver_keeps h
    clear_value s2
    with_reducible exact KeepsO.ite (fun _ => done_keeps h2) (fun _ => (by
      split
      · rename_i y3_0 y3_1 y3_2 y3_3
        split
        · with_reducible exact done_keeps (Keeps.ite (fun _ => acceptPoll_keeps ((Keeps.of_pair1 y3_3 (receive_keeps h2)))) (fun _ => (Keeps.of_pair1 y3_3 (receive_keeps h2))))
        · with_reducible exact done_keeps (Keeps.ite (fun _ => sendAck_keeps ((Keeps.of_pair1 y3_3 (receive_keeps h2)))) (fun _ => (Keeps.of_pair1 y3_3 (receive_keeps h2))))
        · with_reducible exact done_keeps ((Keeps.of_pair1 y3_3 (receive_keeps h2)))))))

theorem execPollSlotEnd_keeps {s0 s} (h : Keeps s0 s) : KeepsO s0 (execPollSlotEnd s) := by
  unfold execPollSlotEnd
  with_reducible exact KeepsO.ite (fun _ => KeepsO.next h) (fun _ => (by
    extract_lets +onlyGivenNames s2
    have h2 : Keeps s0 s2 := followReceiver_keeps h
    clear_value s2
    split
    · with_reducible exact KeepsO.ite (fun _ => done_keeps h2) (fun _ => done_keeps (endSlot_keeps h2))
    · split
      · with_reducible exact done_keeps (Keeps.put h2)
      · with_reducible exact done_keeps h2))

theorem acceptJoin_keeps {s0 x s} (h : Keeps s0 s) : Keeps s0 (acceptJoin x s) := by
  unfold acceptJoin
  extract_lets +onlyGivenNames s1
  split
  · with_reducible exact sendAck_keeps h
  · extract_lets +onlyGivenNames s3
    with_reducible exact sendAck_keeps (Keeps.put h)

theorem execJoin_keeps {s0 f s} (h : Keeps s0 s) : KeepsO s0 (execJoin f s) := by
  unfold execJoin
  with_reducible exact KeepsO.ite (fun _ => KeepsO.next h) (fun _ => (by
    extract_lets +onlyGivenNames s2
    have h2 : Keeps s0 s2 := followReceiver_keeps h
    clear_value s2
    with_reducible exact KeepsO.ite (fun _ => done_keeps h2) (fun _ => (by
      split
      · rename_i y3_0 y3_1 y3_2 y3_3
        split
        · with_reducible exact done_keeps (Keeps.ite (fun _ => acceptJoin_keeps ((Keeps.of_pair1 y3_3 (receive_keeps h2)))) (fun _ => (Keeps.of_pair1 y3_3 (receive_keeps h2))))
        · extract_lets +onlyGivenNames s4
          with_reducible exact done_keeps (Keeps.ite (fun _ => sendAck_keeps ((Keeps.of_pair1 y3_3 (receive_keeps h2)))) (fun _ => (Keeps.of_pair1 y3_3 (receive_keeps h2))))
        · with_reducible exact done_keeps ((Keeps.of_pair1 y3_3 (receive_keeps h2)))))))

theorem execMemberRemoval_keeps {s0 index s} (h : Keeps s0 s) : KeepsO s0 (execMemberRemoval index s) := by
  unfold execMemberRemoval
  split
  · with_reducible exact KeepsO.ite (fun _ => onTimer_keeps (fun x5 h6 => logEvent_keeps (Keeps.put h6)) h) (fun _ => KeepsO.next h)
  · with_reducible exact KeepsO.next h

theorem execHandoverChoice_keeps {s0 s} (h : Keeps s0 s) : KeepsO s0 (execHandoverChoice s) := by
  unfold execHandoverChoice
  with_reducible exact KeepsO.ite (fun _ => KeepsO.next h) (fun _ => onTimer_keeps (fun x4 h5 => (by
    split
    · with_reducible exact Keeps.ite (fun _ => h5) (fun _ => (by
        extract_lets +onlyGivenNames s9 s10
        with_reducible exact Keeps.put h5))
    · with_reducible exact h5)) h)

theorem execHandoverTransferStart_keeps {s0 s} (h : Keeps s0 s) : KeepsO s0 (execHandoverTransferStart s) := by
  unfold execHandoverTransferStart
  with_reducible exact KeepsO.ite (fun _ => KeepsO.next h) (fun _ => onTimer_keeps (fun x4 h5 => sendHandover_keeps (Keeps.put h5)) h)

theorem takeItems_keeps {s0 a a1 a2 a3} (h : Keeps s0 a3) : Keeps s0 (takeItems a a1 a2 a3) := by
  induction a generalizing a1 a2 a3 with
  | zero => exact h
  | succ n ih =>
    unfold takeItems
    split
    · exact h
    · split
      · exact ih (Keeps.put h)
      · exact ih (Keeps.put h)
      · exact ih (csAdd_keeps h)
      · exact Keeps.put h

theorem acceptHandover_keeps {s0 x s} (h : Keeps s0 s) : Keeps s0 (acceptHandover x s) := by
  unfold acceptHandover
  extract_lets +onlyGivenNames s1 s2 s3 s4
  have h4 : Keeps s0 s4 := Keeps.put h
  clear_value s4
  beta_reduce
  with_reducible exact Keeps.put (sendAck_keeps (takeItems_keeps h4))

theorem handoverAgain_keeps {s0 x s} (h : Keeps s0 s) : Keeps s0 (handoverAgain x s) := by
  unfold handoverAgain
  extract_lets +onlyGivenNames s2 s3 s4
  with_reducible exact sendAck_keeps (Keeps.put h)

theorem execHandover_keeps {s0 f s} (h : Keeps s0 s) : KeepsO s0 (execHandover f s) := by
  unfold execHandover
  with_reducible exact KeepsO.ite (fun _ => KeepsO.next h) (fun _ => (by
    extract_lets +onlyGivenNames s2
    have h2 : Keeps s0 s2 := followReceiver_keeps h
    clear_value s2
    with_reducible exact KeepsO.ite (fun _ => done_keeps h2) (fun _ => (by
      split
      · rename_i y3_0 y3_1 y3_2 y3_3
        split
        · with_reducible exact done_keeps (Keeps.ite (fun _ => acceptHandover_keeps ((Keeps.of_pair1 y3_3 (receive_keeps h2)))) (fun _ => (Keeps.of_pair1 y3_3 (receive_keeps h2))))
        · with_reducible exact done_keeps (Keeps.ite (fun _ => handoverAgain_keeps ((Keeps.of_pair1 y3_3 (receive_keeps h2)))) (fun _ => (Keeps.of_pair1 y3_3 (receive_keeps h2))))
        · with_reducible exact done_keeps ((Keeps.of_pair1 y3_3 (receive_keeps h2)))))))

theorem copyMarks_keeps {s0 s} (h : Keeps s0 s) : Keeps s0 (copyMarks s) := by
  unfold copyMarks
  with_reducible exact saveLink_keeps (Keeps.put h)

theorem transferEnd_keeps {s0 s} (h : Keeps s0 s) : Keeps s0 (transferEnd s) := by
  unfold transferEnd
  extract_lets +onlyGivenNames s1 s2 s3
  have h3 : Keeps s0 s3 := copyMarks_keeps (releaseSeat_keeps (releaseSeat_keeps (receiverOff_keeps (Keeps.put h))))
  clear_value s3
  with_reducible exact Keeps.ite (fun _ => logEvent_keeps (Keeps.put h3)) (fun _ => (by
    extract_lets +onlyGivenNames s6 s7 s8 s9 s10
    have h10 : Keeps s0 s10 := logEvent_keeps (Keeps.put h3)
    clear_value s10
    with_reducible exact Keeps.ite (fun _ => becomeEndpoint_keeps h10) (fun _ => (by
      split
      · with_reducible exact leaveParent_keeps h10
      · with_reducible exact h10))))

theorem execHandoverTransferEnd_keeps {s0 s} (h : Keeps s0 s) : KeepsO s0 (execHandoverTransferEnd s) := by
  unfold execHandoverTransferEnd
  with_reducible exact KeepsO.ite (fun _ => KeepsO.next h) (fun _ => onTimer_keeps (fun x4 h5 => Keeps.ite (fun _ => transferEnd_keeps h5) (fun _ => (by
    extract_lets +onlyGivenNames s8
    have h8 : Keeps s0 s8 := closeWindow_keeps (copyMarks_keeps h5)
    clear_value s8
    with_reducible exact Keeps.ite (fun _ => Keeps.put h8) (fun _ => Keeps.put h8)))) h)

theorem execHandoverH4Check_keeps {s0 s} (h : Keeps s0 s) : KeepsO s0 (execHandoverH4Check s) := by
  unfold execHandoverH4Check
  with_reducible exact KeepsO.ite (fun _ => KeepsO.next h) (fun _ => onTimer_keeps (fun x4 h5 => (by
    extract_lets +onlyGivenNames s6 s7 s8
    have h8 : Keeps s0 s8 := closeWindow_keeps (Keeps.put h5)
    clear_value s8
    with_reducible exact Keeps.ite (fun _ => Keeps.put h8) (fun _ => becomeParent_keeps h8))) h)

theorem execMarksCopy_keeps {s0 s} (h : Keeps s0 s) : KeepsO s0 (execMarksCopy s) := by
  unfold execMarksCopy
  with_reducible exact onTimer_keeps (fun x2 h3 => copyMarks_keeps h3) h

theorem openListen_keeps {s0 hz num s} (h : Keeps s0 s) : Keeps s0 (openListen hz num s) := by
  unfold openListen
  extract_lets +onlyGivenNames s2 s3
  have h3 : Keeps s0 s3 := openWindow_keeps (Keeps.put h)
  clear_value s3
  with_reducible exact Keeps.ite (fun _ => Keeps.put h3) (fun _ => releaseSeat_keeps h3)

theorem execListenWindowOpen_keeps {s0 s} (h : Keeps s0 s) : KeepsO s0 (execListenWindowOpen s) := by
  unfold execListenWindowOpen
  split
  · with_reducible exact KeepsO.next h
  · with_reducible exact KeepsO.ite (fun _ => KeepsO.next h) (fun _ => onTimer_keeps (fun x2 h3 => openListen_keeps h3) h)

theorem execListenWindowClose_keeps {s0 s} (h : Keeps s0 s) : KeepsO s0 (execListenWindowClose s) := by
  unfold execListenWindowClose
  with_reducible exact KeepsO.ite (fun _ => KeepsO.next h) (fun _ => (by
    extract_lets +onlyGivenNames s2 s3
    have h3 : Keeps s0 s3 := Keeps.put h
    clear_value s3
    with_reducible exact done_keeps (Keeps.ite (fun _ => receiverOff_keeps h3) (fun _ => closeWindow_keeps h3))))

/-! ## Display -/

theorem glassSample_keeps {s0 mv s} (h : Keeps s0 s) : Keeps s0 (glassSample mv s) := by
  unfold glassSample
  extract_lets +onlyGivenNames s1
  with_reducible exact onlyIf_keeps (fun x3 h4 => logEvent_keeps h4) (Keeps.put h)

theorem positiveFrame_keeps {s0 s} (h : Keeps s0 s) : Keeps s0 (positiveFrame s) := by
  unfold positiveFrame
  with_reducible exact Keeps.put h

theorem execGlassFrame_keeps {s0 vlcdMv failing s} (h : Keeps s0 s) : KeepsO s0 (execGlassFrame vlcdMv failing s) := by
  unfold execGlassFrame
  with_reducible exact KeepsO.ite (fun _ => KeepsO.next h) (fun _ => (by
    extract_lets +onlyGivenNames s3
    have h3 : Keeps s0 s3 := readBack_keeps (glassSample_keeps h)
    clear_value s3
    extract_lets +onlyGivenNames s4 s5 s6 s7
    have h7 : Keeps s0 s7 := Keeps.put h3
    clear_value s7
    with_reducible exact KeepsO.ite (fun _ => KeepsO.ite (fun _ => KeepsO.next (Keeps.put h7)) (fun _ => KeepsO.next (positiveFrame_keeps h7))) (fun _ => KeepsO.next h7)))

theorem execDisplayIdleTimeout_keeps {s0 s} (h : Keeps s0 s) : KeepsO s0 (execDisplayIdleTimeout s) := by
  unfold execDisplayIdleTimeout
  with_reducible exact KeepsO.ite (fun _ => KeepsO.next h) (fun _ => onTimer_keeps (fun x4 h5 => Keeps.put h5) h)

theorem execSegmentTestEnd_keeps {s0 s} (h : Keeps s0 s) : KeepsO s0 (execSegmentTestEnd s) := by
  unfold execSegmentTestEnd
  with_reducible exact KeepsO.ite (fun _ => KeepsO.ite (fun _ => onTimer_keeps (fun x6 h7 => Keeps.put h7) h) (fun _ => done_keeps (Keeps.put h))) (fun _ => KeepsO.next h)

theorem emissiveNext_keeps {s0 s} (h : Keeps s0 s) : Keeps s0 (emissiveNext s) := by
  unfold emissiveNext
  with_reducible exact Keeps.ite (fun _ => h) (fun _ => (by
    extract_lets +onlyGivenNames s2
    have h2 : Keeps s0 s2 := displaySeat_keeps h
    clear_value s2
    with_reducible exact Keeps.ite (fun _ => h2) (fun _ => Keeps.put h2)))

theorem emissiveStop_keeps {s0 s} (h : Keeps s0 s) : Keeps s0 (emissiveStop s) := by
  unfold emissiveStop
  with_reducible exact onlyIf_keeps (fun x2 h3 => releaseSeat_keeps h3) (Keeps.put h)

theorem emissivePress_keeps {s0 s} (h : Keeps s0 s) : Keeps s0 (emissivePress s) := by
  unfold emissivePress
  with_reducible exact Keeps.ite (fun _ => (by
    extract_lets +onlyGivenNames s3 s4 s5
    have h5 : Keeps s0 s5 := Keeps.put h
    clear_value s5
    with_reducible exact Keeps.ite (fun _ => h5) (fun _ => emissiveNext_keeps h5))) (fun _ => h)

theorem execEmissiveFrame_keeps {s0 smp failing s} (h : Keeps s0 s) : KeepsO s0 (execEmissiveFrame smp failing s) := by
  unfold execEmissiveFrame
  with_reducible exact KeepsO.ite (fun _ => KeepsO.next h) (fun _ => (by
    extract_lets +onlyGivenNames s3
    have h3 : Keeps s0 s3 := sample_keeps h
    clear_value s3
    with_reducible exact KeepsO.ite (fun _ => (by
      extract_lets +onlyGivenNames s6 s7 s8 s9
      have h9 : Keeps s0 s9 := readBack_keeps (Keeps.put h3)
      clear_value s9
      with_reducible exact done_keeps (emissiveNext_keeps (releaseSeat_keeps h9)))) (fun _ => done_keeps (emissiveNext_keeps (evaluate_keeps h3)))))

theorem execEmissiveActivityEnd_keeps {s0 s} (h : Keeps s0 s) : KeepsO s0 (execEmissiveActivityEnd s) := by
  unfold execEmissiveActivityEnd
  with_reducible exact KeepsO.ite (fun _ => done_keeps (by
    extract_lets +onlyGivenNames s4
    have h4 : Keeps s0 s4 := emissiveStop_keeps h
    clear_value s4
    with_reducible exact Keeps.put h4)) (fun _ => KeepsO.next h)

theorem execBistableUpdateRequest_keeps {s0 region content smp s} (h : Keeps s0 s) : KeepsO s0 (execBistableUpdateRequest region content smp s) := by
  unfold execBistableUpdateRequest
  with_reducible exact KeepsO.ite (fun _ => done_keeps (regionRequest_keeps (sample_keeps h))) (fun _ => KeepsO.next h)

theorem compDone_keeps {s0 r s} (h : Keeps s0 s) : Keeps s0 (compDone r s) := by
  unfold compDone
  with_reducible exact Keeps.ite (fun _ => Keeps.foldl (fun x4 x5 h6 => setLedger_keeps h6) h) (fun _ => h)

theorem regionDone_keeps {s0 r s} (h : Keeps s0 s) : Keeps s0 (regionDone r s) := by
  unfold regionDone
  extract_lets +onlyGivenNames s1 s2 s3 s4 s5 s6
  have h6 : Keeps s0 s6 := updRegion_keeps (Keeps.put h)
  clear_value s6
  split
  · with_reducible exact regionRequest_keeps h6
  · with_reducible exact h6

theorem regionTick_keeps {s0 s r} (h : Keeps s0 s) : Keeps s0 (regionTick s r) := by
  unfold regionTick
  extract_lets +onlyGivenNames s1
  have h1 : Keeps s0 s1 := compDone_keeps (updRegion_keeps h)
  clear_value s1
  with_reducible exact Keeps.ite (fun _ => regionDone_keeps h1) (fun _ => h1)

theorem panelSeat_keeps {s0 s} (h : Keeps s0 s) : Keeps s0 (panelSeat s) := by
  unfold panelSeat
  with_reducible exact Keeps.ite (fun _ => (by
    extract_lets +onlyGivenNames s3
    have h3 : Keeps s0 s3 := Keeps.foldl (fun x5 x6 h7 => updRegion_keeps h7) h
    clear_value s3
    with_reducible exact requestPanelSeat_keeps (releaseSeat_keeps h3))) (fun _ => h)

theorem freshSeat_keeps {s0 s} (h : Keeps s0 s) : Keeps s0 (freshSeat s) := by
  unfold freshSeat
  split
  · with_reducible exact Keeps.ite (fun _ => Keeps.put h) (fun _ => h)
  · with_reducible exact h

theorem regionStart_keeps {s0 fresh s r} (h : Keeps s0 s) : Keeps s0 (regionStart fresh s r) := by
  unfold regionStart
  extract_lets +onlyGivenNames s1
  split
  · with_reducible exact updRegion_keeps h
  · with_reducible exact Keeps.ite (fun _ => compDone_keeps (updRegion_keeps h)) (fun _ => h)
  · with_reducible exact h

theorem phaseTick_keeps {s0 s} (h : Keeps s0 s) : Keeps s0 (phaseTick s) := by
  unfold phaseTick
  extract_lets +onlyGivenNames s1 s2 s3
  have h3 : Keeps s0 s3 := Keeps.foldl (fun x5 x6 h7 => regionTick_keeps h7) (Keeps.put h)
  extract_lets +onlyGivenNames s4
  have h4 : Keeps s0 s4 := Keeps.ite (fun _ => h3) (fun _ => panelSeat_keeps h3)
  extract_lets +onlyGivenNames s5 s6
  with_reducible exact Keeps.ite (fun _ => onlyIf_keeps (fun x10 h11 => releaseSeat_keeps h11) (Keeps.put h4)) (fun _ => Keeps.ite (fun _ => (by
    extract_lets +onlyGivenNames s11 s12
    have h12 : Keeps s0 s12 := freshSeat_keeps h4
    clear_value s12
    with_reducible exact Keeps.foldl (fun x14 x15 h16 => regionStart_keeps h16) h12)) (fun _ => h4))

theorem execBistablePhaseTick_keeps {s0 vp vn checks s} (h : Keeps s0 s) : KeepsO s0 (execBistablePhaseTick vp vn checks s) := by
  unfold execBistablePhaseTick
  with_reducible exact KeepsO.ite (fun _ => (by
    extract_lets +onlyGivenNames s3 s4 s5
    have h5 : Keeps s0 s5 := Keeps.put h
    clear_value s5
    extract_lets +onlyGivenNames s6
    have h6 : Keeps s0 s6 := Keeps.ite (fun _ => h5) (fun _ => readBack_keeps h5)
    clear_value s6
    with_reducible exact done_keeps (by
      extract_lets +onlyGivenNames s8
      have h8 : Keeps s0 s8 := phaseTick_keeps h6
      clear_value s8
      with_reducible exact Keeps.put h8))) (fun _ => KeepsO.next h)

theorem execBistableParkDischarge_keeps {s0 s} (h : Keeps s0 s) : KeepsO s0 (execBistableParkDischarge s) := by
  unfold execBistableParkDischarge
  with_reducible exact KeepsO.ite (fun _ => KeepsO.next h) (fun _ => (by
    extract_lets +onlyGivenNames s3
    have h3 : Keeps s0 s3 := parkEnd_keeps h
    clear_value s3
    split
    · with_reducible exact KeepsO.next (procAlarm_keeps h3)
    · with_reducible exact done_keeps h3))

/-! ## Map -/

theorem updReadPort_keeps {s0 p f s} (h : Keeps s0 s) : Keeps s0 (updReadPort p f s) := by
  unfold updReadPort
  split
  · with_reducible exact Keeps.put h
  · with_reducible exact Keeps.put h
  · with_reducible exact Keeps.put h

theorem latchBlock_keeps {s0 p b n s} (h : Keeps s0 s) : Keeps s0 (latchBlock p b n s) := by
  unfold latchBlock
  extract_lets +onlyGivenNames s1 s2 s3 s4 s5
  with_reducible exact updReadPort_keeps h

theorem countCorrected_keeps {s0 a s} (h : Keeps s0 s) : Keeps s0 (countCorrected a s) := by
  unfold countCorrected
  with_reducible exact Keeps.ite (fun _ => (by
    split
    · rename_i y2_0 y2_1 y2_2 y2_3
      with_reducible exact Keeps.put ((Keeps.of_pair1 y2_3 (draw_keeps h))))) (fun _ => h)

theorem valueWord_keeps {s0 p r a s} (h : Keeps s0 s) : Keeps s0 (valueWord p r a s).2 := by
  unfold valueWord
  try dsimp only
  split
  · with_reducible exact h
  · try dsimp only
    split
    · with_reducible exact updReadPort_keeps h
    · try dsimp only
      split
      · with_reducible exact Keeps.ite (fun _ => updReadPort_keeps h) (fun _ => h)
      · with_reducible exact h

theorem readWord_keeps {s0 p a s} (h : Keeps s0 s) : Keeps s0 (readWord p a s).2 := by
  unfold readWord
  have k : Keeps s0 (countCorrected a s) := countCorrected_keeps h
  dsimp only
  repeat' split
  all_goals first
    | exact h
    | exact k
    | exact valueWord_keeps k
    | exact latchBlock_keeps k

theorem readWords_keeps {s0 p a a2 a3} (h : Keeps s0 a3) : Keeps s0 (readWords p a a2 a3).2 := by
  induction a generalizing a2 a3 with
  | zero => exact h
  | succ n ih => exact ih (readWord_keeps h)

theorem askPower_keeps {s0 t p s} (h : Keeps s0 s) : Keeps s0 (askPower t p s) := by
  unfold askPower
  with_reducible exact Keeps.put h

theorem clearBits_keeps {s0 a v s} (h : Keeps s0 s) : Keeps s0 (clearBits a v s) := by
  unfold clearBits
  extract_lets +onlyGivenNames s1
  with_reducible exact Keeps.ite (fun _ => Keeps.put h) (fun _ => Keeps.ite (fun _ => Keeps.put h) (fun _ => Keeps.ite (fun _ => Keeps.put h) (fun _ => h)))

theorem scheduleZone_keeps {s0 v s} (h : Keeps s0 s) : Keeps s0 (scheduleZone v s) := by
  unfold scheduleZone
  with_reducible exact Keeps.ite (fun _ => Keeps.put h) (fun _ => h)

theorem writeWord_keeps {s0 p a v s} (h : Keeps s0 s) : Keeps s0 (writeWord p a v s) := by
  unfold writeWord
  with_reducible exact Keeps.ite (fun _ => clearBits_keeps h) (fun _ => Keeps.ite (fun _ => selectPage_keeps h) (fun _ => Keeps.ite (fun _ => Keeps.ite (fun _ => Keeps.put h) (fun _ => h)) (fun _ => Keeps.ite (fun _ => h) (fun _ => Keeps.ite (fun _ => Keeps.ite (fun _ => h) (fun _ => Keeps.ite (fun _ => askPower_keeps h) (fun _ => Keeps.ite (fun _ => askPower_keeps h) (fun _ => h)))) (fun _ => Keeps.ite (fun _ => scheduleZone_keeps h) (fun _ => Keeps.ite (fun _ => Keeps.put h) (fun _ => h)))))))

theorem writeWords_keeps {s0 p a a2 a3} (h : Keeps s0 a3) : Keeps s0 (writeWords p a a2 a3) := by
  induction a2 generalizing a a3 with
  | nil => exact h
  | cons w ws ih => exact ih (writeWord_keeps h)

theorem ackStore_keeps {s0 cenum sent s} (h : Keeps s0 s) : Keeps s0 (ackStore cenum sent s) := by
  unfold ackStore
  with_reducible exact csMap_keeps h

/-! ## Sessions -/

theorem sendSession_keeps {s0 u c0 k within p s} (h : Keeps s0 s) : Keeps s0 (sendSession u c0 k within p s) := by
  unfold sendSession
  with_reducible exact queueTx_keeps h

theorem execWakeWord_keeps {s0 word s} (h : Keeps s0 s) : KeepsO s0 (execWakeWord word s) := by
  unfold execWakeWord
  with_reducible exact KeepsO.ite (fun _ => done_keeps (closeWindow_keeps (Keeps.put h))) (fun _ => KeepsO.next h)

theorem execSessionHello_keeps {s0 smp s} (h : Keeps s0 s) : KeepsO s0 (execSessionHello smp s) := by
  unfold execSessionHello
  with_reducible exact KeepsO.ite (fun _ => KeepsO.next h) (fun _ => (by
    extract_lets +onlyGivenNames s3 s4
    have h4 : Keeps s0 s4 := sample_keeps (Keeps.put h)
    clear_value s4
    split
    · with_reducible exact done_keeps (releaseSeat_keeps h4)
    · with_reducible exact done_keeps (sendSession_keeps (Keeps.put (secureFrame_keeps (draw_keeps h4))))))

theorem sessionCommand_keeps {s0 code d x s} (h : Keeps s0 s) : Keeps s0 (sessionCommand code d x s).2.2.2 := by
  unfold sessionCommand
  extract_lets bad
  have hb : Keeps s0 bad.2.2.2 := h
  clear_value bad
  split
  · split
    · exact hb
    · generalize hq : readWords none (u8 d 2) (u16 d 0) s = q
      obtain ⟨ws, t⟩ := q
      exact Keeps.of_pair1 hq (readWords_keeps h)
  · split
    · exact hb
    · exact h
  · split
    · exact hb
    · exact h
  · split
    · exact hb
    · exact Keeps.put h
  · split
    · exact hb
    · exact ackStore_keeps h
  · split
    · exact hb
    · generalize hq : offerTime 4 (leNat (slice d 0 6)) (u32 d 6) s = q
      obtain ⟨ok, t⟩ := q
      exact Keeps.of_pair1 hq (offerTime_keeps h)
  · exact h
  · exact h

theorem noteReader_keeps {s0 src s} (h : Keeps s0 s) : Keeps s0 (noteReader src s) := by
  unfold noteReader
  split
  · with_reducible exact Keeps.ite (fun _ => logEvent_keeps (Keeps.put h)) (fun _ => h)
  · with_reducible exact h

theorem answerRequest_keeps {s0 f key s} (h : Keeps s0 s) : Keeps s0 (answerRequest f key s) := by
  unfold answerRequest
  extract_lets +onlyGivenNames s2
  have h2 : Keeps s0 s2 := noteReader_keeps (receiverOff_keeps h)
  clear_value s2
  split
  · with_reducible exact h2
  · extract_lets +onlyGivenNames s3
    split
    · rename_i y4_0 y4_1 y4_2 y4_3 y4_4 y4_5
      extract_lets +onlyGivenNames s5
      have h5 : Keeps s0 s5 := Keeps.ite (fun _ => (by
        split
        · rename_i y6_0 y6_1 y6_2 y6_3 y6_4
          with_reducible exact sendSession_keeps (Keeps.put ((Keeps.of_pair2 y6_4 (secureFrame_keeps ((Keeps.of_pair3 y4_5 (sessionCommand_keeps h2))))))))) (fun _ => (Keeps.of_pair3 y4_5 (sessionCommand_keeps h2)))
      clear_value s5
      with_reducible exact Keeps.ite (fun _ => closeSession_keeps h5) (fun _ => h5)

theorem sessionRequest_keeps {s0 f s} (h : Keeps s0 s) : KeepsO s0 (sessionRequest f s) := by
  unfold sessionRequest
  split
  · with_reducible exact KeepsO.next h
  · with_reducible exact KeepsO.ite (fun _ => KeepsO.next h) (fun _ => (by
      split
      · rename_i y4_0 y4_1 y4_2 y4_3 y4_4 y4_5 y4_6
        split
        · with_reducible exact KeepsO.ite (fun _ => done_keeps (answerRequest_keeps (Keeps.of_pair1 y4_6 (receive_keeps h)))) (fun _ => done_keeps (Keeps.of_pair1 y4_6 (receive_keeps h)))
        · with_reducible exact done_keeps (Keeps.of_pair1 y4_6 (receive_keeps h))
      · rename_i y4_0 y4_1 y4_2 y4_3 y4_4 y4_5 y4_6
        with_reducible exact KeepsO.ite (fun _ => done_keeps (sendSession_keeps (receiverOff_keeps (Keeps.of_pair1 y4_6 (receive_keeps h))))) (fun _ => done_keeps (Keeps.of_pair1 y4_6 (receive_keeps h)))
      · rename_i y4_0 y4_1 y4_2 y4_3 y4_4 y4_5
        with_reducible exact done_keeps (Keeps.of_pair1 y4_5 (receive_keeps h))))

theorem execSessionReadmap_keeps {s0 f s} (h : Keeps s0 s) : KeepsO s0 (execSessionReadmap f s) := by
  unfold execSessionReadmap
  with_reducible exact sessionRequest_keeps h

theorem execSessionReadprof_keeps {s0 f s} (h : Keeps s0 s) : KeepsO s0 (execSessionReadprof f s) := by
  unfold execSessionReadprof
  with_reducible exact sessionRequest_keeps h

theorem execSessionReadevt_keeps {s0 f s} (h : Keeps s0 s) : KeepsO s0 (execSessionReadevt f s) := by
  unfold execSessionReadevt
  with_reducible exact sessionRequest_keeps h

theorem execSessionReadstore_keeps {s0 f s} (h : Keeps s0 s) : KeepsO s0 (execSessionReadstore f s) := by
  unfold execSessionReadstore
  with_reducible exact sessionRequest_keeps h

theorem execSessionAckstore_keeps {s0 f s} (h : Keeps s0 s) : KeepsO s0 (execSessionAckstore f s) := by
  unfold execSessionAckstore
  with_reducible exact sessionRequest_keeps h

theorem execSessionTime_keeps {s0 f s} (h : Keeps s0 s) : KeepsO s0 (execSessionTime f s) := by
  unfold execSessionTime
  with_reducible exact sessionRequest_keeps h

theorem execSessionClose_keeps {s0 f s} (h : Keeps s0 s) : KeepsO s0 (execSessionClose f s) := by
  unfold execSessionClose
  with_reducible exact sessionRequest_keeps h

theorem execSessionTimeout_keeps {s0 s} (h : Keeps s0 s) : KeepsO s0 (execSessionTimeout s) := by
  unfold execSessionTimeout
  split
  · with_reducible exact done_keeps (closeSession_keeps h)
  · with_reducible exact KeepsO.ite (fun _ => done_keeps (Keeps.put h)) (fun _ => KeepsO.next h)

theorem execReaderFrameHeard_keeps {s0 src f s} (h : Keeps s0 s) : KeepsO s0 (execReaderFrameHeard src f s) := by
  unfold execReaderFrameHeard
  with_reducible exact KeepsO.ite (fun _ => KeepsO.next h) (fun _ => KeepsO.ite (fun _ => done_keeps (Keeps.put h)) (fun _ => (by
    extract_lets +onlyGivenNames s5 s6 s7
    have h7 : Keeps s0 s7 := Keeps.put h
    clear_value s7
    extract_lets +onlyGivenNames s8
    with_reducible exact KeepsO.ite (fun _ => done_keeps h7) (fun _ => (by
      extract_lets +onlyGivenNames s11
      with_reducible exact done_keeps (queueTx_keeps (receiverOff_keeps (Keeps.put h7))))))))

theorem readerRequest_keeps {s0 x k code d s} (h : Keeps s0 s) : Keeps s0 (readerRequest x k code d s) := by
  unfold readerRequest
  with_reducible exact Keeps.ite (fun _ => (by
    split
    · rename_i y2_0 y2_1 y2_2 y2_3 y2_4
      with_reducible exact sendSession_keeps (by
        extract_lets +onlyGivenNames s3
        have h3 : Keeps s0 s3 := receiverOff_keeps ((Keeps.of_pair2 y2_4 (secureFrame_keeps h)))
        clear_value s3
        with_reducible exact Keeps.put h3))) (fun _ => Keeps.put h)

theorem readerTime_keeps {s0 x k s} (h : Keeps s0 s) : Keeps s0 (readerTime x k s) := by
  unfold readerTime
  with_reducible exact readerRequest_keeps h

theorem readerNext_keeps {s0 x k ctr d s} (h : Keeps s0 s) : Keeps s0 (readerNext x k ctr d s) := by
  unfold readerNext
  split
  · with_reducible exact readerRequest_keeps h
  · extract_lets +onlyGivenNames s2
    have h2 : Keeps s0 s2 := csStore_keeps h
    clear_value s2
    with_reducible exact Keeps.ite (fun _ => readerRequest_keeps h2) (fun _ => readerTime_keeps h2)
  · with_reducible exact Keeps.ite (fun _ => readerTime_keeps h) (fun _ => (by
      extract_lets +onlyGivenNames s4
      with_reducible exact readerRequest_keeps (csStore_keeps h)))
  · with_reducible exact readerRequest_keeps h
  · with_reducible exact readerRequest_keeps h
  · with_reducible exact Keeps.put h

theorem execReaderSessionResponse_keeps {s0 f s} (h : Keeps s0 s) : KeepsO s0 (execReaderSessionResponse f s) := by
  unfold execReaderSessionResponse
  split
  · with_reducible exact KeepsO.next h
  · with_reducible exact KeepsO.ite (fun _ => KeepsO.next h) (fun _ => (by
      split
      · rename_i y4_0 y4_1 y4_2 y4_3 y4_4 y4_5 y4_6
        split
        · with_reducible exact KeepsO.ite (fun _ => done_keeps (Keeps.of_pair1 y4_6 (receive_keeps h))) (fun _ => KeepsO.ite (fun _ => (by
            split
            · with_reducible exact done_keeps (readerNext_keeps (Keeps.of_pair1 y4_6 (receive_keeps h)))
            · with_reducible exact done_keeps (Keeps.of_pair1 y4_6 (receive_keeps h)))) (fun _ => KeepsO.ite (fun _ => done_keeps (readerNext_keeps (Keeps.of_pair1 y4_6 (receive_keeps h)))) (fun _ => done_keeps (Keeps.of_pair1 y4_6 (receive_keeps h)))))
        · with_reducible exact done_keeps (Keeps.of_pair1 y4_6 (receive_keeps h))
      · rename_i y4_0 y4_1 y4_2 y4_3 y4_4 y4_5 y4_6 y4_7
        with_reducible exact done_keeps (Keeps.of_pair1 y4_7 (receive_keeps h))))

end Sys2Proof.Machine
end

