-- ==== Sys2Proof/Laws/KeepsSystem.lean ====
section
/-! SUPPORT. `Keeps` of the module, reload, service-port, line, power, fault and start operations and commands. -/

namespace Sys2Proof.Machine

/-! ## ModuleOps -/

theorem keepCrc_keeps {s0 n c s} (h : Keeps s0 s) : Keeps s0 (keepCrc n c s) := by
  unfold keepCrc
  with_reducible exact writeObject_keeps (Keeps.put h)

theorem portWords_keeps {s0 n fault x s} (h : Keeps s0 s) : Keeps s0 (portWords n fault x s) := by
  unfold portWords
  with_reducible exact Keeps.put h

theorem useRecord_keeps {s0 n bs s} (h : Keeps s0 s) : Keeps s0 (useRecord n bs s) := by
  unfold useRecord
  with_reducible exact Keeps.put h

theorem setUnavail_keeps {s0 bit b s} (h : Keeps s0 s) : Keeps s0 (setUnavail bit b s) := by
  unfold setUnavail
  with_reducible exact Keeps.put h

theorem radioAvailable_keeps {s0 ok s} (h : Keeps s0 s) : Keeps s0 (radioAvailable ok s) := by
  unfold radioAvailable
  with_reducible exact onlyIf_keeps (fun x2 h3 => closeWindow_keeps (Keeps.put h3)) (setUnavail_keeps (Keeps.put h))

theorem radioPasses_keeps {s0 s} (h : Keeps s0 s) : Keeps s0 (radioPasses s) := by
  unfold radioPasses
  extract_lets +onlyGivenNames s2 s3 s4 s5 s6
  have h6 : Keeps s0 s6 := calibrateSynth_keeps (Keeps.put h)
  clear_value s6
  with_reducible exact radioAvailable_keeps h6

theorem limitEvents_keeps {s0 n c cal s} (h : Keeps s0 s) : Keeps s0 (limitEvents n c cal s) := by
  unfold limitEvents
  with_reducible exact Keeps.ite (fun _ => logEvent_keeps h) (fun _ => Keeps.ite (fun _ => logEvent_keeps h) (fun _ => h))

theorem portFunction_keeps {s0 n m ok s} (h : Keeps s0 s) : Keeps s0 (portFunction n m ok s) := by
  unfold portFunction
  split
  · with_reducible exact Keeps.ite (fun _ => setUnavail_keeps h) (fun _ => h)
  · with_reducible exact loadMap_keeps h
  · with_reducible exact radioAvailable_keeps h
  · with_reducible exact h

theorem checkEvent_keeps {s0 n fault m s} (h : Keeps s0 s) : Keeps s0 (checkEvent n fault m s) := by
  unfold checkEvent
  extract_lets +onlyGivenNames s1
  with_reducible exact Keeps.ite (fun _ => h) (fun _ => Keeps.ite (fun _ => logEvent_keeps h) (fun _ => Keeps.ite (fun _ => logEvent_keeps h) (fun _ => Keeps.ite (fun _ => logEvent_keeps h) (fun _ => logEvent_keeps h))))

theorem checkModule_keeps {s0 c reload n r s} (h : Keeps s0 s) : Keeps s0 (checkModule c reload n r s) := by
  unfold checkModule
  split
  · with_reducible exact h
  · extract_lets +onlyGivenNames s2 s3 s4 s5 s6
    have h6 : Keeps s0 s6 := onlyIf_keeps (fun x7 h8 => limitEvents_keeps (useRecord_keeps h8)) (checkEvent_keeps (portWords_keeps h))
    clear_value s6
    with_reducible exact Keeps.ite (fun _ => portFunction_keeps h6) (fun _ => h6)

theorem checkModules_keeps {s0 c reload reads s} (h : Keeps s0 s) : Keeps s0 (checkModules c reload reads s) := by
  unfold checkModules
  extract_lets +onlyGivenNames s2
  have h2 : Keeps s0 s2 := Keeps.foldl (fun x3 x5 h4 => checkModule_keeps h4) h
  clear_value s2
  split
  · with_reducible exact enterSafeBeacon_keeps h2
  · with_reducible exact h2

theorem startPort_keeps {s0 stage n r s} (h : Keeps s0 s) : Keeps s0 (startPort stage n r s) := by
  unfold startPort
  extract_lets +onlyGivenNames s2 s3
  have h3 : Keeps s0 s3 := portWords_keeps h
  clear_value s3
  split
  · with_reducible exact logPlain_keeps (Keeps.put h3)
  · extract_lets +onlyGivenNames s4 s5
    have h5 : Keeps s0 s5 := portWords_keeps h
    clear_value s5
    with_reducible exact Keeps.ite (fun _ => (by
      extract_lets +onlyGivenNames s6
      with_reducible exact limitEvents_keeps (onlyIf_keeps (fun x7 h8 => keepCrc_keeps h8) (useRecord_keeps h5)))) (fun _ => (by
      extract_lets +onlyGivenNames s9
      with_reducible exact Keeps.ite (fun _ => logEvent_keeps h5) (fun _ => warn_keeps h5)))

theorem startFunctions_keeps {s0 s} (h : Keeps s0 s) : Keeps s0 (startFunctions s) := by
  unfold startFunctions
  extract_lets +onlyGivenNames s2 s3 s4 s5
  have h5 : Keeps s0 s5 := setUnavail_keeps h
  clear_value s5
  with_reducible exact onlyIf_keeps (fun x6 h7 => radioAvailable_keeps h7) (loadMap_keeps (Keeps.put h5))

/-! ## ReloadOps -/

theorem setSlot_keeps {s0 i bs s} (h : Keeps s0 s) : Keeps s0 (setSlot i bs s) := by
  unfold setSlot
  with_reducible exact Keeps.ite (fun _ => h) (fun _ => Keeps.ite (fun _ => Keeps.put h) (fun _ => Keeps.put h))

theorem slotWords_keeps {s0 i v s} (h : Keeps s0 s) : Keeps s0 (slotWords i v s) := by
  unfold slotWords
  extract_lets +onlyGivenNames s1 s2
  with_reducible exact Keeps.ite (fun _ => Keeps.put h) (fun _ => Keeps.put h)

theorem validateBoth_keeps {s0 rep s} (h : Keeps s0 s) : Keeps s0 (validateBoth rep s).2.2 := by
  unfold validateBoth
  with_reducible exact slotWords_keeps (slotWords_keeps h)

theorem setKeySlot_keeps {s0 n k s} (hk : (vget s.nv.otp n (.empty, 0)).1.rank ≤ k.1.rank) (h : Keeps s0 s) : Keeps s0 (setKeySlot n k s) := by
  unfold setKeySlot
  exact h.of id id (vupd_rank_slot hk) rfl rfl

theorem successorIgnored_keeps {s0 c s} (h : Keeps s0 s) : Keeps s0 (successorIgnored c s) := by
  unfold successorIgnored
  with_reducible exact Keeps.ite (fun _ => logPlain_keeps h) (fun _ => h)

theorem programSuccessor_keeps {s0 c s} (h : Keeps s0 s) : Keeps s0 (programSuccessor c s) := by
  unfold programSuccessor
  refine Keeps.ite (fun c => setKeySlot_keeps ?_ h) (fun _ => successorIgnored_keeps h)
  simp only [successorDue, Bool.and_eq_true, beq_iff_eq] at c
  rw [c.2]
  exact Nat.zero_le _

theorem revokeBelow_keeps {s0 c s} (h : Keeps s0 s) : Keeps s0 (revokeBelow c s) := by
  unfold revokeBelow
  refine h.of id id (fun i => ?_) rfl rfl
  simp only [Fin.getElem_fin, Vector.getElem_ofFn]
  split
  · exact KeySlot.rank_le_revoked _
  · exact Nat.le_refl _

theorem acceptFloor_keeps {s0 c image s} (h : Keeps s0 s) : Keeps s0 (acceptFloor c image s) := by
  unfold acceptFloor
  extract_lets +onlyGivenNames s2 s3 s4
  have h4 : Keeps s0 s4 := Keeps.ite (fun _ => h) (fun _ => Keeps.put h)
  clear_value s4
  with_reducible exact writeObject_keeps (addJob_keeps (Keeps.put h4))

theorem resetSwap_keeps {s0 s} (h : Keeps s0 s) : Keeps s0 (resetSwap s) := by
  unfold resetSwap
  with_reducible exact writeObject_keeps (Keeps.put h)

theorem reloadSelect_keeps {s0 i c rep s} (h : Keeps s0 s) : Keeps s0 (reloadSelect i c rep s) := by
  unfold reloadSelect
  split
  · extract_lets +onlyGivenNames s2
    have h2 : Keeps s0 s2 := checkModules_keeps h
    clear_value s2
    with_reducible exact Keeps.ite (fun _ => h2) (fun _ => (by
      extract_lets +onlyGivenNames s3 s4
      have h4 : Keeps s0 s4 := revokeBelow_keeps h2
      clear_value s4
      extract_lets +onlyGivenNames s5 s6
      have h6 : Keeps s0 s6 := Keeps.ite (fun _ => Keeps.ite (fun _ => programSuccessor_keeps h4) (fun _ => Keeps.put h4)) (fun _ => successorIgnored_keeps h4)
      clear_value s6
      with_reducible exact addJob_keeps (Keeps.put h6)))

theorem leaveSafeBeacon_keeps {s0 cause s} (h : Keeps s0 s) : Keeps s0 (leaveSafeBeacon cause s) := by
  unfold leaveSafeBeacon
  extract_lets +onlyGivenNames s1
  have h1 : Keeps s0 s1 := coldStart_keeps h
  clear_value s1
  with_reducible exact Keeps.put h1

theorem reloadComplete_keeps {s0 rep s} (h : Keeps s0 s) : Keeps s0 (reloadComplete rep s) := by
  unfold reloadComplete
  extract_lets +onlyGivenNames s1
  have h1 : Keeps s0 s1 := (by
    unfold s1
    split
    · with_reducible exact sample_keeps h
    · with_reducible exact h)
  clear_value s1
  split
  · rename_i y2_0 y2_1 y2_2 y2_3 y2_4
    extract_lets +onlyGivenNames s3 s4
    have h4 : Keeps s0 s4 := Keeps.put (Keeps.of_pair2 y2_4 (validateBoth_keeps h1))
    clear_value s4
    split
    · with_reducible exact Keeps.put h4
    · extract_lets +onlyGivenNames s6 s7
      have h7 : Keeps s0 s7 := Keeps.put h4
      clear_value s7
      with_reducible exact Keeps.ite (fun _ => leaveSafeBeacon_keeps h7) (fun _ => Keeps.ite (fun _ => reloadSelect_keeps h7) (fun _ => h7))

theorem sealSwitch_keeps {s0 x s} (h : Keeps s0 s) : Keeps s0 (sealSwitch x s) := by
  unfold sealSwitch
  extract_lets +onlyGivenNames s2 s3 s4 s5 s6 s7
  have h7 : Keeps s0 s7 := sealFullFor_keeps (Keeps.put h)
  clear_value s7
  with_reducible exact fillXb_keeps (Keeps.put h7)

theorem switchLink_keeps {s0 old new s} (h : Keeps s0 s) : Keeps s0 (switchLink old new s) := by
  unfold switchLink
  extract_lets +onlyGivenNames s2
  have h2 : Keeps s0 s2 := Keeps.ite (fun _ => logEvent_keeps h) (fun _ => h)
  clear_value s2
  dsimp only
  refine Keeps.ite (fun _ => h2) (fun _ => Keeps.ite (fun _ => Keeps.ite (fun _ => forceHandover_keeps ?_) (fun _ => startRole_keeps h2))
    (fun _ => Keeps.ite (fun _ => ?_) (fun _ => loadKeys_keeps h2)))
  all_goals exact Keeps.put h2

theorem switchPaths_keeps {s0 old new s} (h : Keeps s0 s) : Keeps s0 (switchPaths old new s) := by
  unfold switchPaths
  with_reducible exact Keeps.foldl (fun x2 x3 h4 => Keeps.ite (fun _ => initPath_keeps h4) (fun _ => h4)) h

theorem leaveGas_keeps {s0 s} (h : Keeps s0 s) : Keeps s0 (leaveGas s) := by
  unfold leaveGas
  with_reducible exact Keeps.foldl (fun x2 x4 h3 => useFreq_keeps h3) (Keeps.put h)

theorem switchImage_keeps {s0 x s} (h : Keeps s0 s) : Keeps s0 (switchImage x s) := by
  unfold switchImage
  beta_reduce
  extract_lets +onlyGivenNames s2 s3 s4 s5
  have h5 : Keeps s0 s5 := Keeps.foldl (fun x6 x8 h7 => keepCrc_keeps h7) h
  clear_value s5
  extract_lets +onlyGivenNames s9
  have h9 : Keeps s0 s9 := Keeps.foldl (fun x10 x12 h11 => limitEvents_keeps (useRecord_keeps h11)) h5
  clear_value s9
  extract_lets +onlyGivenNames s13 s14 s15 s16 s17 s18 s19 s20
  have h20 : Keeps s0 s20 := endFast_keeps (Keeps.put h9)
  clear_value s20
  with_reducible exact reroute_keeps (startPiste_keeps (switchLink_keeps (onlyIf_keeps (fun x21 h22 => leaveGas_keeps h22) (onlyIf_keeps (fun x23 h24 => radioAvailable_keeps h24) (setUnavail_keeps (onlyIf_keeps (fun x25 h26 => loadMap_keeps h26) (switchPaths_keeps (onlyIf_keeps (fun x27 h28 => resetSwap_keeps h28) (acceptFloor_keeps (cancelHeld_keeps h20))))))))))

/-! ## Service -/

theorem csRise_keeps {s0 s} (h : Keeps s0 s) : Keeps s0 (csRise s) := by
  unfold csRise
  with_reducible exact Keeps.put h

theorem serveRequest_keeps {s0 s} (h : Keeps s0 s) : Keeps s0 (serveRequest s) := by
  unfold serveRequest
  with_reducible exact Keeps.ite (fun _ => serviceSeat_keeps h) (fun _ => h)

theorem hostTransaction_keeps {s0 f s} (hf : ∀ t0, Keeps s0 t0 → Keeps s0 (f t0).2) (h : Keeps s0 s) : Keeps s0 (hostTransaction f s) := by
  unfold hostTransaction
  with_reducible exact Keeps.ite (fun _ => h) (fun _ => (by
    extract_lets +onlyGivenNames s2
    have h2 : Keeps s0 s2 := serveRequest_keeps h
    clear_value s2
    with_reducible exact Keeps.ite (fun _ => csRise_keeps (Keeps.put h2)) (fun _ => (by
      split
      · rename_i y3_0 y3_1 y3_2 y3_3
        with_reducible exact csRise_keeps (Keeps.put ((Keeps.of_pair1 y3_3 (hf _ h2))))))))

theorem sendResponse_keeps {s0 p frame s} (h : Keeps s0 s) : Keeps s0 (sendResponse p frame s) := by
  unfold sendResponse
  split
  · with_reducible exact Keeps.put h
  · with_reducible exact Keeps.put h

theorem endSession_keeps {s0 p cause s} (h : Keeps s0 s) : Keeps s0 (endSession p cause s) := by
  unfold endSession
  beta_reduce
  with_reducible exact Keeps.put (updSes_keeps (endService_keeps h))

theorem opHello_keeps {s0 p s} (h : Keeps s0 s) : Keeps s0 (opHello p s).2.2 := by
  unfold opHello
  with_reducible exact updSes_keeps (Keeps.ite (fun _ => draw_keeps h) (fun _ => (by
    split
    · with_reducible exact cancelHeld_keeps (Keeps.put (draw_keeps h))
    · with_reducible exact cancelHeld_keeps (draw_keeps h))))

theorem opBaud_keeps {s0 p d s} (h : Keeps s0 s) : Keeps s0 (opBaud p d s).2.2 := by
  unfold opBaud
  try dsimp only
  split
  · with_reducible exact h
  · try dsimp only
    split
    · with_reducible exact Keeps.put h
    · with_reducible exact h

theorem authFailed_keeps {s0 p s} (h : Keeps s0 s) : Keeps s0 (authFailed p s) := by
  unfold authFailed
  extract_lets +onlyGivenNames s1 s2
  with_reducible exact logEvent_keeps (updSes_keeps (Keeps.put h))

theorem opAuth_keeps {s0 p d s} (h : Keeps s0 s) : Keeps s0 (opAuth p d s).2.2 := by
  unfold opAuth
  try dsimp only
  split
  · with_reducible exact h
  · try dsimp only
    split
    · try dsimp only
      split
      · with_reducible exact logEvent_keeps (updSes_keeps (updSes_keeps h))
      · with_reducible exact authFailed_keeps (updSes_keeps h)
    · try dsimp only
      split
      · with_reducible exact logEvent_keeps (updSes_keeps (updSes_keeps h))
      · with_reducible exact authFailed_keeps (updSes_keeps h)

theorem opStatq_keeps {s0 s} (h : Keeps s0 s) : Keeps s0 (opStatq s).2.2 := by
  unfold opStatq
  with_reducible exact h

theorem opReadmap_keeps {s0 p d s} (h : Keeps s0 s) : Keeps s0 (opReadmap p d s).2.2 := by
  unfold opReadmap
  try dsimp only
  split
  · with_reducible exact h
  · with_reducible exact readWords_keeps h

theorem opReadprof_keeps {s0 d s} (h : Keeps s0 s) : Keeps s0 (opReadprof d s).2.2 := by
  unfold opReadprof
  try dsimp only
  split
  · with_reducible exact h
  · with_reducible exact h

theorem opReadevt_keeps {s0 d s} (h : Keeps s0 s) : Keeps s0 (opReadevt d s).2.2 := by
  unfold opReadevt
  try dsimp only
  split
  · with_reducible exact h
  · with_reducible exact h

theorem opReadstore_keeps {s0 p d s} (h : Keeps s0 s) : Keeps s0 (opReadstore p d s).2.2 := by
  unfold opReadstore
  try dsimp only
  split
  · with_reducible exact h
  · with_reducible exact updSes_keeps h

theorem opAckstore_keeps {s0 p d s} (h : Keeps s0 s) : Keeps s0 (opAckstore p d s).2.2 := by
  unfold opAckstore
  try dsimp only
  split
  · with_reducible exact h
  · with_reducible exact ackStore_keeps h

theorem opReadsnap_keeps {s0 d s} (h : Keeps s0 s) : Keeps s0 (opReadsnap d s).2.2 := by
  unfold opReadsnap
  try dsimp only
  split
  · with_reducible exact h
  · with_reducible exact h

theorem opWritemap_keeps {s0 p d s} (h : Keeps s0 s) : Keeps s0 (opWritemap p d s).2.2 := by
  unfold opWritemap
  try dsimp only
  split
  · with_reducible exact h
  · try dsimp only
    split
    · with_reducible exact h
    · with_reducible exact writeWords_keeps h

theorem opTimeset_keeps {s0 p d s} (h : Keeps s0 s) : Keeps s0 (opTimeset p d s).2.2 := by
  unfold opTimeset
  split
  · exact h
  · generalize hq : offerTime p.code (leNat (slice d 0 6)) (u32 d 6) s = q
    obtain ⟨ok, t⟩ := q
    exact Keeps.of_pair1 hq (offerTime_keeps h)

theorem opLearn_keeps {s0 d s} (h : Keeps s0 s) : Keeps s0 (opLearn d s).2.2 := by
  unfold opLearn
  split
  · exact h
  · exact fillXb_keeps (fillXb_keeps (updPath_keeps h))

theorem opBgtest_keeps {s0 d s} (h : Keeps s0 s) : Keeps s0 (opBgtest d s).2.2 := by
  unfold opBgtest
  try dsimp only
  split
  · with_reducible exact h
  · with_reducible exact Keeps.put h

theorem opPower_keeps {s0 p d s} (h : Keeps s0 s) : Keeps s0 (opPower p d s).2.2 := by
  unfold opPower
  try dsimp only
  split
  · with_reducible exact h
  · try dsimp only
    split
    · with_reducible exact askPower_keeps h
    · try dsimp only
      split
      · with_reducible exact askPower_keeps h
      · with_reducible exact h

theorem beginPending_keeps {s0 p code s} (h : Keeps s0 s) : Keeps s0 (beginPending p code s).2.2 := by
  unfold beginPending
  with_reducible exact Keeps.put h

theorem opSlotopen_keeps {s0 p d s} (h : Keeps s0 s) : Keeps s0 (opSlotopen p d s).2.2 := by
  unfold opSlotopen
  try dsimp only
  split
  · with_reducible exact h
  · try dsimp only
    split
    · with_reducible exact h
    · with_reducible exact beginPending_keeps (Keeps.put (setSlot_keeps h))

theorem opSlotdata_keeps {s0 d s} (h : Keeps s0 s) : Keeps s0 (opSlotdata d s).2.2 := by
  unfold opSlotdata
  try dsimp only
  split
  · with_reducible exact h
  · try dsimp only
    split
    · with_reducible exact h
    · try dsimp only
      split
      · with_reducible exact h
      · try dsimp only
        split
        · with_reducible exact h
        · try dsimp only
          split
          · with_reducible exact h
          · with_reducible exact Keeps.put (setSlot_keeps h)

theorem opSlotclose_keeps {s0 p d s} (h : Keeps s0 s) : Keeps s0 (opSlotclose p d s).2.2 := by
  unfold opSlotclose
  try dsimp only
  split
  · with_reducible exact h
  · try dsimp only
    split
    · with_reducible exact h
    · try dsimp only
      split
      · with_reducible exact h
      · with_reducible exact beginPending_keeps h

theorem opReload_keeps {s0 p d s} (h : Keeps s0 s) : Keeps s0 (opReload p d s).2.2 := by
  unfold opReload
  try dsimp only
  split
  · with_reducible exact h
  · try dsimp only
    split
    · with_reducible exact h
    · with_reducible exact beginPending_keeps (Keeps.put h)

theorem opPatchopen_keeps {s0 p d s} (h : Keeps s0 s) : Keeps s0 (opPatchopen p d s).2.2 := by
  unfold opPatchopen
  split
  · exact h
  · split
    · exact h
    · exact beginPending_keeps (Keeps.foldl (fun _ _ k => addJob_keeps k) (writeObject_keeps (Keeps.put (updBank_keeps h))))

theorem opPatchdata_keeps {s0 d s} (h : Keeps s0 s) : Keeps s0 (opPatchdata d s).2.2 := by
  unfold opPatchdata
  extract_lets +onlyGivenNames s2
  split
  · exact h
  · split
    · exact h
    · split
      · exact h
      · split
        · exact h
        · split
          · exact h
          · exact addJob_keeps (Keeps.put h)

theorem opPatchclose_keeps {s0 p d s} (h : Keeps s0 s) : Keeps s0 (opPatchclose p d s).2.2 := by
  unfold opPatchclose
  try dsimp only
  split
  · with_reducible exact h
  · try dsimp only
    split
    · with_reducible exact h
    · try dsimp only
      split
      · with_reducible exact h
      · with_reducible exact beginPending_keeps h

theorem pendingWork_keeps {s0 rep s} (h : Keeps s0 s) : Keeps s0 (pendingWork rep s) := by
  unfold pendingWork
  split
  · with_reducible exact Keeps.put h
  · split
    · extract_lets +onlyGivenNames s2 s3
      have h3 : Keeps s0 s3 := slotWords_keeps h
      clear_value s3
      with_reducible exact Keeps.put h3
    · with_reducible exact h
  · with_reducible exact reloadComplete_keeps h
  · with_reducible exact Keeps.put h
  · split
    · extract_lets +onlyGivenNames s4 s5 s6
      have h6 : Keeps s0 s6 := updBank_keeps h
      clear_value s6
      with_reducible exact writeObject_keeps (Keeps.put h6)
    · with_reducible exact h
  · with_reducible exact h

theorem command_keeps {s0 p code d s} (h : Keeps s0 s) : Keeps s0 (command p code d s).2.2 := by
  unfold command
  try dsimp only
  split
  · try dsimp only
    split
    · with_reducible exact h
    · with_reducible exact opHello_keeps h
  · with_reducible exact opBaud_keeps h
  · with_reducible exact opAuth_keeps h
  · try dsimp only
    split
    · with_reducible exact h
    · with_reducible exact endSession_keeps h
  · try dsimp only
    split
    · with_reducible exact h
    · with_reducible exact opStatq_keeps h
  · with_reducible exact opReadmap_keeps h
  · with_reducible exact opWritemap_keeps h
  · with_reducible exact opReadprof_keeps h
  · with_reducible exact opReadevt_keeps h
  · with_reducible exact opReadstore_keeps h
  · with_reducible exact opAckstore_keeps h
  · with_reducible exact opReadsnap_keeps h
  · with_reducible exact opTimeset_keeps h
  · with_reducible exact opLearn_keeps h
  · with_reducible exact opBgtest_keeps h
  · with_reducible exact opPower_keeps h
  · with_reducible exact opSlotopen_keeps h
  · with_reducible exact opSlotdata_keeps h
  · with_reducible exact opSlotclose_keeps h
  · with_reducible exact opReload_keeps h
  · with_reducible exact opPatchopen_keeps h
  · with_reducible exact opPatchdata_keeps h
  · with_reducible exact opPatchclose_keeps h
  · with_reducible exact h

theorem executeRequest_keeps {s0 p code tag d s} (h : Keeps s0 s) : Keeps s0 (executeRequest p code tag d s) := by
  unfold executeRequest
  extract_lets +onlyGivenNames s1 s2 s3
  have h3 : Keeps s0 s3 := updSes_keeps h
  clear_value s3
  with_reducible exact Keeps.ite (fun _ => sendResponse_keeps h3) (fun _ => (by
    extract_lets +onlyGivenNames s6
    with_reducible exact sendResponse_keeps (updSes_keeps (by
      try dsimp only
      split
      · with_reducible exact command_keeps h3
      · with_reducible exact h3))))

theorem ohmueri_keeps {s0 p code tag d s} (h : Keeps s0 s) : Keeps s0 (ohmueri p code tag d s) := by
  unfold ohmueri
  split
  · refine Keeps.ite (fun _ => serveRequest_keeps h) (fun _ => Keeps.ite (fun _ => ?_) (fun _ => executeRequest_keeps (serveRequest_keeps h)))
    have k : Keeps s0 (serveRequest s) := serveRequest_keeps h
    generalize serveRequest s = t at k ⊢
    exact Keeps.put k
  · refine hostTransaction_keeps (fun x k => ?_) h
    split
    · exact Keeps.put k
    · split
      · exact k
      · exact executeRequest_keeps k

/-! ## Ohmueri -/

theorem execHstCsFall_keeps {s0 s} (h : Keeps s0 s) : KeepsO s0 (execHstCsFall s) := by
  unfold execHstCsFall
  with_reducible exact KeepsO.ite (fun _ => done_keeps (onlyIf_keeps (fun x5 h6 => wake_keeps h6) (Keeps.put h))) (fun _ => KeepsO.next h)

theorem execHstWakeEdge_keeps {s0 s} (h : Keeps s0 s) : KeepsO s0 (execHstWakeEdge s) := by
  unfold execHstWakeEdge
  with_reducible exact KeepsO.ite (fun _ => done_keeps (wake_keeps h)) (fun _ => KeepsO.next h)

theorem execHostWakePattern_keeps {s0 bits value s} (h : Keeps s0 s) : KeepsO s0 (execHostWakePattern bits value s) := by
  unfold execHostWakePattern
  with_reducible exact KeepsO.ite (fun _ => KeepsO.next h) (fun _ => KeepsO.ite (fun _ => done_keeps (wake_keeps (Keeps.put h))) (fun _ => done_keeps (onlyIf_keeps (fun x7 h8 => wake_keeps h8) (Keeps.put h))))

theorem execRead_keeps {s0 addr count s} (h : Keeps s0 s) : KeepsO s0 (execRead addr count s) := by
  unfold execRead
  with_reducible exact done_keeps (hostTransaction_keeps (fun x3 h4 => readWords_keeps h4) h)

theorem execWrite_keeps {s0 addr words s} (h : Keeps s0 s) : KeepsO s0 (execWrite addr words s) := by
  unfold execWrite
  with_reducible exact done_keeps (hostTransaction_keeps (fun x3 h4 => Keeps.ite (fun _ => writeWords_keeps h4) (fun _ => h4)) h)

theorem execRequest_keeps {s0 frame s} (h : Keeps s0 s) : KeepsO s0 (execRequest frame s) := by
  unfold execRequest
  with_reducible exact done_keeps (hostTransaction_keeps (fun x3 h4 => (by
    try dsimp only
    split
    · with_reducible exact Keeps.put h4
    · try dsimp only
      split
      · with_reducible exact executeRequest_keeps h4
      · with_reducible exact h4)) h)

theorem execResponse_keeps {s0 count s} (h : Keeps s0 s) : KeepsO s0 (execResponse count s) := by
  unfold execResponse
  with_reducible exact done_keeps (hostTransaction_keeps (fun x3 h4 => Keeps.put h4) h)

theorem execWake_keeps {s0 s} (h : Keeps s0 s) : KeepsO s0 (execWake s) := by
  unfold execWake
  with_reducible exact done_keeps (hostTransaction_keeps (fun x3 h4 => h4) h)

theorem execHostUnlistedOpcode_keeps {s0 opcode s} (h : Keeps s0 s) : KeepsO s0 (execHostUnlistedOpcode opcode s) := by
  unfold execHostUnlistedOpcode
  with_reducible exact KeepsO.ite (fun _ => KeepsO.next h) (fun _ => done_keeps (hostTransaction_keeps (fun x5 h6 => Keeps.put h6) h))

theorem execRegisterWrite_keeps {s0 port addr value s} (h : Keeps s0 s) : KeepsO s0 (execRegisterWrite port addr value s) := by
  unfold execRegisterWrite
  with_reducible exact KeepsO.ite (fun _ => done_keeps (writeWord_keeps h)) (fun _ => KeepsO.next h)

theorem execOhmueriFrameDiscard_keeps {s0 frame gap s} (h : Keeps s0 s) : KeepsO s0 (execOhmueriFrameDiscard frame gap s) := by
  unfold execOhmueriFrameDiscard
  with_reducible exact KeepsO.ite (fun _ => done_keeps (Keeps.put h)) (fun _ => KeepsO.next h)

theorem execHello_keeps {s0 port tag data s} (h : Keeps s0 s) : KeepsO s0 (execHello port tag data s) := by
  unfold execHello
  with_reducible exact done_keeps (ohmueri_keeps h)

theorem execBaud_keeps {s0 port tag data s} (h : Keeps s0 s) : KeepsO s0 (execBaud port tag data s) := by
  unfold execBaud
  with_reducible exact done_keeps (ohmueri_keeps h)

theorem execAuth_keeps {s0 port tag data s} (h : Keeps s0 s) : KeepsO s0 (execAuth port tag data s) := by
  unfold execAuth
  with_reducible exact done_keeps (ohmueri_keeps h)

theorem execClose_keeps {s0 port tag data s} (h : Keeps s0 s) : KeepsO s0 (execClose port tag data s) := by
  unfold execClose
  with_reducible exact done_keeps (ohmueri_keeps h)

theorem execStatq_keeps {s0 port tag data s} (h : Keeps s0 s) : KeepsO s0 (execStatq port tag data s) := by
  unfold execStatq
  with_reducible exact done_keeps (ohmueri_keeps h)

theorem execReadmap_keeps {s0 port tag data s} (h : Keeps s0 s) : KeepsO s0 (execReadmap port tag data s) := by
  unfold execReadmap
  with_reducible exact done_keeps (ohmueri_keeps h)

theorem execWritemap_keeps {s0 port tag data s} (h : Keeps s0 s) : KeepsO s0 (execWritemap port tag data s) := by
  unfold execWritemap
  with_reducible exact done_keeps (ohmueri_keeps h)

theorem execReadprof_keeps {s0 port tag data s} (h : Keeps s0 s) : KeepsO s0 (execReadprof port tag data s) := by
  unfold execReadprof
  with_reducible exact done_keeps (ohmueri_keeps h)

theorem execReadevt_keeps {s0 port tag data s} (h : Keeps s0 s) : KeepsO s0 (execReadevt port tag data s) := by
  unfold execReadevt
  with_reducible exact done_keeps (ohmueri_keeps h)

theorem execReadstore_keeps {s0 port tag data s} (h : Keeps s0 s) : KeepsO s0 (execReadstore port tag data s) := by
  unfold execReadstore
  with_reducible exact done_keeps (ohmueri_keeps h)

theorem execAckstore_keeps {s0 port tag data s} (h : Keeps s0 s) : KeepsO s0 (execAckstore port tag data s) := by
  unfold execAckstore
  with_reducible exact done_keeps (ohmueri_keeps h)

theorem execReadsnap_keeps {s0 port tag data s} (h : Keeps s0 s) : KeepsO s0 (execReadsnap port tag data s) := by
  unfold execReadsnap
  with_reducible exact done_keeps (ohmueri_keeps h)

theorem execTimeset_keeps {s0 port tag data s} (h : Keeps s0 s) : KeepsO s0 (execTimeset port tag data s) := by
  unfold execTimeset
  with_reducible exact done_keeps (ohmueri_keeps h)

theorem execLearn_keeps {s0 port tag data s} (h : Keeps s0 s) : KeepsO s0 (execLearn port tag data s) := by
  unfold execLearn
  with_reducible exact done_keeps (ohmueri_keeps h)

theorem execBgtest_keeps {s0 port tag data s} (h : Keeps s0 s) : KeepsO s0 (execBgtest port tag data s) := by
  unfold execBgtest
  with_reducible exact done_keeps (ohmueri_keeps h)

theorem execPower_keeps {s0 port tag data s} (h : Keeps s0 s) : KeepsO s0 (execPower port tag data s) := by
  unfold execPower
  with_reducible exact done_keeps (ohmueri_keeps h)

theorem execSlotopen_keeps {s0 port tag data s} (h : Keeps s0 s) : KeepsO s0 (execSlotopen port tag data s) := by
  unfold execSlotopen
  with_reducible exact done_keeps (ohmueri_keeps h)

theorem execSlotdata_keeps {s0 port tag data s} (h : Keeps s0 s) : KeepsO s0 (execSlotdata port tag data s) := by
  unfold execSlotdata
  with_reducible exact done_keeps (ohmueri_keeps h)

theorem execSlotclose_keeps {s0 port tag data s} (h : Keeps s0 s) : KeepsO s0 (execSlotclose port tag data s) := by
  unfold execSlotclose
  with_reducible exact done_keeps (ohmueri_keeps h)

theorem execReload_keeps {s0 port tag data s} (h : Keeps s0 s) : KeepsO s0 (execReload port tag data s) := by
  unfold execReload
  with_reducible exact done_keeps (ohmueri_keeps h)

theorem execPatchopen_keeps {s0 port tag data s} (h : Keeps s0 s) : KeepsO s0 (execPatchopen port tag data s) := by
  unfold execPatchopen
  with_reducible exact done_keeps (ohmueri_keeps h)

theorem execPatchdata_keeps {s0 port tag data s} (h : Keeps s0 s) : KeepsO s0 (execPatchdata port tag data s) := by
  unfold execPatchdata
  with_reducible exact done_keeps (ohmueri_keeps h)

theorem execPatchclose_keeps {s0 port tag data s} (h : Keeps s0 s) : KeepsO s0 (execPatchclose port tag data s) := by
  unfold execPatchclose
  with_reducible exact done_keeps (ohmueri_keeps h)

theorem execBaudSwitch_keeps {s0 s} (h : Keeps s0 s) : KeepsO s0 (execBaudSwitch s) := by
  unfold execBaudSwitch
  split
  · with_reducible exact done_keeps (Keeps.put h)
  · with_reducible exact KeepsO.next h

theorem execAuthLockoutEnd_keeps {s0 port s} (h : Keeps s0 s) : KeepsO s0 (execAuthLockoutEnd port s) := by
  unfold execAuthLockoutEnd
  with_reducible exact done_keeps (updSes_keeps h)

theorem execOhmueriSessionTimeout_keeps {s0 port s} (h : Keeps s0 s) : KeepsO s0 (execOhmueriSessionTimeout port s) := by
  unfold execOhmueriSessionTimeout
  with_reducible exact KeepsO.ite (fun _ => done_keeps (endSession_keeps h)) (fun _ => KeepsO.next h)

theorem execPendingCommandComplete_keeps {s0 rep s} (h : Keeps s0 s) : KeepsO s0 (execPendingCommandComplete rep s) := by
  unfold execPendingCommandComplete
  with_reducible exact KeepsO.ite (fun _ => KeepsO.next h) (fun _ => (by
    extract_lets +onlyGivenNames s3 s4 s5 s6
    have h6 : Keeps s0 s6 := pendingWork_keeps (Keeps.put h)
    clear_value s6
    extract_lets +onlyGivenNames s7
    with_reducible exact done_keeps (Keeps.ite (fun _ => h6) (fun _ => Keeps.put h6))))

theorem execReloadSwitch_keeps {s0 s} (h : Keeps s0 s) : KeepsO s0 (execReloadSwitch s) := by
  unfold execReloadSwitch
  split
  · with_reducible exact KeepsO.ite (fun _ => done_keeps (sealSwitch_keeps h)) (fun _ => KeepsO.next h)
  · with_reducible exact KeepsO.next h

theorem execReloadCommitDone_keeps {s0 s} (h : Keeps s0 s) : KeepsO s0 (execReloadCommitDone s) := by
  unfold execReloadCommitDone
  split
  · with_reducible exact KeepsO.ite (fun _ => done_keeps (switchImage_keeps h)) (fun _ => KeepsO.next h)
  · with_reducible exact KeepsO.next h

/-! ## Lines -/

theorem execVddioLoss_keeps {s0 s} (h : Keeps s0 s) : KeepsO s0 (execVddioLoss s) := by
  unfold execVddioLoss
  with_reducible exact done_keeps (by
    extract_lets +onlyGivenNames s2
    have h2 : Keeps s0 s2 := csRise_keeps h
    clear_value s2
    with_reducible exact Keeps.put h2)

theorem execVddioRestore_keeps {s0 s} (h : Keeps s0 s) : KeepsO s0 (execVddioRestore s) := by
  unfold execVddioRestore
  with_reducible exact done_keeps (Keeps.put h)

theorem driveIr_keeps {s0 us s} (h : Keeps s0 s) : Keeps s0 (driveIr us s) := by
  unfold driveIr
  with_reducible exact Keeps.put h

theorem execIrCarrierWake_keeps {s0 s} (h : Keeps s0 s) : KeepsO s0 (execIrCarrierWake s) := by
  unfold execIrCarrierWake
  with_reducible exact KeepsO.ite (fun _ => done_keeps (driveIr_keeps (wake_keeps h))) (fun _ => KeepsO.next h)

theorem execIrEnTimeout_keeps {s0 s} (h : Keeps s0 s) : KeepsO s0 (execIrEnTimeout s) := by
  unfold execIrEnTimeout
  with_reducible exact KeepsO.ite (fun _ => done_keeps (Keeps.put h)) (fun _ => KeepsO.next h)

theorem nextScreen_keeps {s0 s} (h : Keeps s0 s) : Keeps s0 (nextScreen s) := by
  unfold nextScreen
  with_reducible exact Keeps.ite (fun _ => Keeps.put h) (fun _ => h)

theorem keyEffect_keeps {s0 k s} (h : Keeps s0 s) : Keeps s0 (keyEffect k s) := by
  unfold keyEffect
  extract_lets +onlyGivenNames s1 s2 s3 s4
  have h4 : Keeps s0 s4 := emissivePress_keeps (Keeps.put h)
  clear_value s4
  with_reducible exact Keeps.ite (fun _ => nextScreen_keeps h4) (fun _ => driveIr_keeps h4)

theorem execKeyPress_keeps {s0 key s} (h : Keeps s0 s) : KeepsO s0 (execKeyPress key s) := by
  unfold execKeyPress
  with_reducible exact KeepsO.ite (fun _ => KeepsO.next h) (fun _ => (by
    extract_lets +onlyGivenNames s3 s4
    have h4 : Keeps s0 s4 := Keeps.put h
    clear_value s4
    with_reducible exact KeepsO.ite (fun _ => done_keeps h4) (fun _ => (by
      extract_lets +onlyGivenNames s7
      have h7 : Keeps s0 s7 := wake_keeps h4
      clear_value s7
      with_reducible exact KeepsO.ite (fun _ => done_keeps (by
        extract_lets +onlyGivenNames s11
        have h11 : Keeps s0 s11 := keyEffect_keeps h7
        clear_value s11
        with_reducible exact Keeps.put h11)) (fun _ => done_keeps h7)))))

theorem execKeyRelease_keeps {s0 key s} (h : Keeps s0 s) : KeepsO s0 (execKeyRelease key s) := by
  unfold execKeyRelease
  with_reducible exact KeepsO.ite (fun _ => done_keeps (Keeps.put h)) (fun _ => KeepsO.next h)

theorem execKeysHeld5s_keeps {s0 s} (h : Keeps s0 s) : KeepsO s0 (execKeysHeld5s s) := by
  unfold execKeysHeld5s
  with_reducible exact KeepsO.ite (fun _ => done_keeps (Keeps.put h)) (fun _ => KeepsO.next h)

theorem tamperChange_keeps {s0 i on s} (h : Keeps s0 s) : Keeps s0 (tamperChange i on s) := by
  unfold tamperChange
  with_reducible exact Keeps.ite (fun _ => Keeps.put (Keeps.put h)) (fun _ => wake_keeps (logEvent_keeps (Keeps.put h)))

theorem tamperLine_keeps {s0 i on s} (h : Keeps s0 s) : Keeps s0 (tamperLine i on s) := by
  unfold tamperLine
  with_reducible exact Keeps.ite (fun _ => h) (fun _ => (by
    extract_lets +onlyGivenNames s3 s4 s5
    have h5 : Keeps s0 s5 := Keeps.put h
    clear_value s5
    with_reducible exact Keeps.ite (fun _ => tamperChange_keeps h5) (fun _ => h5)))

theorem execTamperSample_keeps {s0 low0 low1 s} (h : Keeps s0 s) : KeepsO s0 (execTamperSample low0 low1 s) := by
  unfold execTamperSample
  with_reducible exact KeepsO.ite (fun _ => done_keeps (tamperLine_keeps (tamperLine_keeps h))) (fun _ => KeepsO.next h)

theorem execPulseInputEdge_keeps {s0 input s} (h : Keeps s0 s) : KeepsO s0 (execPulseInputEdge input s) := by
  unfold execPulseInputEdge
  with_reducible exact KeepsO.ite (fun _ => KeepsO.next h) (fun _ => KeepsO.ite (fun _ => KeepsO.next (Keeps.put h)) (fun _ => KeepsO.next (Keeps.put h)))

theorem execPulseOutputEmit_keeps {s0 output s} (h : Keeps s0 s) : KeepsO s0 (execPulseOutputEmit output s) := by
  unfold execPulseOutputEmit
  extract_lets +onlyGivenNames s1 s2
  with_reducible exact KeepsO.ite (fun _ => KeepsO.next (Keeps.put h)) (fun _ => KeepsO.next h)

theorem execAlarmPulseEnd_keeps {s0 s} (h : Keeps s0 s) : KeepsO s0 (execAlarmPulseEnd s) := by
  unfold execAlarmPulseEnd
  with_reducible exact KeepsO.next (Keeps.put h)

theorem execLineHeldDetect_keeps {s0 line s} (h : Keeps s0 s) : KeepsO s0 (execLineHeldDetect line s) := by
  unfold execLineHeldDetect
  extract_lets +onlyGivenNames s1
  with_reducible exact KeepsO.ite (fun _ => KeepsO.next h) (fun _ => done_keeps (logEvent_keeps (Keeps.put h)))

theorem execLineRelease_keeps {s0 line s} (h : Keeps s0 s) : KeepsO s0 (execLineRelease line s) := by
  unfold execLineRelease
  extract_lets +onlyGivenNames s1
  with_reducible exact KeepsO.ite (fun _ => done_keeps (Keeps.put h)) (fun _ => KeepsO.next h)

theorem retryRadio_keeps {s0 ok s} (h : Keeps s0 s) : Keeps s0 (retryRadio ok s) := by
  unfold retryRadio
  with_reducible exact Keeps.ite (fun _ => h) (fun _ => Keeps.ite (fun _ => logEvent_keeps (Keeps.put h)) (fun _ => (by
    extract_lets +onlyGivenNames s2
    have h2 : Keeps s0 s2 := writeObject_keeps (radioPasses_keeps h)
    clear_value s2
    with_reducible exact Keeps.ite (fun _ => h2) (fun _ => startRole_keeps h2))))

theorem runModuleCheck_keeps {s0 reads radioOk s} (h : Keeps s0 s) : Keeps s0 (runModuleCheck reads radioOk s) := by
  unfold runModuleCheck
  extract_lets +onlyGivenNames s2 s3
  have h3 : Keeps s0 s3 := checkModules_keeps h
  clear_value s3
  with_reducible exact Keeps.ite (fun _ => h3) (fun _ => (by
    extract_lets +onlyGivenNames s4
    have h4 : Keeps s0 s4 := Keeps.ite (fun _ => startRole_keeps h3) (fun _ => h3)
    clear_value s4
    with_reducible exact releaseSeat_keeps (domOff_keeps (portsOff_keeps (retryRadio_keeps h4)))))

theorem execModuleCheck24h_keeps {s0 reads radioOk smp s} (h : Keeps s0 s) : KeepsO s0 (execModuleCheck24h reads radioOk smp s) := by
  unfold execModuleCheck24h
  with_reducible exact onTimer_keeps (fun x2 h3 => (by
    extract_lets +onlyGivenNames s4
    have h4 : Keeps s0 s4 := sample_keeps h3
    clear_value s4
    extract_lets +onlyGivenNames s5 s6
    have h6 : Keeps s0 s6 := Keeps.ite (fun _ => requestSeat_keeps (Keeps.put h4)) (fun _ => h4)
    clear_value s6
    with_reducible exact Keeps.ite (fun _ => runModuleCheck_keeps h6) (fun _ => h6))) h

theorem execI2cStretchTimeout_keeps {s0 port s} (h : Keeps s0 s) : KeepsO s0 (execI2cStretchTimeout port s) := by
  unfold execI2cStretchTimeout
  with_reducible exact KeepsO.ite (fun _ => done_keeps (Keeps.put h)) (fun _ => KeepsO.next h)

/-! ## PowerOps -/

theorem execPorRelease_keeps {s0 testen slotA slotB s} (h : Keeps s0 s) : KeepsO s0 (execPorRelease testen slotA slotB s) := by
  unfold execPorRelease
  with_reducible exact KeepsO.ite (fun _ => KeepsO.next h) (fun _ => (by
    extract_lets +onlyGivenNames s2 s3
    have h3 : Keeps s0 s3 := Keeps.put h
    clear_value s3
    with_reducible exact KeepsO.ite (fun _ => KeepsO.next (by
      extract_lets +onlyGivenNames s4
      have h4 : Keeps s0 s4 := quiet_keeps h3
      clear_value s4
      with_reducible exact Keeps.put h4)) (fun _ => KeepsO.next (porStart_keeps h3))))

theorem execVbatBelowPor_keeps {s0 s} (h : Keeps s0 s) : KeepsO s0 (execVbatBelowPor s) := by
  unfold execVbatBelowPor
  with_reducible exact KeepsO.next (enterOff_keeps h)

theorem joinBrownout_keeps {s0 p s} (h : Keeps s0 s) : Keeps s0 (joinBrownout p s) := by
  unfold joinBrownout
  split
  · with_reducible exact finishCommit_keeps h
  · with_reducible exact holdAlarm_keeps h
  · with_reducible exact holdAlarm_keeps h

theorem execBrownout_keeps {s0 smp s} (h : Keeps s0 s) : KeepsO s0 (execBrownout smp s) := by
  unfold execBrownout
  with_reducible exact KeepsO.ite (fun _ => KeepsO.next h) (fun _ => (by
    extract_lets +onlyGivenNames s3
    have h3 : Keeps s0 s3 := (by
      unfold s3
      beta_reduce
      with_reducible exact Keeps.put (logEvent_keeps (sample_keeps h)))
    clear_value s3
    extract_lets +onlyGivenNames s4
    have h4 : Keeps s0 s4 := (by
      unfold s4
      split
      · with_reducible exact joinBrownout_keeps h3
      · with_reducible exact commitOrSkip_keeps (Keeps.ite (fun _ => holdAlarm_keeps h3) (fun _ => h3)))
    clear_value s4
    with_reducible exact KeepsO.next (procFinish_keeps (parkEnd_keeps (parkStart_keeps h4)))))

theorem leaveHold_keeps {s0 cause s} (h : Keeps s0 s) : Keeps s0 (leaveHold cause s) := by
  unfold leaveHold
  with_reducible exact Keeps.ite (fun _ => Keeps.put h) (fun _ => coldStart_keeps h)

theorem execBrownoutRecovery_keeps {s0 s} (h : Keeps s0 s) : KeepsO s0 (execBrownoutRecovery s) := by
  unfold execBrownoutRecovery
  with_reducible exact KeepsO.ite (fun _ => KeepsO.next h) (fun _ => KeepsO.ite (fun _ => KeepsO.next (Keeps.put h)) (fun _ => KeepsO.next (leaveHold_keeps h)))

theorem execRstNLow_keeps {s0 ns s} (h : Keeps s0 s) : KeepsO s0 (execRstNLow ns s) := by
  unfold execRstNLow
  with_reducible exact KeepsO.ite (fun _ => KeepsO.next h) (fun _ => KeepsO.ite (fun _ => KeepsO.fault) (fun _ => KeepsO.ite (fun _ => KeepsO.next h) (fun _ => (by
    extract_lets +onlyGivenNames s7 s8
    have h8 : Keeps s0 s8 := Keeps.put h
    clear_value s8
    split
    · with_reducible exact KeepsO.next h8
    · with_reducible exact KeepsO.next h8
    · with_reducible exact KeepsO.next (watchdogReset_keeps h8)))))

theorem execRstNRise_keeps {s0 s} (h : Keeps s0 s) : KeepsO s0 (execRstNRise s) := by
  unfold execRstNRise
  extract_lets +onlyGivenNames s2 s3
  have h3 : Keeps s0 s3 := Keeps.put h
  clear_value s3
  with_reducible exact KeepsO.ite (fun _ => KeepsO.next (leaveHold_keeps h3)) (fun _ => KeepsO.next h3)

theorem execExtestEntry_keeps {s0 s} (h : Keeps s0 s) : KeepsO s0 (execExtestEntry s) := by
  unfold execExtestEntry
  with_reducible exact KeepsO.ite (fun _ => KeepsO.next h) (fun _ => (by
    split
    · with_reducible exact KeepsO.next (logEvent_keeps (Keeps.put h))
    · with_reducible exact KeepsO.next (logEvent_keeps (Keeps.put h))
    · extract_lets +onlyGivenNames s2
      have h2 : Keeps s0 s2 := (by
        unfold s2
        split
        · with_reducible exact commitShadow_keeps h
        · with_reducible exact h
        · with_reducible exact commitOrSkip_keeps h)
      clear_value s2
      with_reducible exact KeepsO.next (by
        extract_lets +onlyGivenNames s3
        have h3 : Keeps s0 s3 := logEvent_keeps (stopEngines_keeps (parkEnd_keeps (parkStart_keeps h2)))
        clear_value s3
        with_reducible exact Keeps.put h3)))

theorem execExtestExit_keeps {s0 s} (h : Keeps s0 s) : KeepsO s0 (execExtestExit s) := by
  unfold execExtestExit
  with_reducible exact KeepsO.ite (fun _ => KeepsO.next h) (fun _ => (by
    split
    · rename_i y2_0 y2_1 y2_2 y2_3
      extract_lets +onlyGivenNames s3 s4
      have h4 : Keeps s0 s4 := Keeps.put ((Keeps.of_pair1 y2_3 (draw_keeps h)))
      clear_value s4
      split
      · with_reducible exact KeepsO.next (resetTrigger_keeps h4)
      · with_reducible exact KeepsO.next (resetTrigger_keeps h4)
      · with_reducible exact KeepsO.next (watchdogReset_keeps h4)))

theorem execPwrcmdHibernate_keeps {s0 port s} (h : Keeps s0 s) : KeepsO s0 (execPwrcmdHibernate port s) := by
  unfold execPwrcmdHibernate
  with_reducible exact KeepsO.ite (fun _ => done_keeps (askPower_keeps h)) (fun _ => KeepsO.next h)

theorem execPwrcmdOff_keeps {s0 port s} (h : Keeps s0 s) : KeepsO s0 (execPwrcmdOff port s) := by
  unfold execPwrcmdOff
  with_reducible exact KeepsO.ite (fun _ => done_keeps (askPower_keeps h)) (fun _ => KeepsO.next h)

theorem holdRequest_keeps {s0 q s} (h : Keeps s0 s) : Keeps s0 (holdRequest q s) := by
  unfold holdRequest
  extract_lets +onlyGivenNames s1 s2
  have h2 : Keeps s0 s2 := logEvent_keeps (Keeps.put h)
  clear_value s2
  with_reducible exact Keeps.ite (fun _ => h2) (fun _ => forceHandover_keeps h2)

theorem issueRequest_keeps {s0 q s} (h : Keeps s0 s) : Keeps s0 (issueRequest q s) := by
  unfold issueRequest
  extract_lets +onlyGivenNames s1 s2
  have h2 : Keeps s0 s2 := Keeps.put h
  clear_value s2
  extract_lets +onlyGivenNames s3 s4
  have h4 : Keeps s0 s4 := stateRequest_keeps h2
  clear_value s4
  with_reducible exact Keeps.ite (fun _ => holdRequest_keeps h4) (fun _ => h4)

theorem execStateRequestEvaluate_keeps {s0 s} (h : Keeps s0 s) : KeepsO s0 (execStateRequestEvaluate s) := by
  unfold execStateRequestEvaluate
  split
  · with_reducible exact KeepsO.ite (fun _ => done_keeps (issueRequest_keeps (Keeps.put h))) (fun _ => KeepsO.next h)
  · with_reducible exact KeepsO.next h

theorem execHeldRequestReissue_keeps {s0 s} (h : Keeps s0 s) : KeepsO s0 (execHeldRequestReissue s) := by
  unfold execHeldRequestReissue
  split
  · with_reducible exact KeepsO.ite (fun _ => done_keeps (issueRequest_keeps (Keeps.put h))) (fun _ => KeepsO.next h)
  · with_reducible exact KeepsO.next h

theorem enterStandby_keeps {s0 s} (h : Keeps s0 s) : Keeps s0 (enterStandby s) := by
  unfold enterStandby
  extract_lets +onlyGivenNames s2 s3
  have h3 : Keeps s0 s3 := Keeps.put h
  clear_value s3
  extract_lets +onlyGivenNames s4 s5
  have h5 : Keeps s0 s5 := domOff_keeps (tdcDown_keeps (portsOff_keeps h3))
  clear_value s5
  with_reducible exact losePower_keeps h5

theorem enterHibernate_keeps {s0 s} (h : Keeps s0 s) : Keeps s0 (enterHibernate s) := by
  unfold enterHibernate
  extract_lets +onlyGivenNames s2
  have h2 : Keeps s0 s2 := stopEngines_keeps h
  clear_value s2
  with_reducible exact Keeps.put h2

theorem enterOffByCommand_keeps {s0 s} (h : Keeps s0 s) : Keeps s0 (enterOffByCommand s) := by
  unfold enterOffByCommand
  with_reducible exact enterOff_keeps (parkEnd_keeps h)

theorem entered_keeps {s0 t s} (h : Keeps s0 s) : Keeps s0 (entered t s) := by
  unfold entered
  split
  · extract_lets +onlyGivenNames s2
    have h2 : Keeps s0 s2 := enterStandby_keeps h
    clear_value s2
    with_reducible exact Keeps.put h2
  · with_reducible exact enterHibernate_keeps h
  · with_reducible exact enterOffByCommand_keeps h
  · with_reducible exact Keeps.put h

theorem execStateEntryComplete_keeps {s0 s} (h : Keeps s0 s) : KeepsO s0 (execStateEntryComplete s) := by
  unfold execStateEntryComplete
  split
  · exact KeepsO.next h
  · rename_i t _
    generalize s.pw.latched = l, s.pw.pend = p
    refine KeepsO.ite (fun _ => KeepsO.next h) (fun _ => ?_)
    have k {x} (hx : Keeps s0 x) : Keeps s0 (entered t x) := entered_keeps hx
    refine KeepsO.ite (fun _ => KeepsO.next (k (Keeps.put (bgAbort_keeps h)))) (fun _ => ?_)
    cases l with
    | some c => exact done_keeps (wake_keeps (Keeps.put (Keeps.put (k (Keeps.put (bgAbort_keeps h))))))
    | none =>
      cases p with
      | some u => exact done_keeps (stateRequest_keeps (Keeps.put (Keeps.put (k (Keeps.put (bgAbort_keeps h))))))
      | none => exact done_keeps (Keeps.put (k (Keeps.put (bgAbort_keeps h))))

theorem execWakeRtcCompare_keeps {s0 s} (h : Keeps s0 s) : KeepsO s0 (execWakeRtcCompare s) := by
  unfold execWakeRtcCompare
  with_reducible exact KeepsO.ite (fun _ => done_keeps (wake_keeps h)) (fun _ => KeepsO.next h)

theorem execSeatRequest_keeps {s0 unit cls hold deadline smp s} (h : Keeps s0 s) : KeepsO s0 (execSeatRequest unit cls hold deadline smp s) := by
  unfold execSeatRequest
  with_reducible exact KeepsO.ite (fun _ => done_keeps (requestSeat_keeps (sample_keeps h))) (fun _ => KeepsO.next h)

theorem execChairliftEvaluate_keeps {s0 smp s} (h : Keeps s0 s) : KeepsO s0 (execChairliftEvaluate smp s) := by
  unfold execChairliftEvaluate
  with_reducible exact KeepsO.ite (fun _ => done_keeps (evaluate_keeps (sample_keeps h))) (fun _ => KeepsO.next h)

theorem execSeatRelease_keeps {s0 unit smp s} (h : Keeps s0 s) : KeepsO s0 (execSeatRelease unit smp s) := by
  unfold execSeatRelease
  with_reducible exact KeepsO.ite (fun _ => (by
    extract_lets +onlyGivenNames s2
    have h2 : Keeps s0 s2 := sample_keeps h
    clear_value s2
    with_reducible exact done_keeps (startOps_keeps (releaseSeat_keeps (Keeps.ite (fun _ => pauseRun_keeps h2) (fun _ => h2)))))) (fun _ => KeepsO.next h)

theorem execSeatDeadlineDrop_keeps {s0 unit s} (h : Keeps s0 s) : KeepsO s0 (execSeatDeadlineDrop unit s) := by
  unfold execSeatDeadlineDrop
  split
  · with_reducible exact KeepsO.ite (fun _ => done_keeps (stageSeatDropped_keeps h)) (fun _ => done_keeps (dropRequest_keeps h))
  · with_reducible exact KeepsO.next h

theorem execVresSample_keeps {s0 smp s} (h : Keeps s0 s) : KeepsO s0 (execVresSample smp s) := by
  unfold execVresSample
  with_reducible exact KeepsO.ite (fun _ => done_keeps (sample_keeps h)) (fun _ => KeepsO.next h)

theorem abortWork_keeps {s0 vit tdc x s} (h : Keeps s0 s) : Keeps s0 (abortWork vit tdc x s) := by
  unfold abortWork
  split
  · with_reducible exact Keeps.ite (fun _ => loseFrame_keeps h) (fun _ => (by
      split
      · with_reducible exact tellDropped_keeps h
      · with_reducible exact h))
  · with_reducible exact emissiveStop_keeps h
  · with_reducible exact parkStart_keeps h
  · with_reducible exact vitrineFailed_keeps h
  · with_reducible exact endCal_keeps h
  · with_reducible exact domOff_keeps (portsOff_keeps h)
  · with_reducible exact h

theorem abortSeat_keeps {s0 s x} (h : Keeps s0 s) : Keeps s0 (abortSeat s x) := by
  unfold abortSeat
  extract_lets +onlyGivenNames s1 s2 s3
  have h3 : Keeps s0 s3 := Keeps.put h
  clear_value s3
  with_reducible exact releaseSeat_keeps (abortWork_keeps h3)

theorem execVresAbortLevel_keeps {s0 s} (h : Keeps s0 s) : KeepsO s0 (execVresAbortLevel s) := by
  unfold execVresAbortLevel
  extract_lets +onlyGivenNames s1
  with_reducible exact KeepsO.ite (fun _ => KeepsO.next (Keeps.put h)) (fun _ => done_keeps (logEvent_keeps (Keeps.foldl (fun x7 x8 h9 => abortSeat_keeps h9) (Keeps.put h))))

theorem execReservoirRiseTimed_keeps {s0 us s} (h : Keeps s0 s) : KeepsO s0 (execReservoirRiseTimed us s) := by
  unfold execReservoirRiseTimed
  with_reducible exact KeepsO.ite (fun _ => KeepsO.next h) (fun _ => (by
    extract_lets +onlyGivenNames s3 s4 s5
    with_reducible exact KeepsO.ite (fun _ => done_keeps (logEvent_keeps (Keeps.put h))) (fun _ => KeepsO.ite (fun _ => done_keeps (Keeps.put h)) (fun _ => KeepsO.next h))))

theorem execChargeSwitchTimeout_keeps {s0 s} (h : Keeps s0 s) : KeepsO s0 (execChargeSwitchTimeout s) := by
  unfold execChargeSwitchTimeout
  with_reducible exact KeepsO.ite (fun _ => done_keeps (logEvent_keeps h)) (fun _ => KeepsO.next h)

theorem tellPll_keeps {s0 s x} (h : Keeps s0 s) : Keeps s0 (tellPll s x) := by
  unfold tellPll
  extract_lets +onlyGivenNames s1
  have h1 : Keeps s0 s1 := abortWork_keeps h
  clear_value s1
  with_reducible exact releaseSeat_keeps (onDrop_keeps (Keeps.put h1))

theorem abandonStage_keeps {s0 s} (h : Keeps s0 s) : Keeps s0 (abandonStage s) := by
  unfold abandonStage
  with_reducible exact Keeps.ite (fun _ => failStartVitrine_keeps h) (fun _ => Keeps.ite (fun _ => stageTold_keeps (by
    extract_lets +onlyGivenNames s2
    have h2 : Keeps s0 s2 := releaseSeat_keeps h
    clear_value s2
    with_reducible exact Keeps.put h2)) (fun _ => h))

theorem execPllLockTimeout_keeps {s0 s} (h : Keeps s0 s) : KeepsO s0 (execPllLockTimeout s) := by
  unfold execPllLockTimeout
  with_reducible exact KeepsO.ite (fun _ => KeepsO.next h) (fun _ => KeepsO.ite (fun _ => KeepsO.next (Keeps.put h)) (fun _ => KeepsO.ite (fun _ => done_keeps (abandonStage_keeps (logEvent_keeps (Keeps.put h)))) (fun _ => (by
    extract_lets +onlyGivenNames s2 s3 s4
    with_reducible exact done_keeps (logEvent_keeps (runNormal_keeps (Keeps.foldl (fun x5 x7 h6 => tellPll_keeps h6) (Keeps.put h))))))))

/-! ## Faults -/

theorem execCuratorWatchdog_keeps {s0 s} (h : Keeps s0 s) : KeepsO s0 (execCuratorWatchdog s) := by
  unfold execCuratorWatchdog
  with_reducible exact KeepsO.ite (fun _ => done_keeps (watchdogReset_keeps h)) (fun _ => KeepsO.next h)

theorem countExpiry_keeps {s0 c s} (h : Keeps s0 s) : Keeps s0 (countExpiry c s) := by
  unfold countExpiry
  with_reducible exact Keeps.put h

theorem dropSignalSeat_keeps {s0 s x} (h : Keeps s0 s) : Keeps s0 (dropSignalSeat s x) := by
  unfold dropSignalSeat
  with_reducible exact releaseSeat_keeps (abortWork_keeps h)

theorem resetSignal_keeps {s0 s} (h : Keeps s0 s) : Keeps s0 (resetSignal s) := by
  unfold resetSignal
  extract_lets +onlyGivenNames s1
  with_reducible exact onlyIf_keeps (fun x3 h4 => tdcDown_keeps h4) (domOff_keeps (by
    beta_reduce
    with_reducible exact Keeps.put (by
      extract_lets +onlyGivenNames s5 s6
      have h6 : Keeps s0 s6 := Keeps.foldl (fun x8 x9 h10 => dropSignalSeat_keeps h10) (Keeps.put h)
      clear_value s6
      with_reducible exact Keeps.put h6)))

theorem execSignalWatchdog_keeps {s0 s} (h : Keeps s0 s) : KeepsO s0 (execSignalWatchdog s) := by
  unfold execSignalWatchdog
  with_reducible exact KeepsO.ite (fun _ => KeepsO.next h) (fun _ => (by
    extract_lets +onlyGivenNames s3 s4 s5
    have h5 : Keeps s0 s5 := Keeps.put h
    clear_value s5
    with_reducible exact KeepsO.ite (fun _ => done_keeps (watchdogReset_keeps h5)) (fun _ => done_keeps (logEvent_keeps (resetSignal_keeps (countExpiry_keeps h5))))))

theorem linkAlarm_keeps {s0 s} (h : Keeps s0 s) : Keeps s0 (linkAlarm s) := by
  unfold linkAlarm
  with_reducible exact Keeps.ite (fun _ => sequencerSend_keeps (Keeps.put h)) (fun _ => restartLink_keeps h)

theorem execLinkWatchdog_keeps {s0 smp s} (h : Keeps s0 s) : KeepsO s0 (execLinkWatchdog smp s) := by
  unfold execLinkWatchdog
  with_reducible exact KeepsO.ite (fun _ => KeepsO.next h) (fun _ => (by
    extract_lets +onlyGivenNames s3
    have h3 : Keeps s0 s3 := sample_keeps h
    clear_value s3
    extract_lets +onlyGivenNames s4 s5 s6
    have h6 : Keeps s0 s6 := Keeps.put h3
    clear_value s6
    with_reducible exact KeepsO.ite (fun _ => done_keeps (watchdogReset_keeps h6)) (fun _ => (by
      extract_lets +onlyGivenNames s9
      have h9 : Keeps s0 s9 := Keeps.ite (fun _ => loseFrame_keeps h6) (fun _ => h6)
      clear_value s9
      with_reducible exact done_keeps (linkAlarm_keeps (logEvent_keeps (by
        extract_lets +onlyGivenNames s13
        have h13 : Keeps s0 s13 := resetLink_keeps (countExpiry_keeps h9)
        clear_value s13
        with_reducible exact Keeps.put h13)))))))

theorem execRegistrarWatchdog_keeps {s0 s} (h : Keeps s0 s) : KeepsO s0 (execRegistrarWatchdog s) := by
  unfold execRegistrarWatchdog
  with_reducible exact KeepsO.ite (fun _ => done_keeps (regRecover_keeps (logEvent_keeps (countExpiry_keeps (Keeps.put h))))) (fun _ => KeepsO.next h)

theorem execWardenWatchdog_keeps {s0 s} (h : Keeps s0 s) : KeepsO s0 (execWardenWatchdog s) := by
  unfold execWardenWatchdog
  with_reducible exact KeepsO.ite (fun _ => KeepsO.next h) (fun _ => (by
    split
    · with_reducible exact KeepsO.ite (fun _ => KeepsO.next (procFinish_keeps (countExpiry_keeps h))) (fun _ => done_keeps (watchdogReset_keeps h))
    · split
      · with_reducible exact KeepsO.next h
      · with_reducible exact KeepsO.next h
      · with_reducible exact done_keeps (watchdogReset_keeps h)))

theorem execShadowCommitComplete_keeps {s0 smp s} (h : Keeps s0 s) : KeepsO s0 (execShadowCommitComplete smp s) := by
  unfold execShadowCommitComplete
  split
  · with_reducible exact KeepsO.ite (fun _ => (by
      extract_lets +onlyGivenNames s2
      have h2 : Keeps s0 s2 := sample_keeps h
      clear_value s2
      with_reducible exact done_keeps (procAfterCommit_keeps (by
        extract_lets +onlyGivenNames s3
        have h3 : Keeps s0 s3 := finishCommit_keeps h2
        clear_value s3
        with_reducible exact Keeps.put h3)))) (fun _ => KeepsO.next h)
  · with_reducible exact KeepsO.next h

theorem execAlarmTelegramSeatTimeout_keeps {s0 s} (h : Keeps s0 s) : KeepsO s0 (execAlarmTelegramSeatTimeout s) := by
  unfold execAlarmTelegramSeatTimeout
  split
  · with_reducible exact done_keeps (tellDropped_keeps (Keeps.put h))
  · with_reducible exact KeepsO.next h

theorem execFaultTelegramDue_keeps {s0 smp s} (h : Keeps s0 s) : KeepsO s0 (execFaultTelegramDue smp s) := by
  unfold execFaultTelegramDue
  with_reducible exact KeepsO.ite (fun _ => KeepsO.next h) (fun _ => (by
    extract_lets +onlyGivenNames s3
    have h3 : Keeps s0 s3 := wake_keeps (sample_keeps h)
    clear_value s3
    extract_lets +onlyGivenNames s4 s5 s6
    have h6 : Keeps s0 s6 := Keeps.put h3
    clear_value s6
    with_reducible exact KeepsO.ite (fun _ => done_keeps h6) (fun _ => done_keeps (sequencerSend_keeps (faultTelegram_keeps h6)))))

theorem execSafeBeaconRetry_keeps {s0 s} (h : Keeps s0 s) : KeepsO s0 (execSafeBeaconRetry s) := by
  unfold execSafeBeaconRetry
  with_reducible exact KeepsO.ite (fun _ => KeepsO.next (leaveSafeBeacon_keeps (Keeps.put h))) (fun _ => KeepsO.next h)

theorem judgeDay_keeps {s0 f r s} (h : Keeps s0 s) : Keeps s0 (judgeDay f r s) := by
  unfold judgeDay
  with_reducible exact Keeps.ite (fun _ => (by
    extract_lets +onlyGivenNames s3 s4 s5
    have h5 : Keeps s0 s5 := Keeps.put h
    with_reducible exact Keeps.ite (fun _ => logEvent_keeps (Keeps.put h5)) (fun _ => h5))) (fun _ => Keeps.ite (fun _ => Keeps.put h) (fun _ => h))

theorem checkDay_keeps {s0 s} (h : Keeps s0 s) : Keeps s0 (checkDay s) := by
  unfold checkDay
  extract_lets +onlyGivenNames s1 s2 s3
  have h3 : Keeps s0 s3 := Keeps.put h
  clear_value s3
  split
  · with_reducible exact judgeDay_keeps h3
  · with_reducible exact h3

theorem execReverseDayCheck_keeps {s0 s} (h : Keeps s0 s) : KeepsO s0 (execReverseDayCheck s) := by
  unfold execReverseDayCheck
  split
  · with_reducible exact onTimer_keeps (fun x3 h4 => checkDay_keeps h4) h
  · with_reducible exact onTimer_keeps (fun x3 h4 => checkDay_keeps h4) h
  · with_reducible exact onTimer_keeps (fun x3 h4 => checkDay_keeps h4) h
  · with_reducible exact onTimer_keeps (fun x3 h4 => checkDay_keeps h4) h
  · with_reducible exact KeepsO.next h

theorem execStandingEventExpiry_keeps {s0 s} (h : Keeps s0 s) : KeepsO s0 (execStandingEventExpiry s) := by
  unfold execStandingEventExpiry
  split
  · with_reducible exact done_keeps (Keeps.put h)
  · with_reducible exact KeepsO.next h

/-! ## Starts -/

theorem beginStage_keeps {s0 n s} (h : Keeps s0 s) : Keeps s0 (beginStage n s) := by
  unfold beginStage
  with_reducible exact Keeps.ite (fun _ => Keeps.put h) (fun _ => Keeps.ite (fun _ => Keeps.put h) (fun _ => requestSeat_keeps (Keeps.put h)))

theorem addVresWait_keeps {s0 s} (h : Keeps s0 s) : Keeps s0 (addVresWait s) := by
  unfold addVresWait
  extract_lets +onlyGivenNames s1
  with_reducible exact Keeps.put h

theorem endXtWait_keeps {s0 s} (h : Keeps s0 s) : Keeps s0 (endXtWait s) := by
  unfold endXtWait
  extract_lets +onlyGivenNames s1
  with_reducible exact beginStage_keeps (Keeps.put h)

theorem countStage_keeps {s0 rep s} (h : Keeps s0 s) : Keeps s0 (countStage rep s) := by
  unfold countStage
  extract_lets +onlyGivenNames s1 s2 s3 s4 s5
  have h5 : Keeps s0 s5 := Keeps.put h
  clear_value s5
  split
  · with_reducible exact sample_keeps h5
  · with_reducible exact h5

theorem retireSegment_keeps {s0 bad c s t} (e : (retireSegment bad c s) = some t) (h : Keeps s0 s) : Keeps s0 t := by
  revert e
  unfold retireSegment
  extract_lets out
  have ho {p t} (k : Keeps s0 t) : Keeps s0 (out p t) := Keeps.put k
  clear_value out
  split
  · exact fun e => nomatch e
  · split
    · exact fun e => Option.some.inj e ▸ ho h
    · split
      · exact fun e => Option.some.inj e ▸ ho (Keeps.put h)
      · exact fun e => nomatch e

theorem marchStage_keeps {s0 rep s} (h : Keeps s0 s) : Keeps s0 (marchStage rep s) := by
  unfold marchStage
  dsimp only
  refine Keeps.foldl (fun x9 x11 h10 => Keeps.ite (fun _ => h10) (fun _ => ?_))
    (onlyIf_keeps (fun _ k => warn_keeps k) (Keeps.foldl (fun _ _ k => Keeps.put k) h))
  split
  · rename_i e
    exact warn_keeps (retireSegment_keeps e h10)
  · exact fatal_keeps h10

theorem otpStage_keeps {s0 rep s} (h : Keeps s0 s) : Keeps s0 (otpStage rep s) := by
  unfold otpStage
  refine Keeps.ite (fun _ => fatal_keeps h) (fun _ => Keeps.foldl (fun t n k => warn_keeps ?_) h)
  exact k.of id id (fun i => vupd_rank (fun x => KeySlot.rank_le_revoked x.1)) rfl rfl

theorem recoverArchive_keeps {s0 rep s} (h : Keeps s0 s) : Keeps s0 (recoverArchive rep s) := by
  unfold recoverArchive
  split
  · rename_i y2_0 y2_1 y2_2 y2_3 y2_4
    extract_lets +onlyGivenNames s3 s4 s5
    have h5 : Keeps s0 s5 := Keeps.put ((Keeps.of_pair2 y2_4 (recoverRecords_keeps h)))
    clear_value s5
    with_reducible exact Keeps.ite (fun _ => h5) (fun _ => warn_keeps h5)

theorem invalidBank_keeps {s0 s n} (h : Keeps s0 s) : Keeps s0 (invalidBank s n) := by
  unfold invalidBank
  with_reducible exact warn_keeps (writeObject_keeps (Keeps.put h))

theorem logHibernateEdges_keeps {s0 s} (h : Keeps s0 s) : Keeps s0 (logHibernateEdges s) := by
  unfold logHibernateEdges
  with_reducible exact Keeps.foldl (fun x2 x3 h4 => classEffects_keeps (enqueueEvent_keeps (flushDrops_keeps h4))) (Keeps.put h)

theorem archiveStage_keeps {s0 rep s} (h : Keeps s0 s) : Keeps s0 (archiveStage rep s) := by
  unfold archiveStage
  with_reducible exact Keeps.ite (fun _ => fatal_keeps h) (fun _ => (by
    extract_lets +onlyGivenNames s2
    have h2 : Keeps s0 s2 := recoverArchive_keeps h
    clear_value s2
    extract_lets +onlyGivenNames s3
    have h3 : Keeps s0 s3 := Keeps.foldl (fun x4 x6 h5 => invalidBank_keeps h5) h2
    clear_value s3
    with_reducible exact writeObject_keeps (writeObject_keeps (drainEvents_keeps (logHibernateEdges_keeps (Keeps.put h3))))))

theorem settlePendingCopy_keeps {s0 s} (h : Keeps s0 s) : Keeps s0 (settlePendingCopy s) := by
  unfold settlePendingCopy
  beta_reduce
  split
  · with_reducible exact h
  · with_reducible exact freeRegions_keeps (Keeps.ite (fun _ => Keeps.put (onlyIf_keeps (fun x2 h3 => resetSwap_keeps h3) h)) (fun _ => Keeps.put h))

theorem govern_keeps {s0 c s} (h : Keeps s0 s) : Keeps s0 (govern c s) := by
  unfold govern
  extract_lets +onlyGivenNames s2 s3 s4 s5
  with_reducible exact initPaths_keeps (Keeps.put h)

theorem takeImage_keeps {s0 i c keys s} (h : Keeps s0 s) : Keeps s0 (takeImage i c keys s) := by
  unfold takeImage
  refine acceptFloor_keeps (onlyIf_keeps (fun _ k => resetSwap_keeps k) (govern_keeps (Keeps.put ?_)))
  have h4 : Keeps s0 (if keysEmpty s && keys then { setKeySlot 0 (.active, c.signer) s with r.sys.otpkeyFirst := true } else s) :=
    Keeps.ite (fun c => Keeps.put (setKeySlot_keeps (by
      simp only [Bool.and_eq_true] at c
      rw [keysEmpty_get c.1]
      exact Nat.zero_le _) h)) (fun _ => h)
  exact Keeps.ite (fun _ => programSuccessor_keeps (revokeBelow_keeps h4)) (fun _ => successorIgnored_keeps (revokeBelow_keeps h4))

theorem selectImage_keeps {s0 s} (h : Keeps s0 s) : Keeps s0 (selectImage s) := by
  unfold selectImage
  split
  · with_reducible exact fatal_keeps h
  · with_reducible exact Keeps.ite (fun _ => Keeps.put h) (fun _ => takeImage_keeps h)

theorem imageStage_keeps {s0 rep s} (h : Keeps s0 s) : Keeps s0 (imageStage rep s) := by
  unfold imageStage
  have hv := validateBoth_keeps (rep := rep) (settlePendingCopy_keeps h)
  revert hv
  generalize validateBoth rep (settlePendingCopy s) = p
  obtain ⟨a, b, t⟩ := p
  intro hv
  exact selectImage_keeps (Keeps.ite (fun _ => Keeps.ite (fun _ => hv) (fun _ => warn_keeps hv))
    (fun _ => warn_keeps (Keeps.ite (fun _ => hv) (fun _ => warn_keeps hv))))

theorem rejectImage_keeps {s0 i s} (h : Keeps s0 s) : Keeps s0 (rejectImage i s) := by
  unfold rejectImage
  extract_lets +onlyGivenNames s1
  with_reducible exact warn_keeps (slotWords_keeps h)

theorem readPorts_keeps {s0 rep s} (h : Keeps s0 s) : Keeps s0 (readPorts rep s) := by
  unfold readPorts
  with_reducible exact Keeps.foldl (fun x2 x3 h4 => startPort_keeps h4) h

theorem moduleStage.failModules_keeps {s0 s} (h : Keeps s0 s) : Keeps s0 (moduleStage.failModules s) := by
  unfold moduleStage.failModules
  with_reducible exact failStart_keeps (recordFatal_keeps h)

theorem moduleStage_keeps {s0 rep s} (h : Keeps s0 s) : Keeps s0 (moduleStage rep s) := by
  unfold moduleStage
  extract_lets +onlyGivenNames s2
  have h2 : Keeps s0 s2 := startFunctions_keeps (readPorts_keeps (portsOff_keeps h))
  clear_value s2
  with_reducible exact Keeps.ite (fun _ => moduleStage.failModules_keeps h2) (fun _ => h2)

theorem startCalibrates_keeps {s0 w rep s} (h : Keeps s0 s) : Keeps s0 (startCalibrates w rep s) := by
  unfold startCalibrates
  extract_lets +onlyGivenNames s2 s3 s4
  with_reducible exact vitrineSucceeds_keeps (applyCalibration_keeps (vitrineOff_keeps (Keeps.put h)))

theorem judgeVitrine_keeps {s0 rep dead s} (hdead : ∀ t0, Keeps s0 t0 → Keeps s0 (dead t0)) (h : Keeps s0 s) : Keeps s0 (judgeVitrine rep dead s) := by
  unfold judgeVitrine
  with_reducible exact Keeps.ite (fun _ => startCalibrates_keeps h) (fun _ => (by
    extract_lets +onlyGivenNames s2
    have h2 : Keeps s0 s2 := vitrineFails_keeps h
    clear_value s2
    with_reducible exact Keeps.ite (fun _ => warn_keeps h2) (fun _ => hdead _ h2)))

theorem vitrineStage_keeps {s0 rep s} (h : Keeps s0 s) : Keeps s0 (vitrineStage rep s) := by
  unfold vitrineStage
  with_reducible exact judgeVitrine_keeps (fun x2 h3 => fatal_keeps h3) h

theorem judgeStart_keeps {s0 cause rep s} (h : Keeps s0 s) : Keeps s0 (judgeStart cause rep s) := by
  unfold judgeStart
  extract_lets +onlyGivenNames s1
  beta_reduce
  with_reducible exact Keeps.put (planRetry_keeps (countCal_keeps (judgeChannels_keeps (Keeps.put h))))

theorem tdcStage_keeps {s0 rep s} (h : Keeps s0 s) : Keeps s0 (tdcStage rep s) := by
  unfold tdcStage
  extract_lets +onlyGivenNames s1
  have h1 : Keeps s0 s1 := judgeStart_keeps h
  clear_value s1
  extract_lets +onlyGivenNames s2
  have h2 : Keeps s0 s2 := Keeps.foldl (fun x4 x5 h6 => warn_keeps h6) h1
  clear_value s2
  split
  · with_reducible exact reroute_keeps h2
  · with_reducible exact fatal_keeps h2

theorem checkPorts_keeps {s0 rep s} (h : Keeps s0 s) : Keeps s0 (checkPorts rep s) := by
  unfold checkPorts
  with_reducible exact Keeps.foldl (fun x2 x3 h4 => checkPort_keeps h4) (Keeps.put h)

theorem portStage_keeps {s0 rep s} (h : Keeps s0 s) : Keeps s0 (portStage rep s) := by
  unfold portStage
  extract_lets +onlyGivenNames s1
  have h1 : Keeps s0 s1 := checkPorts_keeps h
  clear_value s1
  with_reducible exact Keeps.foldl (fun x3 x4 h5 => warn_keeps h5) h1

theorem checkProbes_keeps {s0 rep s} (h : Keeps s0 s) : Keeps s0 (checkProbes rep s) := by
  unfold checkProbes
  extract_lets +onlyGivenNames s1
  have h1 : Keeps s0 s1 := channelWords_keeps h
  clear_value s1
  with_reducible exact setUnavail_keeps h1

theorem probeStage_keeps {s0 rep s} (h : Keeps s0 s) : Keeps s0 (probeStage rep s) := by
  unfold probeStage
  extract_lets +onlyGivenNames s1
  have h1 : Keeps s0 s1 := checkProbes_keeps h
  clear_value s1
  with_reducible exact Keeps.foldl (fun x3 x4 h5 => warn_keeps h5) h1

theorem radioStage_keeps {s0 rep s} (h : Keeps s0 s) : Keeps s0 (radioStage rep s) := by
  unfold radioStage
  with_reducible exact Keeps.ite (fun _ => writeObject_keeps (radioPasses_keeps h)) (fun _ => warn_keeps (radioAvailable_keeps (Keeps.put h)))

theorem countImage_keeps {s0 s} (h : Keeps s0 s) : Keeps s0 (countImage s) := by
  unfold countImage
  extract_lets +onlyGivenNames s2
  split
  · with_reducible exact acceptCopy_keeps (writeShadow_keeps (sealFull_keeps (countFirst_keeps h)))
  · extract_lets +onlyGivenNames s3 s4
    have h4 : Keeps s0 s4 := Keeps.foldl (fun x5 x7 h6 => countRecord_keeps h6) h
    clear_value s4
    extract_lets +onlyGivenNames s8
    have h8 : Keeps s0 s8 := Keeps.ite (fun _ => logOtherChange_keeps h4) (fun _ => writeShadow_keeps h4)
    clear_value s8
    with_reducible exact acceptCopy_keeps h8

theorem restoreStage_keeps {s0 s} (h : Keeps s0 s) : Keeps s0 (restoreStage s) := by
  unfold restoreStage
  split
  · exact fatal_keeps h
  · rename_i e
    exact countImage_keeps (Keeps.ite (fun _ => Keeps.put (restoreRegistrar_keeps e h))
      (fun _ => warn_keeps (Keeps.put (restoreRegistrar_keeps e h))))

theorem enterRun_keeps {s0 s} (h : Keeps s0 s) : Keeps s0 (enterRun s) := by
  unfold enterRun
  extract_lets +onlyGivenNames s2 s3 s4 s5 s6 s7 s8 s9 s10 s11
  have h11 : Keeps s0 s11 := Keeps.put h
  clear_value s11
  with_reducible exact startRole_keeps (startPiste_keeps (renewPairs_keeps h11))

theorem enterRunCold_keeps {s0 s} (h : Keeps s0 s) : Keeps s0 (enterRunCold s) := by
  unfold enterRunCold
  extract_lets +onlyGivenNames s1
  have h1 : Keeps s0 s1 := logEvent_keeps h
  clear_value s1
  extract_lets +onlyGivenNames s2 s3 s4
  have h4 : Keeps s0 s4 := onlyIf_keeps (fun x6 h7 => logEvent_keeps h7) (onlyIf_keeps (fun x7 h8 => writeObject_keeps h8) (Keeps.put h1))
  clear_value s4
  with_reducible exact enterRun_keeps (Keeps.put h4)

theorem judgeStage_keeps {s0 n rep s} (h : Keeps s0 s) : Keeps s0 (judgeStage n rep s) := by
  unfold judgeStage
  split
  · with_reducible exact Keeps.ite (fun _ => Keeps.put h) (fun _ => h)
  · split
    · with_reducible exact fatal_keeps h
    · with_reducible exact h
  · with_reducible exact marchStage_keeps h
  · with_reducible exact otpStage_keeps h
  · with_reducible exact archiveStage_keeps h
  · with_reducible exact imageStage_keeps h
  · with_reducible exact moduleStage_keeps h
  · with_reducible exact vitrineStage_keeps h
  · with_reducible exact tdcStage_keeps h
  · with_reducible exact portStage_keeps h
  · with_reducible exact probeStage_keeps h
  · with_reducible exact radioStage_keeps h
  · with_reducible exact restoreStage_keeps h
  · with_reducible exact enterRunCold_keeps h
  · with_reducible exact h

theorem afterStage_keeps {s0 n s} (h : Keeps s0 s) : Keeps s0 (afterStage n s) := by
  unfold afterStage
  extract_lets +onlyGivenNames s1
  have h1 : Keeps s0 s1 := domOff_keeps (releaseSeat_keeps h)
  clear_value s1
  split
  · with_reducible exact Keeps.ite (fun _ => failStart_keeps (logEvent_keeps h1)) (fun _ => Keeps.ite (fun _ => beginStage_keeps h1) (fun _ => Keeps.put h1))
  · extract_lets +onlyGivenNames s3 s4
    have h4 : Keeps s0 s4 := Keeps.put h1
    clear_value s4
    with_reducible exact Keeps.ite (fun _ => beginStage_keeps h4) (fun _ => Keeps.put h4)
  · with_reducible exact h1
  · with_reducible exact beginStage_keeps h1

theorem endStage_keeps {s0 n rep s} (h : Keeps s0 s) : Keeps s0 (endStage n rep s) := by
  unfold endStage
  extract_lets +onlyGivenNames s1
  have h1 : Keeps s0 s1 := judgeStage_keeps (countStage_keeps h)
  clear_value s1
  with_reducible exact Keeps.ite (fun _ => h1) (fun _ => Keeps.ite (fun _ => afterStage_keeps h1) (fun _ => h1))

theorem execColdStartStageEnd_keeps {s0 rep s} (h : Keeps s0 s) : KeepsO s0 (execColdStartStageEnd rep s) := by
  unfold execColdStartStageEnd
  split
  · with_reducible exact KeepsO.ite (fun _ => done_keeps (endStage_keeps h)) (fun _ => KeepsO.next h)
  · with_reducible exact KeepsO.next h

theorem execReservoirWaitMet_keeps {s0 smp s} (h : Keeps s0 s) : KeepsO s0 (execReservoirWaitMet smp s) := by
  unfold execReservoirWaitMet
  with_reducible exact KeepsO.ite (fun _ => KeepsO.next h) (fun _ => (by
    extract_lets +onlyGivenNames s3
    have h3 : Keeps s0 s3 := sample_keeps h
    clear_value s3
    with_reducible exact done_keeps (Keeps.ite (fun _ => beginStage_keeps (addVresWait_keeps h3)) (fun _ => h3))))

theorem execXt32Running_keeps {s0 s} (h : Keeps s0 s) : KeepsO s0 (execXt32Running s) := by
  unfold execXt32Running
  with_reducible exact KeepsO.ite (fun _ => KeepsO.next h) (fun _ => (by
    extract_lets +onlyGivenNames s3 s4
    have h4 : Keeps s0 s4 := Keeps.put h
    clear_value s4
    with_reducible exact KeepsO.ite (fun _ => done_keeps (endXtWait_keeps h4)) (fun _ => KeepsO.next h4)))

theorem execXt32StartTimeout_keeps {s0 s} (h : Keeps s0 s) : KeepsO s0 (execXt32StartTimeout s) := by
  unfold execXt32StartTimeout
  with_reducible exact KeepsO.ite (fun _ => KeepsO.next h) (fun _ => (by
    extract_lets +onlyGivenNames s3
    have h3 : Keeps s0 s3 := loseXt32_keeps h
    clear_value s3
    extract_lets +onlyGivenNames s4 s5
    have h5 : Keeps s0 s5 := Keeps.put h3
    clear_value s5
    with_reducible exact done_keeps (Keeps.ite (fun _ => endXtWait_keeps h5) (fun _ => h5))))

theorem reloadKeys_keeps {s0 keys s} (h : Keeps s0 s) : Keeps s0 (reloadKeys keys s) := by
  unfold reloadKeys
  extract_lets +onlyGivenNames s1 s2
  have h2 : Keeps s0 s2 := Keeps.ite (fun _ => programSuccessor_keeps h) (fun _ => successorIgnored_keeps h)
  clear_value s2
  with_reducible exact Keeps.put h2

theorem execOtpProgramWaitMet_keeps {s0 smp s} (h : Keeps s0 s) : KeepsO s0 (execOtpProgramWaitMet smp s) := by
  unfold execOtpProgramWaitMet
  with_reducible exact KeepsO.ite (fun _ => KeepsO.next h) (fun _ => (by
    extract_lets +onlyGivenNames s3
    have h3 : Keeps s0 s3 := sample_keeps h
    clear_value s3
    with_reducible exact KeepsO.ite (fun _ => done_keeps h3) (fun _ => (by
      split
      · with_reducible exact done_keeps (afterStage_keeps (takeImage_keeps (addVresWait_keeps h3)))
      · with_reducible exact done_keeps (reloadKeys_keeps h3)
      · with_reducible exact KeepsO.next h3))))

theorem execOtpProgramWaitTimeout_keeps {s0 s} (h : Keeps s0 s) : KeepsO s0 (execOtpProgramWaitTimeout s) := by
  unfold execOtpProgramWaitTimeout
  with_reducible exact KeepsO.ite (fun _ => KeepsO.next h) (fun _ => (by
    split
    · extract_lets +onlyGivenNames s4
      have h4 : Keeps s0 s4 := addVresWait_keeps h
      clear_value s4
      extract_lets +onlyGivenNames s5 s6
      have h6 : Keeps s0 s6 := Keeps.put h4
      clear_value s6
      with_reducible exact done_keeps (Keeps.ite (fun _ => selectImage_keeps (rejectImage_keeps h6)) (fun _ => afterStage_keeps (takeImage_keeps h6)))
    · with_reducible exact done_keeps (reloadKeys_keeps h)
    · with_reducible exact KeepsO.next h))

theorem execStageSeatTimeout_keeps {s0 s} (h : Keeps s0 s) : KeepsO s0 (execStageSeatTimeout s) := by
  unfold execStageSeatTimeout
  split
  · with_reducible exact KeepsO.ite (fun _ => done_keeps (stageSeatDropped_keeps h)) (fun _ => KeepsO.next h)
  · with_reducible exact KeepsO.next h

theorem hibTables_keeps {s0 rep s} (h : Keeps s0 s) : Keeps s0 (hibTables rep s) := by
  unfold hibTables
  extract_lets +onlyGivenNames s1 s2
  with_reducible exact Keeps.ite (fun _ => reroute_keeps (Keeps.put h)) (fun _ => (by
    extract_lets +onlyGivenNames s5
    have h5 : Keeps s0 s5 := judgeStart_keeps h
    clear_value s5
    split
    · with_reducible exact abandonHib_keeps h5
    · with_reducible exact abandonHib_keeps h5
    · with_reducible exact reroute_keeps h5))

theorem hibModules_keeps {s0 rep s} (h : Keeps s0 s) : Keeps s0 (hibModules rep s) := by
  unfold hibModules
  extract_lets +onlyGivenNames s2
  have h2 : Keeps s0 s2 := readPorts_keeps (portsOff_keeps h)
  clear_value s2
  with_reducible exact Keeps.ite (fun _ => fallBack_keeps h2) (fun _ => (by
    extract_lets +onlyGivenNames s3
    have h3 : Keeps s0 s3 := startFunctions_keeps h2
    clear_value s3
    with_reducible exact judgeVitrine_keeps (fun x4 h5 => abandonHib_keeps h5) h3))

theorem judgeStep_keeps {s0 n rep s} (h : Keeps s0 s) : Keeps s0 (judgeStep n rep s) := by
  unfold judgeStep
  split
  · split
    · with_reducible exact abandonHib_keeps h
    · with_reducible exact h
  · with_reducible exact Keeps.ite (fun _ => abandonHib_keeps h) (fun _ => Keeps.ite (fun _ => h) (fun _ => abandonHib_keeps h))
  · with_reducible exact Keeps.ite (fun _ => abandonHib_keeps h) (fun _ => Keeps.ite (fun _ => abandonHib_keeps h) (fun _ => writeObject_keeps (drainEvents_keeps (logHibernateEdges_keeps (Keeps.put (recoverArchive_keeps h))))))
  · with_reducible exact Keeps.ite (fun _ => (by
      split
      · with_reducible exact govern_keeps h
      · with_reducible exact fallBack_keeps h)) (fun _ => fallBack_keeps h)
  · with_reducible exact hibModules_keeps h
  · with_reducible exact hibTables_keeps h
  · extract_lets +onlyGivenNames s3
    have h3 : Keeps s0 s3 := checkPorts_keeps h
    split
    · with_reducible exact h3
    · with_reducible exact fallBack_keeps (Keeps.foldl (fun x4 x6 h5 => logEvent_keeps h5) h3)
  · extract_lets +onlyGivenNames s7
    have h7 : Keeps s0 s7 := checkProbes_keeps h
    split
    · with_reducible exact h7
    · with_reducible exact fallBack_keeps (Keeps.foldl (fun x8 x10 h9 => logEvent_keeps h9) h7)
  · with_reducible exact Keeps.ite (fun _ => radioPasses_keeps h) (fun _ => abandonHib_keeps h)
  · split
    · rename_i e
      extract_lets +onlyGivenNames s12 s13
      have h13 : Keeps s0 s13 := Keeps.put (restoreRegistrar_keeps e h)
      with_reducible exact Keeps.ite (fun _ => h13) (fun _ => warn_keeps h13)
    · with_reducible exact abandonHib_keeps h
  · with_reducible exact enterRun_keeps h
  · with_reducible exact h

theorem nextHibStep_keeps {s0 n s} (h : Keeps s0 s) : Keeps s0 (nextHibStep n s) := by
  unfold nextHibStep
  with_reducible exact beginHibStep_keeps (domOff_keeps (releaseSeat_keeps h))

theorem execHibernateStartStepEnd_keeps {s0 rep s} (h : Keeps s0 s) : KeepsO s0 (execHibernateStartStepEnd rep s) := by
  unfold execHibernateStartStepEnd
  split
  · with_reducible exact KeepsO.ite (fun _ => KeepsO.next h) (fun _ => (by
      extract_lets +onlyGivenNames s2
      have h2 : Keeps s0 s2 := judgeStep_keeps (countStage_keeps h)
      clear_value s2
      with_reducible exact done_keeps (Keeps.ite (fun _ => nextHibStep_keeps h2) (fun _ => h2))))
  · with_reducible exact KeepsO.next h

end Sys2Proof.Machine
end

