-- ==== Sys2Proof/Laws/KeepsExec.lean ====
section
/-! SUPPORT. What every command and every step keeps: the lemmas of the meanings, put together over the dispatch. -/

namespace Sys2Proof.Machine

/-- Whatever the command, its next state keeps what every operation keeps. -/
theorem exec_keeps (c : Instr) (s : State) : KeepsO s (exec c s) := by
  cases c with
  | porRelease => simp only [exec]; with_reducible exact execPorRelease_keeps (Keeps.refl s)
  | vbatBelowPor => simp only [exec]; with_reducible exact execVbatBelowPor_keeps (Keeps.refl s)
  | brownout => simp only [exec]; with_reducible exact execBrownout_keeps (Keeps.refl s)
  | brownoutRecovery => simp only [exec]; with_reducible exact execBrownoutRecovery_keeps (Keeps.refl s)
  | rstNLow => simp only [exec]; with_reducible exact execRstNLow_keeps (Keeps.refl s)
  | rstNRise => simp only [exec]; with_reducible exact execRstNRise_keeps (Keeps.refl s)
  | vddioLoss => simp only [exec]; with_reducible exact execVddioLoss_keeps (Keeps.refl s)
  | extestEntry => simp only [exec]; with_reducible exact execExtestEntry_keeps (Keeps.refl s)
  | extestExit => simp only [exec]; with_reducible exact execExtestExit_keeps (Keeps.refl s)
  | coldStartStageEnd => simp only [exec]; with_reducible exact execColdStartStageEnd_keeps (Keeps.refl s)
  | reservoirWaitMet => simp only [exec]; with_reducible exact execReservoirWaitMet_keeps (Keeps.refl s)
  | xt32Running => simp only [exec]; with_reducible exact execXt32Running_keeps (Keeps.refl s)
  | xt32StartTimeout => simp only [exec]; with_reducible exact execXt32StartTimeout_keeps (Keeps.refl s)
  | otpProgramWaitMet => simp only [exec]; with_reducible exact execOtpProgramWaitMet_keeps (Keeps.refl s)
  | otpProgramWaitTimeout => simp only [exec]; with_reducible exact execOtpProgramWaitTimeout_keeps (Keeps.refl s)
  | stageSeatTimeout => simp only [exec]; with_reducible exact execStageSeatTimeout_keeps (Keeps.refl s)
  | hibernateStartStepEnd => simp only [exec]; with_reducible exact execHibernateStartStepEnd_keeps (Keeps.refl s)
  | faultTelegramDue => simp only [exec]; with_reducible exact execFaultTelegramDue_keeps (Keeps.refl s)
  | safeBeaconRetry => simp only [exec]; with_reducible exact execSafeBeaconRetry_keeps (Keeps.refl s)
  | pwrcmdHibernate => simp only [exec]; with_reducible exact execPwrcmdHibernate_keeps (Keeps.refl s)
  | pwrcmdOff => simp only [exec]; with_reducible exact execPwrcmdOff_keeps (Keeps.refl s)
  | stateRequestEvaluate => simp only [exec]; with_reducible exact execStateRequestEvaluate_keeps (Keeps.refl s)
  | stateEntryComplete => simp only [exec]; with_reducible exact execStateEntryComplete_keeps (Keeps.refl s)
  | wakeRtcCompare => simp only [exec]; with_reducible exact execWakeRtcCompare_keeps (Keeps.refl s)
  | hstCsFall => simp only [exec]; with_reducible exact execHstCsFall_keeps (Keeps.refl s)
  | hstWakeEdge => simp only [exec]; with_reducible exact execHstWakeEdge_keeps (Keeps.refl s)
  | hostWakePattern => simp only [exec]; with_reducible exact execHostWakePattern_keeps (Keeps.refl s)
  | irCarrierWake => simp only [exec]; with_reducible exact execIrCarrierWake_keeps (Keeps.refl s)
  | keyPress => simp only [exec]; with_reducible exact execKeyPress_keeps (Keeps.refl s)
  | keyRelease => simp only [exec]; with_reducible exact execKeyRelease_keeps (Keeps.refl s)
  | keysHeld5s => simp only [exec]; with_reducible exact execKeysHeld5s_keeps (Keeps.refl s)
  | tamperSample => simp only [exec]; with_reducible exact execTamperSample_keeps (Keeps.refl s)
  | pulseInputEdge => simp only [exec]; with_reducible exact execPulseInputEdge_keeps (Keeps.refl s)
  | pulseOutputEmit => simp only [exec]; with_reducible exact execPulseOutputEmit_keeps (Keeps.refl s)
  | seatRequest => simp only [exec]; with_reducible exact execSeatRequest_keeps (Keeps.refl s)
  | chairliftEvaluate => simp only [exec]; with_reducible exact execChairliftEvaluate_keeps (Keeps.refl s)
  | seatRelease => simp only [exec]; with_reducible exact execSeatRelease_keeps (Keeps.refl s)
  | seatDeadlineDrop => simp only [exec]; with_reducible exact execSeatDeadlineDrop_keeps (Keeps.refl s)
  | vresSample => simp only [exec]; with_reducible exact execVresSample_keeps (Keeps.refl s)
  | vresAbortLevel => simp only [exec]; with_reducible exact execVresAbortLevel_keeps (Keeps.refl s)
  | vresTxFloor => simp only [exec]; with_reducible exact execVresTxFloor_keeps (Keeps.refl s)
  | reservoirRiseTimed => simp only [exec]; with_reducible exact execReservoirRiseTimed_keeps (Keeps.refl s)
  | chargeSwitchTimeout => simp only [exec]; with_reducible exact execChargeSwitchTimeout_keeps (Keeps.refl s)
  | vitrineCalDue => simp only [exec]; with_reducible exact execVitrineCalDue_keeps (Keeps.refl s)
  | vitrdySet => simp only [exec]; with_reducible exact execVitrdySet_keeps (Keeps.refl s)
  | vitrdyTimeout => simp only [exec]; with_reducible exact execVitrdyTimeout_keeps (Keeps.refl s)
  | ovenOvertemp => simp only [exec]; with_reducible exact execOvenOvertemp_keeps (Keeps.refl s)
  | vitrineDeferLimit => simp only [exec]; with_reducible exact execVitrineDeferLimit_keeps (Keeps.refl s)
  | vitrineGateEnd => simp only [exec]; with_reducible exact execVitrineGateEnd_keeps (Keeps.refl s)
  | vitrineCalCompute => simp only [exec]; with_reducible exact execVitrineCalCompute_keeps (Keeps.refl s)
  | vitrineCalRetry => simp only [exec]; with_reducible exact execVitrineCalRetry_keeps (Keeps.refl s)
  | calStale24h => simp only [exec]; with_reducible exact execCalStale24h_keeps (Keeps.refl s)
  | xt32Stop => simp only [exec]; with_reducible exact execXt32Stop_keeps (Keeps.refl s)
  | xt32RestoreCount => simp only [exec]; with_reducible exact execXt32RestoreCount_keeps (Keeps.refl s)
  | lprcCheck => simp only [exec]; with_reducible exact execLprcCheck_keeps (Keeps.refl s)
  | clockRecoveryAttempt => simp only [exec]; with_reducible exact execClockRecoveryAttempt_keeps (Keeps.refl s)
  | lprcCalGateEnd => simp only [exec]; with_reducible exact execLprcCalGateEnd_keeps (Keeps.refl s)
  | pllLockTimeout => simp only [exec]; with_reducible exact execPllLockTimeout_keeps (Keeps.refl s)
  | ledgerRecordDue => simp only [exec]; with_reducible exact execLedgerRecordDue_keeps (Keeps.refl s)
  | tlzoneWrite => simp only [exec]; with_reducible exact execTlzoneWrite_keeps (Keeps.refl s)
  | tlzoneApply => simp only [exec]; with_reducible exact execTlzoneApply_keeps (Keeps.refl s)
  | tdcStart => simp only [exec]; with_reducible exact execTdcStart_keeps (Keeps.refl s)
  | tdcStopCrossing => simp only [exec]; with_reducible exact execTdcStopCrossing_keeps (Keeps.refl s)
  | tdcRunEnd => simp only [exec]; with_reducible exact execTdcRunEnd_keeps (Keeps.refl s)
  | tdcCalDue => simp only [exec]; with_reducible exact execTdcCalDue_keeps (Keeps.refl s)
  | tdcCalBlockEnd => simp only [exec]; with_reducible exact execTdcCalBlockEnd_keeps (Keeps.refl s)
  | tdcCalBlockAbandon => simp only [exec]; with_reducible exact execTdcCalBlockAbandon_keeps (Keeps.refl s)
  | tdcCalEvaluate => simp only [exec]; with_reducible exact execTdcCalEvaluate_keeps (Keeps.refl s)
  | tdcCalRetry => simp only [exec]; with_reducible exact execTdcCalRetry_keeps (Keeps.refl s)
  | tdcNoPass2calint => simp only [exec]; with_reducible exact execTdcNoPass2calint_keeps (Keeps.refl s)
  | pisteStepDue => simp only [exec]; with_reducible exact execPisteStepDue_keeps (Keeps.refl s)
  | boostReady => simp only [exec]; with_reducible exact execBoostReady_keeps (Keeps.refl s)
  | boostTimeout => simp only [exec]; with_reducible exact execBoostTimeout_keeps (Keeps.refl s)
  | shotFire => simp only [exec]; with_reducible exact execShotFire_keeps (Keeps.refl s)
  | shotCaptureProcess => simp only [exec]; with_reducible exact execShotCaptureProcess_keeps (Keeps.refl s)
  | retryShot => simp only [exec]; with_reducible exact execRetryShot_keeps (Keeps.refl s)
  | intervalResultPost => simp only [exec]; with_reducible exact execIntervalResultPost_keeps (Keeps.refl s)
  | zeroCheckResult => simp only [exec]; with_reducible exact execZeroCheckResult_keeps (Keeps.refl s)
  | fastSequenceTimeout => simp only [exec]; with_reducible exact execFastSequenceTimeout_keeps (Keeps.refl s)
  | templateDailyCopy => simp only [exec]; with_reducible exact execTemplateDailyCopy_keeps (Keeps.refl s)
  | temperatureResultPost => simp only [exec]; with_reducible exact execTemperatureResultPost_keeps (Keeps.refl s)
  | pressureRead => simp only [exec]; with_reducible exact execPressureRead_keeps (Keeps.refl s)
  | registrarIntegrate => simp only [exec]; with_reducible exact execRegistrarIntegrate_keeps (Keeps.refl s)
  | minuteSealTimeout => simp only [exec]; with_reducible exact execMinuteSealTimeout_keeps (Keeps.refl s)
  | lockstepDisagreement => simp only [exec]; with_reducible exact execLockstepDisagreement_keeps (Keeps.refl s)
  | availabilityBinClose => simp only [exec]; with_reducible exact execAvailabilityBinClose_keeps (Keeps.refl s)
  | sramUncorrectable => simp only [exec]; with_reducible exact execSramUncorrectable_keeps (Keeps.refl s)
  | xbCollision => simp only [exec]; with_reducible exact execXbCollision_keeps (Keeps.refl s)
  | xbpageSelWrite => simp only [exec]; with_reducible exact execXbpageSelWrite_keeps (Keeps.refl s)
  | bgcmdStart => simp only [exec]; with_reducible exact execBgcmdStart_keeps (Keeps.refl s)
  | bgtestDue => simp only [exec]; with_reducible exact execBgtestDue_keeps (Keeps.refl s)
  | bgSlice => simp only [exec]; with_reducible exact execBgSlice_keeps (Keeps.refl s)
  | bgWindowRelease => simp only [exec]; with_reducible exact execBgWindowRelease_keeps (Keeps.refl s)
  | bgUrgentAccess => simp only [exec]; with_reducible exact execBgUrgentAccess_keeps (Keeps.refl s)
  | bgPassOverdue => simp only [exec]; with_reducible exact execBgPassOverdue_keeps (Keeps.refl s)
  | archiveOpComplete => simp only [exec]; with_reducible exact execArchiveOpComplete_keeps (Keeps.refl s)
  | eraseSuspend => simp only [exec]; with_reducible exact execEraseSuspend_keeps (Keeps.refl s)
  | wardenAreaErase => simp only [exec]; with_reducible exact execWardenAreaErase_keeps (Keeps.refl s)
  | synthLockTimeout => simp only [exec]; with_reducible exact execSynthLockTimeout_keeps (Keeps.refl s)
  | transmissionStart => simp only [exec]; with_reducible exact execTransmissionStart_keeps (Keeps.refl s)
  | transmissionEnd => simp only [exec]; with_reducible exact execTransmissionEnd_keeps (Keeps.refl s)
  | replyWindowOpen => simp only [exec]; with_reducible exact execReplyWindowOpen_keeps (Keeps.refl s)
  | replyWindowClose => simp only [exec]; with_reducible exact execReplyWindowClose_keeps (Keeps.refl s)
  | en13757AckReceived => simp only [exec]; with_reducible exact execEn13757AckReceived_keeps (Keeps.refl s)
  | sequencerCommand => simp only [exec]; with_reducible exact execSequencerCommand_keeps (Keeps.refl s)
  | sequencerTakeover => simp only [exec]; with_reducible exact execSequencerTakeover_keeps (Keeps.refl s)
  | superframeBoundary => simp only [exec]; with_reducible exact execSuperframeBoundary_keeps (Keeps.refl s)
  | beaconRequest => simp only [exec]; with_reducible exact execBeaconRequest_keeps (Keeps.refl s)
  | beacon => simp only [exec]; with_reducible exact execBeacon_keeps (Keeps.refl s)
  | beaconWindowClose => simp only [exec]; with_reducible exact execBeaconWindowClose_keeps (Keeps.refl s)
  | uploadDue => simp only [exec]; with_reducible exact execUploadDue_keeps (Keeps.refl s)
  | poll => simp only [exec]; with_reducible exact execPoll_keeps (Keeps.refl s)
  | ack => simp only [exec]; with_reducible exact execAck_keeps (Keeps.refl s)
  | ackWindowClose => simp only [exec]; with_reducible exact execAckWindowClose_keeps (Keeps.refl s)
  | join => simp only [exec]; with_reducible exact execJoin_keeps (Keeps.refl s)
  | joinSend => simp only [exec]; with_reducible exact execJoinSend_keeps (Keeps.refl s)
  | handover => simp only [exec]; with_reducible exact execHandover_keeps (Keeps.refl s)
  | searchEnd => simp only [exec]; with_reducible exact execSearchEnd_keeps (Keeps.refl s)
  | searchRetryDue => simp only [exec]; with_reducible exact execSearchRetryDue_keeps (Keeps.refl s)
  | fallbackTelegramDue => simp only [exec]; with_reducible exact execFallbackTelegramDue_keeps (Keeps.refl s)
  | deputyPromotion => simp only [exec]; with_reducible exact execDeputyPromotion_keeps (Keeps.refl s)
  | memberRemoval => simp only [exec]; with_reducible exact execMemberRemoval_keeps (Keeps.refl s)
  | handoverChoice => simp only [exec]; with_reducible exact execHandoverChoice_keeps (Keeps.refl s)
  | handoverTransferStart => simp only [exec]; with_reducible exact execHandoverTransferStart_keeps (Keeps.refl s)
  | handoverTransferEnd => simp only [exec]; with_reducible exact execHandoverTransferEnd_keeps (Keeps.refl s)
  | handoverH4Check => simp only [exec]; with_reducible exact execHandoverH4Check_keeps (Keeps.refl s)
  | marksCopy => simp only [exec]; with_reducible exact execMarksCopy_keeps (Keeps.refl s)
  | listenWindowOpen => simp only [exec]; with_reducible exact execListenWindowOpen_keeps (Keeps.refl s)
  | listenWindowClose => simp only [exec]; with_reducible exact execListenWindowClose_keeps (Keeps.refl s)
  | wakeWord => simp only [exec]; with_reducible exact execWakeWord_keeps (Keeps.refl s)
  | sessionHello => simp only [exec]; with_reducible exact execSessionHello_keeps (Keeps.refl s)
  | sessionReadmap => simp only [exec]; with_reducible exact execSessionReadmap_keeps (Keeps.refl s)
  | sessionReadprof => simp only [exec]; with_reducible exact execSessionReadprof_keeps (Keeps.refl s)
  | sessionReadevt => simp only [exec]; with_reducible exact execSessionReadevt_keeps (Keeps.refl s)
  | sessionReadstore => simp only [exec]; with_reducible exact execSessionReadstore_keeps (Keeps.refl s)
  | sessionAckstore => simp only [exec]; with_reducible exact execSessionAckstore_keeps (Keeps.refl s)
  | sessionTime => simp only [exec]; with_reducible exact execSessionTime_keeps (Keeps.refl s)
  | sessionClose => simp only [exec]; with_reducible exact execSessionClose_keeps (Keeps.refl s)
  | sessionTimeout => simp only [exec]; with_reducible exact execSessionTimeout_keeps (Keeps.refl s)
  | readerFrameHeard => simp only [exec]; with_reducible exact execReaderFrameHeard_keeps (Keeps.refl s)
  | legacyTelegramDue => simp only [exec]; with_reducible exact execLegacyTelegramDue_keeps (Keeps.refl s)
  | glassFrame => simp only [exec]; with_reducible exact execGlassFrame_keeps (Keeps.refl s)
  | displayIdleTimeout => simp only [exec]; with_reducible exact execDisplayIdleTimeout_keeps (Keeps.refl s)
  | emissiveFrame => simp only [exec]; with_reducible exact execEmissiveFrame_keeps (Keeps.refl s)
  | emissiveActivityEnd => simp only [exec]; with_reducible exact execEmissiveActivityEnd_keeps (Keeps.refl s)
  | bistableUpdateRequest => simp only [exec]; with_reducible exact execBistableUpdateRequest_keeps (Keeps.refl s)
  | bistablePhaseTick => simp only [exec]; with_reducible exact execBistablePhaseTick_keeps (Keeps.refl s)
  | bistableParkDischarge => simp only [exec]; with_reducible exact execBistableParkDischarge_keeps (Keeps.refl s)
  | read => simp only [exec]; with_reducible exact execRead_keeps (Keeps.refl s)
  | write => simp only [exec]; with_reducible exact execWrite_keeps (Keeps.refl s)
  | request => simp only [exec]; with_reducible exact execRequest_keeps (Keeps.refl s)
  | response => simp only [exec]; with_reducible exact execResponse_keeps (Keeps.refl s)
  | wake => simp only [exec]; with_reducible exact execWake_keeps (Keeps.refl s)
  | registerWrite => simp only [exec]; with_reducible exact execRegisterWrite_keeps (Keeps.refl s)
  | hello => simp only [exec]; with_reducible exact execHello_keeps (Keeps.refl s)
  | baud => simp only [exec]; with_reducible exact execBaud_keeps (Keeps.refl s)
  | baudSwitch => simp only [exec]; with_reducible exact execBaudSwitch_keeps (Keeps.refl s)
  | auth => simp only [exec]; with_reducible exact execAuth_keeps (Keeps.refl s)
  | authLockoutEnd => simp only [exec]; with_reducible exact execAuthLockoutEnd_keeps (Keeps.refl s)
  | close => simp only [exec]; with_reducible exact execClose_keeps (Keeps.refl s)
  | ohmueriSessionTimeout => simp only [exec]; with_reducible exact execOhmueriSessionTimeout_keeps (Keeps.refl s)
  | statq => simp only [exec]; with_reducible exact execStatq_keeps (Keeps.refl s)
  | readmap => simp only [exec]; with_reducible exact execReadmap_keeps (Keeps.refl s)
  | writemap => simp only [exec]; with_reducible exact execWritemap_keeps (Keeps.refl s)
  | readprof => simp only [exec]; with_reducible exact execReadprof_keeps (Keeps.refl s)
  | readevt => simp only [exec]; with_reducible exact execReadevt_keeps (Keeps.refl s)
  | readstore => simp only [exec]; with_reducible exact execReadstore_keeps (Keeps.refl s)
  | ackstore => simp only [exec]; with_reducible exact execAckstore_keeps (Keeps.refl s)
  | readsnap => simp only [exec]; with_reducible exact execReadsnap_keeps (Keeps.refl s)
  | timeset => simp only [exec]; with_reducible exact execTimeset_keeps (Keeps.refl s)
  | learn => simp only [exec]; with_reducible exact execLearn_keeps (Keeps.refl s)
  | bgtest => simp only [exec]; with_reducible exact execBgtest_keeps (Keeps.refl s)
  | power => simp only [exec]; with_reducible exact execPower_keeps (Keeps.refl s)
  | slotopen => simp only [exec]; with_reducible exact execSlotopen_keeps (Keeps.refl s)
  | slotdata => simp only [exec]; with_reducible exact execSlotdata_keeps (Keeps.refl s)
  | slotclose => simp only [exec]; with_reducible exact execSlotclose_keeps (Keeps.refl s)
  | reload => simp only [exec]; with_reducible exact execReload_keeps (Keeps.refl s)
  | patchopen => simp only [exec]; with_reducible exact execPatchopen_keeps (Keeps.refl s)
  | patchdata => simp only [exec]; with_reducible exact execPatchdata_keeps (Keeps.refl s)
  | patchclose => simp only [exec]; with_reducible exact execPatchclose_keeps (Keeps.refl s)
  | pendingCommandComplete => simp only [exec]; with_reducible exact execPendingCommandComplete_keeps (Keeps.refl s)
  | reloadSwitch => simp only [exec]; with_reducible exact execReloadSwitch_keeps (Keeps.refl s)
  | reloadCommitDone => simp only [exec]; with_reducible exact execReloadCommitDone_keeps (Keeps.refl s)
  | irEnTimeout => simp only [exec]; with_reducible exact execIrEnTimeout_keeps (Keeps.refl s)
  | moduleCheck24h => simp only [exec]; with_reducible exact execModuleCheck24h_keeps (Keeps.refl s)
  | i2cStretchTimeout => simp only [exec]; with_reducible exact execI2cStretchTimeout_keeps (Keeps.refl s)
  | curatorWatchdog => simp only [exec]; with_reducible exact execCuratorWatchdog_keeps (Keeps.refl s)
  | signalWatchdog => simp only [exec]; with_reducible exact execSignalWatchdog_keeps (Keeps.refl s)
  | linkWatchdog => simp only [exec]; with_reducible exact execLinkWatchdog_keeps (Keeps.refl s)
  | registrarWatchdog => simp only [exec]; with_reducible exact execRegistrarWatchdog_keeps (Keeps.refl s)
  | wardenWatchdog => simp only [exec]; with_reducible exact execWardenWatchdog_keeps (Keeps.refl s)
  | shadowCommitComplete => simp only [exec]; with_reducible exact execShadowCommitComplete_keeps (Keeps.refl s)
  | alarmTelegramSeatTimeout => simp only [exec]; with_reducible exact execAlarmTelegramSeatTimeout_keeps (Keeps.refl s)
  | lineHeldDetect => simp only [exec]; with_reducible exact execLineHeldDetect_keeps (Keeps.refl s)
  | lineRelease => simp only [exec]; with_reducible exact execLineRelease_keeps (Keeps.refl s)
  | reverseDayCheck => simp only [exec]; with_reducible exact execReverseDayCheck_keeps (Keeps.refl s)
  | standingEventExpiry => simp only [exec]; with_reducible exact execStandingEventExpiry_keeps (Keeps.refl s)
  | heldRequestReissue => simp only [exec]; with_reducible exact execHeldRequestReissue_keeps (Keeps.refl s)
  | vddioRestore => simp only [exec]; with_reducible exact execVddioRestore_keeps (Keeps.refl s)
  | vitrdyLost => simp only [exec]; with_reducible exact execVitrdyLost_keeps (Keeps.refl s)
  | lprcCal1hExpiry => simp only [exec]; with_reducible exact execLprcCal1hExpiry_keeps (Keeps.refl s)
  | timeSlewEnd => simp only [exec]; with_reducible exact execTimeSlewEnd_keeps (Keeps.refl s)
  | beaconWindowOpen => simp only [exec]; with_reducible exact execBeaconWindowOpen_keeps (Keeps.refl s)
  | ackWindowOpen => simp only [exec]; with_reducible exact execAckWindowOpen_keeps (Keeps.refl s)
  | pollSlotEnd => simp only [exec]; with_reducible exact execPollSlotEnd_keeps (Keeps.refl s)
  | readerSessionResponse => simp only [exec]; with_reducible exact execReaderSessionResponse_keeps (Keeps.refl s)
  | segmentTestEnd => simp only [exec]; with_reducible exact execSegmentTestEnd_keeps (Keeps.refl s)
  | alarmPulseEnd => simp only [exec]; with_reducible exact execAlarmPulseEnd_keeps (Keeps.refl s)
  | hostUnlistedOpcode => simp only [exec]; with_reducible exact execHostUnlistedOpcode_keeps (Keeps.refl s)
  | ohmueriFrameDiscard => simp only [exec]; with_reducible exact execOhmueriFrameDiscard_keeps (Keeps.refl s)

/-- The tick of an empty queue keeps the memory, the event queue and OTP. -/
theorem tick_frame (s : State) : (tick s).xb = s.xb ∧ (tick s).evq = s.evq ∧ (tick s).nv = s.nv ∧ (tick s).pending = s.pending := by
  unfold tick; split <;> exact ⟨rfl, rfl, rfl, rfl⟩

end Sys2Proof.Machine
end

