-- ==== Sys2Proof/Laws/PerInstr.lean ====
section
/-! SUPPORT. A statement for every command: no word of the table spells it, since the table gives no row bits. -/

namespace Sys2Proof.Laws.WordFree

/-- No word spells the command. -/
def Statement (i : Instr) : Prop := ∀ nbits w, decodeTableWord nbits w ≠ some i

/-- The decoder answers no command at all. -/
theorem none_spelt (i : Instr) : Statement i := fun _ _ h => nomatch h

theorem porRelease {testen slotA slotB} : Statement (.porRelease testen slotA slotB) := none_spelt _
theorem vbatBelowPor : Statement (.vbatBelowPor) := none_spelt _
theorem brownout {smp} : Statement (.brownout smp) := none_spelt _
theorem brownoutRecovery : Statement (.brownoutRecovery) := none_spelt _
theorem rstNLow {ns} : Statement (.rstNLow ns) := none_spelt _
theorem rstNRise : Statement (.rstNRise) := none_spelt _
theorem vddioLoss : Statement (.vddioLoss) := none_spelt _
theorem extestEntry : Statement (.extestEntry) := none_spelt _
theorem extestExit : Statement .extestExit := none_spelt _
theorem coldStartStageEnd {rep} : Statement (.coldStartStageEnd rep) := none_spelt _
theorem reservoirWaitMet {smp} : Statement (.reservoirWaitMet smp) := none_spelt _
theorem xt32Running : Statement (.xt32Running) := none_spelt _
theorem xt32StartTimeout : Statement (.xt32StartTimeout) := none_spelt _
theorem otpProgramWaitMet {smp} : Statement (.otpProgramWaitMet smp) := none_spelt _
theorem otpProgramWaitTimeout : Statement (.otpProgramWaitTimeout) := none_spelt _
theorem stageSeatTimeout : Statement (.stageSeatTimeout) := none_spelt _
theorem hibernateStartStepEnd {rep} : Statement (.hibernateStartStepEnd rep) := none_spelt _
theorem faultTelegramDue {smp} : Statement (.faultTelegramDue smp) := none_spelt _
theorem safeBeaconRetry : Statement (.safeBeaconRetry) := none_spelt _
theorem pwrcmdHibernate {port} : Statement (.pwrcmdHibernate port) := none_spelt _
theorem pwrcmdOff {port} : Statement (.pwrcmdOff port) := none_spelt _
theorem stateRequestEvaluate : Statement (.stateRequestEvaluate) := none_spelt _
theorem stateEntryComplete : Statement (.stateEntryComplete) := none_spelt _
theorem wakeRtcCompare : Statement (.wakeRtcCompare) := none_spelt _
theorem hstCsFall : Statement (.hstCsFall) := none_spelt _
theorem hstWakeEdge : Statement (.hstWakeEdge) := none_spelt _
theorem hostWakePattern {bits value} : Statement (.hostWakePattern bits value) := none_spelt _
theorem irCarrierWake : Statement (.irCarrierWake) := none_spelt _
theorem keyPress {key} : Statement (.keyPress key) := none_spelt _
theorem keyRelease {key} : Statement (.keyRelease key) := none_spelt _
theorem keysHeld5s : Statement (.keysHeld5s) := none_spelt _
theorem tamperSample {low0 low1} : Statement (.tamperSample low0 low1) := none_spelt _
theorem pulseInputEdge {input} : Statement (.pulseInputEdge input) := none_spelt _
theorem pulseOutputEmit {output} : Statement (.pulseOutputEmit output) := none_spelt _
theorem seatRequest {unit cls hold deadline smp} : Statement (.seatRequest unit cls hold deadline smp) := none_spelt _
theorem chairliftEvaluate {smp} : Statement (.chairliftEvaluate smp) := none_spelt _
theorem seatRelease {unit smp} : Statement (.seatRelease unit smp) := none_spelt _
theorem seatDeadlineDrop {unit} : Statement (.seatDeadlineDrop unit) := none_spelt _
theorem vresSample {smp} : Statement (.vresSample smp) := none_spelt _
theorem vresAbortLevel : Statement (.vresAbortLevel) := none_spelt _
theorem vresTxFloor : Statement (.vresTxFloor) := none_spelt _
theorem reservoirRiseTimed {us} : Statement (.reservoirRiseTimed us) := none_spelt _
theorem chargeSwitchTimeout : Statement (.chargeSwitchTimeout) := none_spelt _
theorem vitrineCalDue {cause smp} : Statement (.vitrineCalDue cause smp) := none_spelt _
theorem vitrdySet : Statement (.vitrdySet) := none_spelt _
theorem vitrdyTimeout : Statement (.vitrdyTimeout) := none_spelt _
theorem ovenOvertemp : Statement .ovenOvertemp := none_spelt _
theorem vitrineDeferLimit : Statement (.vitrineDeferLimit) := none_spelt _
theorem vitrineGateEnd {gate x} : Statement (.vitrineGateEnd gate x) := none_spelt _
theorem vitrineCalCompute : Statement (.vitrineCalCompute) := none_spelt _
theorem vitrineCalRetry {smp} : Statement (.vitrineCalRetry smp) := none_spelt _
theorem calStale24h : Statement (.calStale24h) := none_spelt _
theorem xt32Stop : Statement (.xt32Stop) := none_spelt _
theorem xt32RestoreCount {smp} : Statement (.xt32RestoreCount smp) := none_spelt _
theorem lprcCheck {ok} : Statement (.lprcCheck ok) := none_spelt _
theorem clockRecoveryAttempt {xt32 lprc} : Statement (.clockRecoveryAttempt xt32 lprc) := none_spelt _
theorem lprcCalGateEnd {ppm} : Statement (.lprcCalGateEnd ppm) := none_spelt _
theorem pllLockTimeout : Statement (.pllLockTimeout) := none_spelt _
theorem ledgerRecordDue {smp} : Statement (.ledgerRecordDue smp) := none_spelt _
theorem tlzoneWrite {port value} : Statement (.tlzoneWrite port value) := none_spelt _
theorem tlzoneApply : Statement (.tlzoneApply) := none_spelt _
theorem tdcStart {ch sync fine} : Statement (.tdcStart ch sync fine) := none_spelt _
theorem tdcStopCrossing {ch count fine level} : Statement (.tdcStopCrossing ch count fine level) := none_spelt _
theorem tdcRunEnd {ch} : Statement (.tdcRunEnd ch) := none_spelt _
theorem tdcCalDue {cause smp} : Statement (.tdcCalDue cause smp) := none_spelt _
theorem tdcCalBlockEnd {hits} : Statement (.tdcCalBlockEnd hits) := none_spelt _
theorem tdcCalBlockAbandon : Statement (.tdcCalBlockAbandon) := none_spelt _
theorem tdcCalEvaluate : Statement (.tdcCalEvaluate) := none_spelt _
theorem tdcCalRetry {smp} : Statement (.tdcCalRetry smp) := none_spelt _
theorem tdcNoPass2calint {ch} : Statement (.tdcNoPass2calint ch) := none_spelt _
theorem pisteStepDue {step smp} : Statement (.pisteStepDue step smp) := none_spelt _
theorem boostReady {mv} : Statement (.boostReady mv) := none_spelt _
theorem boostTimeout {mv} : Statement (.boostTimeout mv) := none_spelt _
theorem shotFire {mv ilim} : Statement (.shotFire mv ilim) := none_spelt _
theorem shotCaptureProcess {cap} : Statement (.shotCaptureProcess cap) := none_spelt _
theorem retryShot {path drive} : Statement (.retryShot path drive) := none_spelt _
theorem intervalResultPost {checks} : Statement (.intervalResultPost checks) := none_spelt _
theorem zeroCheckResult : Statement (.zeroCheckResult) := none_spelt _
theorem fastSequenceTimeout : Statement (.fastSequenceTimeout) := none_spelt _
theorem templateDailyCopy : Statement (.templateDailyCopy) := none_spelt _
theorem temperatureResultPost {limits} : Statement (.temperatureResultPost limits) := none_spelt _
theorem pressureRead {answer} : Statement (.pressureRead answer) := none_spelt _
theorem registrarIntegrate : Statement (.registrarIntegrate) := none_spelt _
theorem minuteSealTimeout : Statement (.minuteSealTimeout) := none_spelt _
theorem lockstepDisagreement : Statement (.lockstepDisagreement) := none_spelt _
theorem availabilityBinClose : Statement (.availabilityBinClose) := none_spelt _
theorem sramUncorrectable {segment addr port} : Statement (.sramUncorrectable segment addr port) := none_spelt _
theorem xbCollision {agent a b} : Statement (.xbCollision agent a b) := none_spelt _
theorem xbpageSelWrite {port value} : Statement (.xbpageSelWrite port value) := none_spelt _
theorem bgcmdStart {port} : Statement (.bgcmdStart port) := none_spelt _
theorem bgtestDue : Statement (.bgtestDue) := none_spelt _
theorem bgSlice {rows} : Statement (.bgSlice rows) := none_spelt _
theorem bgWindowRelease {failed} : Statement (.bgWindowRelease failed) := none_spelt _
theorem bgUrgentAccess : Statement (.bgUrgentAccess) := none_spelt _
theorem bgPassOverdue : Statement (.bgPassOverdue) := none_spelt _
theorem archiveOpComplete {ok} : Statement (.archiveOpComplete ok) := none_spelt _
theorem eraseSuspend : Statement (.eraseSuspend) := none_spelt _
theorem wardenAreaErase {smp} : Statement (.wardenAreaErase smp) := none_spelt _
theorem synthLockTimeout : Statement (.synthLockTimeout) := none_spelt _
theorem transmissionStart : Statement (.transmissionStart) := none_spelt _
theorem transmissionEnd {smp} : Statement (.transmissionEnd smp) := none_spelt _
theorem replyWindowOpen : Statement (.replyWindowOpen) := none_spelt _
theorem replyWindowClose : Statement (.replyWindowClose) := none_spelt _
theorem en13757AckReceived {frame} : Statement (.en13757AckReceived frame) := none_spelt _
theorem sequencerCommand {smp} : Statement (.sequencerCommand smp) := none_spelt _
theorem sequencerTakeover : Statement (.sequencerTakeover) := none_spelt _
theorem superframeBoundary {smp} : Statement (.superframeBoundary smp) := none_spelt _
theorem beaconRequest {smp} : Statement (.beaconRequest smp) := none_spelt _
theorem beacon {f} : Statement (.beacon f) := none_spelt _
theorem beaconWindowClose : Statement (.beaconWindowClose) := none_spelt _
theorem uploadDue {smp} : Statement (.uploadDue smp) := none_spelt _
theorem poll {f} : Statement (.poll f) := none_spelt _
theorem ack {f} : Statement (.ack f) := none_spelt _
theorem ackWindowClose : Statement (.ackWindowClose) := none_spelt _
theorem join {f} : Statement (.join f) := none_spelt _
theorem joinSend {smp} : Statement (.joinSend smp) := none_spelt _
theorem handover {f} : Statement (.handover f) := none_spelt _
theorem searchEnd : Statement (.searchEnd) := none_spelt _
theorem searchRetryDue : Statement (.searchRetryDue) := none_spelt _
theorem fallbackTelegramDue {smp} : Statement (.fallbackTelegramDue smp) := none_spelt _
theorem deputyPromotion : Statement (.deputyPromotion) := none_spelt _
theorem memberRemoval {index} : Statement (.memberRemoval index) := none_spelt _
theorem handoverChoice : Statement (.handoverChoice) := none_spelt _
theorem handoverTransferStart : Statement (.handoverTransferStart) := none_spelt _
theorem handoverTransferEnd : Statement (.handoverTransferEnd) := none_spelt _
theorem handoverH4Check : Statement (.handoverH4Check) := none_spelt _
theorem marksCopy : Statement (.marksCopy) := none_spelt _
theorem listenWindowOpen : Statement (.listenWindowOpen) := none_spelt _
theorem listenWindowClose : Statement (.listenWindowClose) := none_spelt _
theorem wakeWord {word} : Statement (.wakeWord word) := none_spelt _
theorem sessionHello {smp} : Statement (.sessionHello smp) := none_spelt _
theorem sessionReadmap {f} : Statement (.sessionReadmap f) := none_spelt _
theorem sessionReadprof {f} : Statement (.sessionReadprof f) := none_spelt _
theorem sessionReadevt {f} : Statement (.sessionReadevt f) := none_spelt _
theorem sessionReadstore {f} : Statement (.sessionReadstore f) := none_spelt _
theorem sessionAckstore {f} : Statement (.sessionAckstore f) := none_spelt _
theorem sessionTime {f} : Statement (.sessionTime f) := none_spelt _
theorem sessionClose {f} : Statement (.sessionClose f) := none_spelt _
theorem sessionTimeout : Statement (.sessionTimeout) := none_spelt _
theorem readerFrameHeard {src f} : Statement (.readerFrameHeard src f) := none_spelt _
theorem legacyTelegramDue {smp} : Statement (.legacyTelegramDue smp) := none_spelt _
theorem glassFrame {vlcdMv failing} : Statement (.glassFrame vlcdMv failing) := none_spelt _
theorem displayIdleTimeout : Statement (.displayIdleTimeout) := none_spelt _
theorem emissiveFrame {smp failing} : Statement (.emissiveFrame smp failing) := none_spelt _
theorem emissiveActivityEnd : Statement (.emissiveActivityEnd) := none_spelt _
theorem bistableUpdateRequest {region content smp} : Statement (.bistableUpdateRequest region content smp) := none_spelt _
theorem bistablePhaseTick {vp vn checks} : Statement (.bistablePhaseTick vp vn checks) := none_spelt _
theorem bistableParkDischarge : Statement (.bistableParkDischarge) := none_spelt _
theorem read {addr count} : Statement (.read addr count) := none_spelt _
theorem write {addr words} : Statement (.write addr words) := none_spelt _
theorem request {frame} : Statement (.request frame) := none_spelt _
theorem response {count} : Statement (.response count) := none_spelt _
theorem wake : Statement (.wake) := none_spelt _
theorem registerWrite {port addr value} : Statement (.registerWrite port addr value) := none_spelt _
theorem hello {port tag data} : Statement (.hello port tag data) := none_spelt _
theorem baud {port tag data} : Statement (.baud port tag data) := none_spelt _
theorem baudSwitch : Statement (.baudSwitch) := none_spelt _
theorem auth {port tag data} : Statement (.auth port tag data) := none_spelt _
theorem authLockoutEnd {port} : Statement (.authLockoutEnd port) := none_spelt _
theorem close {port tag data} : Statement (.close port tag data) := none_spelt _
theorem ohmueriSessionTimeout {port} : Statement (.ohmueriSessionTimeout port) := none_spelt _
theorem statq {port tag data} : Statement (.statq port tag data) := none_spelt _
theorem readmap {port tag data} : Statement (.readmap port tag data) := none_spelt _
theorem writemap {port tag data} : Statement (.writemap port tag data) := none_spelt _
theorem readprof {port tag data} : Statement (.readprof port tag data) := none_spelt _
theorem readevt {port tag data} : Statement (.readevt port tag data) := none_spelt _
theorem readstore {port tag data} : Statement (.readstore port tag data) := none_spelt _
theorem ackstore {port tag data} : Statement (.ackstore port tag data) := none_spelt _
theorem readsnap {port tag data} : Statement (.readsnap port tag data) := none_spelt _
theorem timeset {port tag data} : Statement (.timeset port tag data) := none_spelt _
theorem learn {port tag data} : Statement (.learn port tag data) := none_spelt _
theorem bgtest {port tag data} : Statement (.bgtest port tag data) := none_spelt _
theorem power {port tag data} : Statement (.power port tag data) := none_spelt _
theorem slotopen {port tag data} : Statement (.slotopen port tag data) := none_spelt _
theorem slotdata {port tag data} : Statement (.slotdata port tag data) := none_spelt _
theorem slotclose {port tag data} : Statement (.slotclose port tag data) := none_spelt _
theorem reload {port tag data} : Statement (.reload port tag data) := none_spelt _
theorem patchopen {port tag data} : Statement (.patchopen port tag data) := none_spelt _
theorem patchdata {port tag data} : Statement (.patchdata port tag data) := none_spelt _
theorem patchclose {port tag data} : Statement (.patchclose port tag data) := none_spelt _
theorem pendingCommandComplete {rep} : Statement (.pendingCommandComplete rep) := none_spelt _
theorem reloadSwitch : Statement (.reloadSwitch) := none_spelt _
theorem reloadCommitDone : Statement (.reloadCommitDone) := none_spelt _
theorem irEnTimeout : Statement (.irEnTimeout) := none_spelt _
theorem moduleCheck24h {reads radioOk smp} : Statement (.moduleCheck24h reads radioOk smp) := none_spelt _
theorem i2cStretchTimeout {port} : Statement (.i2cStretchTimeout port) := none_spelt _
theorem curatorWatchdog : Statement (.curatorWatchdog) := none_spelt _
theorem signalWatchdog : Statement (.signalWatchdog) := none_spelt _
theorem linkWatchdog {smp} : Statement (.linkWatchdog smp) := none_spelt _
theorem registrarWatchdog : Statement (.registrarWatchdog) := none_spelt _
theorem wardenWatchdog : Statement (.wardenWatchdog) := none_spelt _
theorem shadowCommitComplete {smp} : Statement (.shadowCommitComplete smp) := none_spelt _
theorem alarmTelegramSeatTimeout : Statement (.alarmTelegramSeatTimeout) := none_spelt _
theorem lineHeldDetect {line} : Statement (.lineHeldDetect line) := none_spelt _
theorem lineRelease {line} : Statement (.lineRelease line) := none_spelt _
theorem reverseDayCheck : Statement (.reverseDayCheck) := none_spelt _
theorem standingEventExpiry : Statement (.standingEventExpiry) := none_spelt _
theorem heldRequestReissue : Statement (.heldRequestReissue) := none_spelt _
theorem vddioRestore : Statement (.vddioRestore) := none_spelt _
theorem vitrdyLost : Statement (.vitrdyLost) := none_spelt _
theorem lprcCal1hExpiry : Statement (.lprcCal1hExpiry) := none_spelt _
theorem timeSlewEnd : Statement (.timeSlewEnd) := none_spelt _
theorem beaconWindowOpen : Statement (.beaconWindowOpen) := none_spelt _
theorem ackWindowOpen : Statement (.ackWindowOpen) := none_spelt _
theorem pollSlotEnd : Statement (.pollSlotEnd) := none_spelt _
theorem readerSessionResponse {f} : Statement (.readerSessionResponse f) := none_spelt _
theorem segmentTestEnd : Statement (.segmentTestEnd) := none_spelt _
theorem alarmPulseEnd : Statement (.alarmPulseEnd) := none_spelt _
theorem hostUnlistedOpcode {opcode} : Statement (.hostUnlistedOpcode opcode) := none_spelt _
theorem ohmueriFrameDiscard {frame gap} : Statement (.ohmueriFrameDiscard frame gap) := none_spelt _

end Sys2Proof.Laws.WordFree
end

