-- ==== Sys2Proof/Laws/State.lean ====
section
/-! SUPPORT. One lemma for each field and each named update of State, so that no proof unfolds a record update. -/

namespace Sys2Proof.Machine

/-! ### A free value is drawn -/

@[simp] theorem draw_now (s : State) : ((draw s).2).now = s.now := rfl
@[simp] theorem draw_pending (s : State) : ((draw s).2).pending = s.pending := rfl
@[simp] theorem draw_phase (s : State) : ((draw s).2).phase = s.phase := rfl
@[simp] theorem draw_start (s : State) : ((draw s).2).start = s.start := rfl
@[simp] theorem draw_nv (s : State) : ((draw s).2).nv = s.nv := rfl
@[simp] theorem draw_sb (s : State) : ((draw s).2).sb = s.sb := rfl
@[simp] theorem draw_cat (s : State) : ((draw s).2).cat = s.cat := rfl
@[simp] theorem draw_governs (s : State) : ((draw s).2).governs = s.governs := rfl
@[simp] theorem draw_active (s : State) : ((draw s).2).active = s.active := rfl
@[simp] theorem draw_r (s : State) : ((draw s).2).r = s.r := rfl
@[simp] theorem draw_pw (s : State) : ((draw s).2).pw = s.pw := rfl
@[simp] theorem draw_cl (s : State) : ((draw s).2).cl = s.cl := rfl
@[simp] theorem draw_ck (s : State) : ((draw s).2).ck = s.ck := rfl
@[simp] theorem draw_tl (s : State) : ((draw s).2).tl = s.tl := rfl
@[simp] theorem draw_rg (s : State) : ((draw s).2).rg = s.rg := rfl
@[simp] theorem draw_seg (s : State) : ((draw s).2).seg = s.seg := rfl
@[simp] theorem draw_bg (s : State) : ((draw s).2).bg = s.bg := rfl
@[simp] theorem draw_bgReq (s : State) : ((draw s).2).bgReq = s.bgReq := rfl
@[simp] theorem draw_xb (s : State) : ((draw s).2).xb = s.xb := rfl
@[simp] theorem draw_xbBad (s : State) : ((draw s).2).xbBad = s.xbBad := rfl
@[simp] theorem draw_ar (s : State) : ((draw s).2).ar = s.ar := rfl
@[simp] theorem draw_evq (s : State) : ((draw s).2).evq = s.evq := rfl
@[simp] theorem draw_evDrop (s : State) : ((draw s).2).evDrop = s.evDrop := rfl
@[simp] theorem draw_ch (s : State) : ((draw s).2).ch = s.ch := rfl
@[simp] theorem draw_cal (s : State) : ((draw s).2).cal = s.cal := rfl
@[simp] theorem draw_path (s : State) : ((draw s).2).path = s.path := rfl
@[simp] theorem draw_ps (s : State) : ((draw s).2).ps = s.ps := rfl
@[simp] theorem draw_fl (s : State) : ((draw s).2).fl = s.fl := rfl
@[simp] theorem draw_tp (s : State) : ((draw s).2).tp = s.tp := rfl
@[simp] theorem draw_rad (s : State) : ((draw s).2).rad = s.rad := rfl
@[simp] theorem draw_ln (s : State) : ((draw s).2).ln = s.ln := rfl
@[simp] theorem draw_dp (s : State) : ((draw s).2).dp = s.dp := rfl
@[simp] theorem draw_sv (s : State) : ((draw s).2).sv = s.sv := rfl
@[simp] theorem draw_mp (s : State) : ((draw s).2).mp = s.mp := rfl
@[simp] theorem draw_io (s : State) : ((draw s).2).io = s.io := rfl
@[simp] theorem draw_flt (s : State) : ((draw s).2).flt = s.flt := rfl

@[simp] theorem draw_free (s : State) : (draw s).2.free = s.free + 1 := rfl
@[simp] theorem draw_fst (s : State) : (draw s).1 = Config.freeValue s.free := rfl

/-! ### A session changed -/

@[simp] theorem updSes_now (p : Port) (f : Session → Session) (s : State) : (updSes p f s).now = s.now := by cases p <;> rfl
@[simp] theorem updSes_free (p : Port) (f : Session → Session) (s : State) : (updSes p f s).free = s.free := by cases p <;> rfl
@[simp] theorem updSes_pending (p : Port) (f : Session → Session) (s : State) : (updSes p f s).pending = s.pending := by cases p <;> rfl
@[simp] theorem updSes_phase (p : Port) (f : Session → Session) (s : State) : (updSes p f s).phase = s.phase := by cases p <;> rfl
@[simp] theorem updSes_start (p : Port) (f : Session → Session) (s : State) : (updSes p f s).start = s.start := by cases p <;> rfl
@[simp] theorem updSes_nv (p : Port) (f : Session → Session) (s : State) : (updSes p f s).nv = s.nv := by cases p <;> rfl
@[simp] theorem updSes_sb (p : Port) (f : Session → Session) (s : State) : (updSes p f s).sb = s.sb := by cases p <;> rfl
@[simp] theorem updSes_cat (p : Port) (f : Session → Session) (s : State) : (updSes p f s).cat = s.cat := by cases p <;> rfl
@[simp] theorem updSes_governs (p : Port) (f : Session → Session) (s : State) : (updSes p f s).governs = s.governs := by cases p <;> rfl
@[simp] theorem updSes_active (p : Port) (f : Session → Session) (s : State) : (updSes p f s).active = s.active := by cases p <;> rfl
@[simp] theorem updSes_r (p : Port) (f : Session → Session) (s : State) : (updSes p f s).r = s.r := by cases p <;> rfl
@[simp] theorem updSes_pw (p : Port) (f : Session → Session) (s : State) : (updSes p f s).pw = s.pw := by cases p <;> rfl
@[simp] theorem updSes_cl (p : Port) (f : Session → Session) (s : State) : (updSes p f s).cl = s.cl := by cases p <;> rfl
@[simp] theorem updSes_ck (p : Port) (f : Session → Session) (s : State) : (updSes p f s).ck = s.ck := by cases p <;> rfl
@[simp] theorem updSes_tl (p : Port) (f : Session → Session) (s : State) : (updSes p f s).tl = s.tl := by cases p <;> rfl
@[simp] theorem updSes_rg (p : Port) (f : Session → Session) (s : State) : (updSes p f s).rg = s.rg := by cases p <;> rfl
@[simp] theorem updSes_seg (p : Port) (f : Session → Session) (s : State) : (updSes p f s).seg = s.seg := by cases p <;> rfl
@[simp] theorem updSes_bg (p : Port) (f : Session → Session) (s : State) : (updSes p f s).bg = s.bg := by cases p <;> rfl
@[simp] theorem updSes_bgReq (p : Port) (f : Session → Session) (s : State) : (updSes p f s).bgReq = s.bgReq := by cases p <;> rfl
@[simp] theorem updSes_xb (p : Port) (f : Session → Session) (s : State) : (updSes p f s).xb = s.xb := by cases p <;> rfl
@[simp] theorem updSes_xbBad (p : Port) (f : Session → Session) (s : State) : (updSes p f s).xbBad = s.xbBad := by cases p <;> rfl
@[simp] theorem updSes_ar (p : Port) (f : Session → Session) (s : State) : (updSes p f s).ar = s.ar := by cases p <;> rfl
@[simp] theorem updSes_evq (p : Port) (f : Session → Session) (s : State) : (updSes p f s).evq = s.evq := by cases p <;> rfl
@[simp] theorem updSes_evDrop (p : Port) (f : Session → Session) (s : State) : (updSes p f s).evDrop = s.evDrop := by cases p <;> rfl
@[simp] theorem updSes_ch (p : Port) (f : Session → Session) (s : State) : (updSes p f s).ch = s.ch := by cases p <;> rfl
@[simp] theorem updSes_cal (p : Port) (f : Session → Session) (s : State) : (updSes p f s).cal = s.cal := by cases p <;> rfl
@[simp] theorem updSes_path (p : Port) (f : Session → Session) (s : State) : (updSes p f s).path = s.path := by cases p <;> rfl
@[simp] theorem updSes_ps (p : Port) (f : Session → Session) (s : State) : (updSes p f s).ps = s.ps := by cases p <;> rfl
@[simp] theorem updSes_fl (p : Port) (f : Session → Session) (s : State) : (updSes p f s).fl = s.fl := by cases p <;> rfl
@[simp] theorem updSes_tp (p : Port) (f : Session → Session) (s : State) : (updSes p f s).tp = s.tp := by cases p <;> rfl
@[simp] theorem updSes_rad (p : Port) (f : Session → Session) (s : State) : (updSes p f s).rad = s.rad := by cases p <;> rfl
@[simp] theorem updSes_ln (p : Port) (f : Session → Session) (s : State) : (updSes p f s).ln = s.ln := by cases p <;> rfl
@[simp] theorem updSes_dp (p : Port) (f : Session → Session) (s : State) : (updSes p f s).dp = s.dp := by cases p <;> rfl
@[simp] theorem updSes_mp (p : Port) (f : Session → Session) (s : State) : (updSes p f s).mp = s.mp := by cases p <;> rfl
@[simp] theorem updSes_io (p : Port) (f : Session → Session) (s : State) : (updSes p f s).io = s.io := by cases p <;> rfl
@[simp] theorem updSes_flt (p : Port) (f : Session → Session) (s : State) : (updSes p f s).flt = s.flt := by cases p <;> rfl

@[simp] theorem updSes_ses_same (p : Port) (f : Session → Session) (s : State) : (updSes p f s).sv.ses p = f (s.sv.ses p) := by
  cases p <;> rfl
@[simp] theorem updSes_ses_other (p : Port) (f : Session → Session) (s : State) :
    (updSes p f s).sv.ses (Port.other p) = s.sv.ses (Port.other p) := by
  cases p <;> rfl

/-! ### The latches of a port changed -/

@[simp] theorem updReadPort_now (p : Option Port) (f : ReadPort → ReadPort) (s : State) : (updReadPort p f s).now = s.now := by rcases p with _ | (_ | _) <;> rfl
@[simp] theorem updReadPort_free (p : Option Port) (f : ReadPort → ReadPort) (s : State) : (updReadPort p f s).free = s.free := by rcases p with _ | (_ | _) <;> rfl
@[simp] theorem updReadPort_pending (p : Option Port) (f : ReadPort → ReadPort) (s : State) : (updReadPort p f s).pending = s.pending := by rcases p with _ | (_ | _) <;> rfl
@[simp] theorem updReadPort_phase (p : Option Port) (f : ReadPort → ReadPort) (s : State) : (updReadPort p f s).phase = s.phase := by rcases p with _ | (_ | _) <;> rfl
@[simp] theorem updReadPort_start (p : Option Port) (f : ReadPort → ReadPort) (s : State) : (updReadPort p f s).start = s.start := by rcases p with _ | (_ | _) <;> rfl
@[simp] theorem updReadPort_nv (p : Option Port) (f : ReadPort → ReadPort) (s : State) : (updReadPort p f s).nv = s.nv := by rcases p with _ | (_ | _) <;> rfl
@[simp] theorem updReadPort_sb (p : Option Port) (f : ReadPort → ReadPort) (s : State) : (updReadPort p f s).sb = s.sb := by rcases p with _ | (_ | _) <;> rfl
@[simp] theorem updReadPort_cat (p : Option Port) (f : ReadPort → ReadPort) (s : State) : (updReadPort p f s).cat = s.cat := by rcases p with _ | (_ | _) <;> rfl
@[simp] theorem updReadPort_governs (p : Option Port) (f : ReadPort → ReadPort) (s : State) : (updReadPort p f s).governs = s.governs := by rcases p with _ | (_ | _) <;> rfl
@[simp] theorem updReadPort_active (p : Option Port) (f : ReadPort → ReadPort) (s : State) : (updReadPort p f s).active = s.active := by rcases p with _ | (_ | _) <;> rfl
@[simp] theorem updReadPort_r (p : Option Port) (f : ReadPort → ReadPort) (s : State) : (updReadPort p f s).r = s.r := by rcases p with _ | (_ | _) <;> rfl
@[simp] theorem updReadPort_pw (p : Option Port) (f : ReadPort → ReadPort) (s : State) : (updReadPort p f s).pw = s.pw := by rcases p with _ | (_ | _) <;> rfl
@[simp] theorem updReadPort_cl (p : Option Port) (f : ReadPort → ReadPort) (s : State) : (updReadPort p f s).cl = s.cl := by rcases p with _ | (_ | _) <;> rfl
@[simp] theorem updReadPort_ck (p : Option Port) (f : ReadPort → ReadPort) (s : State) : (updReadPort p f s).ck = s.ck := by rcases p with _ | (_ | _) <;> rfl
@[simp] theorem updReadPort_tl (p : Option Port) (f : ReadPort → ReadPort) (s : State) : (updReadPort p f s).tl = s.tl := by rcases p with _ | (_ | _) <;> rfl
@[simp] theorem updReadPort_rg (p : Option Port) (f : ReadPort → ReadPort) (s : State) : (updReadPort p f s).rg = s.rg := by rcases p with _ | (_ | _) <;> rfl
@[simp] theorem updReadPort_seg (p : Option Port) (f : ReadPort → ReadPort) (s : State) : (updReadPort p f s).seg = s.seg := by rcases p with _ | (_ | _) <;> rfl
@[simp] theorem updReadPort_bg (p : Option Port) (f : ReadPort → ReadPort) (s : State) : (updReadPort p f s).bg = s.bg := by rcases p with _ | (_ | _) <;> rfl
@[simp] theorem updReadPort_bgReq (p : Option Port) (f : ReadPort → ReadPort) (s : State) : (updReadPort p f s).bgReq = s.bgReq := by rcases p with _ | (_ | _) <;> rfl
@[simp] theorem updReadPort_xb (p : Option Port) (f : ReadPort → ReadPort) (s : State) : (updReadPort p f s).xb = s.xb := by rcases p with _ | (_ | _) <;> rfl
@[simp] theorem updReadPort_xbBad (p : Option Port) (f : ReadPort → ReadPort) (s : State) : (updReadPort p f s).xbBad = s.xbBad := by rcases p with _ | (_ | _) <;> rfl
@[simp] theorem updReadPort_ar (p : Option Port) (f : ReadPort → ReadPort) (s : State) : (updReadPort p f s).ar = s.ar := by rcases p with _ | (_ | _) <;> rfl
@[simp] theorem updReadPort_evq (p : Option Port) (f : ReadPort → ReadPort) (s : State) : (updReadPort p f s).evq = s.evq := by rcases p with _ | (_ | _) <;> rfl
@[simp] theorem updReadPort_evDrop (p : Option Port) (f : ReadPort → ReadPort) (s : State) : (updReadPort p f s).evDrop = s.evDrop := by rcases p with _ | (_ | _) <;> rfl
@[simp] theorem updReadPort_ch (p : Option Port) (f : ReadPort → ReadPort) (s : State) : (updReadPort p f s).ch = s.ch := by rcases p with _ | (_ | _) <;> rfl
@[simp] theorem updReadPort_cal (p : Option Port) (f : ReadPort → ReadPort) (s : State) : (updReadPort p f s).cal = s.cal := by rcases p with _ | (_ | _) <;> rfl
@[simp] theorem updReadPort_path (p : Option Port) (f : ReadPort → ReadPort) (s : State) : (updReadPort p f s).path = s.path := by rcases p with _ | (_ | _) <;> rfl
@[simp] theorem updReadPort_ps (p : Option Port) (f : ReadPort → ReadPort) (s : State) : (updReadPort p f s).ps = s.ps := by rcases p with _ | (_ | _) <;> rfl
@[simp] theorem updReadPort_fl (p : Option Port) (f : ReadPort → ReadPort) (s : State) : (updReadPort p f s).fl = s.fl := by rcases p with _ | (_ | _) <;> rfl
@[simp] theorem updReadPort_tp (p : Option Port) (f : ReadPort → ReadPort) (s : State) : (updReadPort p f s).tp = s.tp := by rcases p with _ | (_ | _) <;> rfl
@[simp] theorem updReadPort_rad (p : Option Port) (f : ReadPort → ReadPort) (s : State) : (updReadPort p f s).rad = s.rad := by rcases p with _ | (_ | _) <;> rfl
@[simp] theorem updReadPort_ln (p : Option Port) (f : ReadPort → ReadPort) (s : State) : (updReadPort p f s).ln = s.ln := by rcases p with _ | (_ | _) <;> rfl
@[simp] theorem updReadPort_dp (p : Option Port) (f : ReadPort → ReadPort) (s : State) : (updReadPort p f s).dp = s.dp := by rcases p with _ | (_ | _) <;> rfl
@[simp] theorem updReadPort_mp (p : Option Port) (f : ReadPort → ReadPort) (s : State) : (updReadPort p f s).mp = s.mp := by rcases p with _ | (_ | _) <;> rfl
@[simp] theorem updReadPort_io (p : Option Port) (f : ReadPort → ReadPort) (s : State) : (updReadPort p f s).io = s.io := by rcases p with _ | (_ | _) <;> rfl
@[simp] theorem updReadPort_flt (p : Option Port) (f : ReadPort → ReadPort) (s : State) : (updReadPort p f s).flt = s.flt := by rcases p with _ | (_ | _) <;> rfl

@[simp] theorem readPort_updReadPort (p : Option Port) (f : ReadPort → ReadPort) (s : State) :
    readPort p (updReadPort p f s) = f (readPort p s) := by
  rcases p with _ | (_ | _) <;> rfl

/-! ### The working data of a path changed -/

@[simp] theorem updPath_now (k : Nat) (f : PathCore → PathCore) (s : State) : (updPath k f s).now = s.now := rfl
@[simp] theorem updPath_free (k : Nat) (f : PathCore → PathCore) (s : State) : (updPath k f s).free = s.free := rfl
@[simp] theorem updPath_pending (k : Nat) (f : PathCore → PathCore) (s : State) : (updPath k f s).pending = s.pending := rfl
@[simp] theorem updPath_phase (k : Nat) (f : PathCore → PathCore) (s : State) : (updPath k f s).phase = s.phase := rfl
@[simp] theorem updPath_start (k : Nat) (f : PathCore → PathCore) (s : State) : (updPath k f s).start = s.start := rfl
@[simp] theorem updPath_nv (k : Nat) (f : PathCore → PathCore) (s : State) : (updPath k f s).nv = s.nv := rfl
@[simp] theorem updPath_sb (k : Nat) (f : PathCore → PathCore) (s : State) : (updPath k f s).sb = s.sb := rfl
@[simp] theorem updPath_cat (k : Nat) (f : PathCore → PathCore) (s : State) : (updPath k f s).cat = s.cat := rfl
@[simp] theorem updPath_governs (k : Nat) (f : PathCore → PathCore) (s : State) : (updPath k f s).governs = s.governs := rfl
@[simp] theorem updPath_active (k : Nat) (f : PathCore → PathCore) (s : State) : (updPath k f s).active = s.active := rfl
@[simp] theorem updPath_r (k : Nat) (f : PathCore → PathCore) (s : State) : (updPath k f s).r = s.r := rfl
@[simp] theorem updPath_pw (k : Nat) (f : PathCore → PathCore) (s : State) : (updPath k f s).pw = s.pw := rfl
@[simp] theorem updPath_cl (k : Nat) (f : PathCore → PathCore) (s : State) : (updPath k f s).cl = s.cl := rfl
@[simp] theorem updPath_ck (k : Nat) (f : PathCore → PathCore) (s : State) : (updPath k f s).ck = s.ck := rfl
@[simp] theorem updPath_tl (k : Nat) (f : PathCore → PathCore) (s : State) : (updPath k f s).tl = s.tl := rfl
@[simp] theorem updPath_rg (k : Nat) (f : PathCore → PathCore) (s : State) : (updPath k f s).rg = s.rg := rfl
@[simp] theorem updPath_seg (k : Nat) (f : PathCore → PathCore) (s : State) : (updPath k f s).seg = s.seg := rfl
@[simp] theorem updPath_bg (k : Nat) (f : PathCore → PathCore) (s : State) : (updPath k f s).bg = s.bg := rfl
@[simp] theorem updPath_bgReq (k : Nat) (f : PathCore → PathCore) (s : State) : (updPath k f s).bgReq = s.bgReq := rfl
@[simp] theorem updPath_xb (k : Nat) (f : PathCore → PathCore) (s : State) : (updPath k f s).xb = s.xb := rfl
@[simp] theorem updPath_xbBad (k : Nat) (f : PathCore → PathCore) (s : State) : (updPath k f s).xbBad = s.xbBad := rfl
@[simp] theorem updPath_ar (k : Nat) (f : PathCore → PathCore) (s : State) : (updPath k f s).ar = s.ar := rfl
@[simp] theorem updPath_evq (k : Nat) (f : PathCore → PathCore) (s : State) : (updPath k f s).evq = s.evq := rfl
@[simp] theorem updPath_evDrop (k : Nat) (f : PathCore → PathCore) (s : State) : (updPath k f s).evDrop = s.evDrop := rfl
@[simp] theorem updPath_ch (k : Nat) (f : PathCore → PathCore) (s : State) : (updPath k f s).ch = s.ch := rfl
@[simp] theorem updPath_cal (k : Nat) (f : PathCore → PathCore) (s : State) : (updPath k f s).cal = s.cal := rfl
@[simp] theorem updPath_ps (k : Nat) (f : PathCore → PathCore) (s : State) : (updPath k f s).ps = s.ps := rfl
@[simp] theorem updPath_fl (k : Nat) (f : PathCore → PathCore) (s : State) : (updPath k f s).fl = s.fl := rfl
@[simp] theorem updPath_tp (k : Nat) (f : PathCore → PathCore) (s : State) : (updPath k f s).tp = s.tp := rfl
@[simp] theorem updPath_rad (k : Nat) (f : PathCore → PathCore) (s : State) : (updPath k f s).rad = s.rad := rfl
@[simp] theorem updPath_ln (k : Nat) (f : PathCore → PathCore) (s : State) : (updPath k f s).ln = s.ln := rfl
@[simp] theorem updPath_dp (k : Nat) (f : PathCore → PathCore) (s : State) : (updPath k f s).dp = s.dp := rfl
@[simp] theorem updPath_sv (k : Nat) (f : PathCore → PathCore) (s : State) : (updPath k f s).sv = s.sv := rfl
@[simp] theorem updPath_mp (k : Nat) (f : PathCore → PathCore) (s : State) : (updPath k f s).mp = s.mp := rfl
@[simp] theorem updPath_io (k : Nat) (f : PathCore → PathCore) (s : State) : (updPath k f s).io = s.io := rfl
@[simp] theorem updPath_flt (k : Nat) (f : PathCore → PathCore) (s : State) : (updPath k f s).flt = s.flt := rfl

/-! ### A TDC channel changed -/

@[simp] theorem updCh_now (n : Nat) (f : TdcChannel → TdcChannel) (g : TdcChRegs → TdcChRegs) (s : State) : (updCh n f g s).now = s.now := rfl
@[simp] theorem updCh_free (n : Nat) (f : TdcChannel → TdcChannel) (g : TdcChRegs → TdcChRegs) (s : State) : (updCh n f g s).free = s.free := rfl
@[simp] theorem updCh_pending (n : Nat) (f : TdcChannel → TdcChannel) (g : TdcChRegs → TdcChRegs) (s : State) : (updCh n f g s).pending = s.pending := rfl
@[simp] theorem updCh_phase (n : Nat) (f : TdcChannel → TdcChannel) (g : TdcChRegs → TdcChRegs) (s : State) : (updCh n f g s).phase = s.phase := rfl
@[simp] theorem updCh_start (n : Nat) (f : TdcChannel → TdcChannel) (g : TdcChRegs → TdcChRegs) (s : State) : (updCh n f g s).start = s.start := rfl
@[simp] theorem updCh_nv (n : Nat) (f : TdcChannel → TdcChannel) (g : TdcChRegs → TdcChRegs) (s : State) : (updCh n f g s).nv = s.nv := rfl
@[simp] theorem updCh_sb (n : Nat) (f : TdcChannel → TdcChannel) (g : TdcChRegs → TdcChRegs) (s : State) : (updCh n f g s).sb = s.sb := rfl
@[simp] theorem updCh_cat (n : Nat) (f : TdcChannel → TdcChannel) (g : TdcChRegs → TdcChRegs) (s : State) : (updCh n f g s).cat = s.cat := rfl
@[simp] theorem updCh_governs (n : Nat) (f : TdcChannel → TdcChannel) (g : TdcChRegs → TdcChRegs) (s : State) : (updCh n f g s).governs = s.governs := rfl
@[simp] theorem updCh_active (n : Nat) (f : TdcChannel → TdcChannel) (g : TdcChRegs → TdcChRegs) (s : State) : (updCh n f g s).active = s.active := rfl
@[simp] theorem updCh_pw (n : Nat) (f : TdcChannel → TdcChannel) (g : TdcChRegs → TdcChRegs) (s : State) : (updCh n f g s).pw = s.pw := rfl
@[simp] theorem updCh_cl (n : Nat) (f : TdcChannel → TdcChannel) (g : TdcChRegs → TdcChRegs) (s : State) : (updCh n f g s).cl = s.cl := rfl
@[simp] theorem updCh_ck (n : Nat) (f : TdcChannel → TdcChannel) (g : TdcChRegs → TdcChRegs) (s : State) : (updCh n f g s).ck = s.ck := rfl
@[simp] theorem updCh_tl (n : Nat) (f : TdcChannel → TdcChannel) (g : TdcChRegs → TdcChRegs) (s : State) : (updCh n f g s).tl = s.tl := rfl
@[simp] theorem updCh_rg (n : Nat) (f : TdcChannel → TdcChannel) (g : TdcChRegs → TdcChRegs) (s : State) : (updCh n f g s).rg = s.rg := rfl
@[simp] theorem updCh_seg (n : Nat) (f : TdcChannel → TdcChannel) (g : TdcChRegs → TdcChRegs) (s : State) : (updCh n f g s).seg = s.seg := rfl
@[simp] theorem updCh_bg (n : Nat) (f : TdcChannel → TdcChannel) (g : TdcChRegs → TdcChRegs) (s : State) : (updCh n f g s).bg = s.bg := rfl
@[simp] theorem updCh_bgReq (n : Nat) (f : TdcChannel → TdcChannel) (g : TdcChRegs → TdcChRegs) (s : State) : (updCh n f g s).bgReq = s.bgReq := rfl
@[simp] theorem updCh_xb (n : Nat) (f : TdcChannel → TdcChannel) (g : TdcChRegs → TdcChRegs) (s : State) : (updCh n f g s).xb = s.xb := rfl
@[simp] theorem updCh_xbBad (n : Nat) (f : TdcChannel → TdcChannel) (g : TdcChRegs → TdcChRegs) (s : State) : (updCh n f g s).xbBad = s.xbBad := rfl
@[simp] theorem updCh_ar (n : Nat) (f : TdcChannel → TdcChannel) (g : TdcChRegs → TdcChRegs) (s : State) : (updCh n f g s).ar = s.ar := rfl
@[simp] theorem updCh_evq (n : Nat) (f : TdcChannel → TdcChannel) (g : TdcChRegs → TdcChRegs) (s : State) : (updCh n f g s).evq = s.evq := rfl
@[simp] theorem updCh_evDrop (n : Nat) (f : TdcChannel → TdcChannel) (g : TdcChRegs → TdcChRegs) (s : State) : (updCh n f g s).evDrop = s.evDrop := rfl
@[simp] theorem updCh_cal (n : Nat) (f : TdcChannel → TdcChannel) (g : TdcChRegs → TdcChRegs) (s : State) : (updCh n f g s).cal = s.cal := rfl
@[simp] theorem updCh_path (n : Nat) (f : TdcChannel → TdcChannel) (g : TdcChRegs → TdcChRegs) (s : State) : (updCh n f g s).path = s.path := rfl
@[simp] theorem updCh_ps (n : Nat) (f : TdcChannel → TdcChannel) (g : TdcChRegs → TdcChRegs) (s : State) : (updCh n f g s).ps = s.ps := rfl
@[simp] theorem updCh_fl (n : Nat) (f : TdcChannel → TdcChannel) (g : TdcChRegs → TdcChRegs) (s : State) : (updCh n f g s).fl = s.fl := rfl
@[simp] theorem updCh_tp (n : Nat) (f : TdcChannel → TdcChannel) (g : TdcChRegs → TdcChRegs) (s : State) : (updCh n f g s).tp = s.tp := rfl
@[simp] theorem updCh_rad (n : Nat) (f : TdcChannel → TdcChannel) (g : TdcChRegs → TdcChRegs) (s : State) : (updCh n f g s).rad = s.rad := rfl
@[simp] theorem updCh_ln (n : Nat) (f : TdcChannel → TdcChannel) (g : TdcChRegs → TdcChRegs) (s : State) : (updCh n f g s).ln = s.ln := rfl
@[simp] theorem updCh_dp (n : Nat) (f : TdcChannel → TdcChannel) (g : TdcChRegs → TdcChRegs) (s : State) : (updCh n f g s).dp = s.dp := rfl
@[simp] theorem updCh_sv (n : Nat) (f : TdcChannel → TdcChannel) (g : TdcChRegs → TdcChRegs) (s : State) : (updCh n f g s).sv = s.sv := rfl
@[simp] theorem updCh_mp (n : Nat) (f : TdcChannel → TdcChannel) (g : TdcChRegs → TdcChRegs) (s : State) : (updCh n f g s).mp = s.mp := rfl
@[simp] theorem updCh_io (n : Nat) (f : TdcChannel → TdcChannel) (g : TdcChRegs → TdcChRegs) (s : State) : (updCh n f g s).io = s.io := rfl
@[simp] theorem updCh_flt (n : Nat) (f : TdcChannel → TdcChannel) (g : TdcChRegs → TdcChRegs) (s : State) : (updCh n f g s).flt = s.flt := rfl

/-! ### Domains switched on -/

@[simp] theorem domOn_now (ds : List Dom) (s : State) : (domOn ds s).now = s.now := rfl
@[simp] theorem domOn_free (ds : List Dom) (s : State) : (domOn ds s).free = s.free := rfl
@[simp] theorem domOn_pending (ds : List Dom) (s : State) : (domOn ds s).pending = s.pending := rfl
@[simp] theorem domOn_phase (ds : List Dom) (s : State) : (domOn ds s).phase = s.phase := rfl
@[simp] theorem domOn_start (ds : List Dom) (s : State) : (domOn ds s).start = s.start := rfl
@[simp] theorem domOn_nv (ds : List Dom) (s : State) : (domOn ds s).nv = s.nv := rfl
@[simp] theorem domOn_sb (ds : List Dom) (s : State) : (domOn ds s).sb = s.sb := rfl
@[simp] theorem domOn_cat (ds : List Dom) (s : State) : (domOn ds s).cat = s.cat := rfl
@[simp] theorem domOn_governs (ds : List Dom) (s : State) : (domOn ds s).governs = s.governs := rfl
@[simp] theorem domOn_active (ds : List Dom) (s : State) : (domOn ds s).active = s.active := rfl
@[simp] theorem domOn_r (ds : List Dom) (s : State) : (domOn ds s).r = s.r := rfl
@[simp] theorem domOn_cl (ds : List Dom) (s : State) : (domOn ds s).cl = s.cl := rfl
@[simp] theorem domOn_ck (ds : List Dom) (s : State) : (domOn ds s).ck = s.ck := rfl
@[simp] theorem domOn_tl (ds : List Dom) (s : State) : (domOn ds s).tl = s.tl := rfl
@[simp] theorem domOn_rg (ds : List Dom) (s : State) : (domOn ds s).rg = s.rg := rfl
@[simp] theorem domOn_seg (ds : List Dom) (s : State) : (domOn ds s).seg = s.seg := rfl
@[simp] theorem domOn_bg (ds : List Dom) (s : State) : (domOn ds s).bg = s.bg := rfl
@[simp] theorem domOn_bgReq (ds : List Dom) (s : State) : (domOn ds s).bgReq = s.bgReq := rfl
@[simp] theorem domOn_xb (ds : List Dom) (s : State) : (domOn ds s).xb = s.xb := rfl
@[simp] theorem domOn_xbBad (ds : List Dom) (s : State) : (domOn ds s).xbBad = s.xbBad := rfl
@[simp] theorem domOn_ar (ds : List Dom) (s : State) : (domOn ds s).ar = s.ar := rfl
@[simp] theorem domOn_evq (ds : List Dom) (s : State) : (domOn ds s).evq = s.evq := rfl
@[simp] theorem domOn_evDrop (ds : List Dom) (s : State) : (domOn ds s).evDrop = s.evDrop := rfl
@[simp] theorem domOn_ch (ds : List Dom) (s : State) : (domOn ds s).ch = s.ch := rfl
@[simp] theorem domOn_cal (ds : List Dom) (s : State) : (domOn ds s).cal = s.cal := rfl
@[simp] theorem domOn_path (ds : List Dom) (s : State) : (domOn ds s).path = s.path := rfl
@[simp] theorem domOn_ps (ds : List Dom) (s : State) : (domOn ds s).ps = s.ps := rfl
@[simp] theorem domOn_fl (ds : List Dom) (s : State) : (domOn ds s).fl = s.fl := rfl
@[simp] theorem domOn_tp (ds : List Dom) (s : State) : (domOn ds s).tp = s.tp := rfl
@[simp] theorem domOn_rad (ds : List Dom) (s : State) : (domOn ds s).rad = s.rad := rfl
@[simp] theorem domOn_ln (ds : List Dom) (s : State) : (domOn ds s).ln = s.ln := rfl
@[simp] theorem domOn_dp (ds : List Dom) (s : State) : (domOn ds s).dp = s.dp := rfl
@[simp] theorem domOn_sv (ds : List Dom) (s : State) : (domOn ds s).sv = s.sv := rfl
@[simp] theorem domOn_mp (ds : List Dom) (s : State) : (domOn ds s).mp = s.mp := rfl
@[simp] theorem domOn_io (ds : List Dom) (s : State) : (domOn ds s).io = s.io := rfl
@[simp] theorem domOn_flt (ds : List Dom) (s : State) : (domOn ds s).flt = s.flt := rfl

/-! ### Domains switched off -/

@[simp] theorem domOff_now (ds : List Dom) (s : State) : (domOff ds s).now = s.now := rfl
@[simp] theorem domOff_free (ds : List Dom) (s : State) : (domOff ds s).free = s.free := rfl
@[simp] theorem domOff_pending (ds : List Dom) (s : State) : (domOff ds s).pending = s.pending := rfl
@[simp] theorem domOff_phase (ds : List Dom) (s : State) : (domOff ds s).phase = s.phase := rfl
@[simp] theorem domOff_start (ds : List Dom) (s : State) : (domOff ds s).start = s.start := rfl
@[simp] theorem domOff_nv (ds : List Dom) (s : State) : (domOff ds s).nv = s.nv := rfl
@[simp] theorem domOff_sb (ds : List Dom) (s : State) : (domOff ds s).sb = s.sb := rfl
@[simp] theorem domOff_cat (ds : List Dom) (s : State) : (domOff ds s).cat = s.cat := rfl
@[simp] theorem domOff_governs (ds : List Dom) (s : State) : (domOff ds s).governs = s.governs := rfl
@[simp] theorem domOff_active (ds : List Dom) (s : State) : (domOff ds s).active = s.active := rfl
@[simp] theorem domOff_cl (ds : List Dom) (s : State) : (domOff ds s).cl = s.cl := rfl
@[simp] theorem domOff_ck (ds : List Dom) (s : State) : (domOff ds s).ck = s.ck := rfl
@[simp] theorem domOff_tl (ds : List Dom) (s : State) : (domOff ds s).tl = s.tl := rfl
@[simp] theorem domOff_rg (ds : List Dom) (s : State) : (domOff ds s).rg = s.rg := rfl
@[simp] theorem domOff_seg (ds : List Dom) (s : State) : (domOff ds s).seg = s.seg := rfl
@[simp] theorem domOff_bg (ds : List Dom) (s : State) : (domOff ds s).bg = s.bg := rfl
@[simp] theorem domOff_bgReq (ds : List Dom) (s : State) : (domOff ds s).bgReq = s.bgReq := rfl
@[simp] theorem domOff_xb (ds : List Dom) (s : State) : (domOff ds s).xb = s.xb := rfl
@[simp] theorem domOff_xbBad (ds : List Dom) (s : State) : (domOff ds s).xbBad = s.xbBad := rfl
@[simp] theorem domOff_ar (ds : List Dom) (s : State) : (domOff ds s).ar = s.ar := rfl
@[simp] theorem domOff_evq (ds : List Dom) (s : State) : (domOff ds s).evq = s.evq := rfl
@[simp] theorem domOff_evDrop (ds : List Dom) (s : State) : (domOff ds s).evDrop = s.evDrop := rfl
@[simp] theorem domOff_cal (ds : List Dom) (s : State) : (domOff ds s).cal = s.cal := rfl
@[simp] theorem domOff_path (ds : List Dom) (s : State) : (domOff ds s).path = s.path := rfl
@[simp] theorem domOff_ps (ds : List Dom) (s : State) : (domOff ds s).ps = s.ps := rfl
@[simp] theorem domOff_fl (ds : List Dom) (s : State) : (domOff ds s).fl = s.fl := rfl
@[simp] theorem domOff_tp (ds : List Dom) (s : State) : (domOff ds s).tp = s.tp := rfl
@[simp] theorem domOff_ln (ds : List Dom) (s : State) : (domOff ds s).ln = s.ln := rfl
@[simp] theorem domOff_dp (ds : List Dom) (s : State) : (domOff ds s).dp = s.dp := rfl
@[simp] theorem domOff_sv (ds : List Dom) (s : State) : (domOff ds s).sv = s.sv := rfl
@[simp] theorem domOff_mp (ds : List Dom) (s : State) : (domOff ds s).mp = s.mp := rfl
@[simp] theorem domOff_io (ds : List Dom) (s : State) : (domOff ds s).io = s.io := rfl
@[simp] theorem domOff_flt (ds : List Dom) (s : State) : (domOff ds s).flt = s.flt := rfl

/-! ### A job of the Archive queued -/

@[simp] theorem addJob_now (j : ArcJob) (s : State) : (addJob j s).now = s.now := rfl
@[simp] theorem addJob_free (j : ArcJob) (s : State) : (addJob j s).free = s.free := rfl
@[simp] theorem addJob_pending (j : ArcJob) (s : State) : (addJob j s).pending = s.pending := rfl
@[simp] theorem addJob_phase (j : ArcJob) (s : State) : (addJob j s).phase = s.phase := rfl
@[simp] theorem addJob_start (j : ArcJob) (s : State) : (addJob j s).start = s.start := rfl
@[simp] theorem addJob_nv (j : ArcJob) (s : State) : (addJob j s).nv = s.nv := rfl
@[simp] theorem addJob_sb (j : ArcJob) (s : State) : (addJob j s).sb = s.sb := rfl
@[simp] theorem addJob_cat (j : ArcJob) (s : State) : (addJob j s).cat = s.cat := rfl
@[simp] theorem addJob_governs (j : ArcJob) (s : State) : (addJob j s).governs = s.governs := rfl
@[simp] theorem addJob_active (j : ArcJob) (s : State) : (addJob j s).active = s.active := rfl
@[simp] theorem addJob_r (j : ArcJob) (s : State) : (addJob j s).r = s.r := rfl
@[simp] theorem addJob_pw (j : ArcJob) (s : State) : (addJob j s).pw = s.pw := rfl
@[simp] theorem addJob_cl (j : ArcJob) (s : State) : (addJob j s).cl = s.cl := rfl
@[simp] theorem addJob_ck (j : ArcJob) (s : State) : (addJob j s).ck = s.ck := rfl
@[simp] theorem addJob_tl (j : ArcJob) (s : State) : (addJob j s).tl = s.tl := rfl
@[simp] theorem addJob_rg (j : ArcJob) (s : State) : (addJob j s).rg = s.rg := rfl
@[simp] theorem addJob_seg (j : ArcJob) (s : State) : (addJob j s).seg = s.seg := rfl
@[simp] theorem addJob_bg (j : ArcJob) (s : State) : (addJob j s).bg = s.bg := rfl
@[simp] theorem addJob_bgReq (j : ArcJob) (s : State) : (addJob j s).bgReq = s.bgReq := rfl
@[simp] theorem addJob_xb (j : ArcJob) (s : State) : (addJob j s).xb = s.xb := rfl
@[simp] theorem addJob_xbBad (j : ArcJob) (s : State) : (addJob j s).xbBad = s.xbBad := rfl
@[simp] theorem addJob_evq (j : ArcJob) (s : State) : (addJob j s).evq = s.evq := rfl
@[simp] theorem addJob_evDrop (j : ArcJob) (s : State) : (addJob j s).evDrop = s.evDrop := rfl
@[simp] theorem addJob_ch (j : ArcJob) (s : State) : (addJob j s).ch = s.ch := rfl
@[simp] theorem addJob_cal (j : ArcJob) (s : State) : (addJob j s).cal = s.cal := rfl
@[simp] theorem addJob_path (j : ArcJob) (s : State) : (addJob j s).path = s.path := rfl
@[simp] theorem addJob_ps (j : ArcJob) (s : State) : (addJob j s).ps = s.ps := rfl
@[simp] theorem addJob_fl (j : ArcJob) (s : State) : (addJob j s).fl = s.fl := rfl
@[simp] theorem addJob_tp (j : ArcJob) (s : State) : (addJob j s).tp = s.tp := rfl
@[simp] theorem addJob_rad (j : ArcJob) (s : State) : (addJob j s).rad = s.rad := rfl
@[simp] theorem addJob_ln (j : ArcJob) (s : State) : (addJob j s).ln = s.ln := rfl
@[simp] theorem addJob_dp (j : ArcJob) (s : State) : (addJob j s).dp = s.dp := rfl
@[simp] theorem addJob_sv (j : ArcJob) (s : State) : (addJob j s).sv = s.sv := rfl
@[simp] theorem addJob_mp (j : ArcJob) (s : State) : (addJob j s).mp = s.mp := rfl
@[simp] theorem addJob_io (j : ArcJob) (s : State) : (addJob j s).io = s.io := rfl
@[simp] theorem addJob_flt (j : ArcJob) (s : State) : (addJob j s).flt = s.flt := rfl

/-! ### A frame queued -/

@[simp] theorem queueTx_now (f : TxFrame) (s : State) : (queueTx f s).now = s.now := rfl
@[simp] theorem queueTx_free (f : TxFrame) (s : State) : (queueTx f s).free = s.free := rfl
@[simp] theorem queueTx_pending (f : TxFrame) (s : State) : (queueTx f s).pending = s.pending := rfl
@[simp] theorem queueTx_phase (f : TxFrame) (s : State) : (queueTx f s).phase = s.phase := rfl
@[simp] theorem queueTx_start (f : TxFrame) (s : State) : (queueTx f s).start = s.start := rfl
@[simp] theorem queueTx_nv (f : TxFrame) (s : State) : (queueTx f s).nv = s.nv := rfl
@[simp] theorem queueTx_sb (f : TxFrame) (s : State) : (queueTx f s).sb = s.sb := rfl
@[simp] theorem queueTx_cat (f : TxFrame) (s : State) : (queueTx f s).cat = s.cat := rfl
@[simp] theorem queueTx_governs (f : TxFrame) (s : State) : (queueTx f s).governs = s.governs := rfl
@[simp] theorem queueTx_active (f : TxFrame) (s : State) : (queueTx f s).active = s.active := rfl
@[simp] theorem queueTx_r (f : TxFrame) (s : State) : (queueTx f s).r = s.r := rfl
@[simp] theorem queueTx_pw (f : TxFrame) (s : State) : (queueTx f s).pw = s.pw := rfl
@[simp] theorem queueTx_cl (f : TxFrame) (s : State) : (queueTx f s).cl = s.cl := rfl
@[simp] theorem queueTx_ck (f : TxFrame) (s : State) : (queueTx f s).ck = s.ck := rfl
@[simp] theorem queueTx_tl (f : TxFrame) (s : State) : (queueTx f s).tl = s.tl := rfl
@[simp] theorem queueTx_rg (f : TxFrame) (s : State) : (queueTx f s).rg = s.rg := rfl
@[simp] theorem queueTx_seg (f : TxFrame) (s : State) : (queueTx f s).seg = s.seg := rfl
@[simp] theorem queueTx_bg (f : TxFrame) (s : State) : (queueTx f s).bg = s.bg := rfl
@[simp] theorem queueTx_bgReq (f : TxFrame) (s : State) : (queueTx f s).bgReq = s.bgReq := rfl
@[simp] theorem queueTx_xb (f : TxFrame) (s : State) : (queueTx f s).xb = s.xb := rfl
@[simp] theorem queueTx_xbBad (f : TxFrame) (s : State) : (queueTx f s).xbBad = s.xbBad := rfl
@[simp] theorem queueTx_ar (f : TxFrame) (s : State) : (queueTx f s).ar = s.ar := rfl
@[simp] theorem queueTx_evq (f : TxFrame) (s : State) : (queueTx f s).evq = s.evq := rfl
@[simp] theorem queueTx_evDrop (f : TxFrame) (s : State) : (queueTx f s).evDrop = s.evDrop := rfl
@[simp] theorem queueTx_ch (f : TxFrame) (s : State) : (queueTx f s).ch = s.ch := rfl
@[simp] theorem queueTx_cal (f : TxFrame) (s : State) : (queueTx f s).cal = s.cal := rfl
@[simp] theorem queueTx_path (f : TxFrame) (s : State) : (queueTx f s).path = s.path := rfl
@[simp] theorem queueTx_ps (f : TxFrame) (s : State) : (queueTx f s).ps = s.ps := rfl
@[simp] theorem queueTx_fl (f : TxFrame) (s : State) : (queueTx f s).fl = s.fl := rfl
@[simp] theorem queueTx_tp (f : TxFrame) (s : State) : (queueTx f s).tp = s.tp := rfl
@[simp] theorem queueTx_ln (f : TxFrame) (s : State) : (queueTx f s).ln = s.ln := rfl
@[simp] theorem queueTx_dp (f : TxFrame) (s : State) : (queueTx f s).dp = s.dp := rfl
@[simp] theorem queueTx_sv (f : TxFrame) (s : State) : (queueTx f s).sv = s.sv := rfl
@[simp] theorem queueTx_mp (f : TxFrame) (s : State) : (queueTx f s).mp = s.mp := rfl
@[simp] theorem queueTx_io (f : TxFrame) (s : State) : (queueTx f s).io = s.io := rfl
@[simp] theorem queueTx_flt (f : TxFrame) (s : State) : (queueTx f s).flt = s.flt := rfl

/-! ### A power state asked for -/

@[simp] theorem askPower_now (t : PState) (p : Port) (s : State) : (askPower t p s).now = s.now := rfl
@[simp] theorem askPower_free (t : PState) (p : Port) (s : State) : (askPower t p s).free = s.free := rfl
@[simp] theorem askPower_pending (t : PState) (p : Port) (s : State) : (askPower t p s).pending = s.pending := rfl
@[simp] theorem askPower_phase (t : PState) (p : Port) (s : State) : (askPower t p s).phase = s.phase := rfl
@[simp] theorem askPower_start (t : PState) (p : Port) (s : State) : (askPower t p s).start = s.start := rfl
@[simp] theorem askPower_nv (t : PState) (p : Port) (s : State) : (askPower t p s).nv = s.nv := rfl
@[simp] theorem askPower_sb (t : PState) (p : Port) (s : State) : (askPower t p s).sb = s.sb := rfl
@[simp] theorem askPower_cat (t : PState) (p : Port) (s : State) : (askPower t p s).cat = s.cat := rfl
@[simp] theorem askPower_governs (t : PState) (p : Port) (s : State) : (askPower t p s).governs = s.governs := rfl
@[simp] theorem askPower_active (t : PState) (p : Port) (s : State) : (askPower t p s).active = s.active := rfl
@[simp] theorem askPower_r (t : PState) (p : Port) (s : State) : (askPower t p s).r = s.r := rfl
@[simp] theorem askPower_cl (t : PState) (p : Port) (s : State) : (askPower t p s).cl = s.cl := rfl
@[simp] theorem askPower_ck (t : PState) (p : Port) (s : State) : (askPower t p s).ck = s.ck := rfl
@[simp] theorem askPower_tl (t : PState) (p : Port) (s : State) : (askPower t p s).tl = s.tl := rfl
@[simp] theorem askPower_rg (t : PState) (p : Port) (s : State) : (askPower t p s).rg = s.rg := rfl
@[simp] theorem askPower_seg (t : PState) (p : Port) (s : State) : (askPower t p s).seg = s.seg := rfl
@[simp] theorem askPower_bg (t : PState) (p : Port) (s : State) : (askPower t p s).bg = s.bg := rfl
@[simp] theorem askPower_bgReq (t : PState) (p : Port) (s : State) : (askPower t p s).bgReq = s.bgReq := rfl
@[simp] theorem askPower_xb (t : PState) (p : Port) (s : State) : (askPower t p s).xb = s.xb := rfl
@[simp] theorem askPower_xbBad (t : PState) (p : Port) (s : State) : (askPower t p s).xbBad = s.xbBad := rfl
@[simp] theorem askPower_ar (t : PState) (p : Port) (s : State) : (askPower t p s).ar = s.ar := rfl
@[simp] theorem askPower_evq (t : PState) (p : Port) (s : State) : (askPower t p s).evq = s.evq := rfl
@[simp] theorem askPower_evDrop (t : PState) (p : Port) (s : State) : (askPower t p s).evDrop = s.evDrop := rfl
@[simp] theorem askPower_ch (t : PState) (p : Port) (s : State) : (askPower t p s).ch = s.ch := rfl
@[simp] theorem askPower_cal (t : PState) (p : Port) (s : State) : (askPower t p s).cal = s.cal := rfl
@[simp] theorem askPower_path (t : PState) (p : Port) (s : State) : (askPower t p s).path = s.path := rfl
@[simp] theorem askPower_ps (t : PState) (p : Port) (s : State) : (askPower t p s).ps = s.ps := rfl
@[simp] theorem askPower_fl (t : PState) (p : Port) (s : State) : (askPower t p s).fl = s.fl := rfl
@[simp] theorem askPower_tp (t : PState) (p : Port) (s : State) : (askPower t p s).tp = s.tp := rfl
@[simp] theorem askPower_rad (t : PState) (p : Port) (s : State) : (askPower t p s).rad = s.rad := rfl
@[simp] theorem askPower_ln (t : PState) (p : Port) (s : State) : (askPower t p s).ln = s.ln := rfl
@[simp] theorem askPower_dp (t : PState) (p : Port) (s : State) : (askPower t p s).dp = s.dp := rfl
@[simp] theorem askPower_sv (t : PState) (p : Port) (s : State) : (askPower t p s).sv = s.sv := rfl
@[simp] theorem askPower_mp (t : PState) (p : Port) (s : State) : (askPower t p s).mp = s.mp := rfl
@[simp] theorem askPower_io (t : PState) (p : Port) (s : State) : (askPower t p s).io = s.io := rfl
@[simp] theorem askPower_flt (t : PState) (p : Port) (s : State) : (askPower t p s).flt = s.flt := rfl

/-! ### One element of a vector changed -/

@[simp] theorem vget_vupd_same {α : Type} {n : Nat} (v : Vector α n) (i : Nat) (f : α → α) (d : α) (h : i < n) :
    vget (vupd v i f) i d = f (vget v i d) := by
  unfold vget vupd
  simp [h]
@[simp] theorem vget_vupd_other {α : Type} {n : Nat} (v : Vector α n) (i j : Nat) (f : α → α) (d : α) (h : j ≠ i) :
    vget (vupd v i f) j d = vget v j d := by
  unfold vget vupd
  split
  · split
    · rw [Vector.getElem_set_ne _ _ (Ne.symm h)]
    · rfl
  · rfl
theorem vupd_id {α : Type} {n : Nat} (v : Vector α n) (i : Nat) : vupd v i id = v := by
  unfold vupd; split
  · simp
  · rfl

end Sys2Proof.Machine
end

