-- ==== Sys2Proof/Machine/Pins.lean ====
section
/-! DEFINITION. The balls: their types, rails, domains and Reset states (Table 2.2, R39), the level each one shows in a state (R35
to R37, R43 to R45, R192, R395), the switching that pauses while a capture or a discharge is open (R25), and the data registers of
the test access port (R47, R48). -/

namespace Sys2Proof.Machine

/-! ## Table 2.2 -/

/-- The 168 signal balls. `a` is the A or force-A pin of a pair, `p` the P pin. -/
inductive Ball where
  | xd (n : Fin 8) (a : Bool) | lxDrv
  | probe (n : Fin 4) (force a : Bool) | tref (force a : Bool) | tcap
  | rfh | rfl | rfCtl (n : Fin 2) | xrf (i : Bool) | xt32 (i : Bool)
  | cfgCs | cfgSck | cfgSio (n : Fin 4)
  | hstCs | hstSck | hstMosi | hstMiso | hstIrq | hstWake
  | irTx | irRx | irEn
  | mpScl (n : Fin 7) | mpSda (n : Fin 7) | mpVs (n : Fin 7)
  | po (n : Fin 2) | pi (n : Fin 2) | key (n : Fin 2) | tmp (n : Fin 2)
  | rstN | testen | tck | tms | tdi | trstN | tdo
  | com (n : Fin 8) | seg (n : Fin 48) | dx (n : Fin 8) | epcom | cpl (p : Bool) | cpe (n : Fin 2) (p : Bool)
  deriving DecidableEq, Repr

/-- Types of Table 2.2. -/
inductive BallType where | input | output | openDrain | bidir | analog
  deriving DecidableEq, Repr

/-- Reference rails of Table 2.2. -/
inductive Rail where | vdrv | vres | vana | vrf | vddio | vbat | mpVs (n : Fin 7) | vlcd | vepdp | vepdn
  deriving DecidableEq, Repr

/-- What a ball shows: high-impedance, a weak pull, a level, the module port's own pull-up of 2.2 kΩ (R44), an oscillating crystal, the
waveform of the engine that drives it, the anchor of both pins of an idle port at PGND, or its cell of the boundary-scan register. -/
inductive Pad where | z | pullDown | pullUp | low | high | modulePull | oscillating | driven | terminated | scan
  deriving DecidableEq, Repr

/-- Type of a ball; that of `HST_IRQ` is the Catalogue's choice. -/
def Ball.type (b : Ball) (s : State) : BallType :=
  match b with
  | .xd .. | .lxDrv | .probe .. | .tref .. | .tcap | .rfh | .rfl | .xrf _ | .xt32 _ | .cpl _ | .cpe .. => .analog
  | .cfgSio _ => .bidir
  | .rfCtl _ | .cfgCs | .cfgSck | .hstMiso | .irTx | .irEn | .mpVs _ | .tdo | .com _ | .seg _ | .dx _ | .epcom => .output
  | .hstIrq => if s.cat.irqmode = 1 then .openDrain else .output
  | .mpScl _ | .mpSda _ | .po _ => .openDrain
  | .hstCs | .hstSck | .hstMosi | .hstWake | .irRx | .pi _ | .key _ | .tmp _ | .rstN | .testen | .tck | .tms | .tdi | .trstN => .input

/-- Rails of a ball: `COM` and `SEG` have VLCD or the pair VEPDP/VEPDN, as the display type selects. -/
def Ball.rails : Ball → List Rail
  | .xd .. => [.vdrv]
  | .lxDrv => [.vres]
  | .probe .. | .tref .. | .tcap => [.vana]
  | .rfh | .rfl | .xrf _ => [.vrf]
  | .rfCtl _ | .cfgCs | .cfgSck | .cfgSio _ | .hstCs | .hstSck | .hstMosi | .hstMiso | .hstIrq | .hstWake | .mpVs _
  | .tck | .tms | .tdi | .trstN | .tdo => [.vddio]
  | .mpScl n | .mpSda n => [.mpVs n]
  | .xt32 _ | .irTx | .irRx | .irEn | .po _ | .pi _ | .key _ | .tmp _ | .rstN | .testen => [.vbat]
  | .cpl _ => [.vlcd]
  | .com _ | .seg _ => [.vlcd, .vepdp, .vepdn]
  | .dx _ | .epcom | .cpe .. => [.vepdp, .vepdn]

/-- A ball is referred to VDDIO, or to a module supply that is switched from it (R43, R44). -/
def Ball.onVddio (b : Ball) : Bool := b.rails.any (fun r => match r with | .vddio | .mpVs _ => true | _ => false)

/-- Domains whose engines own a ball. How the one row 'AON, CUR' of Table 2.2 falls on its three balls is log 141. -/
def Ball.doms : Ball → List Dom
  | .xd .. => [.tx, .rx]
  | .lxDrv => [.tx]
  | .probe .. | .tref .. | .tcap => [.tmp]
  | .rfh | .rfl | .rfCtl _ | .xrf _ => [.rf]
  | .cfgCs | .cfgSck | .cfgSio _ | .hstSck | .hstMosi | .hstMiso => [.cur]
  | .mpScl _ | .mpSda _ | .mpVs _ => [.mod]
  | .com _ | .seg _ | .dx _ | .epcom | .cpl _ | .cpe .. => [.dsp]
  | .xt32 _ | .hstCs | .hstIrq | .hstWake | .irTx | .irRx | .irEn | .po _ | .pi _ | .key _ | .tmp _ | .rstN | .testen
  | .tck | .tms | .tdi | .trstN | .tdo => [.aon]

/-- The Reset column of Table 2.2. -/
def Ball.reset : Ball → Pad
  | .xd .. | .probe .. | .tref .. | .hstWake | .testen | .tck | .trstN => .pullDown
  | .cfgSio _ | .hstCs | .key _ | .rstN | .tms | .tdi => .pullUp
  | .tcap | .rfCtl _ | .cfgSck | .irTx | .irEn | .mpVs _ | .com _ | .seg _ | .dx _ | .epcom => .low
  | .cfgCs => .high
  | .xt32 _ => .oscillating
  | .lxDrv | .rfh | .rfl | .xrf _ | .hstSck | .hstMosi | .hstMiso | .hstIrq | .irRx | .mpScl _ | .mpSda _ | .po _ | .pi _ | .tmp _
  | .tdo | .cpl _ | .cpe .. => .z

/-! ## Switching that pauses in a window (R25) -/

/-- The boost switches `LX_DRV`: it regulates, and no capture or discharge is open. -/
def boostSwitches (s : State) : Bool := s.r.drv.xdstatBooston && !quietWindow s

/-- The glass charge pump switches. -/
def glassPumpSwitches (s : State) : Bool := s.dp.glassOn && s.r.dsp.dspstatPump && !quietWindow s

/-- The bistable charge pump switches: a region runs, or compensates. -/
def bistablePumpSwitches (s : State) : Bool := s.dp.railsOk && !(regionsIn [.starting, .running] s).isEmpty && !quietWindow s

/-- The Vitrine's heater. -/
inductive Heater where | off | regulated | held
  deriving DecidableEq, Repr

/-- The heater's control loop runs while the Vitrine is on; while a capture or a discharge is open it holds its drive level. -/
def heater (s : State) : Heater := if !s.isOn .vit then .off else if quietWindow s then .held else .regulated

/-! ## Levels -/

/-- An engine of the ball's domains has configured it since POR release (R36): the crystal's also the Vitrine calibration that runs it
(Table 6.1). -/
def Ball.configured (b : Ball) (s : State) : Bool :=
  (b.doms ++ (match b with | .xrf _ => [.vit] | _ => [])).any (fun d => s.pw.seen.getLsbD d.bit)

/-- A level. -/
def level (b : Bool) : Pad := if b then .high else .low

/-- A frame is in the air, or the receiver is on, on the RF ball of the band in use: RFL for 169 and 433 MHz, RFH above. -/
def rfActive (low : Bool) (s : State) : Bool :=
  (s.rad.air.isSome || s.ln.rxSince.isSome) && (decide ((if s.rad.air.any (fun f => f.use.sequencer) then enRadio s else s.cat.radio).band ≤ 1) == low)

/-- A port's pins (R192, R198). -/
def portPad (n : Nat) (s : State) : Pad :=
  match portCondition n s with
  | .reset => .pullDown
  | .idle => .low
  | .transmitting => .driven
  | .receiving _ => .terminated

/-- A display line (R395): driven while the panel's drive uses it, at GND otherwise (R37, R395). -/
def displayPad (line : Nat) (s : State) : Pad :=
  let used := match s.cat.disp.dtype with
    | .glass => s.dp.glassOn && (if s.dp.emDriving then (emissivePins s).contains line else (glassPins s).contains line)
    | .emissive => s.dp.emDriving && (emissivePins s).contains line
    | .bistable => !(regionsIn [.starting, .running, .paused] s).isEmpty || s.dp.park.isSome
    | _ => false
  if used && s.isOn .dsp then .driven else .low

/-- A pulse or a level function holds an output low (R437). -/
def outputLow (o : Nat) (s : State) : Bool :=
  outputLevel o s || (outputDrives o s && (vget s.io.poAt o none).any (fun t => decide (s.now < t + 5000)))

/-- XRF runs with the RF domain, and through a Vitrine calibration from step V1 to step V7 (Table 6.1, Table 6.3). -/
def xrfRuns (s : State) : Bool := s.isOn .rf || s.isOn .vit

/-- A probe or reference ball (R36, R250): while the channel's own discharge runs, its servo drives `FA` and returns the current through
`FB` to AGND, and a 4-wire channel's sense balls are inputs; the sense balls of a 2-wire channel are never configured. A channel that
no measurement has connected keeps its Reset state. -/
def probePad (n : Nat) (force a : Bool) (s : State) : Pad :=
  let connected := dischargeOpen s && (match nextDischarge s with | some (m, _) => m == n | none => false)
  if !connected then .pullDown
  else if force then (if a then .driven else .low)
  else if fourWire n s then .z else .pullDown

/-- What a configured ball shows while the device has its supplies. `CFG` and `IR_TX` are at rest between commands: an access, or a
frame of the optical port, is over within the command that makes it. -/
def Ball.inUse (b : Ball) (s : State) : Pad :=
  match b with
  | .xd n _ => portPad n.val s
  | .lxDrv => if boostSwitches s then .driven else .z
  | .probe n force a => probePad n.val force a s
  | .tref force a => probePad 4 force a s
  | .tcap => if dischargeOpen s then .driven else .low
  | .rfl => if rfActive true s then .driven else .z
  | .rfh => if rfActive false s then .driven else .z
  | .rfCtl n => level (if n = 0 then s.rad.ctl0 else s.rad.ctl1)
  | .xrf _ => if xrfRuns s then .oscillating else .z
  | .hstMiso => if s.io.cs && s.serving then .driven else .z
  | .hstIrq => if hostIrq s then .low else if s.cat.irqmode = 1 || !s.cat.hostPresent then .z else .high
  | .irTx => .low
  | .irEn => level (irEnabled s)
  | .mpVs n => level (vget s.mp n.val {}).vson
  | .mpScl n | .mpSda n => if (vget s.mp n.val {}).vson then .modulePull else .z
  | .po n => if outputLow n.val s then .low else .z
  | .com n => displayPad n.val s
  | .seg n => displayPad (16 + n.val) s
  | .dx n => displayPad (8 + n.val) s
  | .epcom => displayPad 64 s
  | .cpl _ => if glassPumpSwitches s then .driven else .z
  | .cpe .. => if bistablePumpSwitches s then .driven else .z
  | b => b.reset

/-! ## The boundary-scan register (R48) -/

/-- The balls of the boundary-scan register; the order of their cells is the model's choice (log 141). -/
def scanChain : List Ball :=
  [.cfgCs, .cfgSck, .cfgSio 0, .cfgSio 1, .cfgSio 2, .cfgSio 3, .hstCs, .hstSck, .hstMosi, .hstMiso, .hstIrq, .hstWake, .irTx, .irRx, .irEn]
    ++ (List.finRange 7).flatMap (fun n => [.mpScl n, .mpSda n])
    ++ [.po 0, .po 1, .pi 0, .pi 1, .key 0, .key 1, .tmp 0, .tmp 1, .rfCtl 0, .rfCtl 1, .rstN]

/-- A cell that only observes its ball. -/
def observeOnly (b : Ball) : Bool := b == .rstN

/-- The level that a ball shows: high-impedance in Off (R35); isolated without VDDIO (R43); the Reset state under TESTEN, after a ROM
halt and until its owner has configured it (R36, R45); under EXTEST as its cell has it; else as its engine has it (R37: held in
Standby and Hibernate, but for the module ports and the display, whose State fields the entry sets). -/
def Ball.pad (b : Ball) (s : State) : Pad :=
  match s.phase with
  | .off | .offByCommand => .z
  | .testHold | .romHalt => if !s.io.vddio && b.onVddio then .z else b.reset
  | _ =>
    if !s.io.vddio && b.onVddio then .z
    else if s.io.tap == .extest && scanChain.contains b && !observeOnly b then .scan
    else if b.configured s then b.inUse s else b.reset

/-! ## The test access port (R47) -/

/-- The device's JTAG identification code. -/
def idcode : BitVec 32 := 0x19640C5B

/-- The data register that the current instruction selects. -/
inductive TapRegister where
  | bypass
  | identification (code : BitVec 32)
  /-- Cells in chain order, each with what its ball shows when it is captured -/
  | boundary (cells : List (Ball × Pad))
  deriving DecidableEq, Repr

/-- What the test access port gives to scan. No instruction reaches an engine, a memory or a register. -/
def tapRegister (s : State) : TapRegister :=
  match s.io.tap with
  | .idcode => .identification idcode
  | .bypass => .bypass
  | .sample | .extest => .boundary (scanChain.map (fun b => (b, b.pad s)))

end Sys2Proof.Machine
end

