-- ==== Sys2Proof/WellFormed.lean ====
section
/-! DEFINITION. Commands whose operands lie in the ranges that the hardware can deliver: what a register, a field or a
frame of the spec has room for. -/

namespace Sys2Proof

/-- A sample of the AON monitor fits its status words (R133, R160). -/
def Sample.wf (x : Sample) : Bool :=
  decide (x.vbat ≤ 0xFFFF) && decide (x.vres ≤ 0xFFFF) && decide (-0x8000 ≤ x.temp) && decide (x.temp ≤ 0x7FFF)

/-- A fine code has 65 tap indexes and 25 vernier bins (R165). -/
def FineCode.wf (f : FineCode) : Bool := decide (f.m ≤ 64) && decide (f.v ≤ 24)

/-- A table has 64 taps and 25 vernier bins (R183). -/
def TdcTable.wf (t : TdcTable) : Bool := t.h.length == 64 && t.g.length == 25

/-- A capture holds at most 4096 codes of 14 bits of a path 0 to 3 (R222). -/
def Capture.wf (c : Capture) : Bool :=
  decide (c.path < 4) && decide (c.codes.length ≤ 4096) && c.codes.all (fun x => decide (x < 0x4000))

/-- A port check names one of eight ports, and its codes have 14 bits (R208). -/
def PortCheck.wf (c : PortCheck) : Bool :=
  decide (c.port < 8) && c.capD.all (fun x => decide (x < 0x4000)) && c.capP.all (fun x => decide (x < 0x4000))

/-- A discharge is of T0 to T3 or TREF (R251). -/
def Discharge.wf (d : Discharge) : Bool := decide (d.ch ≤ 4)

/-- An access of XB takes 1, 2 or 4 bytes within its 32 KiB (R297, Table 12.1). -/
def XbWrite.wf (w : XbWrite) : Bool :=
  (w.bytes.length == 1 || w.bytes.length == 2 || w.bytes.length == 4) && decide (w.addr + w.bytes.length ≤ 0x8000)

/-- A PSDU has at most 251 octets: 14, the payload of at most 229, and 8 (Table 14.2). -/
def RxFrame.wf (f : RxFrame) : Bool := decide (f.psdu.length ≤ 251)

/-- A report names stages' findings within their ranges. -/
def StageReport.wf (r : StageReport) : Bool :=
  (match r.smp with | some x => x.wf | none => true) && r.hist.all TdcTable.wf && r.ports.all PortCheck.wf
    && r.discharges.all Discharge.wf && r.modules.all (fun m => decide (m.1 < 7))

/-- A command is well-formed. -/
def Instr.wf (i : Instr) : Bool :=
  match i with
  | .brownout x | .reservoirWaitMet x | .otpProgramWaitMet x | .chairliftEvaluate x | .seatRelease _ x
  | .vresSample x => x.wf
  | .seatRequest _ c h _ x => decide (c ∈ [50, 100, 250, 500]) && decide (0 < h) && x.wf
  | .coldStartStageEnd r | .hibernateStartStepEnd r | .pendingCommandComplete r => r.wf
  | .tdcStart _ _ f => f.wf
  | .tdcStopCrossing _ _ f _ => f.wf
  | .tdcCalBlockEnd hs => hs.length == 4 && hs.all TdcTable.wf
  | .shotCaptureProcess c => c.wf
  | .intervalResultPost cs => cs.all PortCheck.wf
  | .temperatureResultPost l => l.all (fun i => decide (i < 6 * 127))
  | .beacon f | .poll f | .ack f | .join f | .handover f => f.wf
  | .write _ ws => decide (ws.length ≤ 0x4000)
  | .request f => decide (f.length ≤ 254)
  | .xbCollision _ a b => a.wf && b.write.wf && b.own.length == b.write.bytes.length
  | _ => true

end Sys2Proof
end

