-- ==== Sys2Proof/Tests/Slice0.lean ====
section
/-! SUPPORT. The model's own tests: ill-formed commands are refused, values of the spec, and a witness for the
hypotheses of every statement. -/

namespace Sys2Proof.Tests

open Sys2Proof.Machine

-- one theorem at a time: evaluations side by side would need more memory than the check allows
set_option Elab.async false

/-! ## Small states -/

/-- Operating in Run, every domain on. -/
def op : State := { State.reset with phase := .operating, pw.st := .run, pw.dom := 0x3FFF, cat.profile := .heat }
/-- Safe-beacon under the Curator. -/
def sbc : State := { State.reset with phase := .safeBeacon false, pw.st := .run, pw.dom := 0x3FFF }
/-- Operating in Run with an open service session on the optical port. -/
def opService : State := { op with sv.opt := { open_ := true, service := true } }
/-- A sample with VBAT 3600 mV, VRES 3500 mV, 20.0 °C. -/
def smp0 : Sample := { vbat := 3600, vres := 3500, temp := 200 }

/-! ## Well-formedness: one ill-formed command for each check -/

/-- A sample whose VBAT does not fit its word. -/
def badSmp : Sample := { vbat := 0x10000, vres := 0, temp := 0 }
/-- An empty table of the right shape. -/
def tab0 : TdcTable := ⟨List.replicate 64 0, List.replicate 25 0, 0⟩

theorem test_wf_sample_vbat : (Instr.brownout badSmp).wf = false := by decide
theorem test_wf_sample_vres : (Instr.vresSample { vbat := 0, vres := 0x10000, temp := 0 }).wf = false := by decide
theorem test_wf_sample_cold : (Instr.vresSample { vbat := 0, vres := 0, temp := -0x8001 }).wf = false := by decide
theorem test_wf_sample_hot : (Instr.chairliftEvaluate { vbat := 0, vres := 0, temp := 0x8000 }).wf = false := by decide
theorem test_wf_waits : (Instr.reservoirWaitMet badSmp).wf = false ∧ (Instr.otpProgramWaitMet badSmp).wf = false ∧
    (Instr.seatRelease 2 badSmp).wf = false := by decide
theorem test_wf_request_class : (Instr.seatRequest 2 51 1 none smp0).wf = false := by decide
theorem test_wf_request_hold : (Instr.seatRequest 2 50 0 none smp0).wf = false := by decide
theorem test_wf_request_sample : (Instr.seatRequest 2 50 1 none badSmp).wf = false := by decide
theorem test_wf_report_sample : (Instr.coldStartStageEnd { smp := some badSmp }).wf = false := by decide
theorem test_wf_report_table : (Instr.hibernateStartStepEnd { hist := [⟨[], [], 0⟩] }).wf = false := by decide
theorem test_wf_report_port : (Instr.coldStartStageEnd { ports := [⟨8, 0, 0, [], [], [], []⟩] }).wf = false := by decide
theorem test_wf_report_discharge : (Instr.coldStartStageEnd { discharges := [⟨5, false, none, false⟩] }).wf = false := by decide
theorem test_wf_report_module : (Instr.pendingCommandComplete { modules := [(7, .lineShort)] }).wf = false := by decide
theorem test_wf_fine_tap : (Instr.tdcStart 0 true ⟨65, 0⟩).wf = false := by decide
theorem test_wf_fine_vernier : (Instr.tdcStopCrossing 0 0 ⟨0, 25⟩ 0).wf = false := by decide
theorem test_wf_block_channels : (Instr.tdcCalBlockEnd [tab0, tab0, tab0]).wf = false := by decide
theorem test_wf_block_shape : (Instr.tdcCalBlockEnd [tab0, tab0, tab0, ⟨[], [], 0⟩]).wf = false := by decide
theorem test_wf_capture_path : (Instr.shotCaptureProcess ⟨4, 1, true, []⟩).wf = false := by decide
theorem test_wf_capture_code : (Instr.shotCaptureProcess ⟨0, 1, true, [0x4000]⟩).wf = false := by decide
theorem test_wf_capture_length : (Instr.shotCaptureProcess ⟨0, 1, true, List.replicate 4097 0⟩).wf = false := by decide +kernel
theorem test_wf_post_port : (Instr.intervalResultPost [⟨8, 0, 0, [], [], [], []⟩]).wf = false := by decide
theorem test_wf_post_code : (Instr.intervalResultPost [⟨0, 0, 0, [0x4000], [], [], []⟩]).wf = false ∧
    (Instr.intervalResultPost [⟨0, 0, 0, [], [0x4000], [], []⟩]).wf = false := by decide
theorem test_wf_temperature : (Instr.temperatureResultPost [762]).wf = false := by decide
theorem test_wf_collision : (Instr.xbCollision .curator ⟨0x8000, [0]⟩ ⟨⟨0, [0]⟩, [0]⟩).wf = false ∧
    (Instr.xbCollision .link ⟨0, [0]⟩ ⟨⟨0, [0, 0, 0]⟩, [0, 0, 0]⟩).wf = false ∧ (Instr.xbCollision .link ⟨0, [0]⟩ ⟨⟨0, [0]⟩, []⟩).wf = false := by decide
theorem test_wf_frames : (Instr.beacon { psdu := List.replicate 252 0 }).wf = false ∧ (Instr.poll { psdu := List.replicate 252 0 }).wf = false ∧
    (Instr.ack { psdu := List.replicate 252 0 }).wf = false ∧ (Instr.join { psdu := List.replicate 252 0 }).wf = false ∧
    (Instr.handover { psdu := List.replicate 252 0 }).wf = false := by decide +kernel
theorem test_wf_write_length : (Instr.write 0 (List.replicate 0x4001 0)).wf = false := by decide +kernel
theorem test_wf_request_length : (Instr.request (List.replicate 255 0)).wf = false := by decide +kernel
theorem test_wf_accepts : (Instr.vresSample smp0).wf = true ∧ (Instr.seatRequest 2 500 1 none smp0).wf = true ∧
    (Instr.tdcStart 0 true ⟨64, 24⟩).wf = true ∧ (Instr.tdcCalBlockEnd [tab0, tab0, tab0, tab0]).wf = true := by decide

/-! ## Values of the spec's own examples, and published vectors of its algorithms -/

/-- CRC-16 of R484 over "123456789", as its catalogue gives it. -/
theorem test_crc16 : crc16 [0x31, 0x32, 0x33, 0x34, 0x35, 0x36, 0x37, 0x38, 0x39] = 0x29B1 := by decide +kernel
/-- CRC-32 over "123456789". -/
theorem test_crc32 : crc32 [0x31, 0x32, 0x33, 0x34, 0x35, 0x36, 0x37, 0x38, 0x39] = 0xCBF43926 := by decide +kernel
/-- FIPS 197, the S-box at 0x53, and the product of 0x57 and 0x83. -/
theorem test_aes_field : sbox 0x53 = 0xED ∧ gmul 0x57 0x83 = 0xC1 := by decide +kernel
/-- FIPS 197, one column of MixColumns. -/
theorem test_aes_mix : (mixColumns ([0xDB, 0x13, 0x53, 0x45] ++ List.replicate 12 0)).take 4 = [0x8E, 0x4D, 0xA1, 0xBC] := by decide +kernel
/-- FIPS 180-4, "abc". -/
theorem test_sha256 : sha256 [0x61, 0x62, 0x63] = 0xba7816bf8f01cfea414140de5dae2223b00361a396177a9cb410ff61f20015ad := by decide +kernel

/-- The table of the example under R186: ct[12] = 49 020, h[12] = 4 200, v2[7] = 156 500, hv = 260 834. -/
def tab1 : TdcTable :=
  ⟨49020 :: List.replicate 11 0 ++ 4200 :: List.replicate 51 0, 72900 :: List.replicate 6 0 ++ [10700, 177234] ++ List.replicate 16 0, 1310⟩
/-- The example of R166: f16 = 12 570. -/
theorem test_fine_position : fine16 tab1 ⟨12, 7⟩ = 12570 := by decide +kernel
/-- The example of R167: the stop record of C = 6669, M = 12, V = 7 after a synchronous start holds X = 437 047 014. -/
theorem test_stop_record : (runningStop 0 6669 ⟨12, 7⟩ true { op with ch := vupd op.ch 0 (fun c =>
      { c with st := .running, table := some tab1, cfg.wwidth := 7000, cfg.stopmax := 2 }) }).ch[0].stops =
    [⟨false, false, true, 437047014⟩] := by decide +kernel
/-- The example of R168: that stop lies 52 097 983.4 ps after the start. -/
theorem test_stop_time : 52097983350 ≤ stopTime 437047014 { op with r.clk.tcoarse := 7812188 } ∧
    stopTime 437047014 { op with r.clk.tcoarse := 7812188 } ≤ 52097983450 := by decide +kernel

/-- The path of the example of Table 8.2. -/
def opPath : State := { op with
  cat.path := [{ path := 0, freq := 1000, length := 80000, costheta := 32768 }], cat.flow.npairs := 5, cat.flow.area := 7854
  r.path := vupd op.r.path 0 (fun w => { w with freqnow := 1000 })
  path := vupd op.path 0 (fun p => { p with texp := some 52100000000 }) }
/-- The example of the acoustic path: 192 samples of burst, `WOPEN` 5835, `WWIDTH` 1668, 240 µs for each pair. -/
theorem test_path_example : burstSamples 0 opPath = 192 ∧ pathWindow 0 opPath = (5835, 1668) ∧ shotPeriod 0 opPath = 24 := by decide +kernel
/-- The example of R234: c = 1529.000 m/s and v = 2.0000 m/s. -/
theorem test_velocity : roundNear (velocity 0 136878650 52390310450 52253431800 opPath * 10000) = 20000 ∧
    roundNear (soundSpeed 0 52390310450 52253431800 opPath * 1000) = 1529000 := by decide +kernel
/-- The example of R239: `K` = 15 879 896 gives 535 243 mL/h. -/
theorem test_flow : flowOf 15879896 (velocity 0 136878650 52390310450 52253431800 opPath) opPath = 535243 := by decide +kernel
/-- Table 9.4 at 45 °C: 0.6055 mm²/s. -/
theorem test_viscosity : tableAt waterTable 45 = 1211 / 2 := by decide +kernel

/-- The requests of the example of Table 5.7, at VRES = 2.700 V. -/
def opLift : State := { op with
  cat.chair := { ibatlim := 40, cres := 15, vresLow := 2600, vresOk := 3100 }, r.pwr.vresmv := 2700, r.pwr.vbatmv := 3600
  cl.waiting := [{ unit := 6, cls := 50, hold := 40000, order := 0, work := .other }, { unit := 3, cls := 100, hold := 3000, deadline := some 150, order := 1, work := .other },
    { unit := 2, cls := 100, hold := 1600, deadline := some 250000, order := 2, work := .other }] }
/-- Table 5.7, 0 µs: the shot is the head and is admitted; 20 µs: the receive window. -/
theorem test_admission : (evaluate opLift).cl.held.map (·.unit) = [2] ∧
    (evaluate { evaluate opLift with now := 20 }).cl.held.map (·.unit) = [3, 2] := by decide +kernel
/-- Table 5.7, 40 µs: the display waits. -/
theorem test_display_waits : (evaluate { evaluate { evaluate opLift with now := 20 } with now := 40 }).cl.held.map (·.unit) = [3, 2] := by decide +kernel

/-- The example under R4: four reads of a latched 64-bit value, with a change after the first. -/
theorem test_latched_value :
    let s : State := { op with rg.posted.legal.vfwd := 0x1FFFFFFF0 }
    let r := readWord (some .host) 0x0808 s
    let u : State := { r.2 with rg.posted.legal.vfwd := 0x200000010 }
    (r.1, (readWords (some .host) 3 0x0809 u).1) = (0xFFF0, [0xFFFF, 0x0001, 0x0000]) := by decide +kernel

/-- The example of R374: an ACK of 32 octets of PSDU takes 7.04 ms. -/
theorem test_ack_time : baseTime 6 op = 7040 := by decide +kernel
/-- A pulse of 1 µs on RST_N has no defined effect (R46). -/
theorem test_reset_pulse : exec (.rstNLow 1000) op = .fault .rstPulseUndefined := rfl
/-- POR release with TESTEN high holds the device (R45). -/
theorem test_testen : (match exec (.porRelease true none none) { op with phase := .off } with | .next t => t.phase | _ => .off) = .testHold := by
  decide +kernel
/-- A write of 1 to `HIRQ.RSP` clears it, a write of 0 leaves it (R422). -/
theorem test_w1c : (writeWord .host 0x0F00 0x8000 { op with r.io.hirqRsp := true }).r.io.hirqRsp = false ∧
    (writeWord .host 0x0F00 0x4000 { op with r.io.hirqRsp := true }).r.io.hirqRsp = true := by decide

/-! ## Witnesses: the queue, the clock, the starts and stops -/

theorem wit_StepRunsTheFrontCommand : ({ op with pending := [.vbatBelowPor] } : State).pending = .vbatBelowPor :: [] := rfl

theorem wit_IdleStepPassesOneMicrosecondOfTheSource :
    (op.pending = [] ∧ op.aon = true) ∧
    (({ op with phase := .off } : State).pending = [] ∧ ({ op with phase := .off } : State).aon = false) := ⟨⟨rfl, rfl⟩, rfl, rfl⟩

theorem wit_CommandsKeepTheQueueAndTheTime : exec (.rstNLow 999) op = .next op := rfl

theorem wit_OnlyTheUndefinedResetPulseStops : (1000 ≤ 1000 ∧ 1000 < 10000) ∧ (1000 ≤ 9999 ∧ 9999 < 10000) := by decide

theorem wit_StepKeepsTheExchangeBankCanonical :
    Memory.wf ({ op with xb := [(16384, 1)] } : State).xb = true ∧
    step { op with xb := [(16384, 1)], pending := [.rstNLow 999] } = .next { op with xb := [(16384, 1)] } := ⟨by decide, rfl⟩

theorem wit_StepNeverTakesAKeySlotBack : step { op with pending := [.rstNLow 999] } = .next op := rfl

/-- An event queue that is full. -/
def opFull : State := { op with evq := List.replicate 64 ⟨0x0101, false, 0, []⟩ }

theorem wit_StepKeepsTheEventQueueWithin64 :
    EventQueueFits opFull ∧ step { opFull with pending := [.rstNLow 999] } = .next opFull := ⟨by unfold EventQueueFits; decide, rfl⟩

theorem wit_RunsFromASafeStateStaySafe :
    Safe State.reset ∧ Runs 1 State.reset (tick State.reset) := ⟨⟨by decide, by unfold EventQueueFits; decide⟩, tick State.reset, rfl, rfl⟩

theorem wit_PorReleaseSamplesTesten : ({ op with phase := .off } : State).phase = .off := rfl

theorem wit_ResetPinIsIgnoredUndefinedOrResets :
    999 < 1000 ∧ (1000 ≤ 1000 ∧ 9999 < 10000) ∧
    (10000 ≤ 10000 ∧ op.aon = true ∧ op.phase ≠ .brownout ∧ op.phase ≠ .resetHold) ∧
    ({ op with io.rstLow := true } : State).io.rstLow = true ∧
    (∀ t : TapInstr, ({ op with phase := .resetHold, io.tap := t } : State).phase = .resetHold ∧
      ({ op with phase := .resetHold, io.tap := t } : State).io.tap = t) :=
  ⟨by decide, by decide, by decide, rfl, fun _ => ⟨rfl, rfl⟩⟩

theorem wit_BrownoutAndBoundaryScanStopTheDevice :
    (op.aon = true ∧ op.phase ≠ .brownout ∧ op.io.vddio = true ∧ op.io.tap ≠ .extest ∧ op.phase ≠ .resetHold) ∧
    (∀ (b : Bool) (t : TapInstr) (p : Phase), ({ op with phase := p, io.rstLow := b, io.tap := t } : State).phase = p ∧
      ({ op with phase := p, io.rstLow := b, io.tap := t } : State).io.rstLow = b ∧
      ({ op with phase := p, io.rstLow := b, io.tap := t } : State).io.tap = t) ∧
    (({ op with phase := .brownout } : State).aon = true ∧ ({ op with phase := .resetHold } : State).aon = true ∧
      ({ op with phase := .extest } : State).aon = true) ∧
    (({ op with phase := .off } : State).aon = false ∧ ({ op with io.vddio := false } : State).io.vddio = false) :=
  ⟨by decide, fun _ _ _ => ⟨rfl, rfl, rfl⟩, by decide, by decide⟩

/-- The host port configured. -/
def opHost : State := { op with cat.hostPresent := true }

theorem wit_SupplyOfTheHostPortAndItsSelect :
    (op.io.vddio = true ∧ op.aon = true ∧ hostWakes op = false) ∧
    (opHost.io.vddio = true ∧ opHost.aon = true ∧ hostWakes opHost = true) := by decide

/-- A start that waits. -/
def waits (n : Nat) (w : StartWait) : State := { State.reset with phase := .cold n, start.wait := w }

theorem wit_StartCommandsRunTheirStages :
    ((waits 5 .none).phase = .cold 5 ∧ (waits 5 .none).start.wait = .none ∧ (waits 5 .none).flt.proc = none) ∧
    ((waits 2 .reservoir).starting = true ∧ (waits 2 .reservoir).start.wait = .reservoir ∧ (waits 2 .reservoir).flt.proc = none ∧
      reservoirMet (sample smp0 (waits 2 .reservoir)) = true) ∧
    ((waits 8 .xt32).starting = true ∧ (waits 8 .xt32).aon = true ∧ (waits 8 .xt32).r.clk.clkstatXt32ok = true ∧
      (waits 8 .xt32).ck.xtRun = false ∧ (waits 8 .xt32).start.wait = .xt32 ∧ (waits 8 .xt32).flt.proc = none) ∧
    (op.aon = true ∧ op.r.clk.clkstatXt32ok = true ∧ op.ck.xtRun = false ∧ op.starting = false ∧ op.start.wait ≠ .xt32) ∧
    (({ waits 7 .otp with start.chosen := some (0, {}) } : State).start.wait = .otp ∧
      ({ waits 7 .otp with start.chosen := some (0, {}) } : State).flt.proc = none ∧
      ({ waits 7 .otp with start.chosen := some (0, {}) } : State).phase = .cold 7 ∧
      ({ waits 7 .otp with start.chosen := some (0, {}) } : State).start.chosen = some (0, {}) ∧
      otpReady (sample smp0 { waits 7 .otp with start.chosen := some (0, {}) }) = true) ∧
    (let s : State := { waits 9 .seat with cl.waiting := [{ unit := 0, cls := 50, hold := 1000 }] }
     s.phase = .cold 9 ∧ s.start.wait = .seat ∧ s.flt.proc = none ∧
      s.cl.waiting.find? (fun y => y.unit == 0) = some { unit := 0, cls := 50, hold := 1000 }) ∧
    (let s : State := { waits 1 .none with phase := .hib 1 }
     s.phase = .hib 1 ∧ s.flt.proc = none ∧ s.start.wait = .none ∧ (judgeStep 1 {} (countStage {} s)).phase = .hib 1) := by decide +kernel

theorem wit_SafeBeaconSendsItsTelegramAndTriesAgain :
    sbc.safe = true ∧ sbc.flt.proc = none ∧
    radioSilent { wake 1 (sample smp0 sbc) with sb.telFrom := (wake 1 (sample smp0 sbc)).now, sb.first := false, pw.choose := true } = false ∧
    faultUnderWay { wake 1 (sample smp0 sbc) with sb.telFrom := (wake 1 (sample smp0 sbc)).now, sb.first := false, pw.choose := true } = false ∧
    sbc.r.sys.sbstatFails.toNat < 3 := by decide +kernel

/-- Safe-beacon with a front end that does not answer. -/
def sbSilent : State := { sbc with
  cat.modules := [{ port := 5 }]
  r.mp := vupd sbc.r.mp 5 (fun w => { w with mpstatFault := 1 }) }

theorem wit_SafeBeaconWithoutFrontEnd :
    sbSilent.safe = true ∧ sbSilent.flt.proc = none ∧
    radioSilent { wake 1 (sample smp0 sbSilent) with sb.telFrom := (wake 1 (sample smp0 sbSilent)).now, sb.first := false, pw.choose := true } = true := by
  decide +kernel

theorem wit_PowerRequestsAreTakenAndEvaluated :
    (portWrites .optical opService = true ∧ opService.service .optical = true) ∧
    (let s : State := { op with pw.request := some ⟨.hibernate, .host⟩ }
     let u : State := { s with pw.request := none, pw.issuer := some .host }
     s.pw.request = some ⟨.hibernate, .host⟩ ∧ s.operating = true ∧ s.flt.proc = none ∧ (s.sv.ses .host).open_ = false ∧
      s.pw.target = none ∧ s.pw.st ≠ .hibernate ∧ refusers .hibernate u = []) ∧
    (let s : State := { op with pw.request := some ⟨.off, .host⟩, sv.slotW := some { slot := 1, len := 8 } }
     let u : State := { s with pw.request := none, pw.issuer := some .host }
     s.pw.request = some ⟨.off, .host⟩ ∧ s.pw.target = none ∧ s.pw.st ≠ .off ∧ ((refusers .off u).getLast?).isSome = true ∧
      (refusers .off u).all (fun x => x.2 != 0x42 && x.2 != 0x43) = true) ∧
    (let s : State := { op with pw.heldReq := some ⟨.off, .host⟩ }
     s.pw.heldReq = some ⟨.off, .host⟩ ∧ s.ln.role ≠ .parent ∧ s.ln.ho.st ≠ .announced ∧ s.ln.ho.st ≠ .transferring ∧ s.pw.target = none ∧
      s.pw.st ≠ .off ∧ refusers .off { s with pw.heldReq := none, pw.issuer := some .host } = []) ∧
    (({ op with pw.target := some .off } : State).pw.target = some .off ∧ recordsOpen { op with pw.target := some .off } = false ∧
      ({ op with pw.target := some .hibernate } : State).pw.target = some .hibernate ∧ recordsOpen { op with pw.target := some .hibernate } = false) ∧
    (({ op with pw.target := some .doze, pw.latched := some 6 } : State).pw.target = some .doze ∧
      ({ op with pw.target := some .doze, pw.latched := some 6 } : State).pw.latched = some 6) ∧
    (({ op with pw.target := some .doze, pw.pend := some .hibernate } : State).pw.latched = none ∧
      ({ op with pw.target := some .doze, pw.pend := some .hibernate } : State).pw.pend = some .hibernate) ∧
    (({ op with pw.target := some .standby } : State).pw.target = some .standby ∧ op.pw.latched = none ∧ op.pw.pend = none) := by decide +kernel

theorem wit_WakeEventsWakeTheDevice :
    (({ op with pw.st := .doze } : State).pw.target = none ∧ ({ op with pw.st := .doze } : State).pw.st = .doze) ∧
    ({ op with pw.st := .standby } : State).pw.st = .standby ∧
    (op.operating = true ∧ op.flt.proc = none) ∧ (opHost.io.vddio = true ∧ opHost.aon = true ∧ opHost.cat.hostPresent = true) ∧
    ({ op with io.irUntil := some 9 } : State).io.irUntil = some 9 := by decide

/-! ## Witnesses: events, lines -/

theorem wit_TamperEventSetsItsWords : isTamper 0x100A [] = true ∧ isTamper 0x0101 [] = false := by decide

theorem wit_EventIsQueuedOrCounted :
    (op.evDrop = 0 ∧ op.evq.length < 64) ∧ ({ op with evq := List.replicate 63 ⟨0x0101, false, 0, []⟩ } : State).evq.length < 64 ∧
    (opFull.evDrop = 0 ∧ opFull.evq.length = 64) ∧ isAlarm 0x100A [] = true := by decide

theorem wit_KeysTamperInputsAndLinesComplete :
    (op.aon = true ∧ keyHeld 1 op = false ∧ op.operating = true ∧
      (wake 6 { op with io.key := vupd op.io.key 1 (fun _ => true) }).operating = true) ∧
    (let s : State := { op with io.key := Vector.replicate 2 true, cat.disp.dtype := .glass, dp.mapOk := true }
     s.operating = true ∧ vget s.io.key 0 false = true ∧ vget s.io.key 1 false = true ∧ keyHeld 0 s = false ∧
      keyHeld 1 s = false ∧ s.hasDisplay = true) ∧
    tamperMonitored op = true ∧
    (op.r.flt.pinflt.getLsbD 0 = false ∧ ({ op with io.cs := true } : State).io.cs = true ∧ op.io.vddio = true) ∧
    ({ op with r.flt.pinflt := 0x7F } : State).r.flt.pinflt.getLsbD 6 = true := by decide +kernel

/-- Pulses queued on PO1 for a forward volume. -/
def opPulse : State := { op with cat.po1fn := 11, r.io.poback1 := 1 }

theorem wit_PulsesAreCountedAndEmitted :
    (op.aon = true ∧ op.r.flt.pinflt.getLsbD 2 = false ∧ op.r.flt.pinflt.getLsbD 3 = false) ∧
    (outputDrives 1 opPulse = true ∧ 1 ≤ outputFn 1 opPulse ∧ outputFn 1 opPulse ≤ 11 ∧ vget opPulse.io.poAt 1 none = none ∧
      0 < (outputQueue 1 opPulse).toNat) ∧
    ((∀ t, vget ({ opPulse with io.poAt := Vector.replicate 2 (some 0), now := 10000 } : State).io.poAt 1 none = some t →
      t + 10000 ≤ ({ opPulse with io.poAt := Vector.replicate 2 (some 0), now := 10000 } : State).now)) := by
  refine ⟨by decide, by decide, ?_⟩
  intro t h
  have : t = 0 := by
    have e : some 0 = some t := h
    exact (Option.some.inj e).symm
  subst this
  decide

theorem wit_TamperChangeIsConfirmedCountedAndLogged :
    let s : State := { op with cat.tampen := 3 }
    s.cat.tampen.testBit 0 = true ∧ s.cat.tampen.testBit 1 = true ∧ vget s.io.tmpRaw 0 false ≠ true ∧ vget s.io.tmp 1 false = false ∧
    (vget ({ s with io.tmpRaw := Vector.replicate 2 true } : State).io.tmpRaw 1 false = true ∧
      vget ({ s with io.tmpRaw := Vector.replicate 2 true } : State).io.tmp 1 false ≠ true) ∧ s.pw.st ≠ .hibernate ∧
    s.pw.target ≠ some .hibernate := by decide

/-! ## Witnesses: seats, calibrations, clocks -/

/-- A waiting request of class 5 mA. -/
def seat0 : Seat := { unit := 2, cls := 50, hold := 1000 }
/-- One request waits. -/
def opSeat : State := { op with cl.waiting := [seat0], r.pwr.vbatmv := 3600, r.pwr.vresmv := 3500 }

theorem wit_EvaluationAdmitsTheHeadWithinTheBudget :
    (placedSeats op = [] ∧ measureSeat op = false ∧ (∀ x ∈ opSeat.cl.waiting, x.unit = 0 ∨ x.late opSeat.now = false) ∧
      measureSeat { op with cl.held := [{ unit := 4, cls := 50, hold := 1000, work := .temperature 0 }] } = true) ∧
    (seatHead ((placedSeats opSeat).filter (fun x => !x.late opSeat.now)) = some seat0 ∧ opSeat.cl.lastAdm = none ∧
      ((100 * ((50 - seatFree opSeat) * 1000) : Nat) : Int) ≤ seatAvail 2 opSeat) ∧
    (let s : State := { opSeat with cl.lastAdm := some 0, now := 19 }
     seatHead ((placedSeats s).filter (fun x => !x.late s.now)) = some seat0 ∧ 19 < 0 + 20) ∧
    (let s : State := { opSeat with cl.lastAdm := some 0, now := 20 }
     seatHead ((placedSeats s).filter (fun x => !x.late s.now)) = some seat0 ∧ 0 + 20 ≤ 20 ∧
      ((100 * ((50 - seatFree s) * 1000) : Nat) : Int) ≤ seatAvail 2 s) ∧
    (let s : State := { opSeat with r.pwr.vresmv := 0 }
     seatHead ((placedSeats s).filter (fun x => !x.late s.now)) = some seat0 ∧ seatAvail 2 s < ((100 * ((50 - seatFree s) * 1000) : Nat) : Int)) ∧
    (let s : State := { opSeat with cl.waiting := [{ seat0 with deadline := some 5 }], now := 9 }
     (s.cl.waiting.filter (fun x => x.unit != 0 && x.late s.now)) = s.cl.waiting) := by decide +kernel

theorem wit_RequestIsDroppedWhenItCouldNeverBeAdmitted :
    hasSeat 2 opSeat = true ∧
    (hasSeat 6 opSeat = false ∧
      opSeat.cat.chair.cres * 1000 * (opSeat.cat.chair.vresOk - seatFloor 6 opSeat) < (100 - opSeat.cat.chair.ibatlim) * 1000000) ∧
    (hasSeat 6 opSeat = false ∧
      (100 - opSeat.cat.chair.ibatlim) * 1000 ≤ opSeat.cat.chair.cres * 1000 * (opSeat.cat.chair.vresOk - seatFloor 6 opSeat)) := by
  decide +kernel

/-- A seat of a unit held. -/
def opHeld (u : Nat) (w : Work) : State := { op with cl.held := [{ unit := u, cls := 50, hold := 1000, work := w }] }

theorem wit_ChairliftCommandsComplete :
    (seatsServed op = true ∧ (2 : Fin 10).val ≠ 0) ∧ (op.operating = true ∧ sbc.safe = true ∧ State.reset.starting = true) ∧
    (holds 6 (opHeld 6 .display) = true ∧ (sample smp0 (opHeld 6 .display)).ar.run = none) ∧
    (let s : State := { opHeld 5 .archive with ar.run := some { job := .eraseSector 7, owner := .curator } }
     holds 5 s = true ∧ (sample smp0 s).ar.run = some { job := .eraseSector 7, owner := .curator } ∧ ArcOwner.curator.unit = 5) ∧
    (∀ u : Fin 10, ({ op with cl.waiting := [{ seat0 with unit := u.val, deadline := some 5 }] } : State).cl.waiting.find?
      (fun x => x.unit == u.val && x.deadline.isSome) = some { seat0 with unit := u.val, deadline := some 5 }) ∧
    (({ op with cl.held := [{ unit := 6, cls := 50, hold := 1000, work := .display, above := true }] } : State).cl.held.filter
      (fun x => decide (6 ≤ x.unit) && x.above) = [{ unit := 6, cls := 50, hold := 1000, work := .display, above := true }]) ∧
    vres { op with r.pwr.vbatmv := 3600 } + 100 < vbat { op with r.pwr.vbatmv := 3600 } := by decide +kernel

theorem wit_ReservoirRise :
    let s : State := { op with r.pwr.vbatmv := 3600 }
    (s.aon = true ∧ s.cl.held = [] ∧ s.cl.commit = none ∧ vres s + 200 ≤ vbat s) ∧
    s.cat.chair.ibatlim * 1 < 70000 * s.cat.chair.cres ∧
    (90000 * s.cat.chair.cres ≤ s.cat.chair.ibatlim * 1000000 ∧ 0 < s.cat.chair.cres) := by decide +kernel

theorem wit_SampleTakesTheMeasuredWords : op.aon = true := by decide

/-- A Vitrine calibration that runs. -/
def opVit (x : VitRun) : State := { op with ck.run := some x }

theorem wit_VitrineCalibrationRunsItsSteps :
    (op.timed = true ∧ State.reset.starting = true ∧ temperatureMove (sample { smp0 with temp := 400 } (wake 1 op)) = true) ∧
    ((opVit { on := 0 }).ck.run = some { on := 0 } ∧ ({ on := 0 } : VitRun).done = false ∧ ({ on := 0 } : VitRun).ready = none) ∧
    (let x : VitRun := { on := 0, ready := some 1 }
     (opVit x).ck.run = some x ∧ x.done = false ∧ x.ready.isSome = true ∧ (opVit x).r.clk.clkstatPllvit = false ∧ (opVit x).isOn .vit = true) ∧
    (let x : VitRun := { on := 0, ready := some 1 }
     let s : State := { opVit x with r.clk.clkstatPllvit := true }
     s.ck.run = some x ∧ s.r.clk.clkstatPllvit = true ∧ x.gates = [] ∧ gateInTurn x s = some .xrf) ∧
    (let x : VitRun := { on := 0, ready := some 1, gates := [⟨.xrf, 5, 0⟩] }
     let s : State := { opVit x with r.clk.clkstatPllvit := true }
     s.ck.run = some x ∧ x.done = false ∧ gateInTurn x s = some .hfrc) ∧
    (let x : VitRun := { on := 0, ready := some 1, done := true }
     (opVit x).ck.run = some x ∧ x.done = true ∧ (opVit x).r.clk.clkstatPllvit = false ∧ (opVit x).starting = false ∧ (opVit x).isOn .vit = true) ∧
    ({ op with ck.retryAt := some 9 } : State).ck.retryAt = some 9 := by decide +kernel

theorem wit_ClockFailuresAndChecksChangeTheSource :
    (op.aon = true ∧ op.r.clk.clkstatXt32ok = true ∧ op.r.clk.clkstatRtcsrc ≠ 2 ∧ op.r.clk.clkstatLprcok = true ∧
      ({ op with ck.xtRun := true } : State).ck.xtRun = true) ∧
    (({ op with r.clk.clkstatXt32ok := false } : State).r.clk.clkstatXt32ok = false ∧ op.timed = true) ∧
    ({ op with r.clk.clkstatLprcok := false } : State).r.clk.clkstatLprcok = false ∧
    ({ op with r.clk.clkstatRtcsrc := 2 } : State).r.clk.clkstatRtcsrc = 2 ∧
    ({ op with r.clk.clkstatRtcsrc := 1 } : State).r.clk.clkstatRtcsrc = 1 ∧
    op.ck.staleLogged = false ∧
    (op.operating = true ∧ op.starting = false ∧ op.pw.st = .run ∧ op.flt.proc = none ∧ op.ck.pllFails = 0) ∧
    ({ op with ck.pllFails := 1 } : State).ck.pllFails ≠ 0 ∧
    ((waits 5 .none).starting = true ∧ (waits 5 .none).pw.st = .run ∧ (waits 5 .none).flt.proc = none ∧ (waits 5 .none).ck.pllFails = 0) := by decide

theorem wit_TimeLedgerCommandsComplete :
    (opService.serving = true ∧ opService.service .optical = true ∧ -48 ≤ BitVec.toInt (0xFFD0 : Word) ∧
      BitVec.toInt (0x0038 : Word) ≤ 56) ∧
    ({ op with tl.zoneNext := some 4 } : State).tl.zoneNext = some 4 ∧ op.aon = true ∧
    ({ op with flt.standing := [⟨0x0401, 0, 0⟩] } : State).flt.standing.getLast? = some ⟨0x0401, 0, 0⟩ ∧
    (op.timed = true ∧ op.cat.profile = .heat) := by decide

/-! ## Witnesses: the time-interval engine and the Piste -/

/-- Channel 0 in a state, with a table. -/
def opCh (st : ChState) : State :=
  { op with ch := vupd op.ch 0 (fun c => { c with st, table := some ⟨List.replicate 64 1, List.replicate 25 1, 0⟩ }) }

theorem wit_EarlyStopIsIgnoredAndCounted : (opCh .armed).ch[0].st = .armed ∧
    comparator (opCh .armed).ch[0].cfg.thr (opCh .armed).cat.tdc.hyst (opCh .armed).ch[0].out 1000000 ≠ (opCh .armed).ch[0].out ∧
    comparator (opCh .armed).ch[0].cfg.thr (opCh .armed).cat.tdc.hyst (opCh .armed).ch[0].out (-1000000) = (opCh .armed).ch[0].out := by decide

theorem wit_TdcCommandsComplete :
    ((opCh .armed).ch[0].st = .armed ∧ (opCh .armed).ch[0].table = some ⟨List.replicate 64 1, List.replicate 25 1, 0⟩ ∧
      (opCh .armed).ch[0].cfg.sync = true) ∧
    (opCh .running).ch[0].st = .running ∧
    (op.timed = true ∧ State.reset.starting = true ∧ (0 : Fin 8) ≠ 3 ∧ movedCaldt (sample { smp0 with temp := 1200 } (wake 1 op)) = true) ∧
    (let s : State := { opCh .calibrating with cal.run := true, cal.blocks := 15, cal.abandoned := 30 }
     s.cal.run = true ∧ s.cal.blocks < 16 ∧ s.ch.any (fun c => c.st == .calibrating) = true ∧ s.cal.abandoned < 31) ∧
    (let s : State := { opCh .calibrating with cal.run := true, cal.blocks := 16, cal.abandoned := 31 }
     s.cal.run = true ∧ 16 ≤ s.cal.blocks ∧ s.ch.any (fun c => c.st == .calibrating) = true ∧ s.cal.abandoned = 31) ∧
    ({ op with cal.retryAt := some 0 } : State).cal.retryAt = some 0 ∧
    (assignCode 0 op ≤ 1 ∧ op.ch[0].noPassLogged = false) := by decide +kernel

/-- A step of shots (action 0 or 5) of one sequential path with its seat held; the shots of the path as given. -/
def opShot (action : Nat) (fired : List (Nat × Bool)) (pairs : List PairRes) : State := { op with
  cat.steps := [{ action, arg := 1 }], cat.path := [{ path := 0, fire := 1 }], cat.flow.npairs := 1
  ps.run := some { step := 0, due := 0, first := some (0, 0) }, ps.epoch := some 0
  cl.held := [{ unit := 2, cls := 50, hold := 1000, work := .shots 0 }]
  r.pwr.vbatmv := 3600, r.pwr.vresmv := 3500, r.drv.xdstatBooston := true
  path := vupd op.path 0 (fun p => { p with fired, pairs }) }

/-- A shot that found no stop, and one that is accepted. -/
def shotNo (up : Bool) : Shot := { up, reason := some .nostop }
/-- A shot that is accepted. -/
def shotOk (up : Bool) : Shot := { up, reason := none }
/-- Both shots of pair 1. -/
def pairOf (a b : Shot) (i : Nat) : PairRes := { pair := i, swapped := false, up := some a, down := some b }

theorem wit_PisteShotsAndRetriesRun :
    (op.timed = true ∧ (opShot 0 [] []).ps.epoch.isSome = true ∧ 0 < (opShot 0 [] []).cat.steps.length) ∧
    (shotStep (opShot 0 [] []) = true ∧ (opShot 0 [] []).r.drv.xdstatBooston = true ∧
      98 * (opShot 0 [] []).r.drv.vdrvtgt.toNat ≤ 100 * 65535 ∧ (opShot 0 [] []).r.drv.xdstatVdrvok = false ∧
      (opShot 0 [] []).ps.run = some { step := 0, due := 0, first := some (0, 0) }) ∧
    (let s : State := { opShot 0 [] [] with r.drv.xdstatVdrvok := true }
     shotStep s = true ∧ s.r.drv.xdstatVdrvok = true ∧ gatesHoldShots s = false ∧ 98 * s.r.drv.vdrvtgt.toNat ≤ 100 * 65535 ∧
      nextFiring (markFirst { s with r.drv.vdrvmv := sat 16 65535 }) = some (0, 1, [false])) ∧
    (shotStep (opShot 0 [(1, false)] []) = true ∧ shotFired 0 1 false (opShot 0 [(1, false)] []) = true ∧
      getShot 0 1 false (opShot 0 [(1, false)] []) = none) ∧
    (let s : State := { opShot 0 [(1, true), (1, false)] [pairOf (shotNo true) (shotOk false) 1] with r.drv.xdstatVdrvok := true }
     shotStep s = true ∧ runAction s = 0 ∧ pathSeq 0 s = true ∧ nextFiring s = none ∧ retryFits 0 s = true ∧ s.r.drv.xdstatVdrvok = true ∧
      gatesHoldShots s = false ∧ 98 * s.r.drv.vdrvtgt.toNat ≤ 100 * 65535 ∧ toRetry 0 s = some (1, true)) ∧
    (let s := opShot 0 [(1, true), (1, false)] [pairOf (shotOk true) (shotOk false) 1]
     shotStep s = true ∧ runAction s = 0 ∧ intervalComplete s = true ∧
      s.ps.run = some { step := 0, due := 0, first := some (0, 0) }) ∧
    (let s := opShot 5 [(2, true), (2, false), (1, true), (1, false)]
        [pairOf (shotOk true) (shotOk false) 1, pairOf (shotOk true) (shotOk false) 2]
     shotStep s = true ∧ runAction s = 5 ∧ intervalComplete s = true ∧
      s.ps.run = some { step := 0, due := 0, first := some (0, 0) }) ∧
    ({ op with ps.fast := true } : State).ps.fast = true := by decide +kernel

/-! ## Witnesses: memory and the Archive -/

theorem wit_PortAWinsTheCollisionInXb :
    (xbRuns op = true ∧ Memory.wf op.xb = true) ∧
    (xbShared ⟨0x102, [1, 2]⟩ ⟨0x101, [3]⟩ = some 0x40 ∧ 0x100 < 0x101 + ([3] : List Byte).length) ∧
    (xbShared ⟨0xFC, [1, 2, 3, 4]⟩ ⟨0xFE, [5, 6]⟩ = some 0x3F ∧ 0xFE + ([5, 6] : List Byte).length ≤ 0x100) ∧
    xbShared ⟨0x100, [1, 2, 3, 4]⟩ ⟨0x104, [5]⟩ = none := by decide

theorem wit_PageSelectionIsPerPortAndBackgroundPassesAreAsked :
    portWrites .host op = true ∧ portWrites .optical opService = true ∧ (op.operating = true ∧ sbc.phase = .safeBeacon false ∧ 0 < op.cat.bgtest) ∧
    (let s : State := { op with bgReq := true }
     s.starting = false ∧ s.pw.st = .run ∧ s.serving = true ∧ s.bg = none ∧ s.bgReq = true) ∧
    (let s : State := { op with bg := some {} }
     s.starting = false ∧ s.pw.st = .run ∧ s.serving = true ∧ s.bg = some {} ∧ ({} : BgPass).held = false ∧ ({} : BgPass).late = false ∧
      s.timed = true) ∧
    ({ op with bg := some { held := true } } : State).bg = some { held := true } := by decide

theorem wit_MemoryErrorIsRecordedBeforeItsEffect :
    (op.operating = true ∧ segPowered 0 op = true ∧ segPowered 32 op = true) ∧
    (sbc.safe = true ∧ segPowered 1 sbc = true) ∧ (State.reset.starting = true ∧ segPowered 1 State.reset = true) ∧
    (({ op with phase := .extest } : State).phase = .extest ∧ segPowered 1 { op with phase := .extest } = true) := by decide

/-- Every sector of the Warden area is full of superseded frames. -/
def opArea : State := { op with ar.warden := (List.range 16).map (fun i => { sector := 32256 + i, closed := true }) }

theorem wit_ArchiveOperationsCompleteAndAreSuspended :
    (let r : ArcRun := { job := .template 0 0, owner := .curator }
     ({ op with ar.run := some r } : State).ar.run = some r ∧ r.retried = false ∧ ({ r with retried := true } : ArcRun).retried = true ∧
      r.job.erases = false ∧ r.job.plain = false ∧ r.step = 0 ∧ r.step ≤ r.ops ∧ ({ r with step := 2 } : ArcRun).ops < 2 ∧ r.job ≠ .sealedSlot) ∧
    (let r : ArcRun := { job := .eraseSector 32, owner := .curator }
     let s : State := { op with ar.run := some r, ar.ledgerDue := true }
     r.job.erases = true ∧ r.owner = .curator ∧ accessionDue s = true ∧ r.job ≠ .sealedSlot ∧ runSector r s = some 32 ∧ 0 < s.ar.spares) ∧
    (let s := opArea
     s.timed = true ∧ wardenEraseDue (sample smp0 s.atTimer) = true ∧ (wardenVictim (sample smp0 s.atTimer)).isSome = true) ∧
    (let s : State := { op with flt.proc := some ⟨7, .commit⟩, ar.run := some { job := .sealedSlot, owner := .warden } }
     s.flt.proc = some ⟨7, .commit⟩ ∧ s.ar.run = some { job := .sealedSlot, owner := .warden }) := by decide +kernel

/-! ## Witnesses: measurements -/

theorem wit_MeasurementsAndIntegrationsArePosted :
    (let s : State := { opHeld 4 (.temperature 0) with tp.got := List.replicate 1000 ⟨4, false, none, false⟩ }
     measuringTemp s = true ∧ s.flt.proc = none ∧ s.pw.st = .run ∧ nextDischarge s = none) ∧
    (readingPressure (opHeld 4 (.pressure 0)) = true ∧ (opHeld 4 (.pressure 0)).flt.proc = none ∧ (opHeld 4 (.pressure 0)).pw.st = .run) ∧
    (regRuns op = true ∧ ({ op with fl.slots := [⟨1, 1, 0, 0, 0, 0⟩] } : State).fl.slots ≠ [] ∧ op.pw.st = .run ∧ op.timed = true ∧ op.aon = true) := by
  decide +kernel

/-! ## Witnesses: the radio -/

/-- A frame for the air. -/
def frame0 (u : TxUse) : TxFrame := { use := u, channel := some 0, rate := 0, airtime := 1000 }
/-- A frame whose seat is held. -/
def opTx : State := { opHeld 7 (.transmit .legacy) with rad.queue := [frame0 .legacy] }

theorem wit_RadioCommandsComplete :
    (({ opTx with pw.st := .doze } : State).pw.st ≠ .run ∧ opTx.rad.air = none ∧ opTx.ln.rxSince = none ∧
      frameToSend { opTx with pw.st := .doze } = some (frame0 .legacy)) ∧
    (opTx.pw.st = .run ∧ opTx.pw.target = none ∧ (requestsTogether pumpTx opTx).rad.air = none ∧
      (requestsTogether pumpTx opTx).ln.rxSince = none ∧ frameToSend (requestsTogether pumpTx opTx) = some (frame0 .legacy)) ∧
    (let s : State := { opHeld 7 (.transmit .fault) with rad.queue := [frame0 .fault], pw.st := .doze, r.pwr.vresmv := 3500 }
     frameToSend s = some (frame0 .fault) ∧ (frame0 .fault).use.exchange = false ∧ (frame0 .fault).use ≠ .beacon ∧ 2300 ≤ vres s ∧
      (frame0 .fault).use.deferrable = false ∧
      permittedAt (frameCode (frame0 .fault) s) (frameChannel (frame0 .fault) s) 1000 s ≤ s.tl.monoUs) ∧
    ({ op with rad.air := some (frame0 .alarm) } : State).rad.air = some (frame0 .alarm) ∧
    (frameToSend opTx = some (frame0 .legacy) ∧ opTx.rad.synFails = 0 ∧ ({ opTx with rad.synFails := 1 } : State).rad.synFails ≠ 0) ∧
    (({ op with rad.replyDue := true } : State).rad.replyDue = true ∧ op.timed = true) ∧
    (let s : State := { opHeld 3 (.receive .listen) with rad.replyDue := true, r.pwr.vresmv := 3500 }
     let u := receiverOff { s.atTimer with rad.replyDue := false, ln.listenDue := none, ln.listening := false }
     s.rad.replyDue = true ∧ s.timed = true ∧ 2000 ≤ vres u ∧ holds 3 u = true ∧ transmitterBusy (relabel .reply u) = false) ∧
    receiving .reply { opHeld 3 (.receive .reply) with ln.rxSince := some 0 } = true ∧
    (op.phase = .operating ∧ (pumpSequencer (sample smp0 op)).flt.alarmHeld = none) ∧
    (let s : State := { op with flt.alarmHeld := some 1, flt.alarmDue := some 0, flt.alarm := some ⟨0, 0, 0, []⟩ }
     let u := pumpSequencer (sample smp0 s)
     u.flt.alarmHeld = some 1 ∧ u.flt.alarmDue = some 0 ∧ u.flt.alarm = some ⟨0, 0, 0, []⟩ ∧ radioSilent u = false ∧ 0 ≤ u.now) ∧
    ({ op with rad.seqCmd := some (0, frame0 .fault) } : State).rad.seqCmd = some (0, frame0 .fault) := by decide +kernel

/-! ## Witnesses: the link -/

/-- A key of 16 bytes. -/
def key0 : List Byte := (List.range 16).map (BitVec.ofNat 8)
/-- A header of a frame from device 5 to all, with counter 1. -/
def head0 (b0 b1 : Byte) : List Byte := [b0, b1, 0xFF, 0xFF, 0xFF, 0xFF, 5, 0, 0, 0, 1, 0, 0, 0]
/-- A secured frame. -/
def rx0 (b0 b1 : Byte) (body : List Byte) : RxFrame := { psdu := sealPsdu key0 (head0 b0 b1) body }
/-- Receiving for a use, with one key of a kind loaded. -/
def rxS (role : Role) (kind : Nat) (u : RxUse) : State := { opHeld 3 (.receive u) with
  cat.keys := [{ kind, key := key0 }], ln.loaded := [0], ln.rxSince := some 0, ln.role := role }
/-- An endpoint or a parent with its cluster key, at a boundary. -/
def lnS (role : Role) : State := { op with
  cat.keys := [{ kind := 0, key := key0 }], ln.loaded := [0], ln.role := role, ln.sync := .synced, ln.boundary := some 0 }

/-- Such a frame is delivered. -/
theorem rx_delivered (b0 b1 : Byte) (body : List Byte) (s : State) (k : KeyRec) (hk : k.key = key0) (hb : body.length ≤ 229)
    (h0 : b0.toNat / 4 % 4 = 0) (h1 : b1.toNat / 16 % 4 = 0) (t1 : 1 ≤ b0.toNat / 16) (t6 : b0.toNat / 16 ≤ 6)
    (marks : s.ln.marks = []) (key : ∀ c t, receiveKey (headFields (head0 b0 b1) c t) s = some k) :
    ∃ x u, receive (rx0 b0 b1 body) s = (.deliver x, u) ∧ x.typ = b0.toNat / 16 ∧ x.kind = b1.toNat / 64 ∧
      x.keyid = b1.toNat % 16 ∧ x.src = 5 ∧ x.ctr = 1 ∧ x.body = body ∧ u.cat = s.cat ∧ u.ln.loaded = s.ln.loaded ∧
      u.ln.exch = s.ln.exch ∧ u.r.lnk.parentid = s.r.lnk.parentid := by
  have dst : u32 (head0 b0 b1) 2 = broadcast := by show leNat [0xFF, 0xFF, 0xFF, 0xFF] = _; decide
  have src : u32 (head0 b0 b1) 6 = 5 := by show leNat [5, 0, 0, 0] = _; decide
  have ctr : u32 (head0 b0 b1) 10 = 1 := by show leNat [1, 0, 0, 0] = _; decide
  have h := receive_sealed k (head0 b0 b1) body s (by rw [hk]; decide) rfl hb h0 h1 t1 t6 dst marks key
  rw [hk] at h
  refine ⟨_, _, h, rfl, rfl, rfl, src, ctr, rfl, rfl, rfl, rfl, rfl⟩

theorem wit_EndpointAndBeaconCommandsComplete :
    (op.timed = true ∧ (lnS .endpoint).timed = true ∧ (lnS .endpoint).ln.boundary = some 0 ∧ (lnS .endpoint).ln.role = .endpoint) ∧
    (lnS .parent).ln.role = .parent ∧
    (let s : State := { lnS .endpoint with ln.owed := true }
     linkUp s = true ∧ (openingWindow s).isSome = true) ∧
    (let s : State := { lnS .endpoint with ln.owed := true, r.pwr.vresmv := 3500, cl.held := [{ unit := 3, cls := 100, hold := 1000, work := .receive .beacon }] }
     (openingWindow s).isSome = true ∧ (openingWindow s).all (fun w =>
       let u : State := { s.atTimer with r.lnk.guard := (w.guard.map (fun g => BitVec.ofNat 16 (min g 65535))).getD s.atTimer.r.lnk.guard, ln.asked := some w.boundary }
       decide (2000 ≤ vres u) && holds 3 u && !transmitterBusy (relabel (windowUse u) u)) = true) ∧
    (receiving .search (rxS .endpoint 0 .search) = true ∧ (rxS .endpoint 0 .search).ln.search ≠ some .blind) ∧
    (receiving .search (rxS .endpoint 0 .beacon) = false ∧ receiving .beacon (rxS .endpoint 0 .beacon) = true ∧
      (rxS .endpoint 0 .beacon).timed = true ∧ (rxS .endpoint 0 .beacon).r.lnk.missrun.toNat + 1 < 3 ∧
      3 ≤ ({ rxS .endpoint 0 .beacon with r.lnk.missrun := 2 } : State).r.lnk.missrun.toNat + 1) ∧
    (let s : State := { lnS .endpoint with ln.member := true, ln.gotBeacon := some 0 }
     let u := onlyIf (sample smp0 s.atTimer).ln.owed uploadFailed (sample smp0 s.atTimer)
     s.ln.role = .endpoint ∧ s.ln.member = true ∧ s.ln.sync = .synced ∧ u.ln.gotBeacon = some (sfnNow u) ∧ u.ln.exch = none ∧ ownSlotAhead u = true ∧
      pairKey u.r.lnk.parentid.toNat u = some { kind := 0, key := key0 } ∧ clusterKey u = some { kind := 0, key := key0 }) ∧
    (let s : State := { lnS .endpoint with ln.member := true, ln.owed := true }
     let u := onlyIf (sample smp0 s.atTimer).ln.owed uploadFailed (sample smp0 s.atTimer)
     u.ln.gotBeacon ≠ some (sfnNow u)) ∧
    (let u := sample smp0 (lnS .endpoint).atTimer
     (lnS .endpoint).ln.member = false ∧ (lnS .endpoint).ln.exch = none ∧ clusterKey u = some { kind := 0, key := key0 } ∧
      u.ln.boundary = some 0) ∧
    (let s : State := { lnS .endpoint with ln.exch := some { kind := .poll, frame := [1], ctr := 7, slotEnd := 9 } }
     awaited s = some ([1], 7) ∧ s.rad.air = none ∧ s.ln.ackOpen = false ∧ s.rad.queue.any (fun f => f.bytes == [1]) = false) ∧
    (let s : State := { lnS .endpoint with ln.ackOpen := true, ln.ho.st := .transferring }
     s.ln.ackOpen = true ∧ (receiverOff { s with ln.ackOpen := false }).ln.exch = none ∧
      (receiverOff { s with ln.ackOpen := false }).ln.ho.st = .transferring) ∧
    ({ lnS .endpoint with ln.search := some .blind } : State).ln.search = some .blind ∧
    (let s : State := { lnS .endpoint with ln.sync := .fallback }
     s.ln.role = .endpoint ∧ s.ln.sync = .fallback ∧ s.ln.search = none ∧ s.rad.unavailable = false ∧ s.timed = true) := by decide +kernel

theorem wit_BeaconDelivered : receiving .beacon (rxS .endpoint 0 .beacon) = true ∧
    ∃ x u, receive (rx0 0x10 0x00 (List.replicate 33 0)) (rxS .endpoint 0 .beacon) = (.deliver x, u) ∧
      x.typ = 1 ∧ x.kind = 0 ∧ x.body.length = 33 ∧ u32 x.body 4 = u.cat.link.clusterid := by
  refine ⟨by decide, ?_⟩
  obtain ⟨x, u, h, t, k, _, _, _, b, c, _⟩ := rx_delivered 0x10 0x00 (List.replicate 33 0) (rxS .endpoint 0 .beacon)
    { kind := 0, key := key0 } rfl (by decide) rfl rfl (by decide) (by decide) rfl (fun _ _ => rfl)
  exact ⟨x, u, h, t, k, by rw [b]; rfl, by rw [b, c]; decide⟩

/-- An exchange that waits for its acknowledgement. -/
def ackS : State := { rxS .endpoint 0 .ack with
  ln.ackOpen := true, ln.exch := some { kind := .poll, frame := [1], ctr := 7, slotEnd := 9 } }

theorem wit_AckDelivered : ackS.ln.ackOpen = true ∧ ackS.ln.rxSince.isSome = true ∧ ackS.timed = true ∧
    ∃ x u, receive (rx0 0x30 0x00 [7, 0, 0, 0, 0, 0]) ackS = (.deliver x, u) ∧ awaited u = some ([1], 7) ∧ x.typ = 3 ∧
      u32 x.body 0 = 7 ∧ (if x.src = u.r.lnk.parentid.toNat then contact u else u).ln.exch =
        some { kind := .poll, frame := [1], ctr := 7, slotEnd := 9 } := by
  refine ⟨rfl, rfl, by decide, ?_⟩
  obtain ⟨x, u, h, t, _, _, src, _, b, _, _, e, p⟩ := rx_delivered 0x30 0x00 [7, 0, 0, 0, 0, 0] ackS
    { kind := 0, key := key0 } rfl (by decide) rfl rfl (by decide) (by decide) rfl (fun _ _ => rfl)
  refine ⟨x, u, h, ?_, t, by rw [b]; decide, ?_⟩
  · unfold awaited; rw [e]; rfl
  · rw [src, p, if_neg (by decide), e]; rfl

/-- A parent with one member. -/
def parS (id : Nat) : State :=
  { lnS .parent with ln.members := [{ id, index := 3, telday := 24, rs := 1000, heard := 0 }] }

theorem wit_ParentAndHandoverCommandsComplete :
    ((lnS .parent).timed = true ∧ (lnS .parent).ln.boundary = some 0 ∧ (lnS .parent).ln.search = none ∧ (lnS .parent).rad.unavailable = false ∧
      clusterKey (endServedSlot (sample smp0 (lnS .parent).atTimer)) = some { kind := 0, key := key0 }) ∧
    (let s : State := { lnS .parent with now := 50, ln.slot := some { number := 3, start := 0 } }
     actsAsParent s = true ∧ (followReceiver s).ln.slot = some { number := 3, start := 0 }) ∧
    ((lnS .parent).ln.ho.st = .idle ∧ (lnS .parent).ln.ho.leaving = false) ∧
    ({ lnS .parent with ln.ho.st := .announced } : State).ln.ho.st = .announced ∧
    ({ lnS .parent with ln.ho.st := .transferring } : State).ln.ho.st = .transferring ∧
    ((lnS .endpoint).ln.role ≠ .parent ∧ ({ lnS .endpoint with ln.ho.gotEnd := true } : State).ln.ho.gotEnd = true) ∧
    ({ lnS .endpoint with ln.promote := true } : State).ln.promote = true := by decide +kernel

theorem wit_MemberAndSuccessor : ∃ m s, s.timed = true ∧ actsAsParent s = true ∧
    s.ln.members.find? (fun m => m.index == 3 && m.id != linkId) = some m ∧
    bestMember s.atTimer = some m ∧ s.atTimer.ln.boundary = some 0 ∧ reserveScore s.atTimer ≤ m.rs := by
  obtain ⟨id, h⟩ := exists_ne linkId
  have ne : (id != linkId) = true := bne_iff_ne.2 h
  refine ⟨{ id, index := 3, telday := 24, rs := 1000, heard := 0 }, parS id, rfl, rfl, ?_, ?_, rfl, ?_⟩
  · show List.find? _ [_] = _
    rw [List.find?_cons, ne]; rfl
  · have e : (parS id).atTimer.ln.members = [{ id, index := 3, telday := 24, rs := 1000, heard := 0 }] := rfl
    have re : ({ id, index := 3, telday := 24, rs := 1000, heard := 0 } : Member).recent (parS id).atTimer = true := by
      have y : (parS id).atTimer.tl.monoUs = 0 := rfl
      have z : tlmono (parS id).atTimer = 0 := by unfold tlmono; rw [y]
      unfold Member.recent; rw [z]; rfl
    unfold bestMember
    rw [e, List.filter_cons, ne, re]; rfl
  · show reserveScore _ ≤ 1000
    unfold reserveScore; dsimp only; omega

/-- A parent in the poll slot of a member, its receiver on since 0 µs. -/
def polS (n : Nat) : State := { rxS .parent 0 .poll with ln.slot := some { number := 3, start := 0 }, tl.monoUs := n }

theorem polS_follow (n : Nat) : followReceiver (polS n) = polS n := rfl

/-- A frame of which the time is that of the state has just come whole. -/
theorem polS_inSlot (f : RxFrame) : ∃ n, inSlot f (followReceiver (polS n)) = true := by
  refine ⟨mogalTime (polS 0).cat.radio.band 0 (f.psdu.length + 4), ?_⟩
  rw [polS_follow]
  unfold inSlot psduTime
  rw [show ∀ n, (polS n).cat.radio.band = (polS 0).cat.radio.band from fun _ => rfl]
  generalize mogalTime _ _ _ = n
  rw [show (polS n).ln.slot = some { number := 3, start := 0 } from rfl, show (polS n).ln.rxSince = some 0 from rfl,
    show (polS n).tl.monoUs = n from rfl, show heldWork 3 (polS n) = some (.receive .poll) from rfl]
  simp

theorem wit_PollAndJoinDelivered :
    (∃ f s x u, actsAsParent s = true ∧ inSlot f (followReceiver s) = true ∧ receive f (followReceiver s) = (.deliver x, u) ∧ x.typ = 2) ∧
    (∃ f s x u, actsAsParent s = true ∧ inSlot f (followReceiver s) = true ∧ receive f (followReceiver s) = (.deliver x, u) ∧ x.typ = 4) := by
  constructor
  · obtain ⟨n, i⟩ := polS_inSlot (rx0 0x20 0x00 [])
    obtain ⟨x, u, h, t, _⟩ := rx_delivered 0x20 0x00 [] (polS n)
      { kind := 0, key := key0 } rfl (by decide) rfl rfl (by decide) (by decide) rfl (fun _ _ => rfl)
    exact ⟨_, polS n, x, u, rfl, i, by rw [polS_follow]; exact h, t⟩
  · obtain ⟨n, i⟩ := polS_inSlot (rx0 0x40 0x00 [])
    obtain ⟨x, u, h, t, _⟩ := rx_delivered 0x40 0x00 [] (polS n)
      { kind := 0, key := key0 } rfl (by decide) rfl rfl (by decide) (by decide) rfl (fun _ _ => rfl)
    exact ⟨_, polS n, x, u, rfl, i, by rw [polS_follow]; exact h, t⟩

/-- A parent at the end of the poll slot of its one member, whose upload was due. -/
def unsS (id : Nat) : State := { parS id with r.lnk.sfn := 3, now := 750000 }

theorem wit_UnservedSlot : ∃ s n, s.timed = true ∧ actsAsParent s = true ∧ (followReceiver s).ln.slot = none ∧
    unservedSlot (followReceiver s) = some n := by
  obtain ⟨id, h⟩ := exists_ne linkId
  have ne : (id != linkId) = true := bne_iff_ne.2 h
  refine ⟨unsS id, 625000, rfl, rfl, rfl, ?_⟩
  have d : dueSlots (unsS id) = [1, 5] := by
    unfold dueSlots
    rw [show (unsS id).ln.members = [{ id, index := 3, telday := 24, rs := 1000, heard := 0 }] from rfl,
      show sfnNow (unsS id) = 3 from rfl, List.filter_cons, ne, show uploadDue 3 24 3 = true from by decide]
    rfl
  rw [show followReceiver (unsS id) = unsS id from rfl]
  unfold unservedSlot slotStart
  rw [show (unsS id).ln.boundary = some 0 from rfl, d, show slotLen (unsS id).cat.radio.band = 125000 from rfl,
    show (unsS id).now = 750000 from rfl, show (unsS id).ln.asked = none from rfl]
  decide

/-- An endpoint that receives a transfer and enters Doze. -/
def succS (n : Nat) : State := { rxS .endpoint 0 .transfer with pw.target := some .doze, tl.monoUs := n }

theorem succS_follow (n : Nat) : followReceiver (succS n) = succS n := rfl

theorem wit_HandoverDelivered : ∃ f s x u, s.timed = true ∧ linkUp s = true ∧ receiving .transfer (followReceiver s) = true ∧
    heardWhole (psduTime 1 f.psdu (followReceiver s)) (followReceiver s) = true ∧
    receive f (followReceiver s) = (.deliver x, u) ∧ x.typ = 5 := by
  obtain ⟨n, hn⟩ : ∃ n, n = mogalTime (succS 0).cat.radio.band 1 ((rx0 0x50 0x00 []).psdu.length + 4) := ⟨_, rfl⟩
  obtain ⟨x, u, h, t, _⟩ := rx_delivered 0x50 0x00 [] (succS n)
    { kind := 0, key := key0 } rfl (by decide) rfl rfl (by decide) (by decide) rfl (fun _ _ => rfl)
  refine ⟨_, succS n, x, u, rfl, rfl, by rw [succS_follow]; rfl, ?_, by rw [succS_follow]; exact h, t⟩
  rw [succS_follow]
  unfold heardWhole psduTime
  rw [show (succS n).cat.radio.band = (succS 0).cat.radio.band from rfl, ← hn]
  show decide (0 + n ≤ n) = true
  rw [Nat.zero_add, decide_eq_true (Nat.le_refl n)]

/-! ## Witnesses: reader sessions -/

/-- A meter in a session, receiving. -/
def sesS : State := { rxS .endpoint 2 .reader with ln.session := some { challenge := [9, 0, 0, 0], opened := 0 } }
/-- A reader, receiving. -/
def rdrS : State := rxS .reader 2 .reader

theorem wit_ReaderSessionCommandsComplete :
    (({ op with ln.listenDue := some (868300000, 0) } : State).ln.listenDue = some (868300000, 0) ∧ op.rad.air = none ∧ op.ln.rxSince = none) ∧
    (({ op with ln.listening := true } : State).ln.listening = true ∧ op.ln.session = none ∧ wakeFor 0x4D47FFFF = true) ∧
    (let s : State := { lnS .endpoint with cat.keys := [{ kind := 2, key := key0 }], ln.helloDue := true }
     s.ln.helloDue = true ∧ linkUp s = true ∧ readerKey (sample smp0 { s with ln.helloDue := false }) = some { kind := 2, key := key0 }) ∧
    (sesS.ln.session = some { challenge := [9, 0, 0, 0], opened := 0 } ∧ receiving .reader sesS = true ∧ linkUp sesS = true) ∧
    (op.ln.session = none ∧ ({ op with ln.run := some { meter := 5 } } : State).ln.run = some { meter := 5 }) ∧
    (rdrS.ln.role = .reader ∧ receiving .reader rdrS = true ∧ linkUp rdrS = true ∧ rdrS.ln.run = none ∧ readLately 5 rdrS = false) ∧
    (({ op with ln.role := .legacy } : State).timed = true ∧ op.cat.link.telday ≠ 0 ∧ op.rad.unavailable = false) := by decide +kernel

theorem wit_SessionRequestDelivered :
    ∃ y u, receive (rx0 0x60 0x80 [9, 0, 0, 0, 7]) sesS = (.deliver y, u) ∧
      loadedKey y.kind y.keyid u = some { kind := 2, key := key0 } ∧ y.typ = 6 ∧ y.kind = 2 ∧ y.body.take 4 = [9, 0, 0, 0] ∧
      5 ≤ y.body.length := by
  obtain ⟨x, u, h, t, k, i, _, _, b, c, l, _⟩ := rx_delivered 0x60 0x80 [9, 0, 0, 0, 7] sesS
    { kind := 2, key := key0 } rfl (by decide) rfl rfl (by decide) (by decide) rfl (fun _ _ => rfl)
  refine ⟨x, u, h, ?_, t, k, by rw [b]; rfl, by rw [b]; decide⟩
  unfold loadedKey
  rw [l, c, k, i]; rfl

theorem wit_ReaderResponseDelivered :
    (∃ y u z, receive (rx0 0x60 0x80 (List.replicate 16 0)) { rdrS with ln.run := some { meter := broadcast } } = (.deliver y, u) ∧
      loadedKey y.kind y.keyid u = some { kind := 2, key := key0 } ∧ y.typ = 6 ∧ y.kind = 2 ∧
      helloRun { meter := broadcast } y = some z) ∧
    (∃ y u, receive (rx0 0x60 0x80 [9, 0]) { rdrS with ln.run := some { meter := 5, challenge := [9] } } = (.deliver y, u) ∧
      loadedKey y.kind y.keyid u = some { kind := 2, key := key0 } ∧ y.typ = 6 ∧ y.kind = 2 ∧ ([9] : List Byte) ≠ [] ∧ y.src = 5 ∧
      2 ≤ y.body.length) := by
  constructor
  · obtain ⟨x, u, h, t, k, i, _, _, b, c, l, _⟩ := rx_delivered 0x60 0x80 (List.replicate 16 0)
      { rdrS with ln.run := some { meter := broadcast } }
      { kind := 2, key := key0 } rfl (by decide) rfl rfl (by decide) (by decide) rfl (fun _ _ => rfl)
    refine ⟨x, u, { meter := x.src, challenge := slice x.body 12 4, parent := u8 x.body 7 == 2 }, h, ?_, t, k, ?_⟩
    · unfold loadedKey
      rw [l, c, k, i]; rfl
    · unfold helloRun
      rw [b]
      exact if_pos ⟨rfl, rfl, rfl, Or.inl rfl⟩
  · obtain ⟨x, u, h, t, k, i, src, _, b, c, l, _⟩ := rx_delivered 0x60 0x80 [9, 0]
      { rdrS with ln.run := some { meter := 5, challenge := [9] } }
      { kind := 2, key := key0 } rfl (by decide) rfl rfl (by decide) (by decide) rfl (fun _ _ => rfl)
    refine ⟨x, u, h, ?_, t, k, by decide, src, by rw [b]; decide⟩
    unfold loadedKey
    rw [l, c, k, i]; rfl

/-! ## Witnesses: the service ports, displays, watchdogs -/

/-- A whole request frame: CLOSE with tag 1. -/
def frameClose : List Byte := [0xA7, 0x02, 0x04, 0x01] ++ leBytes 2 (crc16 [0x02, 0x04, 0x01]).toNat

theorem wit_HostTransactionsAreServedOrCounted :
    (op.io.vddio = true ∧ op.aon = true ∧ op.serving = true ∧ portWrites .host op = true) ∧
    (op.sv.unread = false ∧ parseRequest frameClose = some (4, 1, [])) ∧
    ({ op with sv.unread := true } : State).sv.unread = true ∧
    ((0x00 : Byte) ≠ 0x03 ∧ (0x00 : Byte) ≠ 0x02 ∧ (0x00 : Byte) ≠ 0x5C ∧ (0x00 : Byte) ≠ 0x5D ∧ (0x00 : Byte) ≠ 0xA5) ∧
    ((serveRequest { op with pw.st := .doze }).serving = false ∧ ({ op with pw.st := .doze } : State).aon = true ∧
      ({ op with pw.st := .doze } : State).io.vddio = true) := by decide +kernel

theorem wit_OhmueriCommandsReachTheirPort :
    ([] : List Byte).length ≤ 248 ∧ op.aon = true ∧ op.serving = true ∧ op.io.vddio = true ∧ op.sv.unread = false ∧
    ({ op with sv.unread := true } : State).sv.unread = true := by decide

theorem wit_RequestIsExecutedOnceAndAtItsLevel :
    (({ op with sv.opt := { req := some [1, 4] } } : State).sv.ses .optical).req = some ((1 : Byte) :: leBytes 1 4 ++ []) ∧
    ((op.sv.ses .optical).req ≠ some ((1 : Byte) :: leBytes 1 4 ++ []) ∧ refusal .optical 4 [] op ≠ 0 ∧ refusal .optical 1 [] op = 0) ∧
    (op.phase = .operating ∧ (op.sv.ses .optical).open_ = false ∧ commandLevel 5 = some 1 ∧ commandLevel 0x22 = some 3 ∧
      commandLevel 0x7F = none) ∧
    (({ op with sv.opt := { open_ := true } } : State).sv.ses .optical).open_ = true := by decide

/-- A pending SLOTOPEN of the optical port, in service mode or not. -/
def opPend (service : Bool) : State :=
  { op with sv.opt := { open_ := true, service }, sv.pendCmd := 0x30, sv.pendStatus := 1, sv.pendPort := some .optical }
/-- A reload that waits. -/
def opReload' (sealing : Bool) : State := { op with
  sv.reload := some { slot := 1, cat := {}, image := [], sealing }, ar.pendingCopy := some ⟨({} : Cat).mdigest, [], []⟩ }

theorem wit_PortSideCommandsComplete :
    portWrites .optical opService = true ∧ ({ op with sv.baudNext := some 2 } : State).sv.baudNext = some 2 ∧
    (opService.sv.ses .optical).open_ = true ∧
    (∀ b, pendingRuns (opPend b) = true ∧ (opPend b).serving = true ∧ (opPend b).operating = true ∧ (opPend b).sv.pendPort = some .optical ∧
      (pendingWork {} { opPend b with sv.pendStatus := 0, r.io.hirqRsp := true }).sv.pendPort = some .optical ∧
      (pendingWork {} { opPend b with sv.pendStatus := 0, r.io.hirqRsp := true }).service .optical = b) ∧
    bankBusy { opPend true with sv.pendCmd := 0x38 } = false ∧
    (parseRequest [] = none ∧ op.aon = true ∧ op.serving = true) := by decide +kernel

theorem wit_ReloadSwitches :
    (∃ x, (opReload' false).sv.reload = some x ∧ (opReload' false).operating = true ∧ (opReload' false).serving = true ∧ x.sealing = false ∧
      copyWritten x (opReload' false) = true ∧ atIntervalBoundary (opReload' false) = true ∧ (opReload' false).rg.stopped = false) ∧
    (∃ x, (opReload' true).sv.reload = some x ∧ x.sealing = true ∧ switchCommitted (opReload' true) = true ∧ (opReload' true).ps.run = none) :=
  ⟨⟨{ slot := 1, cat := {}, image := [], sealing := false }, rfl, rfl, rfl, rfl, by decide, by decide +kernel, rfl⟩,
    { slot := 1, cat := {}, image := [], sealing := true }, rfl, rfl, by decide +kernel, rfl⟩

theorem wit_WritesFollowTheAccessCodes :
    (0x0A02 ∉ [0x0101, 0x0222, 0x0310, 0x0A00, 0x0A01, 0x0A0E, 0x0F00, 0x1000]) ∧
    (0x0222 ∈ [0x0101, 0x0222, 0x0310] ∧ op.service .host = false) := by decide

theorem wit_WindowShowsTheSelectedPageOfXb :
    (0x1FFF < 0x2000 ∧ op.starting = false) ∧
    (readPort (some .host) { op with sv.hstPort.page := 1 }).page = 1 ∧ ((readPort (some .host) op).page = 0 ∧ 0x1000 ≤ 0x1000) ∧
    (op.xbBad.contains (4096 + 0x1FFF / 2) = false ∧ ({ op with xbBad := [4096] } : State).xbBad.contains (4096 + 0 / 2) = true ∧
      op.xbBad.contains (0xFFF / 2) = false) := by decide

/-- A bistable panel. -/
def opPanel : State := { op with cat.disp.dtype := .bistable, dp.mapOk := true, dp.railsOk := true }

theorem wit_DisplayCommandsComplete :
    (let s : State := { op with cat.disp.dtype := .glass, dp.glassOn := true }
     s.cat.disp.dtype = .glass ∧ s.dp.glassOn = true ∧ s.dp.emDriving = false) ∧
    (let s : State := { op with dp.emUntil := some 9 }
     s.dp.emUntil.isSome = true ∧ (sample smp0 s).dp.emDriving = false ∧ (sample smp0 { s with dp.emDriving := true }).dp.emDriving = true) ∧
    (opPanel.hasDisplay = true ∧ opPanel.cat.disp.dtype = .bistable ∧ opPanel.dp.park = none ∧ opPanel.operating = true ∧
      opPanel.dp.railsOk = true) ∧
    (let s : State := { opPanel with dp.park := some 1 }
     s.dp.park.isSome = true ∧ (parkEnd s).flt.proc = none ∧
      (parkEnd { s with flt.proc := some ⟨1, .park⟩ }).flt.proc = some ⟨1, .park⟩) ∧
    (({ opPanel with dp.screen := 1 } : State).hasDisplay = true ∧ ({ opPanel with dp.screen := 1 } : State).dp.screen ≠ 0 ∧ opPanel.timed = true) ∧
    (({ op with dp.segTest := true } : State).dp.segTest = true ∧ ({ sbc with dp.segTest := true } : State).timed = false) := by decide +kernel

/-- Two expiries of a core within the day. -/
def opExp : State := { op with flt.sigHist := [0, 0], flt.lnkHist := [0, 0] }
/-- The alarm telegram waits for its seat. -/
def opAlarm : State := { op with
  cl.waiting := [{ unit := 7, cls := 500, hold := 1000, work := .transmit .alarm }], rad.queue := [frame0 .alarm] }

theorem wit_WatchdogsAndModuleChecksComplete :
    (watched opExp = true ∧ opExp.operating = true ∧ opExp.isOn .sig = true ∧ opExp.isOn .lnk = true ∧ opExp.isOn .mod = true ∧
      opExp.serving = true ∧ 3 ≤ (expiries opExp.flt.sigHist opExp).length ∧
      3 ≤ (expiries (sample smp0 opExp).flt.lnkHist (sample smp0 opExp)).length) ∧
    (expiries op.flt.sigHist op).length < 3 ∧
    (let s : State := { op with fl.slots := [⟨1, 1, 0, 0, 0, 0⟩] }
     watched s = true ∧ regRuns s = true ∧ registrarBusy s = true) ∧
    (op.aon = true ∧ op.flt.proc = none ∧ op.phase ≠ .brownout ∧ op.phase ≠ .resetHold) ∧
    ({ op with flt.proc := some ⟨5, .alarm⟩ } : State).flt.proc = some ⟨5, .alarm⟩ ∧
    (opAlarm.cl.waiting.find? (fun x => x.work == .transmit .alarm) = some { unit := 7, cls := 500, hold := 1000, work := .transmit .alarm } ∧
      opAlarm.rad.queue.find? (fun f => f.use == .alarm) = some (frame0 .alarm)) ∧ op.timed = true := by decide +kernel

theorem wit_EachOhmueriCommandTakesItsEffectAtItsPort :
    (∀ p : Port, opService.aon = true ∧ opService.serving = true ∧ (p = .host → opService.io.vddio = true ∧ opService.sv.unread = false)) ∧
    (∀ c ∈ [0x01, 0x02, 0x03, 0x04, 0x05, 0x10, 0x11, 0x12, 0x13, 0x14, 0x15, 0x16, 0x20, 0x21, 0x22, 0x23, 0x30, 0x31, 0x32, 0x33, 0x38, 0x39, 0x3A],
      (opService.sv.ses .optical).req ≠ some ((1 : Byte) :: leBytes 1 c ++ []) ∧
      refusal .optical c [] (updSes .optical (fun x => { x with last := opService.now }) opService) = 0) ∧
    (let s : State := { op with sv.hst := { open_ := true, service := true } }
     s.aon = true ∧ s.serving = true ∧ s.io.vddio = true ∧ s.sv.unread = false ∧
      ∀ c ∈ [0x01, 0x02, 0x03, 0x04, 0x05, 0x10, 0x11, 0x12, 0x13, 0x14, 0x15, 0x16, 0x20, 0x21, 0x22, 0x23, 0x30, 0x31, 0x32, 0x33, 0x38, 0x39, 0x3A],
        (s.sv.ses .host).req ≠ some ((1 : Byte) :: leBytes 1 c ++ []) ∧
        refusal .host c [] (updSes .host (fun x => { x with last := s.now }) s) = 0) := by
  refine ⟨fun p => ⟨by decide, by decide, fun _ => ⟨rfl, rfl⟩⟩, by decide +kernel, by decide +kernel⟩

theorem wit_OhmueriCommandsDoWhatTheirCodesSay :
    (opService.sv.ses .optical).open_ = true ∧ (2 : Byte).toNat ≤ op.cat.maxbaud ∧
    ((List.replicate 128 (0 : Byte)).length = 128 ∧
      (({ op with sv.opt := { open_ := true, challenge := some [1] } } : State).sv.ses .optical).challenge = some [1]) ∧
    (([0, 1, 120] : List Byte).length = 3 ∧ 1 ≤ u8 [0, 1, 120] 2 ∧ u8 [0, 1, 120] 2 ≤ 120) ∧
    (1 ≤ u32 [0, 0, 1, 0] 0 ∧ u32 [0, 0, 1, 0] 0 ≤ 65536 ∧ reloading op = false ∧ pendingRuns op = false ∧ pendingRuns (opPend true) = true ∧
      reloading (opReload' false) = true) ∧
    (let s : State := { op with sv.slotW := some { slot := 1, len := 8, ready := true }, sv.patchW := some { slot := 1, len := 8, ready := true } }
     s.sv.slotW = some { slot := 1, len := 8, ready := true } ∧ s.sv.patchW = some { slot := 1, len := 8, ready := true } ∧ pendingRuns s = false ∧
      u32 [0, 0, 0, 0, 7] 0 = 0 ∧ 0 + (([0, 0, 0, 0, 7] : List Byte).length - 4) ≤ 8 ∧ u32 [1, 0, 0, 0, 7] 0 ≠ 0) ∧
    (op.sv.slotW = none ∧ op.sv.patchW = none) := by decide +kernel

/-! ## Witnesses: keys, ledgers, predictions -/

/-- Key slots: one ACTIVE, one REVOKED, two EMPTY. -/
def slots0 : OtpSlots := #v[(.active, 1), (.revoked, 2), (.empty, 0), (.empty, 0)]

theorem wit_SignerKeyIsAcceptedByAnActiveSlotOnly :
    slots0.fresh = false ∧ slots0.accepts 1 = true ∧ (slots0[(1 : Fin 4)].1 = .revoked ∧ slots0[(1 : Fin 4)].2 = 2) ∧
    ¬ ∃ i : Fin 4, slots0[i].2 = 3 := by decide

theorem wit_SlalomIsAPermutationOfTheChannels : 0 < channelCount op.cat.radio.band ∧ 0 < 1 ∧
    1 < 0 + channelCount ({ op with cat.radio.band := 3 } : State).cat.radio.band := by decide

theorem wit_DutyLedgerPermitsWithinItsAllowance :
    (2 ≠ 5 ∧ dutySum 2 (tlmono op / 60) op * 1000 + 36000000 ≤ allowance 2 * 1000) ∧
    allowance 2 * 1000 < dutySum 2 (tlmono op / 60) op * 1000 + 36000001 := by decide +kernel

theorem wit_PredictionsComeFromValidBins :
    (∀ v ∈ List.replicate 40 (none : Option Int), v = none) ∧ (predict (some 7 :: List.replicate 39 none) 250).2 = true := by
  constructor
  · intro v h; exact (List.mem_replicate.1 h).2
  · rfl

/-! ## Witnesses: words that commands leave -/

theorem wit_StartAndClockCommandsLeaveTheirWords :
    ((waits 1 .none).phase = .cold 1 ∧ (waits 15 .none).phase = .cold 15 ∧ (waits 15 .none).start.wait = .none ∧ (waits 15 .none).flt.proc = none) ∧
    ((waits 2 .reservoir).starting = true ∧ (waits 2 .reservoir).start.wait = .reservoir ∧ reservoirMet (sample smp0 (waits 2 .reservoir)) = true) ∧
    ((waits 8 .xt32).starting = true ∧ (waits 8 .xt32).r.clk.clkstatXt32ok = true ∧ (waits 8 .xt32).start.wait = .xt32 ∧ (waits 8 .xt32).ck.xtRun = false) ∧
    (let s : State := { waits 7 .otp with start.chosen := some (0, {}), nv.otp := #v[(.active, 1), (.empty, 0), (.empty, 0), (.empty, 0)] }
     s.phase = .cold 7 ∧ s.start.wait = .otp ∧ s.flt.proc = none ∧ s.start.chosen = some (0, {}) ∧ otpReady (sample smp0 s) = true ∧ keysEmpty s = false) ∧
    (let s : State := { waits 9 .seat with cl.waiting := [{ unit := 0, cls := 50, hold := 1000 }] }
     s.phase = .cold 9 ∧ s.start.wait = .seat ∧ s.cl.waiting.find? (fun y => y.unit == 0) = some { unit := 0, cls := 50, hold := 1000 }) ∧
    (∀ n, ({ waits 1 .none with phase := .hib n } : State).phase = .hib n ∧ ({ waits 1 .none with phase := .hib n } : State).start.wait = .none ∧
      ({ waits 1 .none with phase := .hib n } : State).flt.proc = none) ∧
    (sbc.safe = true ∧ sbc.flt.proc = none ∧ sbc.r.sys.sbstatFails.toNat < 3) ∧
    (({ op with phase := .brownout } : State).phase = .brownout ∧ op.io.rstLow = false ∧ op.io.tap ≠ .extest) ∧
    (∀ r : Option Nat, (opVit { on := 0, ready := r }).ck.run = some { on := 0, ready := r } ∧ (opVit { on := 0, ready := r }).starting = false ∧
      (opVit { on := 0, ready := r }).r.clk.clkstatPllvit = false ∧ (opVit { on := 0, ready := r }).isOn .vit = true) ∧
    (∀ ok : Bool, op.aon = true ∧ op.r.clk.clkstatXt32ok = true ∧ op.r.clk.clkstatRtcsrc ≠ 2 ∧
      ({ op with r.clk.clkstatLprcok := !ok } : State).r.clk.clkstatLprcok = !ok ∧ op.ck.staleLogged = false ∧
      ({ op with r.clk.clkstatRtcsrc := 2 } : State).r.clk.clkstatRtcsrc = 2 ∧ ({ op with ck.xtRun := true } : State).ck.xtRun = true) := by
  refine ⟨by decide, by decide +kernel, by decide, by decide +kernel, by decide, fun _ => ⟨rfl, rfl, rfl⟩, by decide, by decide,
    fun _ => ⟨rfl, rfl, rfl, (by decide : (opVit { on := 0 }).isOn .vit = true)⟩, fun _ => ⟨rfl, rfl, by decide, rfl, rfl, rfl, rfl⟩⟩

theorem wit_MeasurementRadioAndPanelCommandsLeaveTheirWords :
    (shotStep (opShot 0 [] []) = true ∧ (opShot 0 [] []).ps.run = some { step := 0, due := 0, first := some (0, 0) } ∧
      (opShot 0 [] []).r.drv.xdstatBooston = true ∧ (opShot 0 [] []).r.drv.xdstatVdrvok = false) ∧
    (op.timed = true ∧ op.aon = true ∧ ({ op with ps.fast := true } : State).ps.fast = true) ∧
    (wardenEraseDue (sample smp0 opArea.atTimer) = true ∧ (wardenVictim (sample smp0 opArea.atTimer)).isSome = true) ∧
    ({ op with tl.zoneNext := some 4 } : State).tl.zoneNext = some 4 ∧ ({ op with rad.replyDue := true } : State).rad.replyDue = true ∧
    receiving .reply { opHeld 3 (.receive .reply) with ln.rxSince := some 0 } = true ∧
    (let s : State := { opHeld 3 (.receive .beacon) with ln.rxSince := some 0, r.lnk.missrun := 1 }
     receiving .search s = false ∧ receiving .beacon s = true ∧ s.r.lnk.missrun.toNat < 2) ∧
    (({ op with ln.listening := true } : State).ln.listening = true ∧ op.ln.session = none ∧ wakeFor 0x4D47FFFF = true) ∧
    (rdrS.ln.role = .reader ∧ receiving .reader rdrS = true ∧ linkUp rdrS = true ∧ ({ psdu := [] } : RxFrame).good = true) ∧
    ({ op with ln.run := some { meter := 5 } } : State).ln.run = some { meter := 5 } ∧
    (({ opPanel with dp.screen := 1 } : State).hasDisplay = true ∧ ({ opPanel with dp.screen := 1 } : State).timed = true ∧
      ({ opPanel with dp.screen := 1 } : State).dp.screen ≠ 0) ∧
    (({ op with dp.segTest := true } : State).dp.segTest = true ∧ ({ op with dp.emUntil := some 9 } : State).dp.emUntil.isSome = true) ∧
    (let s : State := { op with r.pwr.vbatmv := 3600 }
     s.aon = true ∧ s.cl.held = [] ∧ s.cl.commit = none ∧ vres s + 200 ≤ vbat s ∧ s.cat.chair.ibatlim * 1 < 70000 * s.cat.chair.cres) ∧
    (let s : State := { op with r.pwr.vresmv := 2000, rg.sh1 := some { legal := {}, crcOk := true } }
     commitReady s = true ∧ s.flt.proc = none ∧ s.operating = true ∧ s.pw.st = .run) := by decide +kernel

end Sys2Proof.Tests
end

section
/-! SUPPORT. A port's write of one word by its access code, and the commands of the ports beside the requests; the
statements WritesFollowTheAccessCodes and PortSideCommandsComplete. -/

namespace Sys2Proof.Machine

/-! ## A command that ends with its standing work -/

/-- A command that ends with its standing work leaves a state that the work on `u` frames (R112). -/
theorem next_withWork_of_exec_eq_done {c : Instr} {s u : State} (h : exec c s = done u) :
    ∃ t, exec c s = .next t ∧ t = u.withWork t :=
  ⟨settle u, h, settle_frame u⟩

/-! ## One word written by its access code (R7) -/

/-- Every word but those with an access code that takes writes is discarded (R5, R7, R302). -/
theorem writeWord_discarded {a : Nat} (h : a ∉ [0x0101, 0x0222, 0x0310, 0x0A00, 0x0A01, 0x0A0E, 0x0F00, 0x1000])
    (p : Port) (v : Word) (s : State) : writeWord p a v s = s := by
  simp only [List.mem_cons, List.not_mem_nil, or_false, not_or] at h
  obtain ⟨hPwr, hZone, hBinsel, hMemstat, hPage, hBgcmd, hHirq, hFltstat⟩ := h
  unfold writeWord
  rw [if_neg (by simp [hMemstat, hHirq, hFltstat]), if_neg hPage, if_neg hBgcmd, if_neg hPwr, if_neg hZone, if_neg hBinsel]
  exact ite_self s

/-- Outside service mode `PWRCMD`, `TLZONE` and `BINSEL` take no write (R7). -/
theorem writeWord_outside_service {a : Nat} (h : a ∈ [0x0101, 0x0222, 0x0310]) {p : Port} {s : State}
    (hs : s.service p = false) (v : Word) : writeWord p a v s = s := by
  have hw : ¬(a = 0x0A00 ∨ a = 0x0F00 ∨ a = 0x1000) ∧ a ≠ 0x0A01 ∧ a ≠ 0x0A0E := by
    simp only [List.mem_cons, List.not_mem_nil, or_false] at h
    omega
  obtain ⟨hW1c, hPage, hBgcmd⟩ := hw
  unfold writeWord
  rw [if_neg hW1c, if_neg hPage, if_neg hBgcmd, hs]
  rfl

/-- A write to a W1C word clears bits, in service mode or not (R7). -/
theorem writeWord_w1c {a : Nat} (h : a = 0x0A00 ∨ a = 0x0F00 ∨ a = 0x1000) (p : Port) (v : Word) (s : State) :
    writeWord p a v s = clearBits a v s :=
  if_pos h

theorem clearBits_memstat (v : Word) (s : State) : clearBits 0x0A00 v s = { s with
    r.mem.memstatUe := s.r.mem.memstatUe && !v.getLsbD 15
    r.mem.memstatXcol := s.r.mem.memstatXcol && !v.getLsbD 14
    r.mem.memstatBgfail := s.r.mem.memstatBgfail && !v.getLsbD 13 } := rfl

theorem clearBits_hirq (v : Word) (s : State) : clearBits 0x0F00 v s = { s with
    r.io.hirqRsp := s.r.io.hirqRsp && !v.getLsbD 15
    r.io.hirqFres := s.r.io.hirqFres && !v.getLsbD 14
    r.io.hirqTres := s.r.io.hirqTres && !v.getLsbD 13
    r.io.hirqSbchg := s.r.io.hirqSbchg && !v.getLsbD 12
    r.io.hirqStart := s.r.io.hirqStart && !v.getLsbD 11
    r.io.hirqAlarm := s.r.io.hirqAlarm && !v.getLsbD 10
    r.io.hirqStore := s.r.io.hirqStore && !v.getLsbD 9 } := rfl

theorem clearBits_fltstat (v : Word) (s : State) : clearBits 0x1000 v s = { s with
    r.flt.fltstatTamper := s.r.flt.fltstatTamper && !v.getLsbD 15
    r.flt.fltstatAlarm := s.r.flt.fltstatAlarm && !v.getLsbD 14 } := rfl

/-- Settles O48: the access codes that discard are two lemmas of `writeWord`, and a W1C word is `clearBits` at its address. -/
theorem writesFollowTheAccessCodes : Obligations.WritesFollowTheAccessCodes := by
  intro p a v s
  refine ⟨fun h => writeWord_discarded h p v s, fun h hs => writeWord_outside_service h hs v, ?memstat, ?hirq, ?fltstat⟩
  case memstat => rw [writeWord_w1c (.inl rfl), clearBits_memstat]
  case hirq => rw [writeWord_w1c (.inr (.inl rfl)), clearBits_hirq]
  case fltstat => rw [writeWord_w1c (.inr (.inr rfl)), clearBits_fltstat]

/-! ## The ports beside the requests -/

theorem exec_registerWrite {p : Port} {s : State} (h : portWrites p s = true) (a v : Word) :
    exec (.registerWrite p a v) s = done (writeWord p a.toNat v s) :=
  if_pos h

theorem exec_baudSwitch {s : State} {b : Nat} (h : s.sv.baudNext = some b) :
    exec .baudSwitch s = done { s with sv.baud := BitVec.ofNat 2 b, sv.baudNext := none } := by
  show execBaudSwitch s = _
  unfold execBaudSwitch
  rw [h]

theorem exec_authLockoutEnd (p : Port) (s : State) :
    exec (.authLockoutEnd p) s = done (updSes p (fun x => { x with lockUntil := none }) s) := rfl

theorem exec_ohmueriSessionTimeout {p : Port} {s : State} (h : (s.sv.ses p).open_ = true) :
    exec (.ohmueriSessionTimeout p) s = done (endSession p 2 s) :=
  if_pos h

/-- A pending command completes; its writes stay only where the port that it belongs to holds service mode then (R427, log 80). -/
theorem exec_pendingCommandComplete {rep : StageReport} {p : Port} {s t : State} (hrun : pendingRuns s = true)
    (hserving : s.serving = true) (hphase : s.operating = true ∨ s.safe = true)
    (hbank : s.sv.pendCmd = 0x38 ∨ s.sv.pendCmd = 0x3A → bankBusy s = false)
    (ht : pendingWork rep { s with sv.pendStatus := 0, r.io.hirqRsp := true } = t) (hport : t.sv.pendPort = some p) :
    exec (.pendingCommandComplete rep) s = done (if t.service p then t else { t with sv.slotW := none, sv.patchW := none }) := by
  have hguard : (!pendingRuns s || !s.serving || !(s.operating || s.safe)
      || (s.sv.pendCmd == 0x38 || s.sv.pendCmd == 0x3A) && bankBusy s) = false := by
    have hmode : (s.operating || s.safe) = true := by simpa using hphase
    simpa [hrun, hserving, hmode, or_imp] using hbank
  show execPendingCommandComplete rep s = _
  unfold execPendingCommandComplete
  rw [hguard, ht]
  dsimp only
  rw [hport]
  rfl

theorem exec_reloadSwitch {x : Reload} {s : State} (hx : s.sv.reload = some x) (hop : s.operating = true)
    (hserving : s.serving = true) (hwaits : x.sealing = false) (hcopy : copyWritten x s = true)
    (hboundary : atIntervalBoundary s = true) (hrg : s.rg.stopped = false) :
    exec .reloadSwitch s = done (sealSwitch x s) := by
  show execReloadSwitch s = _
  unfold execReloadSwitch
  rw [hx]
  exact if_pos (by simp [hop, hserving, hwaits, hcopy, hboundary, hrg])

theorem exec_reloadCommitDone {x : Reload} {s : State} (hx : s.sv.reload = some x) (hop : s.operating = true)
    (hserving : s.serving = true) (hseals : x.sealing = true) (hcommit : switchCommitted s = true) (hrun : s.ps.run = none) :
    exec .reloadCommitDone s = done (switchImage x s) := by
  show execReloadCommitDone s = _
  unfold execReloadCommitDone
  rw [hx]
  exact if_pos (by simp [hop, hserving, hseals, hcommit, hrun])

theorem exec_ohmueriFrameDiscard {f : List Byte} {gap : Bool} {s : State} (haon : s.aon = true) (hserving : s.serving = true)
    (hbad : gap = true ∨ parseRequest f = none) :
    exec (.ohmueriFrameDiscard f gap) s = done { s with r.io.irerr := inc16 s.r.io.irerr } :=
  if_pos (by simpa [haon, hserving] using hbad)

/-- Settles O47: each clause is its command's equation under the clause's conditions, with the frame of the standing work
where the clause states one. -/
theorem portSideCommandsComplete : Obligations.PortSideCommandsComplete := by
  intro s
  refine ⟨fun p a v h => exec_registerWrite h a v,
    fun b hb => next_withWork_of_exec_eq_done (exec_baudSwitch hb),
    next_withWork_of_exec_eq_done (exec_authLockoutEnd .optical s),
    next_withWork_of_exec_eq_done (exec_authLockoutEnd .host s),
    fun p h => exec_ohmueriSessionTimeout h, ?pending, ?reload,
    fun f gap haon hserving hbad => next_withWork_of_exec_eq_done (exec_ohmueriFrameDiscard haon hserving hbad)⟩
  case pending =>
    intro rep p hrun hserving hphase hbank _ t
    constructor
    · intro hport hservice
      rw [exec_pendingCommandComplete hrun hserving hphase hbank rfl hport, if_pos hservice]
      rfl
    · intro hport hservice
      rw [exec_pendingCommandComplete hrun hserving hphase hbank rfl hport, if_neg (by simpa using hservice)]
      rfl
  case reload =>
    intro x hx hop hserving
    exact ⟨fun hwaits hcopy hboundary hrg => exec_reloadSwitch hx hop hserving hwaits hcopy hboundary hrg,
      fun hseals hcommit hrun => exec_reloadCommitDone hx hop hserving hseals hcommit hrun⟩

end Sys2Proof.Machine
end

section
/-! SUPPORT. What a step runs, what every command keeps of the queue and the time, and one evaluation of the Chairlift by
the cases of R129 to R131; the statements StepRunsTheFrontCommand, CommandsKeepTheQueueAndTheTime and
EvaluationAdmitsTheHeadWithinTheBudget. -/

namespace Sys2Proof.Machine

/-! ## Steps and commands -/

theorem step_of_pending_cons {c : Instr} {rest : List Instr} {s : State} (h : s.pending = c :: rest) :
    step s = exec c { s with pending := rest } := by
  unfold step
  rw [h]

/-- Settles O1: a queue that is not empty selects the second branch of `step`. -/
theorem stepRunsTheFrontCommand : Obligations.StepRunsTheFrontCommand :=
  fun _ _ _ h => step_of_pending_cons h

/-- Settles O3: the queue and the time are two of the things that every command keeps (`exec_keeps`). -/
theorem commandsKeepTheQueueAndTheTime : Obligations.CommandsKeepTheQueueAndTheTime := by
  intro c s t h
  have hkeeps : Keeps s t := exec_keeps c s t h
  exact ⟨hkeeps.pend, hkeeps.now⟩

/-! ## One evaluation of the Chairlift -/

/-- Where no request that `dropLate` heeds is late, it drops none (R131). -/
theorem dropLate_of_none_late {s : State} (h : ∀ x ∈ s.cl.waiting, x.unit = 0 ∨ x.late s.now = false) : dropLate s = s := by
  have hnone : s.cl.waiting.filter (fun x => x.unit != 0 && x.late s.now) = [] := by
    simpa [List.filter_eq_nil_iff, or_iff_not_imp_left] using h
  unfold dropLate
  rw [hnone]
  rfl

theorem placedSeats_of_no_measureSeat {s : State} (h : measureSeat s = false) : placedSeats s = s.cl.waiting :=
  if_neg (by simp [h])

/-- While a measurement holds its seat, the calibrations (units 8 and 9) are not placed (R26). -/
theorem placedSeats_of_measureSeat {s : State} (h : measureSeat s = true) :
    placedSeats s = s.cl.waiting.filter (fun x => decide (x.unit < 8)) :=
  if_pos h

/-- With no request to look at, an evaluation only renews `CLFREE`. -/
theorem evaluate.head_of_no_request {s : State} (h : (placedSeats s).filter (fun x => !x.late s.now) = []) :
    evaluate.head s = { s with r.pwr.clfree := sat 16 (seatFree s) } := by
  unfold evaluate.head
  rw [h]
  rfl

section
variable {s : State} {x : Seat} (hx : seatHead ((placedSeats s).filter (fun x => !x.late s.now)) = some x)
include hx

/-- Less than 20 µs after the last admission the head is not looked at (R130). -/
theorem evaluate.head_of_recent_admission {t : Nat} (ht : s.cl.lastAdm = some t) (h : s.now < t + 20) : evaluate.head s = s := by
  unfold evaluate.head
  rw [hx, ht]
  exact if_pos h

/-- At least 20 µs after the last admission, or with none yet, the head is weighed against the budget (R129, R130). -/
theorem evaluate.head_of_spaced (h : ∀ t, s.cl.lastAdm = some t → t + 20 ≤ s.now) : evaluate.head s = evaluate.go x s := by
  unfold evaluate.head
  rw [hx]
  cases ht : s.cl.lastAdm with
  | none => rfl
  | some t => exact if_neg (Nat.not_lt.mpr (h t ht))

end

/-- A head whose demand is more than the budget keeps waiting; `CLAVAIL` and `CLFREE` are renewed (R129). -/
theorem evaluate.go_of_budget_lt {x : Seat} {s : State} (h : seatAvail x.unit s < (seatDemand x s : Int)) :
    evaluate.go x s = { s with
      r.pwr.clavail := clAvail (seatAvail x.unit s), r.pwr.clfree := sat 16 (seatFree s) } :=
  if_neg (Int.not_le.mpr h)

/-- A head whose demand is within the budget moves from the queue to the seats, and its work begins (R129, R130). -/
theorem evaluate.go_of_demand_le {x : Seat} {s : State} (h : (seatDemand x s : Int) ≤ seatAvail x.unit s) :
    evaluate.go x s = onAdmit x.work { s with
      r.pwr.clavail := clAvail (seatAvail x.unit s), r.pwr.clfree := sat 16 (seatFree s)
      cl.waiting := s.cl.waiting.filter (fun y => y.order != x.order)
      cl.held := { x with at_ := s.now, excess := x.cls - seatFree s, above := s.pw.aboveAbort } :: s.cl.held
      cl.lastAdm := some s.now } :=
  if_pos h

/-- Settles O25: late requests go by `dropLate`; what the evaluation then does with the queue is a case of `evaluate.head`,
and what it does with a head that it weighs a case of `evaluate.go`. -/
theorem evaluationAdmitsTheHeadWithinTheBudget : Obligations.EvaluationAdmitsTheHeadWithinTheBudget := by
  intro s0 s hs
  have hdrop : dropLate s0 = s := hs.symm
  have heval : evaluate s0 = evaluate.head s := congrArg evaluate.head hdrop
  rw [heval]
  refine ⟨fun hlate => hdrop.symm.trans (dropLate_of_none_late hlate), evaluate.head_of_no_request,
    placedSeats_of_no_measureSeat, placedSeats_of_measureSeat, ?head⟩
  case head =>
    intro x hx
    refine ⟨fun t ht hrecent => evaluate.head_of_recent_admission hx ht hrecent, fun hspaced => ?_⟩
    rw [evaluate.head_of_spaced hx hspaced]
    exact ⟨evaluate.go_of_budget_lt, evaluate.go_of_demand_le⟩

end Sys2Proof.Machine
end

section
/-! SUPPORT. RST_N, the brownout, EXTEST and the supply of the host port; the statements ResetPinIsIgnoredUndefinedOrResets,
BrownoutAndBoundaryScanStopTheDevice and SupplyOfTheHostPortAndItsSelect. -/

namespace Sys2Proof.Machine

/-! ## Starts out of a hold -/

/-- A cold start is at stage 1 under its cause; it moves neither clock of the ledger, nor what is noted of the pin (R87, R94). -/
theorem coldStart_facts (cause : Nat) (s : State) :
    (coldStart cause s).phase = .cold 1 ∧ (coldStart cause s).r.sys.startcause = BitVec.ofNat 4 cause ∧
    (coldStart cause s).tl.civNs = s.tl.civNs ∧ (coldStart cause s).tl.monoUs = s.tl.monoUs ∧
    (coldStart cause s).io.rstLow = s.io.rstLow := by
  obtain ⟨hphase, hr, hio, hciv, hmono, -⟩ := accounted_parts s (coldStart.freshStart cause s)
  exact ⟨hphase, congrArg (·.sys.startcause) hr, hciv, hmono, congrArg (·.rstLow) hio⟩

/-! ## A device that the pin or a brownout holds -/

/-- The device waits for RST_N to rise (R46) or for the brownout to end (R126). -/
def Held (s : State) : Prop := s.phase = .brownout ∨ s.phase = .resetHold

/-! ## RST_N (R46) -/

theorem exec_rstNLow_ignored {ns : Nat} (h : ns < 1000) (s : State) : exec (.rstNLow ns) s = .next s :=
  if_pos h

theorem exec_rstNLow_undefined {ns : Nat} (hlo : 1000 ≤ ns) (hhi : ns < 10000) (s : State) :
    exec (.rstNLow ns) s = .fault .rstPulseUndefined :=
  (if_neg (Nat.not_lt.mpr hlo)).trans (if_pos hhi)

theorem exec_rstNLow_resets {ns : Nat} {s : State} (hns : 10000 ≤ ns) (haon : s.aon = true) (hheld : ¬Held s) :
    exec (.rstNLow ns) s = .next (watchdogReset 7 { s with io.rstLow := true }) := by
  obtain ⟨hbrown, hhold⟩ := not_or.mp hheld
  show execRstNLow ns s = _
  unfold execRstNLow
  rw [if_neg (by omega), if_neg (by omega), haon, if_neg (by decide)]
  dsimp only
  split
  · contradiction
  · contradiction
  · rfl

theorem exec_rstNRise {s : State} (h : s.phase = .resetHold) :
    exec .rstNRise s = .next (leaveHold 2 { s with io.rstLow := false }) :=
  if_pos (by simp [h])

theorem leaveHold_extest {s : State} (h : s.io.tap = .extest) (cause : Nat) : leaveHold cause s = { s with phase := .extest } :=
  if_pos h

theorem leaveHold_coldStart {s : State} (h : s.io.tap ≠ .extest) (cause : Nat) : leaveHold cause s = coldStart cause s :=
  if_neg h

/-- Settles O13: each clause is its pulse's equation, and what a start leaves is read off the cold start. -/
theorem resetPinIsIgnoredUndefinedOrResets : Obligations.ResetPinIsIgnoredUndefinedOrResets := by
  intro s ns
  refine ⟨fun h => exec_rstNLow_ignored h s, fun hlo hhi => exec_rstNLow_undefined hlo hhi s,
    fun hns haon hbrown hhold => exec_rstNLow_resets hns haon (not_or.mpr ⟨hbrown, hhold⟩), procFinish_held s, ?start, ?extest⟩
  case start =>
    intro hhold htap
    have hexec : exec .rstNRise s = .next (coldStart 2 { s with io.rstLow := false }) :=
      (exec_rstNRise hhold).trans (congrArg _ (leaveHold_coldStart (s := { s with io.rstLow := false }) htap 2))
    exact ⟨_, hexec, rfl, coldStart_facts 2 _⟩
  case extest =>
    intro hhold htap
    exact (exec_rstNRise hhold).trans (congrArg _ (leaveHold_extest (s := { s with io.rstLow := false }) htap 2))

/-! ## Brownout (R126) -/

theorem exec_brownout {s : State} (haon : s.aon = true) (hbrown : s.phase ≠ .brownout) (smp : Sample) :
    ∃ u, exec (.brownout smp) s = .next (procFinish 9 u) :=
  ⟨_, if_neg (by simp [haon, hbrown])⟩

theorem exec_brownoutRecovery_held {s : State} (hbrown : s.phase = .brownout) (hlow : s.io.rstLow = true) :
    exec .brownoutRecovery s = .next { s with phase := .resetHold } :=
  (if_neg (by simp [hbrown])).trans (if_pos hlow)

theorem exec_brownoutRecovery_leaves {s : State} (hbrown : s.phase = .brownout) (hlow : s.io.rstLow = false) :
    exec .brownoutRecovery s = .next (leaveHold 9 s) :=
  (if_neg (by simp [hbrown])).trans (if_neg (by simp [hlow]))

/-! ## EXTEST (R47, R49) -/

/-- EXTEST stops a device that nothing holds: the engines end, the event is a tamper event, and what the device stood in before
is in `u`. -/
theorem exec_extestEntry {s : State} (haon : s.aon = true) (hvddio : s.io.vddio = true) (htap : s.io.tap ≠ .extest)
    (hheld : ¬Held s) :
    ∃ u, exec .extestEntry s =
      .next { logEvent 0x100A [] (stopEngines u) with phase := .extest, io.tap := .extest, flt.proc := none, cl.commit := none } := by
  obtain ⟨hbrown, hhold⟩ := not_or.mp hheld
  show ∃ u, execExtestEntry s = _
  unfold execExtestEntry
  rw [if_neg (by simp [haon, hvddio, htap])]
  split
  · contradiction
  · contradiction
  · exact ⟨_, rfl⟩

theorem exec_extestEntry_held {s : State} (haon : s.aon = true) (hvddio : s.io.vddio = true) (htap : s.io.tap ≠ .extest)
    (hheld : Held s) : exec .extestEntry s = .next (logEvent 0x100A [] { s with io.tap := .extest }) := by
  show execExtestEntry s = _
  unfold execExtestEntry
  rw [if_neg (by simp [haon, hvddio, htap])]
  rcases hheld with h | h <;> rw [h]

theorem exec_extestExit {s : State} (haon : s.aon = true) (hvddio : s.io.vddio = true) (htap : s.io.tap = .extest)
    (hheld : ¬Held s) :
    exec .extestExit s = .next (watchdogReset 8 { (draw s).2 with io.tap := tapInstr (openLoad (draw s).1) }) := by
  obtain ⟨hbrown, hhold⟩ := not_or.mp hheld
  show execExtestExit s = _
  unfold execExtestExit
  rw [if_neg (by simp [haon, hvddio, htap])]
  dsimp only
  split
  · contradiction
  · contradiction
  · rfl

theorem exec_extestExit_held {s : State} (haon : s.aon = true) (hvddio : s.io.vddio = true) (htap : s.io.tap = .extest)
    (hheld : Held s) :
    exec .extestExit s = .next (resetTrigger 8 { (draw s).2 with io.tap := tapInstr (openLoad (draw s).1) }) := by
  show execExtestExit s = _
  unfold execExtestExit
  rw [if_neg (by simp [haon, hvddio, htap])]
  dsimp only
  rcases hheld with h | h <;> rw [draw_phase, h]

theorem exec_extestExit_of_ne {s : State} (htap : s.io.tap ≠ .extest) : exec .extestExit s = .next s :=
  if_pos (by simp [htap])

theorem exec_extest_unserved {s : State} (h : s.aon = false ∨ s.io.vddio = false) :
    exec .extestEntry s = .next s ∧ exec .extestExit s = .next s :=
  have hport : (!s.aon || !s.io.vddio) = true := by simpa using h
  ⟨if_pos (by simp [hport]), if_pos (by simp [hport])⟩

theorem tapInstr_ne_extest (load : TapLoad) : tapInstr load ≠ .extest := by
  cases load <;> decide

/-- Settles O14: each command's equation under the clause's conditions, with what the end of a procedure, the stop of the engines
and the tamper event leave. -/
theorem brownoutAndBoundaryScanStopTheDevice : Obligations.BrownoutAndBoundaryScanStopTheDevice := by
  intro s smp
  refine ⟨?brownout, exec_brownoutRecovery_held, ?recovery, ?recoveryExtest, ?entry, exec_extestEntry_held, ?exit,
    ⟨rfl, rfl, tapInstr_ne_extest⟩, exec_extest_unserved⟩
  case brownout =>
    intro haon hbrown
    obtain ⟨u, hexec⟩ := exec_brownout haon hbrown smp
    exact ⟨_, hexec, procFinish_brown u⟩
  case recovery =>
    intro hbrown hlow htap
    exact (exec_brownoutRecovery_leaves hbrown hlow).trans (congrArg _ (leaveHold_coldStart htap 9))
  case recoveryExtest =>
    intro hbrown hlow htap
    exact (exec_brownoutRecovery_leaves hbrown hlow).trans (congrArg _ (leaveHold_extest htap 9))
  case entry =>
    intro haon hvddio htap hbrown hhold
    obtain ⟨u, hexec⟩ := exec_extestEntry haon hvddio htap (not_or.mpr ⟨hbrown, hhold⟩)
    obtain ⟨hdom, hcl, hstopped, -⟩ := stopEngines_facts u
    obtain ⟨hrg, hpw, hclLog, htamper, hlast, halarm⟩ := tamper_log (stopEngines u)
    refine ⟨_, hexec, rfl, rfl, ?_, ?_, ?_, htamper, hlast, halarm⟩
    · exact (congrArg (·.dom) hpw).trans hdom
    · exact congrArg (·.held) (hclLog.trans hcl)
    · exact (congrArg (·.stopped) hrg).trans hstopped
  case exit =>
    intro haon hvddio
    exact ⟨fun htap hbrown hhold => ⟨_, exec_extestExit haon hvddio htap (not_or.mpr ⟨hbrown, hhold⟩)⟩,
      fun htap hheld => ⟨_, exec_extestExit_held haon hvddio htap hheld⟩, exec_extestExit_of_ne⟩

/-! ## VDDIO and HST_CS (R43, R113) -/

theorem exec_hstCsFall {s : State} (hvddio : s.io.vddio = true) (haon : s.aon = true) :
    exec .hstCsFall s = done (onlyIf (hostWakes s) (wake 2) { s with io.cs := true }) :=
  if_pos (by simp [hvddio, haon])

/-- Settles O15: each command is its change followed by the standing work. -/
theorem supplyOfTheHostPortAndItsSelect : Obligations.SupplyOfTheHostPortAndItsSelect := by
  intro s
  refine ⟨next_withWork_of_exec_eq_done rfl, next_withWork_of_exec_eq_done rfl, fun hvddio haon hwake => ?_,
    fun hvddio haon hwake => ?_⟩
  · refine next_withWork_of_exec_eq_done ((exec_hstCsFall hvddio haon).trans ?_)
    rw [hwake]; rfl
  · refine next_withWork_of_exec_eq_done ((exec_hstCsFall hvddio haon).trans ?_)
    rw [hwake]; rfl

end Sys2Proof.Machine
end

section
/-! SUPPORT. Which commands answer a next state; the statement OnlyTheUndefinedResetPulseStops. -/

namespace Sys2Proof.Machine

/-! ## Outcomes that are a next state -/

/-- The outcome is a next state: neither a fault nor a refusal. -/
def Answers (o : Host.Outcome State Fault Refusal) : Prop := ∃ t, o = .next t

theorem answers_next (t : State) : Answers (.next t) := ⟨t, rfl⟩

theorem answers_done (t : State) : Answers (done t) := answers_next (settle t)

theorem answers_ite {c : Prop} [Decidable c] {x y : Host.Outcome State Fault Refusal} (hx : Answers x) (hy : Answers y) :
    Answers (if c then x else y) := by
  split
  · exact hx
  · exact hy

theorem answers_onTimer (f : State → State) (s : State) : Answers (onTimer f s) :=
  answers_ite (answers_done _) (answers_next s)

theorem sessionRequest_answers (f : RxFrame) (s : State) : Answers (sessionRequest f s) := by
  fun_cases sessionRequest f s <;> exact answers_next _

/-! ## The commands -/

/-- A pulse on RST_N that R46 gives an effect, or says to ignore, answers. -/
theorem execRstNLow_answers {ns : Nat} (h : ¬(1000 ≤ ns ∧ ns < 10000)) (s : State) : Answers (execRstNLow ns s) := by
  fun_cases execRstNLow ns s
  case case2 => omega
  all_goals exact answers_next _

/-- Every command answers, but for the pulse on RST_N that R46 leaves undefined. -/
theorem exec_answers (c : Instr) (hc : ∀ ns, c = .rstNLow ns → ¬(1000 ≤ ns ∧ ns < 10000)) (s : State) :
    Answers (exec c s) := by
  cases c with simp only [exec]
  | rstNLow ns => exact execRstNLow_answers (hc ns rfl) s
  -- The whole meaning is one next state.
  | vresTxFloor | vbatBelowPor | read | write | request | response | wake | hello | baud | auth | close | statq
  | readmap | writemap | readprof | readevt | readstore | ackstore | readsnap | timeset | learn | bgtest | power
  | slotopen | slotdata | slotclose | reload | patchopen | patchdata | patchclose | authLockoutEnd | vddioLoss
  | vddioRestore | alarmPulseEnd =>
    exact answers_next _
  -- Work under a timer alone.
  | marksCopy => exact answers_onTimer _ _
  | wardenAreaErase smp => unfold execWardenAreaErase; exact answers_onTimer _ _
  | moduleCheck24h reads radioOk smp => unfold execModuleCheck24h; exact answers_onTimer _ _
  -- One guard, and a next state on either side of it.
  | calStale24h | xt32RestoreCount | clockRecoveryAttempt | lprcCalGateEnd | lprcCal1hExpiry | ledgerRecordDue
  | tlzoneWrite | timeSlewEnd | emissiveActivityEnd | bistableUpdateRequest | bistablePhaseTick | tdcRunEnd
  | tdcCalBlockEnd | tdcCalBlockAbandon | tdcCalEvaluate | pisteStepDue | boostReady | intervalResultPost
  | zeroCheckResult | templateDailyCopy | registrarIntegrate | lockstepDisagreement | availabilityBinClose
  | sramUncorrectable | xbpageSelWrite | bgcmdStart | bgtestDue | replyWindowClose | en13757AckReceived
  | listenWindowClose | brownout | rstNRise | pwrcmdHibernate | pwrcmdOff | wakeRtcCompare | seatRequest
  | chairliftEvaluate | seatRelease | vresSample | vresAbortLevel | chargeSwitchTimeout | curatorWatchdog
  | registrarWatchdog | safeBeaconRetry | hstCsFall | hstWakeEdge | hostUnlistedOpcode | registerWrite
  | ohmueriFrameDiscard | ohmueriSessionTimeout | pendingCommandComplete | irCarrierWake | irEnTimeout | keyRelease
  | keysHeld5s | tamperSample | pulseOutputEmit | lineHeldDetect | lineRelease | i2cStretchTimeout | wakeWord
  | reservoirWaitMet | xt32StartTimeout | ovenOvertemp | pressureRead | temperatureResultPost =>
    exact answers_ite (answers_next _) (answers_next _)
  -- A guard before work under a timer.
  | vitrineCalRetry | displayIdleTimeout | tdcCalRetry | tdcNoPass2calint | fastSequenceTimeout | minuteSealTimeout
  | replyWindowOpen | uploadDue | deputyPromotion | handoverTransferStart | handoverTransferEnd | handoverH4Check
  | legacyTelegramDue | joinSend | handoverChoice =>
    exact answers_ite (answers_next _) (answers_onTimer _ _)
  | searchRetryDue | fallbackTelegramDue =>
    exact answers_ite (answers_onTimer _ _) (answers_next _)
  | segmentTestEnd =>
    exact answers_ite (answers_ite (answers_onTimer _ _) (answers_next _)) (answers_next _)
  -- Guards in turn.
  | xt32Stop | lprcCheck | tdcCalDue | synthLockTimeout | porRelease | brownoutRecovery | signalWatchdog
  | hostWakePattern | pulseInputEdge | xt32Running | emissiveFrame | linkWatchdog =>
    exact answers_ite (answers_next _) (answers_ite (answers_next _) (answers_next _))
  | glassFrame =>
    exact answers_ite (answers_next _) (answers_ite (answers_ite (answers_next _) (answers_next _)) (answers_next _))
  | reservoirRiseTimed | pllLockTimeout | keyPress | readerFrameHeard =>
    exact answers_ite (answers_next _) (answers_ite (answers_next _) (answers_ite (answers_next _) (answers_next _)))
  -- The requests of a reader's session share one meaning.
  | sessionReadmap | sessionReadprof | sessionReadevt | sessionReadstore | sessionAckstore | sessionTime
  | sessionClose =>
    exact sessionRequest_answers _ _
  -- What the command finds in the state decides: the branches of its meaning, one by one.
  | vitrineCalDue cause smp => fun_cases execVitrineCalDue cause smp s <;> exact answers_next _
  | vitrdySet => fun_cases execVitrdySet s <;> exact answers_next _
  | vitrdyLost => fun_cases execVitrdyLost s <;> exact answers_next _
  | vitrdyTimeout => fun_cases execVitrdyTimeout s <;> exact answers_next _
  | vitrineDeferLimit => fun_cases execVitrineDeferLimit s <;> exact answers_next _
  | vitrineGateEnd gate x => fun_cases execVitrineGateEnd gate x s <;> exact answers_next _
  | vitrineCalCompute => fun_cases execVitrineCalCompute s <;> exact answers_next _
  | tlzoneApply => fun_cases execTlzoneApply s <;> exact answers_next _
  | bistableParkDischarge => fun_cases execBistableParkDischarge s <;> exact answers_next _
  | tdcStart ch sync fine => fun_cases execTdcStart ch sync fine s <;> exact answers_next _
  | tdcStopCrossing ch count fine level => fun_cases execTdcStopCrossing ch count fine level s <;> exact answers_next _
  | boostTimeout mv => fun_cases execBoostTimeout mv s <;> exact answers_next _
  | shotFire mv ilim => fun_cases execShotFire mv ilim s <;> exact answers_next _
  | shotCaptureProcess cap => fun_cases execShotCaptureProcess cap s <;> exact answers_next _
  | retryShot path drive => fun_cases execRetryShot path drive s <;> exact answers_next _
  | xbCollision agent a b => fun_cases execXbCollision agent a b s <;> exact answers_next _
  | bgSlice rows => fun_cases execBgSlice rows s <;> exact answers_next _
  | bgWindowRelease failed => fun_cases execBgWindowRelease failed s <;> exact answers_next _
  | bgUrgentAccess => fun_cases execBgUrgentAccess s <;> exact answers_next _
  | bgPassOverdue => fun_cases execBgPassOverdue s <;> simp only [answers_next, answers_onTimer]
  | archiveOpComplete ok => fun_cases execArchiveOpComplete ok s <;> exact answers_next _
  | eraseSuspend => fun_cases execEraseSuspend s <;> exact answers_next _
  | transmissionStart =>
    fun_cases execTransmissionStart s
    · exact answers_next _
    · exact answers_done _
    · exact answers_next _
  | transmissionEnd smp => fun_cases execTransmissionEnd smp s <;> exact answers_next _
  | sequencerCommand smp =>
    refine answers_ite ?_ (answers_next s)
    dsimp only
    split
    · exact answers_ite (answers_next _) (answers_next _)
    · exact answers_next _
  | sequencerTakeover => fun_cases execSequencerTakeover s <;> exact answers_next _
  | superframeBoundary smp => fun_cases execSuperframeBoundary smp s <;> simp only [answers_next, answers_onTimer]
  | beaconRequest smp => fun_cases execBeaconRequest smp s <;> simp only [answers_next, answers_onTimer]
  | beacon f => fun_cases execBeacon f s <;> exact answers_next _
  | beaconWindowOpen => fun_cases execBeaconWindowOpen s <;> simp only [answers_next, answers_onTimer]
  | ackWindowOpen => fun_cases execAckWindowOpen s <;> exact answers_next _
  | ack f => fun_cases execAck f s <;> exact answers_next _
  | ackWindowClose => fun_cases execAckWindowClose s <;> exact answers_next _
  | searchEnd => fun_cases execSearchEnd s <;> simp only [answers_next, answers_onTimer]
  | poll f => fun_cases execPoll f s <;> exact answers_next _
  | pollSlotEnd => fun_cases execPollSlotEnd s <;> exact answers_next _
  | join f => fun_cases execJoin f s <;> exact answers_next _
  | memberRemoval index => fun_cases execMemberRemoval index s <;> simp only [answers_next, answers_onTimer]
  | handover f => fun_cases execHandover f s <;> exact answers_next _
  | listenWindowOpen => fun_cases execListenWindowOpen s <;> simp only [answers_next, answers_onTimer]
  | extestEntry => fun_cases execExtestEntry s <;> exact answers_next _
  | extestExit => fun_cases execExtestExit s <;> exact answers_next _
  | stateRequestEvaluate => fun_cases execStateRequestEvaluate s <;> exact answers_next _
  | heldRequestReissue => fun_cases execHeldRequestReissue s <;> exact answers_next _
  | stateEntryComplete => fun_cases execStateEntryComplete s <;> exact answers_next _
  | seatDeadlineDrop unit => fun_cases execSeatDeadlineDrop unit s <;> exact answers_next _
  | wardenWatchdog => fun_cases execWardenWatchdog s <;> exact answers_next _
  | shadowCommitComplete smp => fun_cases execShadowCommitComplete smp s <;> exact answers_next _
  | alarmTelegramSeatTimeout => fun_cases execAlarmTelegramSeatTimeout s <;> exact answers_next _
  | faultTelegramDue smp => fun_cases execFaultTelegramDue smp s <;> exact answers_next _
  | reverseDayCheck => fun_cases execReverseDayCheck s <;> simp only [answers_next, answers_onTimer]
  | standingEventExpiry => fun_cases execStandingEventExpiry s <;> exact answers_next _
  | baudSwitch => fun_cases execBaudSwitch s <;> exact answers_next _
  | reloadSwitch => fun_cases execReloadSwitch s <;> exact answers_next _
  | reloadCommitDone => fun_cases execReloadCommitDone s <;> exact answers_next _
  | sessionHello smp =>
    unfold execSessionHello
    refine answers_ite (answers_next s) ?_
    extract_lets
    split
    · exact answers_next _
    · exact answers_next _
  | sessionTimeout => fun_cases execSessionTimeout s <;> exact answers_next _
  | readerSessionResponse f => fun_cases execReaderSessionResponse f s <;> exact answers_next _
  | coldStartStageEnd rep => fun_cases execColdStartStageEnd rep s <;> exact answers_next _
  | otpProgramWaitMet smp =>
    refine answers_ite (answers_next s) (answers_ite (answers_next _) ?_)
    split
    · exact answers_next _
    · exact answers_next _
    · exact answers_next _
  | otpProgramWaitTimeout => fun_cases execOtpProgramWaitTimeout s <;> exact answers_next _
  | stageSeatTimeout => fun_cases execStageSeatTimeout s <;> exact answers_next _
  | hibernateStartStepEnd rep => fun_cases execHibernateStartStepEnd rep s <;> exact answers_next _
  | beaconWindowClose => fun_cases execBeaconWindowClose s <;> exact answers_next _

/-- Settles O4: the pulse is the one command that may not answer, and between 1 and 10 µs it stops. -/
theorem onlyTheUndefinedResetPulseStops : Obligations.OnlyTheUndefinedResetPulseStops := by
  refine ⟨fun c s => ?_, fun ns s hlo hhi => exec_rstNLow_undefined hlo hhi s⟩
  by_cases hpulse : ∃ ns, c = .rstNLow ns ∧ 1000 ≤ ns ∧ ns < 10000
  · exact .inr hpulse
  · exact .inl (exec_answers c (fun ns hc hns => hpulse ⟨ns, hc, hns⟩) s)

end Sys2Proof.Machine
end

section
/-! SUPPORT. The OTP key slots: what a step does to them and which key of an image they accept; the statements
StepNeverTakesAKeySlotBack and SignerKeyIsAcceptedByAnActiveSlotOnly. -/

namespace Sys2Proof.Machine

/-! ## Their life (R65) -/

theorem step_of_pending_nil {s : State} (h : s.pending = []) : step s = .next (tick s) := by
  unfold step
  rw [h]

/-- A step that answers a next state keeps what every command keeps, from a state `u` with the bank, the event queue and OTP of
`s`: on an empty queue `u` is the tick itself, else it is `s` without the command taken from the front. -/
theorem step_keeps {s t : State} (h : step s = .next t) :
    ∃ u, Keeps u t ∧ u.xb = s.xb ∧ u.evq = s.evq ∧ u.nv = s.nv := by
  cases hqueue : s.pending with
  | nil =>
    rw [step_of_pending_nil hqueue] at h
    cases h
    obtain ⟨hxb, hevq, hnv, -⟩ := tick_frame s
    exact ⟨tick s, Keeps.refl _, hxb, hevq, hnv⟩
  | cons c rest =>
    rw [step_of_pending_cons hqueue] at h
    exact ⟨{ s with pending := rest }, exec_keeps c _ t h, rfl, rfl, rfl⟩

/-- Settles O7: the tick leaves OTP as it is, and the life of the key slots is one of the things that every command keeps
(`exec_keeps`). -/
theorem stepNeverTakesAKeySlotBack : Obligations.StepNeverTakesAKeySlotBack := by
  intro s t h
  obtain ⟨u, hkeeps, -, -, hnv⟩ := step_keeps h
  intro i
  have hforward : u.nv.otp[i].1.rank ≤ t.nv.otp[i].1.rank := hkeeps.otp i
  rwa [hnv] at hforward

/-! ## The signer's key (R66) -/

/-- The list of the slots holds one in state `k` with the hash `h` exactly where one of the four is such a slot. -/
theorem slots_any_iff (o : OtpSlots) (k : KeySlot) (h : BitVec 256) :
    o.toList.any (fun x => x.1 == k && x.2 == h) = true ↔ ∃ i : Fin 4, o[i].1 = k ∧ o[i].2 = h := by
  rw [Vector.any_toList, Vector.any_eq_true, Fin.exists_iff]
  simp

theorem signer_isSome_iff (o : OtpSlots) (h : BitVec 256) :
    (o.signer h).isSome = true ↔ ∃ i : Fin 4, o[i].1 = .active ∧ o[i].2 = h := by
  unfold OtpSlots.signer
  rw [List.findIdx?_isSome, slots_any_iff]

/-- Outside the case of R67, what R66 asks for decides. -/
theorem accepts_iff {o : OtpSlots} (hfresh : o.fresh = false) (h : BitVec 256) :
    o.accepts h = true ↔
      (∃ i : Fin 4, o[i].1 = .active ∧ o[i].2 = h) ∧ ¬ ∃ i : Fin 4, o[i].1 = .revoked ∧ o[i].2 = h := by
  rw [← signer_isSome_iff, ← slots_any_iff]
  simp [OtpSlots.accepts, hfresh]

/-- Settles O54: an accepted key has an ACTIVE slot with its hash and no REVOKED one (`accepts_iff`), which a key of a REVOKED
slot and a key that no slot holds each contradict. -/
theorem signerKeyIsAcceptedByAnActiveSlotOnly : Obligations.SignerKeyIsAcceptedByAnActiveSlotOnly := by
  intro o h hfresh
  refine ⟨accepts_iff hfresh h, fun hrevoked => ?_, fun hnone => ?_⟩
  · refine Bool.eq_false_iff.mpr fun haccepts => ?_
    exact ((accepts_iff hfresh h).mp haccepts).2 hrevoked
  · refine Bool.eq_false_iff.mpr fun haccepts => ?_
    obtain ⟨⟨i, -, hhash⟩, -⟩ := (accepts_iff hfresh h).mp haccepts
    exact hnone ⟨i, hhash⟩

end Sys2Proof.Machine
end

section
/-! SUPPORT. The state after reset, the commands of a start, and safe-beacon's telegram and retry; the statements
ResetBeginsAColdStartWithCauseOne, StartCommandsRunTheirStages and SafeBeaconSendsItsTelegramAndTriesAgain. -/

namespace Sys2Proof.Machine

/-! ## Reset (R87, R119) -/

theorem reset_otp_empty (i : Fin 4) : State.reset.nv.otp[i].1 = .empty := by
  revert i
  decide

/-- Settles O11: each clause reads one part of the state after reset; its bank of exchange lists no byte. -/
theorem resetBeginsAColdStartWithCauseOne : Obligations.ResetBeginsAColdStartWithCauseOne :=
  ⟨rfl, rfl, rfl, rfl, rfl, rfl, rfl, rfl, rfl, rfl, rfl, fun _ => rfl, reset_otp_empty, rfl⟩

/-! ## What a start waits for -/

/-- A start runs on the AON domain. -/
theorem aon_of_starting {s : State} (h : s.starting = true) : s.aon = true := by
  unfold State.starting at h
  unfold State.aon
  split at h
  · rename_i hphase; rw [hphase]
  · rename_i hphase; rw [hphase]
  · contradiction

/-! ## The commands of a start (R87 to R91, R95, R99) -/

theorem exec_coldStartStageEnd {n : Nat} {s : State} (hphase : s.phase = .cold n) (hwait : s.start.wait = .none)
    (hproc : s.flt.proc = none) (rep : StageReport) : exec (.coldStartStageEnd rep) s = done (endStage n rep s) := by
  show execColdStartStageEnd rep s = _
  unfold execColdStartStageEnd
  rw [hphase]
  exact if_pos (by simp [hwait, hproc])

theorem exec_reservoirWaitMet {s : State} {smp : Sample} (hstart : s.starting = true) (hwait : s.start.wait = .reservoir)
    (hproc : s.flt.proc = none) (hmet : reservoirMet (sample smp s) = true) :
    exec (.reservoirWaitMet smp) s = done (beginStage 3 (addVresWait (sample smp s))) :=
  (if_neg (by simp [hstart, hwait, hproc])).trans (congrArg done (if_pos hmet))

theorem exec_xt32Running {s : State} (haon : s.aon = true) (hok : s.r.clk.clkstatXt32ok = true) :
    exec .xt32Running s = if s.starting && s.start.wait == .xt32 && s.flt.proc.isNone
      then done (endXtWait { s with ck.xtRun := true }) else .next { s with ck.xtRun := true } :=
  if_neg (by simp [haon, hok])

theorem exec_xt32Running_ends_wait {s : State} (haon : s.aon = true) (hok : s.r.clk.clkstatXt32ok = true)
    (hstart : s.starting = true) (hwait : s.start.wait = .xt32) (hproc : s.flt.proc = none) :
    exec .xt32Running s = done (endXtWait { s with ck.xtRun := true }) :=
  (exec_xt32Running haon hok).trans (if_pos (by simp [hstart, hwait, hproc]))

theorem exec_xt32Running_notes {s : State} (haon : s.aon = true) (hok : s.r.clk.clkstatXt32ok = true)
    (h : s.starting = false ∨ s.start.wait ≠ .xt32) : exec .xt32Running s = .next { s with ck.xtRun := true } :=
  (exec_xt32Running haon hok).trans (if_neg (by rcases h with h | h <;> simp [h]))

/-- The clock is lost in every state, and a start that waits for it goes on: the loss moves nothing that tells such a start. -/
theorem exec_xt32StartTimeout {s : State} (haon : s.aon = true) (hok : s.r.clk.clkstatXt32ok = true) (hrun : s.ck.xtRun = false) :
    exec .xt32StartTimeout s = done (if s.starting && s.start.wait == .xt32 && s.flt.proc.isNone
      then endXtWait { loseXt32 0x0201 (w32 (civS s)) s with start.noXt32 := true }
      else { loseXt32 0x0201 (w32 (civS s)) s with start.noXt32 := true }) := by
  obtain ⟨hstart, hproc, hphase⟩ := loseXt32_parts 0x0201 (w32 (civS s)) s
  have hstarting : ({ loseXt32 0x0201 (w32 (civS s)) s with start.noXt32 := true } : State).starting = s.starting :=
    starting_of_phase hphase
  show execXt32StartTimeout s = _
  unfold execXt32StartTimeout
  rw [if_neg (by simp [haon, hok, hrun])]
  dsimp only
  rw [hstarting, hstart, hproc]

theorem exec_xt32StartTimeout_ends_wait {s : State} (haon : s.aon = true) (hok : s.r.clk.clkstatXt32ok = true)
    (hrun : s.ck.xtRun = false) (hstart : s.starting = true) (hwait : s.start.wait = .xt32) (hproc : s.flt.proc = none) :
    exec .xt32StartTimeout s = done (endXtWait { loseXt32 0x0201 (w32 (civS s)) s with start.noXt32 := true }) :=
  (exec_xt32StartTimeout haon hok hrun).trans (congrArg done (if_pos (by simp [hstart, hwait, hproc])))

theorem exec_xt32StartTimeout_elsewhere {s : State} (haon : s.aon = true) (hok : s.r.clk.clkstatXt32ok = true)
    (hrun : s.ck.xtRun = false) (hwait : s.start.wait ≠ .xt32) :
    exec .xt32StartTimeout s = done { loseXt32 0x0201 (w32 (civS s)) s with start.noXt32 := true } :=
  (exec_xt32StartTimeout haon hok hrun).trans (congrArg done (if_neg (by simp [hwait])))

section
variable {s : State} {i : Nat} {c : Cat} (hwait : s.start.wait = .otp) (hproc : s.flt.proc = none)
  (hphase : s.phase = .cold 7) (hchosen : s.start.chosen = some (i, c))
include hwait hproc hphase hchosen

/-- A sample moves neither the stage nor the image that was chosen, so the wait of stage 7 ends with that image (R95). -/
theorem exec_otpProgramWaitMet {smp : Sample} (hready : otpReady (sample smp s) = true) :
    exec (.otpProgramWaitMet smp) s = done (afterStage 7 (takeImage i c true (addVresWait (sample smp s)))) := by
  obtain ⟨hphase', hchosen', -⟩ := (sample_drifts (x := smp) (Drifts.refl s)).parts
  show execOtpProgramWaitMet smp s = _
  unfold execOtpProgramWaitMet
  rw [if_neg (by simp [hwait, hproc])]
  dsimp only
  rw [if_neg (by simp [hready]), hphase', hphase, hchosen', hchosen]
  rfl

theorem exec_otpProgramWaitTimeout : exec .otpProgramWaitTimeout s = done
    (let u := { addVresWait s with start.wait := .none, start.chosen := none }
     if keysEmpty u then selectImage (rejectImage i u) else afterStage 7 (takeImage i c false u)) := by
  show execOtpProgramWaitTimeout s = _
  unfold execOtpProgramWaitTimeout
  rw [if_neg (by simp [hwait, hproc]), hphase, hchosen]
  rfl

end

/-- The seat of the stage is dropped, which leaves the stage as it is; the stage is told, and fails (R91). -/
theorem exec_stageSeatTimeout {n : Nat} {x : Seat} {s : State} (hphase : s.phase = .cold n) (hwait : s.start.wait = .seat)
    (hproc : s.flt.proc = none) (hseat : s.cl.waiting.find? (fun y => y.unit == 0) = some x) :
    exec .stageSeatTimeout s = done (fatal n 0x00E0 [(n : Int)] (dropRequest x 1 s)) := by
  have hphase' : (dropRequest x 1 s).phase = .cold n := (dropRequest_works (Works.refl s)).drifts.parts.1.trans hphase
  have htold : stageSeatDropped x s = fatal n 0x00E0 [(n : Int)] (dropRequest x 1 s) := by
    unfold stageSeatDropped stageTold
    rw [hphase']
  show execStageSeatTimeout s = _
  unfold execStageSeatTimeout
  rw [hseat, ← htold]
  exact if_pos (by simp [hwait, hproc])

theorem exec_hibernateStartStepEnd {n : Nat} {s : State} (hphase : s.phase = .hib n) (hwait : s.start.wait = .none)
    (hproc : s.flt.proc = none) (rep : StageReport) :
    exec (.hibernateStartStepEnd rep) s = done (if (judgeStep n rep (countStage rep s)).phase == .hib n
      then nextHibStep (n + 1) (judgeStep n rep (countStage rep s)) else judgeStep n rep (countStage rep s)) := by
  show execHibernateStartStepEnd rep s = _
  unfold execHibernateStartStepEnd
  rw [hphase]
  exact if_neg (by simp [hwait, hproc])

/-- Settles O16: each clause is its command's equation under the clause's conditions. -/
theorem startCommandsRunTheirStages : Obligations.StartCommandsRunTheirStages := by
  intro s rep smp n
  refine ⟨fun hphase hwait hproc => exec_coldStartStageEnd hphase hwait hproc rep,
    fun hstart hwait hproc hmet => exec_reservoirWaitMet hstart hwait hproc hmet,
    fun haon hok => ⟨exec_xt32Running_ends_wait haon hok, exec_xt32Running_notes haon hok⟩,
    fun haon hok hrun => ⟨exec_xt32StartTimeout_ends_wait haon hok hrun, exec_xt32StartTimeout_elsewhere haon hok hrun⟩,
    fun i c hwait hproc hphase hchosen => ⟨exec_otpProgramWaitMet hwait hproc hphase hchosen,
      exec_otpProgramWaitTimeout hwait hproc hphase hchosen⟩, ?seat, ?step⟩
  case seat =>
    intro x hphase hwait hproc hseat
    have hphase' : (dropRequest x 1 s).phase = .cold n := (dropRequest_works (Works.refl s)).drifts.parts.1.trans hphase
    rw [phase_eta hphase']
    exact exec_stageSeatTimeout hphase hwait hproc hseat
  case step =>
    intro hphase hproc hwait hstays
    exact (exec_hibernateStartStepEnd hphase hwait hproc rep).trans (congrArg done (if_pos (by simp [hstays])))

/-! ## Safe-beacon (R98, R104, R106) -/

/-- The state at which a fault telegram falls due: the device woken by the timer, its interval begun again (R104). -/
def atTelegram (smp : Sample) (s : State) : State :=
  { wake 1 (sample smp s) with sb.telFrom := (wake 1 (sample smp s)).now, sb.first := false, pw.choose := true }

theorem exec_faultTelegramDue {s : State} (hsafe : s.safe = true) (hproc : s.flt.proc = none) (smp : Sample) :
    exec (.faultTelegramDue smp) s =
      if radioSilent (atTelegram smp s) || faultUnderWay (atTelegram smp s) then done (atTelegram smp s)
      else done (sequencerSend (faultTelegram (atTelegram smp s)).1 (faultTelegram (atTelegram smp s)).2) := by
  show execFaultTelegramDue smp s = _
  unfold execFaultTelegramDue atTelegram
  rw [if_neg (by simp [hsafe, hproc])]

theorem exec_safeBeaconRetry {s : State} (hsafe : s.safe = true) (hproc : s.flt.proc = none) (hfails : s.r.sys.sbstatFails.toNat < 3) :
    exec .safeBeaconRetry s = .next (leaveSafeBeacon 6 { s with r.sys.wdstart := 0 }) :=
  if_pos (by simp [hsafe, hproc, hfails])

/-- Settles O17: the telegram goes out where neither the front end nor an earlier telegram stands in its way. -/
theorem safeBeaconSendsItsTelegramAndTriesAgain : Obligations.SafeBeaconSendsItsTelegramAndTriesAgain := by
  intro s smp hsafe hproc
  refine ⟨?telegram, exec_safeBeaconRetry hsafe hproc⟩
  case telegram =>
    exact ⟨fun hradio hfree => (exec_faultTelegramDue hsafe hproc smp).trans (if_neg (by simpa using ⟨hradio, hfree⟩)),
      fun hradio => (exec_faultTelegramDue hsafe hproc smp).trans (if_pos (by simpa using .inl hradio))⟩

end Sys2Proof.Machine
end

section
/-! SUPPORT. What the commands of a start and of the clocks leave in the words of the next state; the statement
StartAndClockCommandsLeaveTheirWords. -/

namespace Sys2Proof.Machine

/-! ## Reading a part of the state through its frames -/

section
variable {α : Type} {s t : State}

/-- What standing work does not move reads as before it (R112). -/
theorem Works.reads (h : Works s t) (f : State → α) (hf : ∀ u v : State, f (u.withWork v) = f u := by intros; rfl) : f t = f s :=
  (congrArg f h).trans (hf s t)

/-- A change that standing work commutes with keeps the difference of two states a matter of standing work. -/
theorem Works.map (h : Works s t) (f : State → State)
    (hf : ∀ u v : State, f (u.withWork v) = (f u).withWork (f v) := by intros; rfl) : Works (f s) (f t) :=
  (congrArg f h).trans (hf s t)

/-- What no drift moves reads as before it. -/
theorem Drifts.reads (h : Drifts s t) (f : State → α) (hf : ∀ u v : State, f (u.withDrift v) = f u := by intros; rfl) : f t = f s :=
  (congrArg f h).trans (hf s t)

/-- What no log moves reads as before it. -/
theorem Logs.reads (h : Logs s t) (f : State → α) (hf : ∀ u v : State, f (u.withLog v) = f u := by intros; rfl) : f t = f s :=
  (congrArg f h).trans (hf s t)

end

/-- A command that ends with its standing work answers a state that differs from `v` by standing work, where its own work does. -/
theorem next_works {c : Instr} {s u v : State} (h : exec c s = done u) (hwork : Works v u) : ∃ t, exec c s = .next t ∧ Works v t :=
  ⟨settle u, h, settle_works hwork⟩

/-- A command that ends with its standing work answers a state that reads as `u` wherever that work does not move it. -/
theorem next_of_done {c : Instr} {s u : State} (h : exec c s = done u) : ∃ t, exec c s = .next t ∧ Works u t :=
  next_works h (Works.refl u)

/-! ## A segment of the ledger (R155) -/

theorem segmented_r (f : State → State) (s : State) : (segmented f s).r = (f s).r := by
  obtain ⟨-, hr, -⟩ := accounted_parts s (f s)
  exact hr

theorem segmented_start (f : State → State) (s : State) : (segmented f s).start = (f s).start := by
  obtain ⟨-, -, -, -, -, -, hstart, -⟩ := accounted_parts s (f s)
  exact hstart

theorem segmented_ck (f : State → State) (s : State) : (segmented f s).ck = (f s).ck := by
  unfold segmented accounted closeSegment
  split <;> rfl

theorem segmented_now (f : State → State) (s : State) : (segmented f s).now = (f s).now := by
  unfold segmented accounted closeSegment
  split <;> rfl

/-! ## A sample leaves the start as it is (R122) -/

theorem checkVresLow_start (v : Nat) (s : State) : (checkVresLow v s).start = s.start := by
  unfold checkVresLow
  split
  · rfl
  · split
    · rfl
    · exact (logEvent_logs _ _ _).reads (·.start)

theorem checkFallback_start (s : State) : (checkFallback s).start = s.start := by
  fun_cases checkFallback s <;> rfl

theorem checkLprc_start (s : State) : (checkLprc s).start = s.start := by
  fun_cases checkLprc s <;> rfl

theorem checkCaldt_start (b s : State) : (checkCaldt b s).start = s.start := by
  fun_cases checkCaldt b s <;> rfl

theorem sample_start (x : Sample) (s : State) : (sample x s).start = s.start := by
  unfold sample
  beta_reduce
  generalize hu : checkCaldt _ _ = u
  have hstart : u.start = s.start := by
    rw [← hu, checkCaldt_start, checkLprc_start, checkFallback_start, checkVresLow_start, segmented_start]
  split <;> exact hstart

/-! ## Between stages -/

/-- The end of a stage adds its time, whatever its sample shows (R88). -/
theorem countStage_facts (rep : StageReport) (s : State) :
    (countStage rep s).phase = s.phase ∧ (countStage rep s).start = { s.start with dur := s.start.dur + rep.dur } ∧
    (countStage rep s).r.sys = { s.r.sys with startdur := sat 16 (s.start.dur + rep.dur) } := by
  unfold countStage
  dsimp only
  split
  · exact ⟨(sample_drifts (Drifts.refl _)).reads (·.phase), sample_start _ _, (sample_drifts (Drifts.refl _)).reads (·.r.sys)⟩
  · exact ⟨rfl, rfl, rfl⟩

/-- Where `u` differs from `s` by standing work, so it does with both at the beginning of the same stage or step. -/
theorem Works.atStage {s u : State} (h : Works s u) (p : Phase) :
    Works { s with phase := p, start.waitFrom := s.now } { u with phase := p, start.waitFrom := u.now } :=
  h.map (fun x => { x with phase := p, start.waitFrom := x.now })

/-- A stage of 3 to 14 stands with its wait begun, and its request for a seat is standing work (R91). -/
theorem beginStage_works {n : Nat} (hlo : 3 ≤ n) (hhi : n ≤ 14) {s u : State} (h : Works s u) :
    Works { s with phase := .cold n, start.waitFrom := s.now } (beginStage n u) := by
  unfold beginStage
  rw [if_neg (by omega), if_neg (by omega)]
  exact requestSeat_works (Works.put (h.atStage (.cold n)))

/-- Stages 1 and 2 begin without a seat of their own (R91). -/
theorem beginStage_unseated_works {n : Nat} (hn : n ≤ 2) {s u : State} (h : Works s u) :
    Works { s with phase := .cold n } (beginStage n u) := by
  unfold beginStage
  rw [if_neg (by omega), if_pos hn]
  exact Works.put (h.map (fun x => { x with phase := .cold n }))

theorem beginHibStep_works {n : Nat} (hn : n ≤ 11) {s u : State} (h : Works s u) :
    Works { s with phase := .hib n, start.waitFrom := s.now } (beginHibStep n u) := by
  unfold beginHibStep
  rw [if_neg (by omega)]
  exact requestSeat_works (Works.put (h.atStage (.hib n)))

theorem afterStage_one_works (s : State) : Works { s with phase := .cold 2 } (afterStage 1 s) :=
  beginStage_unseated_works (by decide) (domOff_works (releaseSeat_works (Works.refl s)))

theorem afterStage_seven_works (s : State) : Works { s with phase := .cold 8, start.waitFrom := s.now } (afterStage 7 s) :=
  beginStage_works (by decide) (by decide) (domOff_works (releaseSeat_works (Works.refl s)))

theorem nextHibStep_works {n : Nat} (hn : n ≤ 11) (s : State) :
    Works { s with phase := .hib n, start.waitFrom := s.now } (nextHibStep n s) :=
  beginHibStep_works hn (domOff_works (releaseSeat_works (Works.refl s)))

theorem endXtWait_works (s : State) :
    Works { s with phase := .cold 9, start.waitFrom := s.now, start.xtWait := s.now - s.start.waitFrom
                   r.sys.xtwait := waitMs (s.now - s.start.waitFrom) } (endXtWait s) :=
  beginStage_works (n := 9) (by decide) (by decide) (Works.refl _)

/-- Stage 1 finds nothing, and ends with its time added (R87, R88). -/
theorem endStage_one {s : State} (hphase : s.phase = .cold 1) (hwait : s.start.wait = .none) (rep : StageReport) :
    endStage 1 rep s = afterStage 1 (countStage rep s) := by
  obtain ⟨hphase', hstart, -⟩ := countStage_facts rep s
  exact if_pos (by simp [judgeStage, hphase', hphase, hstart, hwait])

/-! ## The image of stage 7 -/

/-- What the image in force is read by: whether one governs, its Catalogue and its slot. -/
def imageInForce (s : State) : Bool × Cat × Option Nat := (s.governs, s.cat, s.active)

theorem initPath_image (k : Nat) (s : State) : imageInForce (initPath k s) = imageInForce s := rfl

theorem initPath_foldl_image (ks : List Nat) (s : State) :
    imageInForce (ks.foldl (fun s k => initPath k s) s) = imageInForce s := by
  induction ks generalizing s with
  | nil => rfl
  | cons k ks ih => exact (ih (initPath k s)).trans (initPath_image k s)

theorem restoreClass_image (s : State) : imageInForce (restoreClass s) = imageInForce s := by
  fun_cases restoreClass s <;> rfl

theorem initPaths_image (s : State) : imageInForce (initPaths s) = imageInForce s :=
  (initPath_foldl_image _ _).trans (restoreClass_image s)

theorem resetSwap_image (s : State) : imageInForce (resetSwap s) = imageInForce s :=
  (writeObject_works (Works.refl _)).reads imageInForce

theorem acceptFloor_image (c : Cat) (bs : List Byte) (s : State) : imageInForce (acceptFloor c bs s) = imageInForce s := by
  unfold acceptFloor
  refine ((writeObject_works (Works.refl _)).reads imageInForce).trans ?_
  show imageInForce (ite _ _ _) = _
  split <;> rfl

/-- The image that is taken governs, with its Catalogue, from its slot (R70, R490). -/
theorem takeImage_image (i : Nat) (c : Cat) (keys : Bool) (s : State) :
    imageInForce (takeImage i c keys s) = (true, c, some i) := by
  have hswap : ∀ (b : Bool) (u : State), imageInForce (onlyIf b resetSwap u) = imageInForce u := by
    intro b u
    cases b
    · rfl
    · exact resetSwap_image u
  exact (acceptFloor_image _ _ _).trans ((hswap _ _).trans (initPaths_image _))

/-! ## A fatal finding (R92, R102) -/

/-- What safe-beacon is entered with: the phase, `SBEVT` and `HIRQ.SBCHG`. -/
def beaconWords (s : State) : Phase × BitVec 16 × Bool := (s.phase, s.r.sys.sbevt, s.r.io.hirqSbchg)

theorem enterSafeBeacon_words (event : Nat) (alone : Bool) (s : State) :
    beaconWords (enterSafeBeacon event alone s) = (.safeBeacon alone, BitVec.ofNat 16 event, true) := by
  unfold enterSafeBeacon
  extract_lets u v
  exact (render_works (logEvent_works (tdcDown_works (domOff_works (Works.refl _))))).reads beaconWords

theorem fatal_words (stage event : Nat) (args : List Int) (s : State) :
    beaconWords (fatal stage event args s) = (.safeBeacon (event == 0x0011), BitVec.ofNat 16 event, true) := by
  unfold fatal failStart
  extract_lets u v
  exact ((writeObject_works (Works.refl _)).reads beaconWords).trans (enterSafeBeacon_words _ _ _)

/-! ## Entry to Run (R98) -/

/-- What Run is entered with: the phase, the power state, `HIRQ.START` and the words of the start. -/
def runWords (s : State) : Phase × PState × Bool × SysRegs := (s.phase, s.pw.st, s.r.io.hirqStart, s.r.sys)

theorem enterRun_words {s : State} {w : SysRegs} (hw : s.r.sys = w) :
    runWords (enterRun s) = (.operating, .run, true, { w with wdstart := 0 }) := by
  have hpiste : ∀ u : State, runWords (startPiste u) = runWords u := fun _ => rfl
  have hwork : ∀ u : State, runWords (u |> renewPairs |> startPiste |> startRole) = runWords u := fun u =>
    ((startRole_works (Works.refl _)).reads runWords).trans
      ((hpiste _).trans ((renewPairs_works (Works.refl u)).reads runWords))
  subst hw
  exact hwork _

/-- At stage 15 the failed starts are forgotten, and the device runs (R98). -/
theorem enterRunCold_words (s : State) :
    runWords (enterRunCold s) = (.operating, .run, true, { s.r.sys with wdstart := 0, sbstatFails := 0 }) := by
  have hlog : ∀ args, (logEvent 0x0001 args s).r.sys = s.r.sys := fun args => (logEvent_works (Works.refl s)).reads (·.r.sys)
  have hends : ∀ (a b : Bool) (u : State), Works u (u |> onlyIf a (writeObject 0x0B) |> onlyIf b (logEvent 0x00D3 [])) := fun _ _ u =>
    onlyIf_works (fun _ h => logEvent_works h) (onlyIf_works (fun _ h => writeObject_works h) (Works.refl u))
  unfold enterRunCold
  refine enterRun_words (w := { s.r.sys with sbstatFails := 0 }) ?_
  exact ((hends _ _ _).reads (·.r.sys)).trans (congrArg (fun w : SysRegs => { w with sbstatFails := 0 }) (hlog _))

/-! ## The clocks (R139, R145, R151, R152) -/

/-- The loss of XT32 counts it, and moves neither the time nor what the start has noted (R151). -/
theorem loseXt32_words (code : Nat) (args : List Int) (s : State) :
    (loseXt32 code args s).r.clk.clkstatXt32ok = false ∧
    (loseXt32 code args s).r.clk.xt32loss = inc16 s.r.clk.xt32loss ∧ (loseXt32 code args s).now = s.now := by
  have hwork : ∀ (b : Bool) (u : State),
      Works u (u |> writeObject 0x0B |> logEvent code args |> onlyIf b (logEvent 0x0203 [])) := fun b u =>
    onlyIf_works (fun _ h => logEvent_works h) (logEvent_works (writeObject_works (Works.refl u)))
  exact ⟨((hwork _ _).reads (·.r.clk.clkstatXt32ok)).trans (congrArg (·.clk.clkstatXt32ok) (segmented_r _ _)),
    ((hwork _ _).reads (·.r.clk.xt32loss)).trans (congrArg (·.clk.xt32loss) (segmented_r _ _)),
    ((hwork _ _).reads (·.now)).trans (segmented_now _ _)⟩

/-- Outside a start a failed calibration leaves its result and is counted, as itself and in the log (R145). -/
theorem vitrineFailed_words {s : State} (hstart : s.starting = false) (result : Nat) :
    (vitrineFailed result s).r.clk.vitstatResult = BitVec.ofNat 4 result ∧
    (vitrineFailed result s).r.clk.calfail = inc16 s.r.clk.calfail := by
  have hfails : ∀ {u}, Works u (logEvent 0x0205 [(result : Int)] (vitrineOff u)) := logEvent_works (vitrineOff_works (Works.refl _))
  unfold vitrineFailed
  rw [hstart]
  exact ⟨hfails.reads (·.r.clk.vitstatResult), hfails.reads (·.r.clk.calfail)⟩

theorem exec_vitrdyTimeout {x : VitRun} {s : State} (hrun : s.ck.run = some x) (hdone : x.done = false) (hready : x.ready = none) :
    exec .vitrdyTimeout s = done (vitrineFailed 2 s) := by
  show execVitrdyTimeout s = _
  unfold execVitrdyTimeout
  rw [hrun]
  exact if_pos (by simp [hdone, hready])

theorem exec_ovenOvertemp {x : VitRun} {s : State} (hrun : s.ck.run = some x) (hvit : s.isOn .vit = true) :
    exec .ovenOvertemp s = done (vitrineFailed 5 (logEvent 0x0207 [ovenReading (draw s).1] (draw s).2)) :=
  if_neg (by simp [hrun, hvit])

theorem exec_vitrineDeferLimit {x : VitRun} {s : State} (hrun : s.ck.run = some x) (hdone : x.done = false)
    (hready : x.ready.isSome = true) (hpll : s.r.clk.clkstatPllvit = false) :
    exec .vitrineDeferLimit s = done (vitrineFailed 3 s) := by
  show execVitrineDeferLimit s = _
  unfold execVitrineDeferLimit
  rw [hrun]
  exact if_pos (by simp [hdone, hready, hpll])

theorem exec_xt32Stop {s : State} (haon : s.aon = true) (hok : s.r.clk.clkstatXt32ok = true) :
    exec .xt32Stop s = done (loseXt32 0x0201 (w32 (civS s)) { s with ck.xtRun := false }) :=
  (if_neg (by simp [haon])).trans (if_pos hok)

/-- LPRC is checked while the RTC has a 32 kHz source, and what changes is noted as found (R152). -/
theorem exec_lprcCheck {ok : Bool} {s : State} (haon : s.aon = true) (hsrc : s.r.clk.clkstatRtcsrc ≠ 2)
    (hchange : s.r.clk.clkstatLprcok = !ok) : ∃ u, exec (.lprcCheck ok) s = done u ∧ u.r.clk.clkstatLprcok = ok := by
  have hgo : ¬(!s.aon || s.r.clk.clkstatRtcsrc = 2 || ok = s.r.clk.clkstatLprcok) = true := by simpa [haon, hchange] using hsrc
  cases ok with
  | true => exact ⟨_, (if_neg hgo).trans (if_pos rfl), rfl⟩
  | false =>
    refine ⟨_, (if_neg hgo).trans (if_neg Bool.false_ne_true), ?_⟩
    exact ((onlyIf_works (fun _ h => logEvent_works h) (logEvent_works (Works.refl _))).reads (·.r.clk.clkstatLprcok)).trans
      (congrArg (·.clk.clkstatLprcok) (segmented_r _ _))

theorem exec_clockRecoveryAttempt_lprc {s : State} (haon : s.aon = true) (hsrc : s.r.clk.clkstatRtcsrc = 2) (xt32 : Bool) :
    ∃ u, exec (.clockRecoveryAttempt xt32 true) s = done u ∧ u.r.clk.clkstatLprcok = true ∧ u.r.clk.clkstatRtcsrc = 1 :=
  ⟨_, if_neg (by simp [haon, hsrc]), congrArg (·.clk.clkstatLprcok) (segmented_r _ _),
    congrArg (·.clk.clkstatRtcsrc) (segmented_r _ _)⟩

theorem exec_lprcCalGateEnd {s : State} (haon : s.aon = true) (hrun : s.ck.xtRun = true) (ppm : Int) :
    ∃ u, exec (.lprcCalGateEnd ppm) s = done u ∧
      u.r.clk.lprcerr = BitVec.ofInt 16 (max (-32768) (min ppm 32767)) ∧ u.ck.lprcDue = false :=
  ⟨_, if_neg (by simp [haon, hrun]), congrArg (·.clk.lprcerr) (segmented_r _ _), congrArg (·.lprcDue) (segmented_ck _ _)⟩

theorem exec_calStale24h {s : State} (haon : s.aon = true) (hlogged : s.ck.staleLogged = false) :
    ∃ u, exec .calStale24h s = done u ∧ u.r.clk.clkstatStale = true ∧ u.ck.staleLogged = true :=
  ⟨_, if_neg (by simp [haon, hlogged]),
    ((logEvent_works (Works.refl _)).reads (·.r.clk.clkstatStale)).trans (congrArg (·.clk.clkstatStale) (segmented_r _ _)),
    ((logEvent_works (Works.refl _)).reads (·.ck.staleLogged)).trans (congrArg (·.staleLogged) (segmented_ck _ _))⟩

/-! ## What the next state holds -/

/-- A command that takes the image of stage 7 leaves it in force, at the beginning of stage 8 (R70, R95). -/
theorem next_of_takeImage {cmd : Instr} {s u : State} {i : Nat} {c : Cat} {keys : Bool}
    (hexec : exec cmd s = done (afterStage 7 (takeImage i c keys u))) :
    ∃ t, exec cmd s = .next t ∧ t.phase = .cold 8 ∧ t.governs = true ∧ t.cat = c ∧ t.active = some i := by
  obtain ⟨t, hnext, hwork⟩ := next_works hexec (afterStage_seven_works _)
  have himage : imageInForce t = (true, c, some i) := (hwork.reads imageInForce).trans (takeImage_image i c keys u)
  simp only [imageInForce, Prod.mk.injEq] at himage
  exact ⟨t, hnext, hwork.reads (·.phase), himage⟩

/-- A command that ends a calibration outside a start as failed leaves its result and counts it once (R145). -/
theorem next_of_vitrineFailed {cmd : Instr} {s u : State} {n : Nat} (hexec : exec cmd s = done (vitrineFailed n u))
    (hstart : u.starting = false) (hcalfail : u.r.clk.calfail = s.r.clk.calfail) :
    ∃ t, exec cmd s = .next t ∧ t.r.clk.vitstatResult = BitVec.ofNat 4 n ∧ t.r.clk.calfail = inc16 s.r.clk.calfail := by
  obtain ⟨hresult, hcount⟩ := vitrineFailed_words hstart n
  obtain ⟨t, hnext, hwork⟩ := next_of_done hexec
  exact ⟨t, hnext, (hwork.reads (·.r.clk.vitstatResult)).trans hresult,
    (hwork.reads (·.r.clk.calfail)).trans (hcount.trans (congrArg inc16 hcalfail))⟩

/-- Settles O59: the command's equation gives the state before the standing work, the lemma of its work the words in it, and the
frame of the standing work the same words in the next state. -/
theorem startAndClockCommandsLeaveTheirWords : Obligations.StartAndClockCommandsLeaveTheirWords := by
  intro s rep smp
  refine ⟨?stageOne, ?stageFifteen, ?reservoir, ?xt32, ?otp, ?seat, ?stepOne, ?stepTwelve, ?retry, ?recovery, ?vitrine, ?clocks⟩
  case stageOne =>
    intro hphase hwait hproc
    obtain ⟨-, hstart, hsys⟩ := countStage_facts rep s
    obtain ⟨t, hexec, hwork⟩ := next_works (exec_coldStartStageEnd hphase hwait hproc rep)
      (endStage_one hphase hwait rep ▸ afterStage_one_works (countStage rep s))
    exact ⟨t, hexec, hwork.reads (·.phase), (hwork.reads (·.start.dur)).trans (congrArg (·.dur) hstart),
      (hwork.reads (·.r.sys.startdur)).trans (congrArg (·.startdur) hsys)⟩
  case stageFifteen =>
    intro hphase hwait hproc
    obtain ⟨t, hexec, hwork⟩ := next_of_done (exec_coldStartStageEnd hphase hwait hproc rep)
    have hrun : runWords t = _ := (hwork.reads runWords).trans (enterRunCold_words (countStage rep s))
    simp only [runWords, Prod.mk.injEq] at hrun
    obtain ⟨hphase', hst, hirq, hsys⟩ := hrun
    exact ⟨t, hexec, hphase', hst, hirq, congrArg (·.wdstart) hsys, congrArg (·.sbstatFails) hsys⟩
  case reservoir =>
    intro hstart hwait hproc hmet
    have hsample : Drifts s (sample smp s) := sample_drifts (Drifts.refl s)
    have hvres : (addVresWait (sample smp s)).start.vresWait = s.start.vresWait + (s.now - s.start.waitFrom) :=
      hsample.reads (fun u => u.start.vresWait + (u.now - u.start.waitFrom))
    obtain ⟨t, hexec, hwork⟩ := next_works (exec_reservoirWaitMet hstart hwait hproc hmet)
      (beginStage_works (n := 3) (by decide) (by decide) (Works.refl _))
    exact ⟨t, hexec, hwork.reads (·.phase), (hwork.reads (·.start.vresWait)).trans hvres,
      (hwork.reads (·.r.sys.vreswait)).trans (congrArg waitMs hvres)⟩
  case xt32 =>
    intro hstart hok hwait hproc
    have haon : s.aon = true := aon_of_starting hstart
    constructor
    · obtain ⟨t, hexec, hwork⟩ := next_works (exec_xt32Running_ends_wait haon hok hstart hwait hproc) (endXtWait_works _)
      exact ⟨t, hexec, hwork.reads (·.phase), hwork.reads (·.ck.xtRun), hwork.reads (·.start.xtWait),
        hwork.reads (·.r.sys.xtwait)⟩
    · intro hrun
      obtain ⟨hbad, hloss, hnow⟩ := loseXt32_words 0x0201 (w32 (civS s)) s
      obtain ⟨hstart', -⟩ := loseXt32_parts 0x0201 (w32 (civS s)) s
      have hxt : (loseXt32 0x0201 (w32 (civS s)) s).now - (loseXt32 0x0201 (w32 (civS s)) s).start.waitFrom
          = s.now - s.start.waitFrom := by rw [hnow, hstart']
      obtain ⟨t, hexec, hwork⟩ := next_works (exec_xt32StartTimeout_ends_wait haon hok hrun hstart hwait hproc) (endXtWait_works _)
      exact ⟨t, hexec, hwork.reads (·.phase), hwork.reads (·.start.noXt32), (hwork.reads (·.r.clk.clkstatXt32ok)).trans hbad,
        (hwork.reads (·.r.clk.xt32loss)).trans hloss, (hwork.reads (·.start.xtWait)).trans hxt,
        (hwork.reads (·.r.sys.xtwait)).trans (congrArg waitMs hxt)⟩
  case otp =>
    intro i c hphase hwait hproc hchosen
    refine ⟨fun hready => next_of_takeImage (exec_otpProgramWaitMet hwait hproc hphase hchosen hready), fun hkeys => ?_⟩
    exact next_of_takeImage ((exec_otpProgramWaitTimeout hwait hproc hphase hchosen).trans
      (congrArg done (if_neg (Bool.eq_false_iff.mp hkeys))))
  case seat =>
    intro n x hphase hwait hproc hseat
    obtain ⟨t, hexec, hwork⟩ := next_of_done (exec_stageSeatTimeout hphase hwait hproc hseat)
    have hbeacon : beaconWords t = _ := (hwork.reads beaconWords).trans (fatal_words n 0x00E0 [(n : Int)] (dropRequest x 1 s))
    simp only [beaconWords, Prod.mk.injEq] at hbeacon
    exact ⟨t, hexec, hbeacon⟩
  case stepOne =>
    intro hphase hwait hproc
    obtain ⟨hphase', hstart, -⟩ := countStage_facts rep s
    obtain ⟨t, hexec, hwork⟩ := next_works ((exec_hibernateStartStepEnd hphase hwait hproc rep).trans
        (congrArg done (if_pos (by simp [judgeStep, hphase', hphase]))))
      (nextHibStep_works (by decide) (judgeStep 1 rep (countStage rep s)))
    exact ⟨t, hexec, hwork.reads (·.phase), (hwork.reads (·.start.dur)).trans (congrArg (·.dur) hstart)⟩
  case stepTwelve =>
    intro hphase hwait hproc
    have hrun : runWords (judgeStep 12 rep (countStage rep s)) = _ := enterRun_words rfl
    have hleft : (judgeStep 12 rep (countStage rep s)).phase = .operating := congrArg (·.1) hrun
    obtain ⟨t, hexec, hwork⟩ := next_of_done ((exec_hibernateStartStepEnd hphase hwait hproc rep).trans
      (congrArg done (if_neg (by simp [hleft]))))
    have hrun' : runWords t = _ := (hwork.reads runWords).trans hrun
    simp only [runWords, Prod.mk.injEq] at hrun'
    obtain ⟨hphase', hst, hirq, -⟩ := hrun'
    exact ⟨t, hexec, hphase', hst, hirq⟩
  case retry =>
    intro hsafe hproc hfails
    obtain ⟨hphase, hcause, -⟩ := coldStart_facts 6 { s with r.sys.wdstart := 0 }
    exact ⟨_, exec_safeBeaconRetry hsafe hproc hfails, hphase, hcause, rfl⟩
  case recovery =>
    intro hphase hlow htap
    obtain ⟨hphase', hcause, -⟩ := coldStart_facts 9 s
    exact ⟨_, (exec_brownoutRecovery_leaves hphase hlow).trans (congrArg _ (leaveHold_coldStart htap 9)), hphase', hcause⟩
  case vitrine =>
    intro x hrun hdone hstart
    have hlog : ∀ args, Works s (logEvent 0x0207 args (draw s).2) := fun args => logEvent_works (draw_works (Works.refl s))
    exact ⟨fun hready => next_of_vitrineFailed (exec_vitrdyTimeout hrun hdone hready) hstart rfl,
      fun hvit => next_of_vitrineFailed (exec_ovenOvertemp hrun hvit) ((starting_of_phase ((hlog _).reads (·.phase))).trans hstart)
        ((hlog _).reads (·.r.clk.calfail)),
      fun hready hpll => next_of_vitrineFailed (exec_vitrineDeferLimit hrun hdone hready hpll) hstart rfl⟩
  case clocks =>
    intro haon
    refine ⟨fun hok => ?_, fun ok hsrc hchange => ?_, fun xt32 hsrc => ?_, fun ppm hrun => ?_, fun hlogged => ?_⟩
    · obtain ⟨hbad, hloss, -⟩ := loseXt32_words 0x0201 (w32 (civS s)) { s with ck.xtRun := false }
      obtain ⟨t, hexec, hwork⟩ := next_of_done (exec_xt32Stop haon hok)
      exact ⟨t, hexec, (hwork.reads (·.r.clk.clkstatXt32ok)).trans hbad, (hwork.reads (·.r.clk.xt32loss)).trans hloss⟩
    · obtain ⟨u, hdone, hlprc⟩ := exec_lprcCheck haon hsrc hchange
      obtain ⟨t, hexec, hwork⟩ := next_of_done hdone
      exact ⟨t, hexec, (hwork.reads (·.r.clk.clkstatLprcok)).trans hlprc⟩
    · obtain ⟨u, hdone, hlprc, hrtc⟩ := exec_clockRecoveryAttempt_lprc haon hsrc xt32
      obtain ⟨t, hexec, hwork⟩ := next_of_done hdone
      exact ⟨t, hexec, (hwork.reads (·.r.clk.clkstatLprcok)).trans hlprc, (hwork.reads (·.r.clk.clkstatRtcsrc)).trans hrtc⟩
    · obtain ⟨u, hdone, herr, hdue⟩ := exec_lprcCalGateEnd haon hrun ppm
      obtain ⟨t, hexec, hwork⟩ := next_of_done hdone
      exact ⟨t, hexec, (hwork.reads (·.r.clk.lprcerr)).trans herr, (hwork.reads (·.ck.lprcDue)).trans hdue⟩
    · obtain ⟨u, hdone, hstale, hmarked⟩ := exec_calStale24h haon hlogged
      obtain ⟨t, hexec, hwork⟩ := next_of_done hdone
      exact ⟨t, hexec, (hwork.reads (·.r.clk.clkstatStale)).trans hstale, (hwork.reads (·.ck.staleLogged)).trans hmarked⟩

end Sys2Proof.Machine
end

section
/-! SUPPORT. The frame of the standing work, requests for a power state with the entries that they begin, and the wake events
of Table 5.2; the statements StandingWorkMovesOnlyItsParts, PowerRequestsAreTakenAndEvaluated and WakeEventsWakeTheDevice. -/

namespace Sys2Proof.Machine

/-- Settles O10: each operation of the standing work moves only the parts that `withWork` takes over, and so does their
composition (`settle_works`). -/
theorem standingWorkMovesOnlyItsParts : Obligations.StandingWorkMovesOnlyItsParts := settle_frame

/-! ## Requests for a power state (R114, R115, R459) -/

theorem exec_pwrcmdHibernate {p : Port} {s : State} (hport : portWrites p s = true) (hservice : s.service p = true) :
    exec (.pwrcmdHibernate p) s = done { s with pw.request := some ⟨.hibernate, p⟩ } :=
  if_pos (by simp [hport, hservice])

theorem exec_pwrcmdOff {p : Port} {s : State} (hport : portWrites p s = true) (hservice : s.service p = true) :
    exec (.pwrcmdOff p) s = done { s with pw.request := some ⟨.off, p⟩ } :=
  if_pos (by simp [hport, hservice])

/-- The standing work that follows a noted request leaves it noted. -/
theorem next_of_request_noted {c : Instr} {q : PowerRequest} {s : State} (h : exec c s = done { s with pw.request := some q }) :
    ∃ t, exec c s = .next t ∧ t.pw.request = some q ∧ t = State.withWork { s with pw.request := some q } t := by
  obtain ⟨t, hnext, hwork⟩ := next_of_done h
  exact ⟨t, hnext, hwork.reads (·.pw.request), hwork⟩

theorem exec_stateRequestEvaluate {q : PowerRequest} {s : State} (hreq : s.pw.request = some q) (hop : s.operating = true)
    (hproc : s.flt.proc = none) (hclosed : (s.sv.ses q.port).open_ = false) :
    exec .stateRequestEvaluate s = done (issueRequest q { s with pw.request := none }) := by
  show execStateRequestEvaluate s = _
  unfold execStateRequestEvaluate
  rw [hreq]
  exact if_pos (by simp [hop, hproc, hclosed])

theorem exec_heldRequestReissue {q : PowerRequest} {s : State} (hheld : s.pw.heldReq = some q) (hop : s.operating = true)
    (hproc : s.flt.proc = none) (hrole : s.ln.role ≠ .parent) (hann : s.ln.ho.st ≠ .announced) (htr : s.ln.ho.st ≠ .transferring) :
    exec .heldRequestReissue s = done (issueRequest q { s with pw.heldReq := none }) := by
  show execHeldRequestReissue s = _
  unfold execHeldRequestReissue
  rw [hheld]
  exact if_pos (by simp [hop, hproc, hrole, hann, htr])

section
variable {q : PowerRequest} {s : State} (htarget : s.pw.target = none) (hst : q.target ≠ s.pw.st)
include htarget hst

/-- A request that nothing refuses begins its entry (R115, R116). -/
theorem issueRequest_begins (hfree : refusers q.target { s with pw.issuer := some q.port } = []) :
    issueRequest q s = beginEntryTo q.target
      { s with pw.issuer := some q.port, pw.target := some q.target, pw.latched := none, pw.choose := false } :=
  (issueRequest_free htarget hst.symm (by simp [hfree])).trans (evaluateRequest_free hfree)

/-- A request that another than the parent role or its hand-over refuses is only evaluated (R115, R459). -/
theorem issueRequest_evaluates
    (hother : (refusers q.target { s with pw.issuer := some q.port }).all (fun x => x.2 != 0x42 && x.2 != 0x43) = true) :
    issueRequest q s = evaluateRequest q.target { s with pw.issuer := some q.port } :=
  issueRequest_free htarget hst.symm (fun x hx => by simpa using List.all_eq_true.mp hother x hx)

end

/-! ## The end of an entry (R116 to R118) -/

theorem entered_st {x : PState} (s : State) : (entered x s).pw.st = x := by
  cases x <;> rfl

theorem entered_hibernate_stopped (s : State) : (entered .hibernate s).rg.stopped = true := by
  obtain ⟨-, -, hstopped, -⟩ := stopEngines_facts s
  exact hstopped

section
variable {x : PState} {s : State} (htarget : s.pw.target = some x) (hclosed : x = .hibernate ∨ x = .off → recordsOpen s = false)
include htarget hclosed

/-- With no record open an entry to Off ends in Off. -/
theorem exec_stateEntryComplete_off (hoff : x = .off) :
    exec .stateEntryComplete s = .next (entered x { bgAbort s with pw.target := none, pw.latched := none }) := by
  show execStateEntryComplete s = _
  unfold execStateEntryComplete
  rw [htarget]
  exact (if_neg (by simpa using hclosed)).trans (if_pos (by simp [hoff]))

/-- A wake event that came during the entry wakes the device at its end (R117). -/
theorem exec_stateEntryComplete_latched (hoff : x ≠ .off) {c : Nat} (hlatched : s.pw.latched = some c) :
    exec .stateEntryComplete s =
      (let u := entered x { bgAbort s with pw.target := none, pw.latched := none }
       done (wake c { u with pw.pend := s.pw.pend, r.pwr.latewake := inc16 u.r.pwr.latewake })) := by
  show execStateEntryComplete s = _
  unfold execStateEntryComplete
  rw [htarget, hlatched]
  exact (if_neg (by simpa using hclosed)).trans (if_neg (by simpa using hoff))

/-- With no wake latched a request that waits is evaluated at the end of the entry (R118). -/
theorem exec_stateEntryComplete_pending (hoff : x ≠ .off) (hlatched : s.pw.latched = none) {y : PState}
    (hpend : s.pw.pend = some y) :
    exec .stateEntryComplete s =
      done (stateRequest y { entered x { bgAbort s with pw.target := none, pw.latched := none } with pw.pend := none }) := by
  show execStateEntryComplete s = _
  unfold execStateEntryComplete
  rw [htarget, hlatched, hpend]
  exact (if_neg (by simpa using hclosed)).trans (if_neg (by simpa using hoff))

/-- With neither the device stands in the state that it has entered. -/
theorem exec_stateEntryComplete_stands (hoff : x ≠ .off) (hlatched : s.pw.latched = none) (hpend : s.pw.pend = none) :
    exec .stateEntryComplete s =
      done { entered x { bgAbort s with pw.target := none, pw.latched := none } with pw.pend := none } := by
  show execStateEntryComplete s = _
  unfold execStateEntryComplete
  rw [htarget, hlatched, hpend]
  exact (if_neg (by simpa using hclosed)).trans (if_neg (by simpa using hoff))

end

/-- Settles O18: the commands' equations reach `issueRequest` and `entered`, whose cases are the clauses. -/
theorem powerRequestsAreTakenAndEvaluated : Obligations.PowerRequestsAreTakenAndEvaluated := by
  intro s p
  refine ⟨fun hport hservice => ⟨next_of_request_noted (exec_pwrcmdHibernate hport hservice),
      next_of_request_noted (exec_pwrcmdOff hport hservice)⟩, ?begins, ?refused,
    fun q hreq hop hproc hclosed => exec_stateRequestEvaluate hreq hop hproc hclosed, ?held, ?entry⟩
  case begins =>
    rintro q u hreq hop hproc hclosed htarget - hst rfl hfree
    exact (exec_stateRequestEvaluate hreq hop hproc hclosed).trans (congrArg done (issueRequest_begins htarget hst hfree))
  case refused =>
    rintro q u r hreq hop hproc hclosed htarget - hst rfl hlast hother
    exact ⟨_, (exec_stateRequestEvaluate hreq hop hproc hclosed).trans
      (congrArg done (issueRequest_evaluates htarget hst hother)), evaluateRequest_refused hlast⟩
  case held =>
    intro q hheld hop hproc hrole hann htr
    have hexec := exec_heldRequestReissue hheld hop hproc hrole hann htr
    refine ⟨hexec, ?_⟩
    rintro u htarget - hst rfl hfree
    exact hexec.trans (congrArg done (issueRequest_begins htarget hst hfree))
  case entry =>
    intro x htarget hclosed u
    refine ⟨fun hoff => ?_, fun c hoff hlatched => exec_stateEntryComplete_latched htarget hclosed hoff hlatched,
      fun y hoff hlatched hpend => exec_stateEntryComplete_pending htarget hclosed hoff hlatched hpend,
      fun hoff hlatched hpend => ?_⟩
    · have hexec := exec_stateEntryComplete_off htarget hclosed hoff
      subst hoff
      exact ⟨u, hexec, rfl, rfl, rfl, rfl, rfl, rfl, rfl, rfl⟩
    · have hwork : Works { u with pw.pend := none } (settle { u with pw.pend := none }) := settle_works (Works.refl _)
      refine ⟨_, exec_stateEntryComplete_stands htarget hclosed hoff hlatched hpend, rfl,
        (hwork.reads (·.pw.st)).trans (entered_st _), ?_⟩
      rintro rfl
      exact (hwork.reads (·.rg.stopped)).trans (entered_hibernate_stopped _)

/-! ## Wake events (R113, Table 5.2) -/

/-- From Doze and from Standby every source of Table 5.2 leads to Run. -/
theorem wake_eq_toRun {c : Nat} {s : State} (htarget : s.pw.target = none) (hst : s.pw.st = .doze ∨ s.pw.st = .standby)
    (hlo : 1 ≤ c) (hhi : c ≤ 7) : wake c s = toRun c s := by
  unfold wake
  rw [htarget]
  rcases hst with h | h <;> simp [h, wakes, hlo, hhi]

/-- Run is reached with the source in `WAKESRC`; loading the keys is standing work. -/
theorem toRun_words (c : Nat) (s : State) : (toRun c s).pw.st = .run ∧ (toRun c s).r.pwr.wakesrc = BitVec.ofNat 8 c := by
  have hkeys : ∀ (b : Bool) (u : State), Works u (onlyIf b loadKeys u) := fun _ u =>
    onlyIf_works (fun _ h => loadKeys_works h) (Works.refl u)
  exact ⟨(hkeys _ _).reads (·.pw.st), (hkeys _ _).reads (·.r.pwr.wakesrc)⟩

theorem exec_wakeRtcCompare {s : State} (hop : s.operating = true) (hproc : s.flt.proc = none) :
    exec .wakeRtcCompare s = done (wake 1 s) :=
  if_pos (by simp [hop, hproc])

theorem exec_hstWakeEdge {s : State} (hvddio : s.io.vddio = true) (haon : s.aon = true) (hpresent : s.cat.hostPresent = true) :
    exec .hstWakeEdge s = done (wake 3 s) :=
  if_pos (by simp [hvddio, haon, hpresent])

/-- 0xA5 in exactly eight clocks is the wake pattern (R421). -/
theorem exec_hostWakePattern {s : State} (hvddio : s.io.vddio = true) (haon : s.aon = true) :
    exec (.hostWakePattern 8 0xA5) s = done (wake 4 { s with io.cs := false }) :=
  (if_neg (by simp [hvddio, haon])).trans (if_pos ⟨rfl, rfl⟩)

theorem exec_irCarrierWake {s : State} (haon : s.aon = true) : exec .irCarrierWake s = done (driveIr 2000000 (wake 5 s)) :=
  if_pos haon

theorem exec_irEnTimeout {s : State} {u : Nat} (hir : s.io.irUntil = some u) :
    exec .irEnTimeout s = done { s with io.irUntil := none } :=
  if_pos (by simp [hir])

/-- Settles O19: a wake from Doze or Standby is `toRun`; each command hands its source to `wake`. -/
theorem wakeEventsWakeTheDevice : Obligations.WakeEventsWakeTheDevice := by
  refine ⟨fun s c htarget hst hlo hhi => ?_, fun s => ⟨exec_wakeRtcCompare, exec_hstWakeEdge, exec_hostWakePattern,
    exec_irCarrierWake, fun u hir => next_withWork_of_exec_eq_done (exec_irEnTimeout hir)⟩⟩
  rw [wake_eq_toRun htarget hst hlo (by omega)]
  exact toRun_words c s

end Sys2Proof.Machine
end

section
/-! SUPPORT. Keys, tamper inputs and held lines; the statements KeysTamperInputsAndLinesComplete and
TamperChangeIsConfirmedCountedAndLogged. -/

namespace Sys2Proof.Machine

/-! ## Keys (R439, R450) -/

/-- A device in operation heeds its keys (R97). -/
theorem keysHeeded_of_operating {s : State} (h : s.operating = true) : keysHeeded s = true := by
  simp [keysHeeded, h]

/-- A press in operation wakes the device, and has its effect in what the wake leads to. -/
theorem exec_keyPress {k : Fin 2} {s : State} (haon : s.aon = true) (hheld : keyHeld k.val s = false) (hop : s.operating = true)
    (hwoken : (wake 6 { s with io.key := vupd s.io.key k.val (fun _ => true) }).operating = true) :
    exec (.keyPress k) s =
      done { keyEffect k.val (wake 6 { s with io.key := vupd s.io.key k.val (fun _ => true) }) with pw.choose := true } := by
  have hheeded : keysHeeded { s with io.key := vupd s.io.key k.val (fun _ => true) } = true := keysHeeded_of_operating hop
  exact (if_neg (by simp [haon, hheld])).trans ((if_neg (by simp [hheeded])).trans (if_pos (keysHeeded_of_operating hwoken)))

theorem exec_keyRelease {s : State} (haon : s.aon = true) (k : Fin 2) :
    exec (.keyRelease k) s = done { s with io.key := vupd s.io.key k.val (fun _ => false) } :=
  if_pos haon

theorem exec_keysHeld5s {s : State} (hop : s.operating = true) (h0 : vget s.io.key 0 false = true) (h1 : vget s.io.key 1 false = true)
    (hheld0 : keyHeld 0 s = false) (hheld1 : keyHeld 1 s = false) (hdisplay : s.hasDisplay = true) :
    exec .keysHeld5s s = done { s with dp.segTest := true, dp.renderNow := true } :=
  if_pos (by simp [hop, h0, h1, hheld0, hheld1, hdisplay])

/-! ## Held lines (R450) -/

/-- A line is found held in operation; `HST_CS` only while the port is selected and supplied. -/
theorem exec_lineHeldDetect {n : Fin 7} {s : State} (hop : s.operating = true) (hfree : s.r.flt.pinflt.getLsbD n.val = false)
    (hselect : n.val = 6 → s.io.cs = true ∧ s.io.vddio = true) :
    exec (.lineHeldDetect n) s = done (logEvent 0x1009 [(n.val : Int)]
      { s with r.flt.pinflt := s.r.flt.pinflt ||| BitVec.ofNat 7 (1 <<< n.val) }) :=
  if_neg (by simpa [hop, hfree, -BitVec.getLsbD_eq_getElem] using hselect)

theorem exec_lineRelease {n : Fin 7} {s : State} (hheld : s.r.flt.pinflt.getLsbD n.val = true) :
    exec (.lineRelease n) s = done { s with
      r.flt.pinflt := s.r.flt.pinflt &&& ~~~BitVec.ofNat 7 (1 <<< n.val)
      io.cs := if n.val = 6 then false else s.io.cs
      io.key := if n.val = 4 ∨ n.val = 5 then vupd s.io.key (n.val - 4) (fun _ => false) else s.io.key } :=
  if_pos hheld

/-! ## Tamper inputs (R440) -/

theorem exec_tamperSample {s : State} (h : tamperMonitored s = true) (low0 low1 : Bool) :
    exec (.tamperSample low0 low1) s = done (tamperLine 1 (!low1) (tamperLine 0 low0 s)) :=
  if_pos h

section
variable {s : State} {i : Nat} (hen : s.cat.tampen.testBit i = true) (on : Bool)
include hen

/-- What one sample of an enabled line does: its level is noted, and a change follows where the sample before agrees and the
confirmed state does not. -/
theorem tamperLine_enabled :
    tamperLine i on s = (let u : State := { s with io.tmpRaw := vupd s.io.tmpRaw i (fun _ => on) }
      if vget s.io.tmpRaw i false == on && vget s.io.tmp i false != on then tamperChange i on u else u) :=
  if_neg (by simp [hen])

theorem tamperLine_notes (h : vget s.io.tmpRaw i false ≠ on ∨ vget s.io.tmp i false = on) :
    tamperLine i on s = { s with io.tmpRaw := vupd s.io.tmpRaw i (fun _ => on) } :=
  (tamperLine_enabled hen on).trans (if_neg (by rcases h with h | h <;> simp [h]))

theorem tamperLine_changes (hraw : vget s.io.tmpRaw i false = on) (hconfirmed : vget s.io.tmp i false ≠ on) :
    tamperLine i on s = tamperChange i on { s with io.tmpRaw := vupd s.io.tmpRaw i (fun _ => on) } :=
  (tamperLine_enabled hen on).trans (if_pos (by simp [hraw, hconfirmed]))

end

/-- The four codes of a confirmed change (0x0F07 to 0x0F0A) are tamper events. -/
theorem tamperEvent_isTamper (i : Nat) (on : Bool) (s : State) :
    isTamper (tamperEvent i on s).1 (tamperEvent i on s).2 = true := by
  rcases i with _ | i <;> cases on <;> rfl

/-- Outside Hibernate and an entry to it a change is counted, logged, and a wake of source 7 (R113, R117). -/
theorem tamperChange_awake {s : State} (hst : s.pw.st ≠ .hibernate) (htarget : s.pw.target ≠ some .hibernate) (i : Nat) (on : Bool) :
    tamperChange i on s = wake 7 (logEvent (tamperEvent i on s).1 (tamperEvent i on s).2
      { s with io.tmp := vupd s.io.tmp i (fun _ => on), io.tmpAt := vupd s.io.tmpAt i (fun _ => tlmono s),
               r.io.tmpcnt0 := if i = 0 then inc16 s.r.io.tmpcnt0 else s.r.io.tmpcnt0,
               r.io.tmpcnt1 := if i = 0 then s.r.io.tmpcnt1 else inc16 s.r.io.tmpcnt1 }) :=
  if_neg (by simp [hst, htarget])

/-- Settles O24: the two samples decide between the note and the change. -/
theorem tamperChangeIsConfirmedCountedAndLogged : Obligations.TamperChangeIsConfirmedCountedAndLogged := by
  intro s i on _ hen
  exact ⟨fun hraw => tamperLine_notes hen on (.inl hraw), fun hconfirmed => tamperLine_notes hen on (.inr hconfirmed),
    tamperLine_changes hen on,
    fun hst htarget => ⟨_, tamperChange_awake hst htarget i on, rfl, tamperEvent_isTamper i on s⟩⟩

/-- Settles O22: each clause is its command's equation, with the frame of the standing work where the clause states one. -/
theorem keysTamperInputsAndLinesComplete : Obligations.KeysTamperInputsAndLinesComplete := fun _ =>
  ⟨fun _ haon hheld hop => exec_keyPress haon hheld hop,
    fun k haon => next_withWork_of_exec_eq_done (exec_keyRelease haon k),
    exec_keysHeld5s, fun a b h => exec_tamperSample h a b, fun _ => exec_lineHeldDetect,
    fun _ hheld => next_withWork_of_exec_eq_done (exec_lineRelease hheld)⟩

end Sys2Proof.Machine
end

section
/-! SUPPORT. Requests for a seat of the Chairlift, its commands, and the sample of the AON monitor; the statements
RequestIsDroppedWhenItCouldNeverBeAdmitted, ChairliftCommandsComplete and SampleTakesTheMeasuredWords. -/

namespace Sys2Proof.Machine

/-! ## A request for a seat (R128, R131) -/

/-- Telling a unit of its drop leaves the Chairlift as it is. -/
theorem onDrop_cl (w : Work) (s : State) : (onDrop w s).cl = s.cl := by
  cases w <;> rfl

theorem dropRequest_order (x : Seat) (reason : Nat) (s : State) : (dropRequest x reason s).cl.order = s.cl.order :=
  congrArg (·.order) (onDrop_cl x.work _)

/-- The requests of one cycle are evaluated where one of them was taken. -/
theorem requestsTogether_evaluates {f : State → State} {s : State} (h : (f s).cl.order = s.cl.order + 1) :
    requestsTogether f s = evaluate (f s) :=
  if_neg (by omega)

section
variable {u cls hold : Nat} {deadline : Option Nat} {w : Work} {s : State}

/-- A unit with a request waiting or a seat held asks for no other. -/
theorem requestSeat_of_hasSeat (h : hasSeat u s = true) : requestSeat u cls hold deadline w s = s := by
  have hpost : postSeat u cls hold deadline w s = s := if_pos h
  unfold requestSeat requestsTogether
  simp [hpost]

variable (hseat : hasSeat u s = false)
include hseat

theorem postSeat_drops (hover : oversize u cls hold s = true) :
    postSeat u cls hold deadline w s =
      logEvent 0x0104 [(u : Int), (cls / 10 : Nat), ((hold % 65536 : Nat) : Int), (hold / 65536 : Nat)]
        (dropRequest { unit := u, cls, hold, deadline, at_ := s.now, order := s.cl.order, work := w } 2
          { s with cl.order := s.cl.order + 1 }) :=
  (if_neg (by simp [hseat])).trans (if_pos hover)

theorem postSeat_queues (hfits : oversize u cls hold s = false) :
    postSeat u cls hold deadline w s = { s with
      cl.order := s.cl.order + 1
      cl.waiting := s.cl.waiting ++ [{ unit := u, cls, hold, deadline, at_ := s.now, order := s.cl.order, work := w }] } :=
  (if_neg (by simp [hseat])).trans (if_neg (Bool.eq_false_iff.mp hfits))

/-- An oversize request is dropped at once, and the queue is evaluated (R131). -/
theorem requestSeat_drops (hover : oversize u cls hold s = true) :
    requestSeat u cls hold deadline w s =
      evaluate (logEvent 0x0104 [(u : Int), (cls / 10 : Nat), ((hold % 65536 : Nat) : Int), (hold / 65536 : Nat)]
        (dropRequest { unit := u, cls, hold, deadline, at_ := s.now, order := s.cl.order, work := w } 2
          { s with cl.order := s.cl.order + 1 })) := by
  have hpost := postSeat_drops (deadline := deadline) (w := w) hseat hover
  have horder : (postSeat u cls hold deadline w s).cl.order = s.cl.order + 1 := by
    rw [hpost]
    exact ((logEvent_logs _ _ _).reads (·.cl.order)).trans (dropRequest_order _ _ _)
  exact (requestsTogether_evaluates horder).trans (congrArg evaluate hpost)

/-- Any other request joins the queue, and the queue is evaluated (R129). -/
theorem requestSeat_queues (hfits : oversize u cls hold s = false) :
    requestSeat u cls hold deadline w s = evaluate { s with
      cl.order := s.cl.order + 1
      cl.waiting := s.cl.waiting ++ [{ unit := u, cls, hold, deadline, at_ := s.now, order := s.cl.order, work := w }] } := by
  have hpost := postSeat_queues (deadline := deadline) (w := w) hseat hfits
  exact (requestsTogether_evaluates (congrArg (·.cl.order) hpost)).trans (congrArg evaluate hpost)

end

/-- Settles O26: the two bounds are those of `oversize`, and each side of it is a lemma of `requestSeat`. -/
theorem requestIsDroppedWhenItCouldNeverBeAdmitted : Obligations.RequestIsDroppedWhenItCouldNeverBeAdmitted := by
  intro u cls hold deadline w s
  refine ⟨requestSeat_of_hasSeat, fun hseat => ⟨fun hover => ?_, fun hfits => ?_⟩⟩
  · exact requestSeat_drops hseat (by simpa [oversize] using hover)
  · exact requestSeat_queues hseat (by simpa [oversize] using hfits)

/-! ## The commands of the Chairlift -/

theorem exec_seatRequest {u : Fin 10} {s : State} (hserved : seatsServed s = true) (hunit : u.val ≠ 0) (cls hold : Nat)
    (deadline : Option Nat) (smp : Sample) :
    exec (.seatRequest u cls hold deadline smp) s =
      done (requestSeat u.val cls hold (deadline.map (s.now + ·)) .other (sample smp s)) :=
  if_pos (by simpa [hserved] using hunit)

theorem exec_chairliftEvaluate {s : State} (h : s.operating = true ∨ s.safe = true ∨ s.starting = true) (smp : Sample) :
    exec (.chairliftEvaluate smp) s = done (evaluate (sample smp s)) :=
  if_pos (by simpa [or_assoc] using h)

section
variable {u : Fin 10} {s : State} (hphase : s.operating = true ∨ s.safe = true) (hholds : holds u.val s = true) {smp : Sample}
include hphase hholds

/-- A seat under which no operation of the Archive runs is released at once (R132). -/
theorem exec_seatRelease_idle (hrun : ∀ r, (sample smp s).ar.run = some r → r.owner.unit ≠ u.val) :
    exec (.seatRelease u smp) s = done (startOps (releaseSeat u.val (sample smp s))) := by
  have hnone : (sample smp s).ar.run.any (fun r => r.owner.unit == u.val) = false := by
    cases h : (sample smp s).ar.run with
    | none => rfl
    | some r => simpa using hrun r h
  show execSeatRelease u smp s = _
  unfold execSeatRelease
  rw [if_pos (by simpa [hholds] using hphase)]
  dsimp only
  rw [if_neg (by simp [hnone])]

/-- An operation of the Archive that still runs under the seat is suspended first (R486). -/
theorem exec_seatRelease_running {r : ArcRun} (hrun : (sample smp s).ar.run = some r) (howner : r.owner.unit = u.val) :
    exec (.seatRelease u smp) s = done (startOps (releaseSeat u.val (pauseRun (sample smp s)))) := by
  show execSeatRelease u smp s = _
  unfold execSeatRelease
  rw [if_pos (by simpa [hholds] using hphase)]
  dsimp only
  rw [if_pos (by simp [hrun, howner])]

end

section
variable {u : Fin 10} {x : Seat} {s : State} (hx : s.cl.waiting.find? (fun x => x.unit == u.val && x.deadline.isSome) = some x)
include hx

theorem exec_seatDeadlineDrop_unit (hunit : x.unit ≠ 0) : exec (.seatDeadlineDrop u) s = done (dropRequest x 1 s) := by
  show execSeatDeadlineDrop u s = _
  unfold execSeatDeadlineDrop
  rw [hx]
  exact if_neg hunit

/-- The seat of a start's stage is dropped with the stage's fatal finding (R91). -/
theorem exec_seatDeadlineDrop_stage (hunit : x.unit = 0) : exec (.seatDeadlineDrop u) s = done (stageSeatDropped x s) := by
  show execSeatDeadlineDrop u s = _
  unfold execSeatDeadlineDrop
  rw [hx]
  exact if_pos hunit

end

/-- At the abort level the held seats of priority 5 to 7 that stood above it are aborted (R125). -/
theorem exec_vresAbortLevel {y : Seat} {ys : List Seat} {s : State}
    (h : s.cl.held.filter (fun x => decide (6 ≤ x.unit) && x.above) = y :: ys) :
    exec .vresAbortLevel s = done (logEvent 0x0103 [(maskOf ((y :: ys).map (·.unit)) : Int)]
      ((y :: ys).foldl abortSeat { s with pw.aboveAbort := false })) := by
  show execVresAbortLevel s = _
  unfold execVresAbortLevel
  rw [h]
  rfl

section
variable {us : Nat} {s : State} (haon : s.aon = true) (hheld : s.cl.held = []) (hcommit : s.cl.commit = none)
  (hvres : vres s + 200 ≤ vbat s)
include haon hheld hcommit hvres

/-- A rise that took less charge than 70 % of `CRES` would is logged, and the estimate is taken (R127, log 120). -/
theorem exec_reservoirRiseTimed_low (hlow : s.cat.chair.ibatlim * us < 70000 * s.cat.chair.cres) :
    exec (.reservoirRiseTimed us) s =
      (let est := max 1 (roundOpen (((s.cat.chair.ibatlim * us : Nat) : Rat) / 100000)).toNat
       done (logEvent 0x0107 [((min est 65535 : Nat) : Int)]
         { s with r.pwr.rescest := sat 16 est, cl.cest := max 1 (s.cat.chair.ibatlim * us) })) :=
  (if_neg (by simp [haon, hheld, hcommit, hvres])).trans (if_pos (by omega))

/-- At 90 % or more `CRES` is in use again. -/
theorem exec_reservoirRiseTimed_high (hhigh : 90000 * s.cat.chair.cres ≤ s.cat.chair.ibatlim * us) (hcres : 0 < s.cat.chair.cres) :
    exec (.reservoirRiseTimed us) s = done { s with r.pwr.rescest := 0, cl.cest := 0 } :=
  (if_neg (by simp [haon, hheld, hcommit, hvres])).trans ((if_neg (by omega)).trans (if_pos (by omega)))

end

theorem exec_chargeSwitchTimeout {s : State} (haon : s.aon = true) (hheld : s.cl.held = []) (hvres : vres s + 100 < vbat s) :
    exec .chargeSwitchTimeout s = done (logEvent 0x0108 [(vbat s : Int), (vres s : Int)] s) :=
  if_pos (by simp [haon, hheld, hvres])

/-- Settles O27: each clause is its command's equation under the clause's conditions. -/
theorem chairliftCommandsComplete : Obligations.ChairliftCommandsComplete := by
  intro s smp u
  exact ⟨fun cls hold dl hserved hunit => exec_seatRequest hserved hunit cls hold dl smp,
    fun h => exec_chairliftEvaluate h smp,
    fun hphase hholds => ⟨exec_seatRelease_idle hphase hholds, fun r hrun howner => exec_seatRelease_running hphase hholds hrun howner⟩,
    fun x hx => ⟨exec_seatDeadlineDrop_unit hx, exec_seatDeadlineDrop_stage hx⟩,
    fun y ys h => exec_vresAbortLevel h, rfl,
    fun us haon hheld hcommit hvres => ⟨exec_reservoirRiseTimed_low haon hheld hcommit hvres,
      exec_reservoirRiseTimed_high haon hheld hcommit hvres⟩,
    exec_chargeSwitchTimeout⟩

/-! ## The sample of the AON monitor (R122, R125, R146) -/

theorem exec_vresSample {s : State} (haon : s.aon = true) (smp : Sample) : exec (.vresSample smp) s = done (sample smp s) :=
  if_pos haon

/-- Settles O28: the sample drifts and takes its words (`sample_mw`), and the standing work after it moves none of them. -/
theorem sampleTakesTheMeasuredWords : Obligations.SampleTakesTheMeasuredWords := by
  intro s smp haon
  obtain ⟨t, hnext, hwork⟩ := next_of_done (exec_vresSample haon smp)
  have hwords : mw t = _ := (works_mw hwork).trans (sample_mw smp s)
  simp only [mw, Prod.mk.injEq] at hwords
  obtain ⟨hvbat, hvres, htemp, hmin⟩ := hwords
  exact ⟨t, hnext, hvbat, hvres, htemp, hmin, (sample_drifts (Drifts.refl s)).trans hwork.drifts⟩

end Sys2Proof.Machine
end

section
/-! SUPPORT. What the commands of the Piste, the ledgers, the radio, the link, the panel and the watchdogs leave in the words of
the next state; the statement MeasurementRadioAndPanelCommandsLeaveTheirWords. -/

namespace Sys2Proof.Machine

/-! ## Words in the next state -/

/-- A word that a command leaves before its standing work stands in the next state, where that work does not move it (R112). -/
theorem next_word {α : Type} {c : Instr} {s : State} {a : α} (f : State → α) (h : ∃ u, exec c s = done u ∧ f u = a)
    (hf : ∀ u v : State, f (u.withWork v) = f u := by intros; rfl) : ∃ t, exec c s = .next t ∧ f t = a := by
  obtain ⟨u, hexec, hword⟩ := h
  obtain ⟨t, hnext, hwork⟩ := next_of_done hexec
  exact ⟨t, hnext, (hwork.reads f hf).trans hword⟩

/-! ## The Piste (R193, R216) -/

/-- A boost that does not reach its level leaves what was measured and counts the failure; its event is standing work (R193). -/
theorem exec_boostTimeout {x : StepRun} {s : State} (hshot : shotStep s = true) (hrun : s.ps.run = some x)
    (hon : s.r.drv.xdstatBooston = true) (hok : s.r.drv.xdstatVdrvok = false) (mv : Nat) :
    ∃ u, exec (.boostTimeout mv) s = done u ∧
      Works { s with r.drv.xdstatBooston := false, r.drv.vdrvmv := sat 16 mv, r.drv.boostfail := inc16 s.r.drv.boostfail
                     ps.run := some { x with boostFail := true } } u := by
  show ∃ u, execBoostTimeout mv s = done u ∧ _
  unfold execBoostTimeout
  rw [hrun]
  exact ⟨_, if_pos (by simp [hshot, hon, hok]), logEvent_works (Works.refl _)⟩

theorem endFast_fast (s : State) : (endFast s).ps.fast = false := by
  unfold endFast
  split
  · rfl
  · exact Bool.eq_false_iff.mpr ‹_›

/-- The end of Fast accounts its time, and nothing outside the Piste moves. -/
theorem endFast_eq (s : State) : ∃ ps, endFast s = { s with ps := ps } := by
  unfold endFast
  split
  · exact ⟨_, rfl⟩
  · exact ⟨s.ps, rfl⟩

theorem exec_fastSequenceTimeout {s : State} (htimed : s.timed = true) (hfast : s.ps.fast = true) :
    exec .fastSequenceTimeout s = done (regrid (endFast s.atTimer).now (endFast s.atTimer)) :=
  (if_neg (by simp [hfast])).trans (onTimer_eq htimed)

/-! ## Ledgers and records (R156, R284, R325) -/

theorem exec_availabilityBinClose {s : State} (haon : s.aon = true) : exec .availabilityBinClose s = done (closeBin s) :=
  if_neg (by simp [haon])

/-- A bin closes: the next one opens 24 h after it, and a deficit is logged (R284). -/
theorem closeBin_works (s : State) :
    Works { s with rg.bins := ({} :: s.rg.bins).take 30, rg.binStart := s.rg.binStart + 86400000000 } (closeBin s) :=
  onlyIf_works (fun _ h => logEvent_works h) (Works.refl _)

theorem exec_ledgerRecordDue {s : State} (htimed : s.timed = true) (smp : Sample) :
    exec (.ledgerRecordDue smp) s = done { sample smp (wake 1 s) with ar.ledgerDue := true } :=
  if_neg (by simp [htimed])

theorem exec_wardenAreaErase {s : State} {smp : Sample} (htimed : s.timed = true)
    (hdue : wardenEraseDue (sample smp s.atTimer) = true) (hvictim : (wardenVictim (sample smp s.atTimer)).isSome = true) :
    exec (.wardenAreaErase smp) s = done { sample smp s.atTimer with ar.eraseDue := true } := by
  show execWardenAreaErase smp s = _
  unfold execWardenAreaErase
  rw [onTimer_eq htimed]
  dsimp only
  rw [if_pos (by simp [hdue, hvictim])]
  rfl

/-- The waiting zone is in force at once; its record and its event are standing work (R158). -/
theorem exec_tlzoneApply {v : Int} {s : State} (hzone : s.tl.zoneNext = some v) :
    ∃ u, exec .tlzoneApply s = done u ∧ Works { wake 1 s with tl.zone := v, tl.zoneNext := none } u := by
  show ∃ u, execTlzoneApply s = done u ∧ _
  unfold execTlzoneApply
  rw [hzone]
  exact ⟨_, rfl, logEvent_works (onlyIf_works (fun _ h => sealFull_works h) (writeObject_works (Works.refl _)))⟩

/-! ## The radio and the link (R335, R371, R379, R387, R390) -/

theorem exec_replyWindowOpen {s : State} (htimed : s.timed = true) (hdue : s.rad.replyDue = true) :
    exec .replyWindowOpen s = done (openWindow .reply 1000 (replyTuning s.atTimer)
      (receiverOff { s.atTimer with rad.replyDue := false, ln.listenDue := none, ln.listening := false })) :=
  (if_neg (by simp [hdue])).trans (onTimer_eq htimed)

/-- An acknowledgement is counted as a frame received, whatever it answers, and its window closes (R392). -/
theorem exec_en13757AckReceived {s : State} (hrx : receiving .reply s = true) (fr : List Byte) :
    ∃ u, exec (.en13757AckReceived fr) s = done u ∧ u.r.rf.rxcnt = inc16 s.r.rf.rxcnt :=
  ⟨_, if_neg (by simp [hrx]), (closeWindow_works (Works.refl _)).reads (·.r.rf.rxcnt)⟩

/-- The first and the second beacon that are missed in a row are counted, and no search begins (R371). -/
theorem exec_beaconWindowClose_missed {s : State} (hsearch : receiving .search s = false) (hbeacon : receiving .beacon s = true)
    (hrun : s.r.lnk.missrun.toNat < 2) :
    exec .beaconWindowClose s = done (closeWindow
      { s with r.lnk.bcnmiss := inc16 s.r.lnk.bcnmiss, r.lnk.missrun := s.r.lnk.missrun + 1 }) := by
  have hcount : BitVec.ofNat 16 (min (s.r.lnk.missrun.toNat + 1) 3) = s.r.lnk.missrun + 1 := by
    rw [Nat.min_eq_left (by omega)]
    bv_omega
  show execBeaconWindowClose s = _
  unfold execBeaconWindowClose
  rw [if_neg (by simp [hsearch]), if_pos hbeacon]
  dsimp only
  rw [if_pos (by omega), hcount]

/-- The end of a due slot of the parent that nothing served counts it (R379). -/
theorem exec_pollSlotEnd_unserved {start : Nat} {s : State} (hparent : actsAsParent s = true)
    (hslot : (followReceiver s).ln.slot = none) (hunserved : unservedSlot (followReceiver s) = some start) :
    exec .pollSlotEnd s = done { followReceiver s with
      ln.asked := some start, r.lnk.upmiss := inc16 (followReceiver s).r.lnk.upmiss } := by
  show execPollSlotEnd s = _
  unfold execPollSlotEnd
  rw [if_neg (by simp [hparent])]
  dsimp only
  rw [hslot]
  dsimp only
  rw [hunserved]

theorem exec_wakeWord {w : BitVec 32} {s : State} (hlisten : s.ln.listening = true) (hsession : s.ln.session = none)
    (hwake : wakeFor w = true) :
    ∃ u, exec (.wakeWord w) s = done u ∧ u.r.lnk.wakedet = inc16 s.r.lnk.wakedet :=
  ⟨_, if_pos (by simp [hlisten, hsession, hwake]), (closeWindow_works (Works.refl _)).reads (·.r.lnk.wakedet)⟩

/-- A good frame at the reader is counted, whether a run with its meter follows or not (R390). -/
theorem exec_readerFrameHeard {f : RxFrame} {s : State} (hrole : s.ln.role = .reader) (hrx : receiving .reader s = true)
    (hlink : linkUp s = true) (hgood : f.good = true) (src : Option Nat) :
    ∃ u, exec (.readerFrameHeard src f) s = done u ∧ u.r.rf.rxcnt = inc16 s.r.rf.rxcnt := by
  have hcounts : exec (.readerFrameHeard src f) s = _ :=
    (if_neg (by simp [hrole, hrx, hlink])).trans (if_neg (by simp [hgood]))
  rw [hcounts]
  dsimp only
  split
  · exact ⟨_, rfl, rfl⟩
  · exact ⟨_, rfl, (queueTx_works (receiverOff_works (Works.refl _))).reads (·.r.rf.rxcnt)⟩

theorem exec_sessionTimeout_reader {x : RdrRun} {s : State} (hsession : s.ln.session = none) (hrun : s.ln.run = some x) :
    exec .sessionTimeout s = done { s with ln.run := none } := by
  show execSessionTimeout s = _
  unfold execSessionTimeout
  rw [hsession]
  exact if_pos (by simp [hrun])

/-! ## The panel (R397, R398, R405) -/

theorem exec_displayIdleTimeout {s : State} (hdisplay : s.hasDisplay = true) (htimed : s.timed = true) (hscreen : s.dp.screen ≠ 0) :
    exec .displayIdleTimeout s = done { s.atTimer with dp.screen := 0, dp.renderNow := true } :=
  (if_neg (by simp [hdisplay, hscreen])).trans (onTimer_eq htimed)

/-- The segment test ends in a device that its timers wake as in one that they do not. -/
theorem exec_segmentTestEnd {s : State} (htest : s.dp.segTest = true) :
    ∃ u, exec .segmentTestEnd s = done u ∧ u.dp.segTest = false := by
  by_cases htimed : s.timed = true
  · exact ⟨_, (if_pos htest).trans ((if_pos htimed).trans (onTimer_eq htimed)), rfl⟩
  · exact ⟨_, (if_pos htest).trans (if_neg htimed), rfl⟩

theorem exec_emissiveActivityEnd {s : State} (hactive : s.dp.emUntil.isSome = true) :
    exec .emissiveActivityEnd s = done { emissiveStop s with pw.choose := true } :=
  if_pos hactive

/-- What ends with the emissive activity: its timer, and the positive image. -/
def emActivity (s : State) : Option Nat × Bool := (s.dp.emUntil, s.dp.positive)

theorem emissiveStop_activity (s : State) : emActivity (emissiveStop s) = (none, false) :=
  (onlyIf_works (fun _ h => releaseSeat_works h) (Works.refl _)).reads emActivity

/-! ## Watchdogs (R454) -/

theorem beginCommit_works (s : State) : Works s (beginCommit s) := by
  unfold beginCommit
  exact startOps_works (Works.ite (fun _ => pauseRun_works (Works.put (domOn_works (Works.refl s))))
    (fun _ => Works.put (domOn_works (Works.refl s))))

/-- What a trigger leaves: the procedure under way as it was, its cause, and what the commit needs. -/
theorem resetTrigger_facts (cause : Nat) (s : State) :
    (resetTrigger cause s).flt.proc = s.flt.proc ∧ (resetTrigger cause s).r.flt.wdstatCause = BitVec.ofNat 8 cause ∧
    commitReady (resetTrigger cause s) = commitReady s := by
  have hlog : ∀ (args : List Int) (u : State), Logs u (logEvent 0x1001 args u) := fun args u => logEvent_logs _ args u
  exact ⟨(hlog _ _).reads (·.flt.proc), (hlog _ _).reads (·.r.flt.wdstatCause), (hlog _ _).reads commitReady⟩

/-- A trigger outside a procedure begins one with its cause: Fast ends, and where the commit can run it is under way (R454). -/
theorem watchdogReset_commits {cause : Nat} {s : State} (hready : commitReady s = true) (hproc : s.flt.proc = none) :
    (watchdogReset cause s).flt.proc = some ⟨cause, .commit⟩ ∧
    (watchdogReset cause s).r.flt.wdstatCause = BitVec.ofNat 8 cause ∧ (watchdogReset cause s).ps.fast = false := by
  obtain ⟨hproc', hcause, hready'⟩ := resetTrigger_facts cause s
  obtain ⟨ps, hends⟩ := endFast_eq (resetTrigger cause s)
  unfold watchdogReset
  dsimp only
  rw [hproc', hproc, hends]
  dsimp only
  generalize hpark : parkStart 0 _ = v
  have hwork : Works _ v := hpark ▸ parkStart_works (Works.refl _)
  have hready'' : commitReady v = true := (hwork.reads commitReady).trans (hready'.trans hready)
  rw [if_pos hready'']
  have hcommit : Works _ (beginCommit v) := hwork.trans (beginCommit_works v)
  exact ⟨rfl, (hcommit.reads (·.r.flt.wdstatCause)).trans hcause, hcommit.reads (·.ps.fast)⟩

theorem exec_curatorWatchdog {s : State} (hop : s.operating = true) (hproc : s.flt.proc = none) (hst : s.pw.st = .run) :
    exec .curatorWatchdog s = done (watchdogReset 1 s) := by
  have hphase : s.phase = .operating := by simpa [State.operating] using hop
  exact if_pos (by simp [watched, hop, hproc, hst, hphase])

theorem exec_wardenWatchdog {s : State} (hop : s.operating = true) (hproc : s.flt.proc = none) :
    exec .wardenWatchdog s = done (watchdogReset 5 s) := by
  have hphase : s.phase = .operating := by simpa [State.operating] using hop
  show execWardenWatchdog s = _
  unfold execWardenWatchdog
  rw [if_neg (by simp [State.aon, hphase]), hproc, hphase]

/-- The next state of a watchdog's command holds what the beginning of its procedure leaves. -/
theorem next_of_watchdogReset {c : Instr} {cause : Nat} {s : State} (hexec : exec c s = done (watchdogReset cause s))
    (hready : commitReady s = true) (hproc : s.flt.proc = none) :
    ∃ t, exec c s = .next t ∧ t.flt.proc = some ⟨cause, .commit⟩ ∧ t.r.flt.wdstatCause = BitVec.ofNat 8 cause ∧
      t.ps.fast = false := by
  obtain ⟨hproc', hcause, hfast⟩ := watchdogReset_commits (cause := cause) hready hproc
  obtain ⟨t, hnext, hwork⟩ := next_of_done hexec
  exact ⟨t, hnext, (hwork.reads (·.flt.proc)).trans hproc', (hwork.reads (·.r.flt.wdstatCause)).trans hcause,
    (hwork.reads (·.ps.fast)).trans hfast⟩

/-! ## What the next state holds -/

/-- Settles O60: the command's equation gives the state before the standing work, and the frame of the standing work carries its
words into the next state. -/
theorem measurementRadioAndPanelCommandsLeaveTheirWords : Obligations.MeasurementRadioAndPanelCommandsLeaveTheirWords := by
  intro s smp
  refine ⟨?boost, fun htimed hfast => next_word (·.ps.fast) ⟨_, exec_fastSequenceTimeout htimed hfast, endFast_fast _⟩, ?bin,
    fun htimed => next_word (·.ar.ledgerDue) ⟨_, exec_ledgerRecordDue htimed smp, rfl⟩,
    fun htimed hdue hvictim => next_word (·.ar.eraseDue) ⟨_, exec_wardenAreaErase htimed hdue hvictim, rfl⟩, ?zone,
    exec_replyWindowOpen, fun fr hrx => next_word (·.r.rf.rxcnt) (exec_en13757AckReceived hrx fr),
    exec_beaconWindowClose_missed, fun start => exec_pollSlotEnd_unserved,
    fun w hlisten hsession hwake => next_word (·.r.lnk.wakedet) (exec_wakeWord hlisten hsession hwake),
    fun src f hrole hrx hlink hgood => next_word (·.r.rf.rxcnt) (exec_readerFrameHeard hrole hrx hlink hgood src),
    fun x hsession hrun => next_word (·.ln.run) ⟨_, exec_sessionTimeout_reader hsession hrun, rfl⟩,
    fun hdisplay htimed hscreen => next_word (·.dp.screen) ⟨_, exec_displayIdleTimeout hdisplay htimed hscreen, rfl⟩,
    fun htest => next_word (·.dp.segTest) (exec_segmentTestEnd htest), ?emissive, ?reservoir, ?watchdogs⟩
  case boost =>
    intro mv x hshot hrun hon hok
    obtain ⟨u, hexec, hfailed⟩ := exec_boostTimeout hshot hrun hon hok mv
    obtain ⟨t, hnext, hwork⟩ := next_works hexec hfailed
    exact ⟨t, hnext, hwork.reads (·.r.drv.vdrvmv), hwork.reads (·.r.drv.boostfail)⟩
  case bin =>
    intro haon
    obtain ⟨t, hnext, hwork⟩ := next_works (exec_availabilityBinClose haon) (closeBin_works s)
    exact ⟨t, hnext, hwork.reads (·.rg.bins), hwork.reads (·.rg.binStart)⟩
  case zone =>
    intro v hzone
    obtain ⟨u, hexec, hzoned⟩ := exec_tlzoneApply hzone
    obtain ⟨t, hnext, hwork⟩ := next_works hexec hzoned
    exact ⟨t, hnext, hwork.reads (·.tl.zone), hwork.reads (·.tl.zoneNext)⟩
  case emissive =>
    intro hactive
    obtain ⟨t, hnext, hwork⟩ := next_of_done (exec_emissiveActivityEnd hactive)
    have hended : emActivity t = (none, false) := (hwork.reads emActivity).trans (emissiveStop_activity s)
    exact ⟨t, hnext, congrArg (·.1) hended, congrArg (·.2) hended⟩
  case reservoir =>
    intro us haon hheld hcommit hvres hlow
    exact next_word (·.r.pwr.rescest) ⟨_, exec_reservoirRiseTimed_low haon hheld hcommit hvres hlow,
      (logEvent_works (Works.refl _)).reads (·.r.pwr.rescest)⟩
  case watchdogs =>
    intro hready hproc hop
    exact ⟨fun hst => next_of_watchdogReset (exec_curatorWatchdog hop hproc hst) hready hproc,
      next_of_watchdogReset (exec_wardenWatchdog hop hproc) hready hproc⟩

end Sys2Proof.Machine
end

section
/-! SUPPORT. The losses, checks and recoveries of the clocks, with the next state that each reaches; the statement
ClockFailuresAndChecksChangeTheSource. -/

namespace Sys2Proof.Machine

/-! ## XT32 and LPRC (R149, R151, R152) -/

theorem exec_xt32RestoreCount {s : State} (hbad : s.r.clk.clkstatXt32ok = false) (htimed : s.timed = true) (smp : Sample) :
    exec (.xt32RestoreCount smp) s =
      done (vitrineAsked { sample smp (wake 1 s) with ck.restoring := true, ck.xtRun := true }) :=
  if_neg (by simp [hbad, htimed])

section
variable {s : State} (haon : s.aon = true)
include haon

/-- An LPRC that is found good again is marked so (R152). -/
theorem exec_lprcCheck_passes (hsrc : s.r.clk.clkstatRtcsrc ≠ 2) (hlprc : s.r.clk.clkstatLprcok = false) :
    exec (.lprcCheck true) s = done { s with r.clk.clkstatLprcok := true } :=
  (if_neg (by simpa [haon, hlprc] using hsrc)).trans (if_pos rfl)

/-- A check that fails logs the error, and takes the RTC to HFRC where XT32 is bad too (R152). -/
theorem exec_lprcCheck_fails (hsrc : s.r.clk.clkstatRtcsrc ≠ 2) (hlprc : s.r.clk.clkstatLprcok = true) :
    exec (.lprcCheck false) s = done (onlyIf (!s.r.clk.clkstatXt32ok) (logEvent 0x0203 [])
      (logEvent 0x020B [s.r.clk.lprcerr.toInt] (segmented (fun u => { u with
        r.clk.clkstatLprcok := false
        r.clk.clkstatRtcsrc := if !s.r.clk.clkstatXt32ok then 2 else u.r.clk.clkstatRtcsrc }) s))) :=
  (if_neg (by simpa [haon, hlprc] using hsrc)).trans (if_neg Bool.false_ne_true)

/-- With XT32 good the source stays (R152). -/
theorem exec_lprcCheck_fails_alone (hsrc : s.r.clk.clkstatRtcsrc ≠ 2) (hlprc : s.r.clk.clkstatLprcok = true)
    (hxt : s.r.clk.clkstatXt32ok = true) :
    exec (.lprcCheck false) s = done (logEvent 0x020B [s.r.clk.lprcerr.toInt]
      (segmented (fun u => { u with r.clk.clkstatLprcok := false }) s)) := by
  rw [exec_lprcCheck_fails haon hsrc hlprc, hxt]
  exact congrArg done (if_neg Bool.false_ne_true)

/-- With XT32 bad too the RTC goes on from HFRC (R152). -/
theorem exec_lprcCheck_fails_both (hsrc : s.r.clk.clkstatRtcsrc ≠ 2) (hlprc : s.r.clk.clkstatLprcok = true)
    (hxt : s.r.clk.clkstatXt32ok = false) :
    exec (.lprcCheck false) s = done (logEvent 0x0203 [] (logEvent 0x020B [s.r.clk.lprcerr.toInt]
      (segmented (fun u => { u with r.clk.clkstatLprcok := false, r.clk.clkstatRtcsrc := 2 }) s))) := by
  rw [exec_lprcCheck_fails haon hsrc hlprc, hxt]
  exact congrArg done (if_pos rfl)

theorem exec_clockRecoveryAttempt_recovers (hsrc : s.r.clk.clkstatRtcsrc = 2) (xt32 : Bool) :
    exec (.clockRecoveryAttempt xt32 true) s = done (segmented (fun u => { u with
      r.clk.clkstatLprcok := true, r.clk.clkstatRtcsrc := 1, ck.lprcAt := lprcFresh u }) s) :=
  if_neg (by simp [haon, hsrc])

theorem exec_lprcCalGateEnd_calibrates (hrun : s.ck.xtRun = true) (ppm : Int) :
    exec (.lprcCalGateEnd ppm) s = done (segmented (fun u =>
      updBin (dieTemp u) (fun b => { b with lprc := some (max (-32768) (min ppm 32767)) })
        { u with r.clk.lprcerr := BitVec.ofInt 16 (max (-32768) (min ppm 32767)), ck.lprcAt := some u.tl.monoUs
                 ck.lprcTemp := dieTemp u, ck.lprcDue := false }) s) :=
  if_neg (by simp [haon, hrun])

theorem exec_lprcCal1hExpiry (hsrc : s.r.clk.clkstatRtcsrc = 1) :
    exec .lprcCal1hExpiry s = done (segmented (fun u => { u with ck.lprcAt := none }) s) :=
  if_neg (by simp [haon, hsrc])

theorem exec_calStale24h_logs (hlogged : s.ck.staleLogged = false) :
    exec .calStale24h s = done (logEvent 0x0206 [roundOpen (((s.tl.monoUs - s.ck.lastOk : Nat) : Rat) / 3600000000)]
      (segmented (fun u => { u with ck.staleLogged := true, r.clk.clkstatStale := true }) s)) :=
  if_neg (by simp [haon, hlogged])

end

/-! ## The PLL (R153) -/

section
variable {s : State} (hserves : s.operating = true ∨ s.safe = true ∨ s.starting = true) (hst : s.pw.st = .run)
  (hproc : s.flt.proc = none)
include hserves hst hproc

/-- The PLL is heeded in Run, where no watchdog's procedure runs. -/
theorem execPllLockTimeout_heeded : ¬(!(s.operating || s.safe || s.starting) || s.pw.st != .run || s.flt.proc.isSome) = true := by
  simpa [hst, hproc, or_iff_not_imp_left] using hserves

/-- The first failure of a wake is counted, and nothing else moves. -/
theorem exec_pllLockTimeout_first (hfails : s.ck.pllFails = 0) : exec .pllLockTimeout s = .next { s with ck.pllFails := 1 } :=
  (if_neg (execPllLockTimeout_heeded hserves hst hproc)).trans (if_pos hfails)

/-- The second failure of a start's wake abandons the work of its stage. -/
theorem exec_pllLockTimeout_start (hfails : s.ck.pllFails ≠ 0) (hstart : s.starting = true) :
    exec .pllLockTimeout s = done (abandonStage (logEvent 0x0204 [(maskOf (s.cl.held.map (fun x => x.unit)) : Int)]
      { s with ck.pllFails := 0 })) :=
  (if_neg (execPllLockTimeout_heeded hserves hst hproc)).trans ((if_neg hfails).trans (if_pos hstart))

/-- The second failure of any other wake tells every unit, and the fast clock is gone. -/
theorem exec_pllLockTimeout_tells (hfails : s.ck.pllFails ≠ 0) (hstart : s.starting = false) :
    exec .pllLockTimeout s = done (logEvent 0x0204 [(maskOf ((s.cl.held ++ s.cl.waiting).map (fun x => x.unit)) : Int)]
      (runNormal ((s.cl.held ++ s.cl.waiting).foldl tellPll { s with ck.pllFails := 0, pw.choose := true }))) :=
  (if_neg (execPllLockTimeout_heeded hserves hst hproc)).trans ((if_neg hfails).trans (if_neg (Bool.eq_false_iff.mp hstart)))

end

/-- Settles O30: each clause is its command's equation under the clause's conditions, with the frame of the standing work where the
clause states one. -/
theorem clockFailuresAndChecksChangeTheSource : Obligations.ClockFailuresAndChecksChangeTheSource := by
  intro s smp
  refine ⟨exec_xt32Stop, fun hbad htimed => exec_xt32RestoreCount hbad htimed smp, fun haon hsrc => ⟨?passes,
      exec_lprcCheck_fails_alone haon hsrc, exec_lprcCheck_fails_both haon hsrc⟩,
    fun xt32 haon hsrc => exec_clockRecoveryAttempt_recovers haon hsrc xt32,
    fun ppm haon hrun => exec_lprcCalGateEnd_calibrates haon hrun ppm, exec_lprcCal1hExpiry, exec_calStale24h_logs,
    fun hruns hstart hst hproc => ?running, fun hstart hst hproc => ?starting⟩
  case passes => exact fun hlprc => next_withWork_of_exec_eq_done (exec_lprcCheck_passes haon hsrc hlprc)
  case running =>
    have hserves : s.operating = true ∨ s.safe = true ∨ s.starting = true := hruns.imp_right .inl
    exact ⟨exec_pllLockTimeout_first hserves hst hproc, fun hfails => exec_pllLockTimeout_tells hserves hst hproc hfails hstart⟩
  case starting =>
    have hserves : s.operating = true ∨ s.safe = true ∨ s.starting = true := .inr (.inr hstart)
    exact ⟨exec_pllLockTimeout_first hserves hst hproc, fun hfails => exec_pllLockTimeout_start hserves hst hproc hfails hstart⟩

end Sys2Proof.Machine
end

section
/-! SUPPORT. The idle step and the predictions of the correction table; the statements
IdleStepPassesOneMicrosecondOfTheSource and PredictionsComeFromValidBins. -/

namespace Sys2Proof.Machine

/-! ## The idle step (R146, R154, R157) -/

theorem tick_of_aon {s : State} (haon : s.aon = true) :
    tick s = passUs ((s.tl.phase + rtcStep s) / 2 ^ 32) { s with tl.phase := (s.tl.phase + rtcStep s) % 2 ^ 32 } :=
  if_pos haon

theorem tick_of_not_aon {s : State} (haon : s.aon = false) : tick s = s :=
  if_neg (Bool.eq_false_iff.mp haon)

/-- Settles O2: a step on an empty queue is the tick, which the AON domain decides, and `passUs` is what the carries do. -/
theorem idleStepPassesOneMicrosecondOfTheSource : Obligations.IdleStepPassesOneMicrosecondOfTheSource := by
  intro s hpending
  refine ⟨tick s, step_of_pending_nil hpending, ?_, tick_of_not_aon⟩
  rintro haon _ _ rfl rfl
  exact tick_of_aon haon

/-! ## Valid bins and the nearest of them (R150) -/

/-- A valid bin holds its error in the table. -/
theorem mem_vals_of_mem_validBins {vals : List (Option Int)} {x : Nat × Int} (h : x ∈ validBins vals) : some x.2 ∈ vals := by
  simp only [validBins, List.mem_filterMap, List.mem_range, Option.map_eq_some_iff] at h
  obtain ⟨k, hk, v, hv, rfl⟩ := h
  rw [List.getD_eq_getElem _ _ hk] at hv
  exact hv ▸ List.getElem_mem hk

theorem validBins_of_none_valid {vals : List (Option Int)} (h : ∀ v ∈ vals, v = none) : validBins vals = [] := by
  refine List.eq_nil_iff_forall_not_mem.mpr fun x hx => ?_
  exact Option.some_ne_none _ (h _ (mem_vals_of_mem_validBins hx))

theorem getD_of_none_valid {vals : List (Option Int)} (h : ∀ v ∈ vals, v = none) (k : Nat) : vals.getD k none = none := by
  rw [List.getD_eq_getElem?_getD]
  cases hk : vals[k]? with
  | none => rfl
  | some v => exact h v (List.mem_of_getElem? hk)

theorem bracket_of_none_valid {vals : List (Option Int)} (h : validBins vals = []) (t : Int) : bracket vals t = none := by
  simp [bracket, h]

/-- A choice that keeps one of two at every step ends with an element of its list. -/
theorem foldl_ite_mem_cons {α : Type} (p : α → α → Prop) [∀ a b, Decidable (p a b)] (x : α) (xs : List α) :
    xs.foldl (fun b y => if p y b then y else b) x ∈ x :: xs := by
  refine List.foldlRecOn xs _ (motive := (· ∈ x :: xs)) List.mem_cons_self fun b hb y hy => ?_
  split
  · exact List.mem_cons_of_mem x hy
  · exact hb

/-- A prediction is extrapolated only where no bins bracket the temperature and its own bin is not valid, and then it is the value
of a valid bin. -/
theorem predict_extrapolated {vals : List (Option Int)} {t : Int} (h : (predict vals t).2 = true) :
    vals.getD (binOf t) none = none ∧ ∃ x ∈ validBins vals, (predict vals t).1 = (x.2 : Rat) := by
  unfold predict at h ⊢
  split at h
  next => split at h <;> cases h
  next =>
    split at h
    next => cases h
    next hbin =>
      dsimp only at h ⊢
      split at h
      next => cases h
      next x xs hvalid => exact ⟨hbin, _, hvalid ▸ foldl_ite_mem_cons _ x xs, rfl⟩

/-- Settles O58: a table with no valid error has no valid bin, and an extrapolated prediction is the value of one. -/
theorem predictionsComeFromValidBins : Obligations.PredictionsComeFromValidBins := by
  intro vals t
  refine ⟨fun hnone => ?_, fun hextrap => ?_⟩
  · have hbins : validBins vals = [] := validBins_of_none_valid hnone
    unfold predict
    rw [bracket_of_none_valid hbins, getD_of_none_valid hnone, hbins]
  · obtain ⟨hbin, x, hx, hvalue⟩ := predict_extrapolated hextrap
    exact ⟨hbin, x.2, mem_vals_of_mem_validBins hx, hvalue⟩

end Sys2Proof.Machine
end

section
/-! SUPPORT. The commands of a Vitrine calibration; the statement VitrineCalibrationRunsItsSteps. -/

namespace Sys2Proof.Machine

/-! ## The request of a calibration (R140, R145) -/

section
variable {s : State} (smp : Sample) (h : (s.timed || s.starting) = true)
include h

theorem exec_vitrineCalDue_interval : exec (.vitrineCalDue .interval smp) s = done (vitrineAsked (sample smp (wake 1 s))) :=
  if_neg (by simp [h])

/-- A move of the temperature that is there asks for the calibration and is noted with its time (R140). -/
theorem exec_vitrineCalDue_temperature (hmove : temperatureMove (sample smp (wake 1 s)) = true) :
    exec (.vitrineCalDue .temperature smp) s =
      done (vitrineAsked { sample smp (wake 1 s) with ck.tempReqAt := some (sample smp (wake 1 s)).now }) :=
  (if_neg (by simp [h])).trans (congrArg done (if_pos hmove))

end

theorem exec_vitrineCalRetry {n : Nat} {s : State} (smp : Sample) (htimed : s.timed = true) (hretry : s.ck.retryAt = some n) :
    exec (.vitrineCalRetry smp) s =
      done (requestVitrine { sample smp s.atTimer with ck.retryAt := none, ck.retries := s.atTimer.ck.retries + 1 }) :=
  (if_neg (by simp [hretry])).trans (onTimer_eq htimed)

/-! ## The steps of a calibration that runs (R139, R141, R144) -/

section
variable {x : VitRun} {s : State} (hrun : s.ck.run = some x)
include hrun

theorem exec_vitrdySet (hdone : x.done = false) (hready : x.ready = none) :
    exec .vitrdySet s = done { s with
      ck.run := some { x with ready := some s.tl.monoUs }, r.clk.clkstatVitrdy := true
      r.clk.vitwarm := sat 16 (roundOpen (((s.tl.monoUs - x.on : Nat) : Rat) / 100)).toNat } := by
  show execVitrdySet s = _
  unfold execVitrdySet
  rw [hrun]
  exact if_neg (by simp [hdone, hready])

/-- The band lost while the oven is on clears its flag: alone after the last gate, and before it with the gate that runs stopped and
the PLL taken back from the Vitrine (R139, R142). -/
theorem exec_vitrdyLost (hready : x.ready.isSome = true) (hvit : s.isOn .vit = true) :
    exec .vitrdyLost s = if x.done then done { s with r.clk.clkstatVitrdy := false } else
      done (onlyIf s.r.clk.clkstatPllvit (disarm (gateCh s)) { s with
        ck.run := some { x with ready := none }, r.clk.clkstatVitrdy := false, r.clk.clkstatPllvit := false }) := by
  show execVitrdyLost s = _
  unfold execVitrdyLost
  rw [hrun]
  exact if_neg (by rw [Option.isNone_eq_false_iff.mpr hready, hvit]; exact Bool.false_ne_true)

/-- The end of the gate in turn keeps it, and the next gate or step V7 follows (R141, R142). -/
theorem exec_vitrineGateEnd {g : Gate} (hdone : x.done = false) (hpll : s.r.clk.clkstatPllvit = true)
    (hturn : gateInTurn x s = some g) (n : Nat) :
    let u := gateStop (gateCh s) n { s with ck.run := some { x with gates := x.gates ++ [⟨g, n, dieTemp s⟩], done := g == .hfrc } }
    exec (.vitrineGateEnd g n) s = done (if g == .hfrc then u else configureRun (gateCh s) gateRun u) := by
  show execVitrineGateEnd g n s = _
  unfold execVitrineGateEnd
  rw [hrun]
  exact if_neg (by simp [hdone, hpll, hturn])

theorem exec_vitrineCalCompute (hdone : x.done = true) (hpll : s.r.clk.clkstatPllvit = false) (hstart : s.starting = false) :
    exec .vitrineCalCompute s = done (vitrineSucceeds (applyCalibration x.gates s)) := by
  show execVitrineCalCompute s = _
  unfold execVitrineCalCompute
  rw [hrun]
  exact if_pos (by simp [hdone, hpll, hstart])

end

/-- Before any gate has ended the XT32 gate is in turn where XT32 runs, and the XRF gate where it does not (R141, R144). -/
theorem gateInTurn_first {x : VitRun} (s : State) (h : x.gates = []) :
    gateInTurn x s = if s.ck.xtRun then some .xt32 else some .xrf := by
  unfold gateInTurn
  rw [h]
  split <;> rfl

theorem lt_ovenReading (v : Nat) : 1250 < ovenReading v :=
  Int.ofNat_lt.mpr (Nat.lt_add_right (v % 31517) (Nat.lt_succ_self 1250))

/-- Settles O29: each clause is its command's equation under the clause's conditions. -/
theorem vitrineCalibrationRunsItsSteps : Obligations.VitrineCalibrationRunsItsSteps := by
  intro s smp
  refine ⟨?due,
    fun x hrun hdone => ⟨fun hready => ⟨?warm, exec_vitrdyTimeout hrun hdone hready⟩,
      fun hready => ⟨exec_vitrineDeferLimit hrun hdone hready, fun hvit =>
        (exec_vitrdyLost hrun hready hvit).trans (if_neg (Bool.eq_false_iff.mp hdone))⟩, ?gate⟩,
    fun x => gateInTurn_first s, fun x hrun hvit => ⟨⟨_, lt_ovenReading _, exec_ovenOvertemp hrun hvit⟩,
      fun hdone hready => (exec_vitrdyLost hrun hready hvit).trans (if_pos hdone)⟩,
    fun x => exec_vitrineCalCompute, fun n => exec_vitrineCalRetry smp⟩
  case due =>
    intro hasks
    have h : (s.timed || s.starting) = true := Bool.or_eq_true_iff.mpr hasks
    exact ⟨exec_vitrineCalDue_interval smp h, exec_vitrineCalDue_temperature smp h⟩
  case warm => exact ⟨_, exec_vitrdySet hrun hdone hready, rfl, (settle_works (Works.refl _)).reads (·.r.clk.vitwarm) fun _ _ => rfl⟩
  case gate =>
    intro hpll g n hturn
    have hexec := exec_vitrineGateEnd hrun hdone hpll hturn n
    exact ⟨fun hg => hexec.trans (congrArg done (if_neg fun heq => hg (eq_of_beq heq))),
      fun hg => hexec.trans (congrArg done (if_pos (beq_iff_eq.mpr hg)))⟩

end Sys2Proof.Machine
end

section
/-! SUPPORT. The commands of the time-interval engine; the statements EarlyStopIsIgnoredAndCounted and TdcCommandsComplete. -/

namespace Sys2Proof.Machine

/-! ## One channel and its words -/

theorem vget_val {α : Type} {n : Nat} (v : Vector α n) (i : Fin n) (d : α) : vget v i.val d = v[i] := dif_pos i.isLt

theorem getElem_vupd_same {α : Type} {n : Nat} (v : Vector α n) (i : Fin n) (f : α → α) : (vupd v i.val f)[i] = f v[i] := by
  rw [← vget_val _ _ v[i], vget_vupd_same _ _ _ _ i.isLt, vget_val]

theorem updCh_ch_same (ch : Fin 4) (f : TdcChannel → TdcChannel) (g : TdcChRegs → TdcChRegs) (s : State) :
    (updCh ch.val f g s).ch[ch] = f s.ch[ch] :=
  getElem_vupd_same s.ch ch f

/-- A change of a channel and a change of its words are one change. -/
theorem updCh_id_updCh_id (n : Nat) (f : TdcChannel → TdcChannel) (g : TdcChRegs → TdcChRegs) (s : State) :
    updCh n id g (updCh n f id s) = updCh n f g s := by
  simp only [updCh, vupd_id]

/-! ## Starts, stops and run ends (R172, R176 to R179) -/

section
variable {s : State} {ch : Fin 4}

/-- A comparator's output that follows its input leaves the channel in its state (R172). -/
theorem st_updCh_out (high : Bool) :
    (updCh ch.val (fun c => { c with out := high }) id s).ch[ch].st = s.ch[ch].st := by
  rw [updCh_ch_same]

theorem startChannel_armed (hst : s.ch[ch].st = .armed) (startF : Nat) :
    startChannel ch.val startF s = updCh ch.val (fun c => { c with st := .running, startF }) id s := by
  rw [startChannel, vget_val, hst]

theorem startChannel_running (hst : s.ch[ch].st = .running) (startF : Nat) :
    startChannel ch.val startF s = updCh ch.val id (fun w => { w with startlost := inc16 w.startlost }) s := by
  rw [startChannel, vget_val, hst]

/-- The start that the run asks for begins it, at the fine position of its edge where that is asynchronous (R167, R179). -/
theorem exec_tdcStart_armed {sync : Bool} {t : TdcTable} (hst : s.ch[ch].st = .armed) (htable : s.ch[ch].table = some t)
    (hsync : s.ch[ch].cfg.sync = sync) (fine : FineCode) :
    exec (.tdcStart ch sync fine) s = done (updCh ch.val (fun c => { c with
      st := .running, startF := if sync then 0 else (fine16 t fine).toNat }) id s) := by
  show execTdcStart ch sync fine s = _
  unfold execTdcStart
  dsimp only
  rw [hst, htable]
  exact (if_pos hsync.symm).trans (congrArg done (startChannel_armed hst _))

theorem exec_tdcStart_running (hst : s.ch[ch].st = .running) (sync : Bool) (fine : FineCode) :
    exec (.tdcStart ch sync fine) s = done (updCh ch.val id (fun w => { w with startlost := inc16 w.startlost }) s) := by
  show execTdcStart ch sync fine s = _
  unfold execTdcStart
  dsimp only
  rw [hst]
  exact congrArg done (startChannel_running hst 0)

section
variable {high : Bool} {level : Int} (hhigh : high = comparator s.ch[ch].cfg.thr s.cat.tdc.hyst s.ch[ch].out level)
include hhigh

theorem switchEdge_stays (hsame : high = s.ch[ch].out) : switchEdge ch.val level s = (none, s) := by
  rw [switchEdge, vget_val, ← hhigh]
  exact if_pos hsame

theorem switchEdge_switches (hcross : high ≠ s.ch[ch].out) :
    switchEdge ch.val level s = (some high, updCh ch.val (fun c => { c with out := high }) id s) := by
  rw [switchEdge, vget_val, ← hhigh]
  exact if_neg hcross

/-- A level at which the comparator does not switch is no crossing, whatever the channel does. -/
theorem exec_tdcStopCrossing_stays (hsame : high = s.ch[ch].out) (count : Nat) (fine : FineCode) :
    exec (.tdcStopCrossing ch count fine level) s = .next s := by
  show execTdcStopCrossing ch count fine level s = _
  unfold execTdcStopCrossing
  rw [switchEdge_stays hhigh hsame]
  exact ite_self _

/-- A crossing before the start is counted and ignored (R177). -/
theorem exec_tdcStopCrossing_armed (hst : s.ch[ch].st = .armed) (hcross : high ≠ s.ch[ch].out) (count : Nat) (fine : FineCode) :
    exec (.tdcStopCrossing ch count fine level) s =
      done (updCh ch.val (fun c => { c with out := high }) (fun w => { w with orderr := inc16 w.orderr }) s) := by
  show execTdcStopCrossing ch count fine level s = _
  unfold execTdcStopCrossing
  rw [switchEdge_switches hhigh hcross, hst, if_neg ChState.noConfusion]
  dsimp only
  rw [st_updCh_out, hst, updCh_id_updCh_id]

/-- A crossing of a run is judged with the edge that it makes. -/
theorem exec_tdcStopCrossing_running (hst : s.ch[ch].st = .running) (hcross : high ≠ s.ch[ch].out) (count : Nat) (fine : FineCode) :
    exec (.tdcStopCrossing ch count fine level) s =
      done (runningStop ch.val count fine high (updCh ch.val (fun c => { c with out := high }) id s)) := by
  show execTdcStopCrossing ch count fine level s = _
  unfold execTdcStopCrossing
  rw [switchEdge_switches hhigh hcross, hst, if_neg ChState.noConfusion]
  dsimp only
  rw [st_updCh_out, hst]

end

theorem exec_tdcRunEnd (hst : s.ch[ch].st = .running) : exec (.tdcRunEnd ch) s = done (endRun ch.val s) := if_pos hst

end

/-! ## The calibration (R182 to R186) -/

section
variable {s : State}

theorem exec_tdcCalDue {cause : Fin 8} {smp : Sample} (hasks : s.timed = true ∨ s.starting = true)
    (hmoved : cause ≠ 3 ∨ movedCaldt (sample smp (wake 1 s)) = true) :
    exec (.tdcCalDue cause smp) s = done (requestTdcCal cause.val (sample smp (wake 1 s))) :=
  (if_neg (by simpa [or_iff_not_imp_left] using hasks)).trans
    (if_neg fun ⟨hcause, hstill⟩ => hmoved.elim (· hcause) fun h => by simp [h] at hstill)

theorem exec_tdcCalBlockEnd (hrun : s.cal.run = true) (hblocks : s.cal.blocks < 16)
    (hcal : s.ch.any (fun c => c.st == .calibrating) = true) (hits : List TdcTable) :
    exec (.tdcCalBlockEnd hits) s = done { s with
      cal.blocks := s.cal.blocks + 1
      ch := Vector.ofFn (fun (n : Fin 4) =>
        let c := s.ch[n]
        { c with hist := addHist c.hist (hits.getD n.val noHits)
                 st := if c.st == .calibrating ∧ s.cal.blocks = 15 then .idle else c.st }) } :=
  if_neg (by simp [hrun, hcal, hblocks])

section
variable (hrun : s.cal.run = true) (hcal : s.ch.any (fun c => c.st == .calibrating) = true)
include hrun hcal

/-- A block under way is discarded on every channel, and the 32nd ends the calibration (R184). -/
theorem interruptBlock_calibrating :
    let u : State := { s with
      cal.abandoned := s.cal.abandoned + 1, r.tdc.tdccalAbandon := BitVec.ofNat 6 (min 32 (s.cal.abandoned + 1))
      ch := s.ch.map (fun c => if c.st == .calibrating then { c with st := .idle } else c) }
    interruptBlock s = if 32 ≤ s.cal.abandoned + 1 then endCal [5, 5, 5, 5] u else u :=
  if_neg (by simp [hrun, hcal])

theorem exec_tdcCalBlockAbandon_continues (habandoned : s.cal.abandoned < 31) :
    exec .tdcCalBlockAbandon s = done { s with
      ch := s.ch.map (fun c => if c.st == .calibrating then { c with st := .idle } else c)
      cal.abandoned := s.cal.abandoned + 1, r.tdc.tdccalAbandon := BitVec.ofNat 6 (min 32 (s.cal.abandoned + 1)) } :=
  (if_pos hrun).trans (congrArg done ((interruptBlock_calibrating hrun hcal).trans (if_neg (by omega))))

theorem exec_tdcCalBlockAbandon_last (habandoned : s.cal.abandoned = 31) :
    exec .tdcCalBlockAbandon s = done (endCal [5, 5, 5, 5] { s with
      ch := s.ch.map (fun c => if c.st == .calibrating then { c with st := .idle } else c)
      cal.abandoned := 32, r.tdc.tdccalAbandon := 32 }) := by
  refine (if_pos hrun).trans (congrArg done ((interruptBlock_calibrating hrun hcal).trans ?_))
  rw [habandoned]
  exact if_pos (le_refl 32)

end

theorem exec_tdcCalEvaluate (hrun : s.cal.run = true) (hblocks : 16 ≤ s.cal.blocks) :
    exec .tdcCalEvaluate s = done (endCal (s.ch.toList.map (fun c => calCode c.hist)) s) :=
  if_neg (by simp [hrun, hblocks])

theorem exec_tdcCalRetry {n : Nat} (smp : Sample) (htimed : s.timed = true) (hretry : s.cal.retryAt = some n) :
    exec (.tdcCalRetry smp) s = done (requestTdcCal 5 { sample smp s.atTimer with cal.retryAt := none }) :=
  (if_neg (by simp [hretry])).trans (onTimer_eq htimed)

theorem exec_tdcNoPass2calint {ch : Fin 4} (htimed : s.timed = true) (hcode : assignCode ch.val s ≤ 1)
    (hlogged : s.ch[ch].noPassLogged = false) :
    exec (.tdcNoPass2calint ch) s = done (logEvent 0x0306
      [(ch.val : Int), roundOpen (((tlmono s.atTimer - s.atTimer.ch[ch].lastPass : Nat) : Rat) / 3600)]
      (updCh ch.val (fun c => { c with noPassLogged := true }) id s.atTimer)) :=
  (if_neg (by rw [hlogged]; simpa using hcode)).trans (onTimer_eq htimed)

end

/-- Settles O32: the comparator decides between a crossing, which is counted, and none. -/
theorem earlyStopIsIgnoredAndCounted : Obligations.EarlyStopIsIgnoredAndCounted :=
  fun _ _ count fine _ _ hst hhigh =>
    ⟨fun hcross => exec_tdcStopCrossing_armed hhigh hst hcross count fine,
      fun hsame => exec_tdcStopCrossing_stays hhigh hsame count fine⟩

/-- Settles O33: each clause is its command's equation under the clause's conditions. -/
theorem tdcCommandsComplete : Obligations.TdcCommandsComplete := by
  intro s smp ch
  exact ⟨fun _ fine _ hst htable hsync => exec_tdcStart_armed hst htable hsync fine,
    fun sync fine hst => exec_tdcStart_running hst sync fine,
    fun count fine _ _ hst hhigh => ⟨fun hcross => exec_tdcStopCrossing_running hhigh hst hcross count fine,
      fun hsame => exec_tdcStopCrossing_stays hhigh hsame count fine, exec_tdcRunEnd hst⟩,
    fun _ => exec_tdcCalDue,
    fun hrun => ⟨fun hits hblocks hcal => exec_tdcCalBlockEnd hrun hblocks hcal hits,
      fun hcal => ⟨exec_tdcCalBlockAbandon_continues hrun hcal, exec_tdcCalBlockAbandon_last hrun hcal⟩,
      exec_tdcCalEvaluate hrun⟩,
    fun _ => exec_tdcCalRetry smp, exec_tdcNoPass2calint⟩

end Sys2Proof.Machine
end

section
/-! SUPPORT. The commands of the Piste's steps and their shots, one equation each; the statement PisteShotsAndRetriesRun. -/

namespace Sys2Proof.Machine

/-! ## A due step and a step of shots (R193, R203 to R207, R222, R230) -/

section
variable {s : State}

/-- A step that is served before its time is due at the present, any other at the time that was set for it (R210, R213). -/
theorem exec_pisteStepDue {step : Fin 16} (htimed : s.timed = true) (hepoch : s.ps.epoch.isSome = true)
    (hstep : step.val < s.cat.steps.length) (smp : Sample) :
    exec (.pisteStepDue step smp) s =
      (let u := sample smp (wake 1 s)
       let due := min (u.ps.next.getD step.val u.now) u.now
       let v := { u with ps.next := u.ps.next.set step.val (nextDue step.val (max u.now due) u), pw.choose := true }
       done (dueStep step.val due (onlyIf ((v.cat.step step.val).action == 0) countScheduled v))) := by
  have hepoch' : s.ps.epoch.isNone = false := by simpa [← Option.not_isSome] using hepoch
  exact if_neg (by simpa [htimed, hepoch'] using hstep)

section
variable (hshot : shotStep s = true)
include hshot

theorem exec_boostReady {mv : Nat} (hon : s.r.drv.xdstatBooston = true) (hlevel : 98 * s.r.drv.vdrvtgt.toNat ≤ 100 * mv) :
    exec (.boostReady mv) s = done { s with r.drv.xdstatVdrvok := true } :=
  if_pos (by simp [hshot, hon, hlevel])

/-- A boost that is late is switched off, counted and logged (R193). -/
theorem exec_boostTimeout_fails {x : StepRun} (hrun : s.ps.run = some x) (hon : s.r.drv.xdstatBooston = true)
    (hok : s.r.drv.xdstatVdrvok = false) (mv : Nat) :
    exec (.boostTimeout mv) s = done (logEvent 0x0401 [(maskOf (runPaths s) : Int), (mv : Int)]
      { s with r.drv.xdstatBooston := false, r.drv.vdrvmv := sat 16 mv, r.drv.boostfail := inc16 s.r.drv.boostfail
               ps.run := some { x with boostFail := true } }) := by
  show execBoostTimeout mv s = _
  unfold execBoostTimeout
  rw [hrun]
  exact if_pos (by simp [hshot, hon, hok])

/-- A capture is processed where its shot is fired and has none yet (R222). -/
theorem exec_shotCaptureProcess {cap : Capture} (hfired : shotFired cap.path cap.pair cap.up s = true)
    (hfirst : getShot cap.path cap.pair cap.up s = none) :
    exec (.shotCaptureProcess cap) s = done (processShot cap s) := by
  show execShotCaptureProcess cap s = _
  unfold execShotCaptureProcess
  rw [hfirst]
  exact if_pos (by simp [hshot, hfired])

section
variable {mv : Nat} (hok : s.r.drv.xdstatVdrvok = true) (hgates : gatesHoldShots s = false)
  (hlevel : 98 * s.r.drv.vdrvtgt.toNat ≤ 100 * mv)
include hok hgates hlevel

/-- The next pair fires where every channel of it has its table; otherwise the step ends and a calibration is asked for
(R187, R193, R203). -/
theorem exec_shotFire {k i : Nat} {dirs : List Bool} (ilim : List Nat)
    (hnext : nextFiring (markFirst { s with r.drv.vdrvmv := sat 16 mv }) = some (k, i, dirs)) :
    exec (.shotFire mv ilim) s =
      (let u := markFirst { s with r.drv.vdrvmv := sat 16 mv }
       done (if dirs.any (fun up => (vget u.ch (shotChannel k i up u) {}).table.isNone) then endShots (requestTdcCal 7 u)
             else fireShots k i dirs ilim u)) := by
  show execShotFire mv ilim s = _
  unfold execShotFire
  rw [if_neg (by simp [hshot, hok, hgates]), if_neg (Nat.not_lt.mpr hlevel)]
  dsimp only
  rw [hnext]
  exact (apply_ite done _ _ _).symm

/-- A retry fires the one shot that is owed, after the last pair of the interval, and is counted (R207). -/
theorem exec_retryShot {k : Fin 4} {i : Nat} {up : Bool} (ilim : List Nat) (haction : runAction s = 0)
    (hseq : pathSeq k.val s = true) (hlast : nextFiring s = none) (hfits : retryFits k.val s = true)
    (howed : toRetry k.val s = some (i, up)) :
    exec (.retryShot k ⟨mv, ilim⟩) s = done (updPath k.val (fun p => { p with retried := (i, up) :: p.retried })
      (fireShots k.val i [up] ilim { s with
        r.drv.vdrvmv := sat 16 mv
        r.path := vupd s.r.path k.val (fun w => { w with retrycnt := inc16 w.retrycnt }) })) := by
  show execRetryShot k ⟨mv, ilim⟩ s = _
  unfold execRetryShot
  dsimp only
  rw [if_neg (by simp [hshot, hok, hgates, haction, hseq, hlast, hfits]), if_neg (Nat.not_lt.mpr hlevel), howed]

end

/-! ## Results of a step (R242, R243) -/

section
variable {x : StepRun} {y : Nat × Nat} (hcomplete : intervalComplete s = true) (hrun : s.ps.run = some x)
  (hfirst : x.first = some y)
include hcomplete hrun hfirst

/-- An interval that has begun with a shot is posted as it stands. -/
theorem exec_intervalResultPost (haction : runAction s = 0) (checks : List PortCheck) :
    exec (.intervalResultPost checks) s = done (endShots (portChecks checks (postInterval s))) := by
  show execIntervalResultPost checks s = _
  unfold execIntervalResultPost
  rw [if_neg (by simp [hshot, haction, hcomplete]), hrun]
  dsimp only
  rw [hfirst]
  rfl

/-- The results of a zero check carry the time of its first shot. -/
theorem exec_zeroCheckResult (haction : runAction s = 5) :
    exec .zeroCheckResult s =
      done (endShots ((runPaths s).foldl (fun (u : State) (k : Nat) => zeroPath k y.1 u) s)) := by
  show execZeroCheckResult s = _
  unfold execZeroCheckResult
  rw [if_neg (by simp [hshot, haction, hcomplete]), hrun]
  dsimp only
  rw [hfirst]
  rfl

end

end

/-- Each path's templates that have adapted are copied, class by class (R228). -/
theorem exec_templateDailyCopy (htimed : s.timed = true) :
    exec .templateDailyCopy s = done ((pathsOf s).foldl (fun (u : State) (k : Nat) => copyFresh k u) s) :=
  if_neg (by simp [htimed])

end

/-- Settles O34: each clause is its command's equation under the clause's conditions. -/
theorem pisteShotsAndRetriesRun : Obligations.PisteShotsAndRetriesRun := by
  intro s smp
  refine ⟨fun _ htimed hepoch hstep => exec_pisteStepDue htimed hepoch hstep smp, fun hshot => ?shots,
    exec_fastSequenceTimeout, exec_templateDailyCopy⟩
  case shots =>
    exact ⟨fun _ => exec_boostReady hshot,
      fun mv _ hrun hon hok => exec_boostTimeout_fails hshot hrun hon hok mv,
      fun _ ilim _ _ _ hok hgates hlevel => exec_shotFire hshot hok hgates hlevel ilim,
      fun _ => exec_shotCaptureProcess hshot,
      fun haction =>
        ⟨fun _ _ ilim _ _ hseq hlast hfits hok hgates hlevel howed =>
            exec_retryShot hshot hok hgates hlevel ilim haction hseq hlast hfits howed,
          fun checks _ _ hcomplete hrun hfirst => exec_intervalResultPost hshot hcomplete hrun hfirst haction checks⟩,
      fun _ _ haction hcomplete hrun hfirst => exec_zeroCheckResult hshot hcomplete hrun hfirst haction⟩

end Sys2Proof.Machine
end

section
/-! SUPPORT. The interval status by its paths of non-zero weight; the statement IntervalStatusTakesTheWorstWeightedPath. -/

namespace Sys2Proof.Machine

/-! ## Interval status (R237) -/

section
variable (os : List (Nat × PathOut)) (s : State)

/-- Some path of non-zero weight has the status `n`. -/
def HasWeightedPath (n : Nat) : Prop := ∃ x ∈ os, weight x.1 s ≠ 0 ∧ x.2.status = n

theorem any_status_weighted_iff (n : Nat) :
    (os.filter (fun x => weight x.1 s != 0)).any (fun x => x.2.status == n) = true ↔ HasWeightedPath os s n := by
  simp [HasWeightedPath, List.any_filter]

/-- A lost path decides before a substituted one, and either before the valid ones. -/
theorem intervalStatus_cases :
    (HasWeightedPath os s 3 ∧ intervalStatus os s = 3) ∨
    (¬HasWeightedPath os s 3 ∧ HasWeightedPath os s 2 ∧ intervalStatus os s = 2) ∨
    (¬HasWeightedPath os s 3 ∧ ¬HasWeightedPath os s 2 ∧ intervalStatus os s = 1) := by
  simp only [← any_status_weighted_iff]
  unfold intervalStatus
  dsimp only
  split_ifs with hlost hsubst
  · exact .inl ⟨hlost, rfl⟩
  · exact .inr (.inl ⟨hlost, hsubst, rfl⟩)
  · exact .inr (.inr ⟨hlost, hsubst, rfl⟩)

theorem intervalStatus_eq_lost_iff : intervalStatus os s = 3 ↔ HasWeightedPath os s 3 := by
  obtain ⟨hlost, hst⟩ | ⟨hlost, _, hst⟩ | ⟨hlost, _, hst⟩ := intervalStatus_cases os s <;> simp [hlost, hst]

theorem intervalStatus_eq_substituted_iff :
    intervalStatus os s = 2 ↔ HasWeightedPath os s 2 ∧ ¬HasWeightedPath os s 3 := by
  obtain ⟨hlost, hst⟩ | ⟨hlost, hsubst, hst⟩ | ⟨hlost, hsubst, hst⟩ := intervalStatus_cases os s
  · simp [hlost, hst]
  · simp [hlost, hsubst, hst]
  · simp [hsubst, hst]

theorem intervalStatus_eq_valid_iff :
    intervalStatus os s = 1 ↔ ¬HasWeightedPath os s 2 ∧ ¬HasWeightedPath os s 3 := by
  obtain ⟨hlost, hst⟩ | ⟨_, hsubst, hst⟩ | ⟨hlost, hsubst, hst⟩ := intervalStatus_cases os s
  · simp [hlost, hst]
  · simp [hsubst, hst]
  · simp [hlost, hsubst, hst]

theorem intervalStatus_filter_weighted :
    intervalStatus (os.filter (fun x => decide (weight x.1 s ≠ 0))) s = intervalStatus os s := by
  have hweighted : (os.filter (fun x => decide (weight x.1 s ≠ 0))).filter (fun x => weight x.1 s != 0)
      = os.filter (fun x => weight x.1 s != 0) := by
    rw [List.filter_filter]
    exact List.filter_congr (by simp)
  unfold intervalStatus
  rw [hweighted]

end

/-- Settles O55: the first status that a weighted path has, of 3, 2 and 1 in this order, decides (`intervalStatus_cases`). -/
theorem intervalStatusTakesTheWorstWeightedPath : Obligations.IntervalStatusTakesTheWorstWeightedPath := by
  intro os s
  refine ⟨intervalStatus_eq_lost_iff os s, intervalStatus_eq_substituted_iff os s, ?valid, intervalStatus_filter_weighted os s⟩
  case valid =>
    rw [intervalStatus_eq_valid_iff]
    simp only [HasWeightedPath, not_exists, not_and]
    exact ⟨fun ⟨hsubst, hlost⟩ x hx hw => ⟨hsubst x hx hw, hlost x hx hw⟩,
      fun h => ⟨fun x hx hw => (h x hx hw).1, fun x hx hw => (h x hx hw).2⟩⟩

end Sys2Proof.Machine
end

section
/-! SUPPORT. The watchdogs of the Curator, its engines and the Warden, one equation each, and the module checks; the statement
WatchdogsAndModuleChecksComplete. -/

namespace Sys2Proof.Machine

/-! ## Watchdogs of the Curator and its engines (R452) -/

section
variable {s : State} (hwatched : watched s = true)
include hwatched

/-- Operation is not the safe-beacon that the Warden runs alone (R103), the one phase that this watchdog passes over. -/
theorem exec_curatorWatchdog_of_watched (hop : s.operating = true) :
    exec .curatorWatchdog s = done (watchdogReset 1 s) := by
  have hphase : s.phase = .operating := by simpa [State.operating] using hop
  exact if_pos (by simp [hwatched, hphase])

section
variable (hop : s.operating = true) (hsig : s.isOn .sig = true)
include hop hsig

/-- Before the third expiry of a day the Signal core alone is reset (R242). -/
theorem exec_signalWatchdog_resets_core (hfew : (expiries s.flt.sigHist s).length < 3) :
    exec .signalWatchdog s = done (logEvent 0x1002 [2] (resetSignal (countExpiry 2
      { s with flt.sigHist := expiries s.flt.sigHist s }))) :=
  (if_neg (by simp [hwatched, hop, hsig])).trans (if_neg (Nat.not_le.mpr hfew))

theorem exec_signalWatchdog_escalates (hmany : 3 ≤ (expiries s.flt.sigHist s).length) :
    exec .signalWatchdog s = done (watchdogReset 2 { s with flt.sigHist := expiries s.flt.sigHist s }) :=
  (if_neg (by simp [hwatched, hop, hsig])).trans (if_pos hmany)

end

section
variable {smp : Sample} {v : State} (hop : s.operating = true) (hlnk : s.isOn .lnk = true) (hsample : sample smp s = v)
include hop hlnk hsample

/-- Before the third expiry of a day the Link core alone is reset, and its role restarts after its alarm telegram. -/
theorem exec_linkWatchdog_resets_core (hfew : (expiries v.flt.lnkHist v).length < 3) :
    exec (.linkWatchdog smp) s = done
      (let u := { v with flt.lnkHist := expiries v.flt.lnkHist v }
       let w := if alarmUnderWay u then loseFrame u else u
       linkAlarm (logEvent 0x1003 [(w.ln.role.code : Int)] { resetLink (countExpiry 3 w) with rad.linkRestart := true })) := by
  show execLinkWatchdog smp s = _
  unfold execLinkWatchdog
  rw [if_neg (by simp [hwatched, hop, hlnk]), hsample]
  exact if_neg (Nat.not_le.mpr hfew)

theorem exec_linkWatchdog_escalates (hmany : 3 ≤ (expiries v.flt.lnkHist v).length) :
    exec (.linkWatchdog smp) s = done (watchdogReset 3 { v with flt.lnkHist := expiries v.flt.lnkHist v }) := by
  show execLinkWatchdog smp s = _
  unfold execLinkWatchdog
  rw [if_neg (by simp [hwatched, hop, hlnk]), hsample]
  exact if_pos hmany

end

/-- A Registrar that runs and is busy recovers as after a lockstep event, without logging one (R21, R266). -/
theorem exec_registrarWatchdog (hruns : regRuns s = true) (hbusy : registrarBusy s = true) :
    exec .registrarWatchdog s = done (regRecover (logEvent 0x1002 [4] (countExpiry 4
      { s with flt.regHist := expiries s.flt.regHist s }))) :=
  if_pos (by simp [hwatched, hruns, hbusy])

end

/-! ## Warden watchdog and the alarm telegram (R452, R457) -/

section
variable {s : State} (haon : s.aon = true)
include haon

/-- With no procedure under way the Warden's expiry begins one, outside a brownout and a hold by `RST_N`. -/
theorem exec_wardenWatchdog_begins (hproc : s.flt.proc = none) (hbrownout : s.phase ≠ .brownout) (hhold : s.phase ≠ .resetHold) :
    exec .wardenWatchdog s = done (watchdogReset 5 s) := by
  show execWardenWatchdog s = _
  unfold execWardenWatchdog
  rw [if_neg (by simp [haon]), hproc]
  dsimp only
  split
  · exact absurd ‹_› hbrownout
  · exact absurd ‹_› hhold
  · rfl

/-- An expiry within a reset that the Warden triggered leaves the remaining steps out. -/
theorem exec_wardenWatchdog_finishes {st : ProcStage} (hproc : s.flt.proc = some ⟨5, st⟩) :
    exec .wardenWatchdog s = .next (procFinish 5 (countExpiry 5 s)) := by
  show execWardenWatchdog s = _
  unfold execWardenWatchdog
  rw [if_neg (by simp [haon]), hproc]
  exact if_pos rfl

end

theorem exec_alarmTelegramSeatTimeout {s : State} {x : Seat} {f : TxFrame}
    (hseat : s.cl.waiting.find? (fun x => x.work == .transmit .alarm) = some x)
    (hframe : s.rad.queue.find? (fun f => f.use == .alarm) = some f) :
    exec .alarmTelegramSeatTimeout s =
      done (tellDropped f { s with cl.waiting := s.cl.waiting.filter (fun y => y.order != x.order) }) := by
  show execAlarmTelegramSeatTimeout s = _
  unfold execAlarmTelegramSeatTimeout
  rw [hseat, hframe]

/-! ## Module ports (R433, R435) -/

theorem exec_moduleCheck24h {s : State} (htimed : s.timed = true) (reads : List (Fin 7 × ModRead)) (ok : Bool) (smp : Sample) :
    exec (.moduleCheck24h reads ok smp) s = done
      (let u := sample smp s.atTimer
       let v := if u.io.modCheckAt + 86400000000 ≤ u.tl.monoUs then
           requestSeat 4 50 5000 none .moduleCheck { u with io.modCheckAt := u.tl.monoUs } else u
       if heldWork 4 v == some .moduleCheck then runModuleCheck reads ok v else v) := by
  show execModuleCheck24h reads ok smp s = _
  unfold execModuleCheck24h
  rw [onTimer_eq htimed]
  rfl

theorem exec_i2cStretchTimeout {s : State} (hserving : s.serving = true) (hmod : s.isOn .mod = true) (p : Fin 7) :
    exec (.i2cStretchTimeout p) s =
      done { s with r.mp := vupd s.r.mp p.val (fun w => { w with mpstatFault := 2, mpstatMatch := false }) } :=
  if_pos (by simp [hserving, hmod])

/-- Settles O51: each clause is its command's equation under the clause's conditions, with the frame of the standing work for
the line that is held low. -/
theorem watchdogsAndModuleChecksComplete : Obligations.WatchdogsAndModuleChecksComplete := by
  intro s smp
  exact ⟨exec_curatorWatchdog_of_watched,
    fun hwatched hop hsig => ⟨exec_signalWatchdog_resets_core hwatched hop hsig, exec_signalWatchdog_escalates hwatched hop hsig⟩,
    fun hwatched hop hlnk => ⟨exec_linkWatchdog_resets_core hwatched hop hlnk rfl, exec_linkWatchdog_escalates hwatched hop hlnk rfl⟩,
    exec_registrarWatchdog,
    fun haon => ⟨exec_wardenWatchdog_begins haon, fun _ => exec_wardenWatchdog_finishes haon⟩,
    fun _ _ => exec_alarmTelegramSeatTimeout,
    fun reads ok htimed => exec_moduleCheck24h htimed reads ok smp,
    fun p hserving hmod => next_withWork_of_exec_eq_done (exec_i2cStretchTimeout hserving hmod p)⟩

end Sys2Proof.Machine
end

section
/-! SUPPORT. The commands of the temperature measurement, the pressure module and the Registrar, one equation each; the
statement MeasurementsAndIntegrationsArePosted. -/

namespace Sys2Proof.Machine

/-! ## Results of unit 4 (R252, R259, R279) -/

section
variable {s : State} (hproc : s.flt.proc = none) (hpw : s.pw.st = .run)
include hproc hpw

/-- No discharge of the plan is to come: the measurement is evaluated over those it has, and its seat goes back. -/
theorem exec_temperatureResultPost (hmeasures : measuringTemp s = true) (hover : nextDischarge s = none) (limits : List Nat) :
    exec (.temperatureResultPost limits) s = done
      (let ds := measured limits s
       let e := evalMeasure ds s.cat.t.avg s
       let thetas := e.2.2.filterMap (fun p => (p.2.bind (·.theta)).map (fun t => (p.1, t)))
       endTemperature (examineSwap (keepResult thetas (resultWords s.cat.t.avg e.2.1 thetas
         (tempEvents (s.r.tch.toList.map (fun w => w.tchstatFault.toNat)) (channelWords ds s.cat.t.avg s)))))) :=
  if_neg (by simp [hmeasures, hproc, hpw, hover])

theorem exec_pressureRead (hreads : readingPressure s = true) (answer : Option (BitVec 32 × Byte)) :
    exec (.pressureRead answer) s = done
      (let u := postPressure (pressureReading answer s).1 (pressureReading answer s).2 s
       endStep 4 (domOff [.mod] { u with mp := vupd u.mp 3 (fun m => { m with vson := false }) })) :=
  if_neg (by simp [hreads, hproc, hpw])

end

/-! ## The Registrar in operation (R266, R268, R286) -/

section
variable {s : State} (hruns : regRuns s = true)
include hruns

/-- An integration forgets which results the recoveries were on (65536 is no sequence number) and keeps their times, for the third
of a day (R266). -/
theorem exec_registrarIntegrate (hslots : s.fl.slots ≠ []) (hpw : s.pw.st = .run) :
    exec .registrarIntegrate s =
      done (integrateSlot { s with rg.lsHist := s.rg.lsHist.map (fun x => (x.1, 65536)) }) :=
  if_neg (by simp [hruns, hslots, hpw])

theorem exec_minuteSealTimeout (htimed : s.timed = true) :
    exec .minuteSealTimeout s = done (sealUpTo (civMin s.atTimer) s.atTimer) :=
  (if_neg (by simp [hruns])).trans (onTimer_eq htimed)

/-- The event names the result in hand before the recovery takes it up again (R266). -/
theorem exec_lockstepDisagreement (hpw : s.pw.st = .run) :
    exec .lockstepDisagreement s = done (regRecover
      (let u := logEvent 0x0801 [regSeq s] s; { u with r.rgr.lsmis := inc16 u.r.rgr.lsmis })) :=
  if_neg (by simp [hruns, hpw])

end

/-- Settles O39: each clause is its command's equation under the clause's conditions. -/
theorem measurementsAndIntegrationsArePosted : Obligations.MeasurementsAndIntegrationsArePosted := by
  intro s
  exact ⟨fun limits hmeasures hproc hpw hover => exec_temperatureResultPost hproc hpw hmeasures hover limits,
    fun answer hreads hproc hpw => exec_pressureRead hproc hpw hreads answer,
    exec_registrarIntegrate, exec_minuteSealTimeout, exec_lockstepDisagreement, exec_availabilityBinClose⟩

end Sys2Proof.Machine
end

section
/-! SUPPORT. The invariant of the safe runs, and what logging an event leaves in the queue and in the words of tampers and
alarms; the statements ResetIsSafe, StepKeepsTheExchangeBankCanonical, StepKeepsTheEventQueueWithin64,
RunsFromASafeStateStaySafe, EventIsQueuedOrCounted and TamperEventSetsItsWords. -/

namespace Sys2Proof.Machine

/-! ## Safe runs (R301, R319) -/

/-- Settles O5: XB lists no byte after reset, and no event waits. -/
theorem resetIsSafe : Obligations.ResetIsSafe :=
  ⟨reset_xb_wf, Nat.zero_le 64⟩

/-- Settles O6: the tick leaves XB as it is, and its canonical form is one of the things that every command keeps
(`exec_keeps`). -/
theorem stepKeepsTheExchangeBankCanonical : Obligations.StepKeepsTheExchangeBankCanonical := by
  intro s t hcanonical h
  obtain ⟨u, hkeeps, hxb, -, -⟩ := step_keeps h
  exact hkeeps.xb (hxb ▸ hcanonical)

/-- Settles O8: the tick leaves the event queue as it is, and its bound is one of the things that every command keeps
(`exec_keeps`). -/
theorem stepKeepsTheEventQueueWithin64 : Obligations.StepKeepsTheEventQueueWithin64 := by
  intro s t hfits h
  obtain ⟨u, hkeeps, -, hevq, -⟩ := step_keeps h
  have hfits' : u.evq.length ≤ 64 := hevq ▸ hfits
  exact hkeeps.evq hfits'

theorem step_safe {s t : State} (hsafe : Safe s) (h : step s = .next t) : Safe t := by
  obtain ⟨hcanonical, hfits⟩ := hsafe
  exact ⟨stepKeepsTheExchangeBankCanonical s t hcanonical h, stepKeepsTheEventQueueWithin64 s t hfits h⟩

/-- Settles O9, by induction on the number of steps. -/
theorem runsFromASafeStateStaySafe : Obligations.RunsFromASafeStateStaySafe := by
  intro n
  induction n with
  | zero =>
    intro s t hsafe hruns
    have hstays : t = s := hruns
    exact hstays ▸ hsafe
  | succ n ih =>
    intro s t hsafe hruns
    obtain ⟨u, hstep, hrest⟩ := hruns
    exact ih u t (step_safe hsafe hstep) hrest

/-! ## The queue of events (R319) -/

theorem flushDrops_of_no_drop {s : State} (h : s.evDrop = 0) : flushDrops s = s :=
  if_neg (by simp [h])

/-- With nothing dropped before, a log is its entry and then the effects of its class. -/
theorem logEvent_of_no_drop {s : State} (h : s.evDrop = 0) (code : Nat) (args : List Int) :
    logEvent code args s = classEffects code args (enqueueEvent (mkEvent code args s) s) := by
  unfold logEvent
  dsimp only
  rw [flushDrops_of_no_drop h]

/-- The effects of an event's class move neither the queue nor its counts (`class_ew`). -/
theorem logEvent_ew {s : State} (h : s.evDrop = 0) (code : Nat) (args : List Int) :
    ew (logEvent code args s) = ew (enqueueEvent (mkEvent code args s) s) := by
  rw [logEvent_of_no_drop h, class_ew]

theorem ew_enqueueEvent_room {s : State} (h : s.evq.length < 64) (e : Event) :
    ew (enqueueEvent e s) = (s.evq ++ [e], s.evDrop, s.r.mem.evqdrop) := by
  unfold enqueueEvent
  rw [if_pos h]
  rfl

theorem ew_enqueueEvent_full {s : State} (h : ¬s.evq.length < 64) (e : Event) :
    ew (enqueueEvent e s) = (s.evq, s.evDrop + 1, inc16 s.r.mem.evqdrop) := by
  unfold enqueueEvent
  rw [if_neg h]
  rfl

theorem alarmcnt_enqueueEvent (e : Event) (s : State) : (enqueueEvent e s).r.flt.alarmcnt = s.r.flt.alarmcnt := by
  unfold enqueueEvent
  split <;> rfl

/-- Settles O21: the entry decides what the queue holds (`logEvent_ew`), and the class what the alarm words hold
(`class_aw`). -/
theorem eventIsQueuedOrCounted : Obligations.EventIsQueuedOrCounted := by
  intro code args s
  refine ⟨logEvent_logs code args s, fun hdrop hroom => ?_, fun hdrop hfull => ?_, fun hdrop halarm => ?_⟩
  · have hqueue : ew (logEvent code args s) = _ := (logEvent_ew hdrop code args).trans (ew_enqueueEvent_room hroom _)
    exact ⟨congrArg (·.1) hqueue, (congrArg (·.2.1) hqueue).trans hdrop⟩
  · have hqueue : ew (logEvent code args s) = _ :=
      (logEvent_ew hdrop code args).trans (ew_enqueueEvent_full (by omega) _)
    rw [hdrop] at hqueue
    exact ⟨congrArg (·.1) hqueue, congrArg (·.2.1) hqueue, congrArg (·.2.2) hqueue⟩
  · have hwords : aw (logEvent code args s) = _ :=
      (congrArg aw (logEvent_of_no_drop hdrop code args)).trans (class_aw code args _ halarm)
    rw [alarmcnt_enqueueEvent] at hwords
    exact ⟨congrArg (·.1) hwords, congrArg (·.2.1) hwords, congrArg (·.2.2.1) hwords, congrArg (·.2.2.2) hwords⟩

/-! ## The tamper words (R446) -/

/-- Settles O20: the entries before the event's class move no tamper word; a tamper event's class sets them
(`class_tamperW_set`), another class leaves them (`class_tamperW`). -/
theorem tamperEventSetsItsWords : Obligations.TamperEventSetsItsWords := by
  intro code args s
  let u := enqueueEvent (mkEvent code args (flushDrops s)) (flushDrops s)
  have hclass : logEvent code args s = classEffects code args u := rfl
  have hbefore : tamperW u = tamperW s := (enq_tamperW _ _).trans (flush_tamperW s)
  have htime : tltime u = tltime s := ((flushDrops_logs s).trans (enqueueEvent_logs _ _)).reads tltime
  have hcount : u.r.flt.tampcnt = s.r.flt.tampcnt := congrArg (·.2.2.2) hbefore
  rw [hclass]
  refine ⟨fun htamper => ?_, fun hother => ?_⟩
  · have hwords := class_tamperW_set code args u htamper
    rw [htime, hcount] at hwords
    exact ⟨congrArg (·.1) hwords, congrArg (·.2.1) hwords, congrArg (·.2.2.1) hwords, congrArg (·.2.2.2) hwords⟩
  · have hwords := (class_tamperW code args u hother).trans hbefore
    exact ⟨congrArg (·.1) hwords, congrArg (·.2.1) hwords, congrArg (·.2.2.1) hwords, congrArg (·.2.2.2) hwords⟩

end Sys2Proof.Machine
end

section
/-! SUPPORT. The exchange bank's window and its pages, background passes, SRAM errors and the operations of the Archive; the
statements WindowShowsTheSelectedPageOfXb, PageSelectionIsPerPortAndBackgroundPassesAreAsked,
MemoryErrorIsRecordedBeforeItsEffect and ArchiveOperationsCompleteAndAreSuspended. -/

namespace Sys2Proof.Machine

/-! ## The window on XB (R301, R302) -/

section
variable {p : Option Port} {w : Nat} {s : State} (hw : w < 0x2000)
include hw

/-- Outside a start a read of the window is its word and moves nothing. -/
theorem readWord_window (hstart : s.starting = false) : readWord p (0x2000 + w) s = (windowWord p (0x2000 + w) s, s) := by
  unfold readWord
  rw [if_neg (by simp [hstart]; omega), if_pos (by omega)]

/-- No word of the window has an access code that takes writes. -/
theorem writeWord_window (q : Port) (v : Word) : writeWord q (0x2000 + w) v s = s :=
  writeWord_discarded (by simp; omega) q v s

end

/-- A byte of XB outside the reserved region stands in the window as it is. -/
theorem windowByte_of_not_reserved {off : Nat} {s : State} (h : ¬(0x2000 ≤ off ∧ off < 0x4000)) :
    windowByte off s = (Mem.get s.xb off).toNat :=
  if_neg h

theorem windowByte_of_reserved {off : Nat} {s : State} (h : 0x2000 ≤ off ∧ off < 0x4000) : windowByte off s = 0 :=
  if_pos h

/-- The window's word `w` lies at the byte offset 2 · `w` of the selected page of 16 384 bytes. -/
theorem windowWord_of_page {p : Option Port} {w n : Nat} {s : State} (hpage : (readPort p s).page.toNat = n) :
    windowWord p (0x2000 + w) s =
      if s.xbBad.contains ((16384 * n + 2 * w) / 4) then 0
      else windowByte (16384 * n + 2 * w) s + 256 * windowByte (16384 * n + 2 * w + 1) s := by
  unfold windowWord
  rw [hpage, Nat.add_sub_cancel_left]

section
variable {p : Option Port} {w : Nat} {s : State} (hpage : (readPort p s).page = 1)
include hpage

theorem windowWord_page_one (hgood : s.xbBad.contains (4096 + w / 2) = false) :
    windowWord p (0x2000 + w) s = (Mem.get s.xb (16384 + 2 * w)).toNat + 256 * (Mem.get s.xb (16384 + 2 * w + 1)).toNat := by
  rw [windowWord_of_page (n := 1) (by simp [hpage]), show (16384 * 1 + 2 * w) / 4 = 4096 + w / 2 by omega, hgood,
    if_neg Bool.false_ne_true, windowByte_of_not_reserved (by omega), windowByte_of_not_reserved (by omega)]

/-- A word that holds an uncorrectable error reads as 0 (R295). -/
theorem windowWord_page_one_bad (hbad : s.xbBad.contains (4096 + w / 2) = true) : windowWord p (0x2000 + w) s = 0 := by
  rw [windowWord_of_page (n := 1) (by simp [hpage]), show (16384 * 1 + 2 * w) / 4 = 4096 + w / 2 by omega, hbad, if_pos rfl]

end

section
variable {p : Option Port} {w : Nat} {s : State} (hpage : (readPort p s).page = 0)
include hpage

theorem windowWord_page_zero (hlow : w < 0x1000) (hgood : s.xbBad.contains (w / 2) = false) :
    windowWord p (0x2000 + w) s = (Mem.get s.xb (2 * w)).toNat + 256 * (Mem.get s.xb (2 * w + 1)).toNat := by
  rw [windowWord_of_page (n := 0) (by simp [hpage]), show (16384 * 0 + 2 * w) / 4 = w / 2 by omega, hgood,
    if_neg Bool.false_ne_true, windowByte_of_not_reserved (by omega), windowByte_of_not_reserved (by omega)]
  simp only [Nat.mul_zero, Nat.zero_add]

/-- The upper half of page 0 is the reserved region, whose bytes read as 0 with or without an error. -/
theorem windowWord_page_zero_reserved (hw : w < 0x2000) (hhigh : 0x1000 ≤ w) : windowWord p (0x2000 + w) s = 0 := by
  rw [windowWord_of_page (n := 0) (by simp [hpage]), windowByte_of_reserved (by omega), windowByte_of_reserved (by omega)]
  exact ite_self 0

end

/-- Settles O49: a read of the window is its word, which the page and the known errors decide. -/
theorem windowShowsTheSelectedPageOfXb : Obligations.WindowShowsTheSelectedPageOfXb := by
  intro p w s hw hstart
  rw [readWord_window hw hstart]
  exact ⟨fun hpage hgood => by rw [windowWord_page_one hpage hgood],
    fun hpage hbad => by rw [windowWord_page_one_bad hpage hbad],
    fun hpage hlow hgood => by rw [windowWord_page_zero hpage hlow hgood],
    fun hpage hhigh => by rw [windowWord_page_zero_reserved hpage hw hhigh],
    writeWord_window hw p⟩

/-! ## The page of a port, and background passes (R302, R305 to R308) -/

section
variable {p : Port} {s : State} (hport : portWrites p s = true)
include hport

theorem exec_xbpageSelWrite (v : Word) : exec (.xbpageSelWrite p v) s = done (selectPage p v s) := if_pos hport

theorem exec_bgcmdStart : exec (.bgcmdStart p) s = done { s with bgReq := true } := if_pos hport

end

theorem exec_bgtestDue {s : State} (hphase : s.operating = true ∨ s.phase = .safeBeacon false) (hbgtest : 0 < s.cat.bgtest) :
    exec .bgtestDue s = done { s with bgReq := true } :=
  if_pos (by simpa [hbgtest] using hphase)

section
variable {s : State} (hstart : s.starting = false) (hpw : s.pw.st = .run) (hserving : s.serving = true)
include hstart hpw hserving

/-- A slice with no pass under way takes up the request that waits. -/
theorem exec_bgSlice_begins (hbg : s.bg = none) (hreq : s.bgReq = true) (rows : Nat) :
    exec (.bgSlice rows) s = done (bgHold bgFuel
      { s with bgReq := false, bg := some { ({ start := tlmono s } : BgPass) with left := rows } }) := by
  show execBgSlice rows s = _
  unfold execBgSlice
  rw [if_neg (by simp [hstart, hpw, hserving]), hbg]
  dsimp only
  rw [hreq]
  rfl

theorem exec_bgSlice_goes_on {b : BgPass} (hbg : s.bg = some b) (hheld : b.held = false) (rows : Nat) :
    exec (.bgSlice rows) s = done (bgHold bgFuel { s with bg := some { b with left := rows } }) := by
  show execBgSlice rows s = _
  unfold execBgSlice
  rw [if_neg (by simp [hstart, hpw, hserving]), hbg]
  dsimp only
  rw [hbg]
  exact if_neg (by simp [hheld])

end

section
variable {b : BgPass} {s : State} (hbg : s.bg = some b)
include hbg

/-- A failed row is recorded before the slice goes on (R309). -/
theorem exec_bgWindowRelease (hheld : b.held = true) (failed : Bool) :
    exec (.bgWindowRelease failed) s = done (bgNext (onlyIf failed (bgFailed b.seg b.row) s)) := by
  show execBgWindowRelease failed s = _
  unfold execBgWindowRelease
  rw [hbg]
  exact if_pos hheld

theorem exec_bgUrgentAccess (hheld : b.held = true) : exec .bgUrgentAccess s = done (bgAbort s) := by
  show execBgUrgentAccess s = _
  unfold execBgUrgentAccess
  rw [hbg]
  exact if_pos hheld

/-- A pass is noted late once, with the rows that it has still to visit. -/
theorem exec_bgPassOverdue (hlate : b.late = false) (htimed : s.timed = true) :
    exec .bgPassOverdue s = done (logEvent 0x0A04 [(bgRemaining b : Int)] { s.atTimer with bg := some { b with late := true } }) := by
  have hop : s.operating = true := by
    simp only [State.timed, Bool.and_eq_true] at htimed
    exact htimed.1.1.1
  show execBgPassOverdue s = _
  unfold execBgPassOverdue
  rw [hbg]
  exact (if_neg (by simp [hlate, hop])).trans (onTimer_eq htimed)

end

/-- Settles O36: each clause is its command's equation under the clause's conditions, with the frame of the standing work where
the clause states one. -/
theorem pageSelectionIsPerPortAndBackgroundPassesAreAsked : Obligations.PageSelectionIsPerPortAndBackgroundPassesAreAsked := by
  intro s
  exact ⟨fun v hport => next_withWork_of_exec_eq_done (exec_xbpageSelWrite hport v),
    fun v hport => next_withWork_of_exec_eq_done (exec_xbpageSelWrite hport v),
    fun p hport => next_withWork_of_exec_eq_done (exec_bgcmdStart hport),
    fun hphase hbgtest => next_withWork_of_exec_eq_done (exec_bgtestDue hphase hbgtest),
    fun hstart hpw hserving => ⟨fun rows hbg hreq => exec_bgSlice_begins hstart hpw hserving hbg hreq rows,
      fun rows b hbg hheld => exec_bgSlice_goes_on hstart hpw hserving hbg hheld rows⟩,
    fun b hbg hheld => ⟨exec_bgWindowRelease hbg hheld false, exec_bgWindowRelease hbg hheld true, exec_bgUrgentAccess hbg hheld⟩,
    fun b => exec_bgPassOverdue⟩

/-! ## SRAM errors (R294, R295) -/

/-- Settles O37: the command's equation, in the phases in which the memory is in use. -/
theorem memoryErrorIsRecordedBeforeItsEffect : Obligations.MemoryErrorIsRecordedBeforeItsEffect := by
  intro s seg a p hphase hpowered
  have hheeded : (s.operating || s.safe || s.starting || s.phase == .extest) = true := by simpa [or_assoc] using hphase
  exact if_neg (by simp [hheeded, hpowered])

/-! ## Operations of the Archive (R310, R312) -/

section
variable {r : ArcRun} {s : State} (hrun : s.ar.run = some r)
include hrun

theorem exec_archiveOpComplete_ends_well : exec (.archiveOpComplete true) s = done (opDone s) := by
  show execArchiveOpComplete true s = _
  unfold execArchiveOpComplete
  rw [hrun]
  rfl

theorem exec_archiveOpComplete_retries (hretried : r.retried = false) :
    exec (.archiveOpComplete false) s = done { s with ar.run := some { r with retried := true } } := by
  show execArchiveOpComplete false s = _
  unfold execArchiveOpComplete
  rw [hrun]
  exact (if_neg Bool.false_ne_true).trans (if_pos (by simp [hretried]))

theorem exec_archiveOpComplete_fails (hretried : r.retried = true) : exec (.archiveOpComplete false) s = done (opFailed s) := by
  show execArchiveOpComplete false s = _
  unfold execArchiveOpComplete
  rw [hrun]
  exact (if_neg Bool.false_ne_true).trans (if_neg (by simp [hretried]))

/-- The last step of a record, or an erase, takes its effect and leaves the controller. -/
theorem opDone_last (hlast : r.job.erases = true ∨ r.ops < r.step) (hslot : r.job ≠ .sealedSlot) :
    opDone s = endOp r.owner (commitJob r.job { s with ar.run := none }) := by
  have hends : (r.job.erases || decide (r.ops < r.step) || (r.job.plain && decide (r.ops ≤ r.step))) = true := by
    rcases hlast with h | h <;> simp [h]
  unfold opDone
  rw [hrun]
  exact (if_pos hends).trans (if_neg (by simpa using hslot))

/-- The state program of a record is followed by the first operation of its body. -/
theorem opDone_first (herases : r.job.erases = false) (hplain : r.job.plain = false) (hstep : r.step = 0) (hops : r.step ≤ r.ops) :
    opDone s = nextStep { r with retried := false, step := 1, ops := bodyOps (begunJob r.job s).1 } (begunJob r.job s).2 := by
  unfold opDone
  rw [hrun]
  exact (if_neg (by simp [herases, hplain, Nat.not_lt.mpr hops])).trans (if_pos hstep)

/-- With a spare block left, the block of a failed operation is retired and the operation completes there. -/
theorem opFailed_retires {c : Nat} (hsector : runSector r s = some c) (hspare : 0 < s.ar.spares) :
    opFailed s = opDone (retireBlock (c / 16) s) := by
  unfold opFailed
  rw [hrun]
  dsimp only
  rw [hsector]
  exact if_pos hspare

/-- The erase that gives way is paused and counted. -/
theorem pauseRun_erase (herases : r.job.erases = true) : pauseRun s =
    { s with ar.run := none, ar.paused := s.ar.paused ++ [r], r.mem.arcsuspcnt := inc16 s.r.mem.arcsuspcnt } := by
  unfold pauseRun
  rw [hrun]
  exact if_pos herases

theorem exec_eraseSuspend (herases : r.job.erases = true) (howner : r.owner = .curator) (hdue : accessionDue s = true) :
    exec .eraseSuspend s = done (startOps { s with
      ar.run := none, ar.paused := s.ar.paused ++ [r], r.mem.arcsuspcnt := inc16 s.r.mem.arcsuspcnt }) := by
  rw [← pauseRun_erase hrun herases]
  show execEraseSuspend s = _
  unfold execEraseSuspend
  rw [hrun]
  exact if_pos (by simp [herases, howner, hdue])

end

/-- A commit that is programmed completes, and the procedure that waits for it goes on (R453). -/
theorem exec_shadowCommitComplete {c : Nat} {r : ArcRun} {s : State} (hproc : s.flt.proc = some ⟨c, .commit⟩)
    (hrun : s.ar.run = some r) (hslot : r.job = .sealedSlot) (smp : Sample) :
    exec (.shadowCommitComplete smp) s = done (procAfterCommit c { finishCommit (sample smp s) with cl.commit := none }) := by
  show execShadowCommitComplete smp s = _
  unfold execShadowCommitComplete
  rw [hproc, hrun]
  exact if_pos (by simp [hslot])

/-- Settles O38: each clause is its command's equation, or the case of `opDone` or `opFailed`, under the clause's conditions. -/
theorem archiveOperationsCompleteAndAreSuspended : Obligations.ArchiveOperationsCompleteAndAreSuspended := by
  intro s smp
  exact ⟨fun r hrun => ⟨exec_archiveOpComplete_ends_well hrun, exec_archiveOpComplete_retries hrun, exec_archiveOpComplete_fails hrun,
      fun herases => opDone_last hrun (.inl herases), opDone_first hrun, fun _ _ hlast => opDone_last hrun (.inr hlast),
      fun c => opFailed_retires hrun⟩,
    fun r hrun => exec_eraseSuspend hrun, fun htimed => exec_wardenAreaErase htimed,
    fun c r hproc hrun hslot => exec_shadowCommitComplete hproc hrun hslot smp⟩

end Sys2Proof.Machine
end

section
/-! SUPPORT. The Slalom sequence and the duty ledgers; the statements SlalomIsAPermutationOfTheChannels and
DutyLedgerPermitsWithinItsAllowance. -/

namespace Sys2Proof.Machine

/-! ## Slalom (R368) -/

/-- Two entries of a list change places. -/
theorem perm_of_exchange {l : List Nat} {i j : Nat} (hi : i < l.length) (hj : j < l.length) :
    ((l.set i (l.getD j 0)).set j (l.getD i 0)).Perm l := by
  rw [List.getD_eq_getElem _ _ hj, List.getD_eq_getElem _ _ hi]
  exact List.set_set_perm hi hj

/-- Each exchange of the shuffle is one of two places below `n`, so the list stays a permutation of the channels. -/
theorem slalomPerm_perm (clusterid n : Nat) : (slalomPerm clusterid n).Perm (List.range n) := by
  unfold slalomPerm
  dsimp only
  refine List.foldlRecOn (motive := fun acc : BitVec 32 × List Nat => acc.2.Perm (List.range n)) _ _ (List.Perm.refl _) ?_
  intro acc hperm t ht
  have hlen : acc.2.length = n := hperm.length_eq.trans List.length_range
  have hi : n - 1 - t < n := by have := List.mem_range.mp ht; omega
  have hj : (slalomNext acc.1).toNat % (n - 1 - t + 1) < n := by
    have : (slalomNext acc.1).toNat % (n - 1 - t + 1) < n - 1 - t + 1 := Nat.mod_lt _ (Nat.succ_pos _); omega
  exact (perm_of_exchange (hlen ▸ hi) (hlen ▸ hj)).trans hperm

theorem slalomPerm_length (clusterid n : Nat) : (slalomPerm clusterid n).length = n :=
  (slalomPerm_perm clusterid n).length_eq.trans List.length_range

theorem channelCount_pos (band : Nat) : 0 < channelCount band := by
  unfold channelCount
  split_ifs <;> decide

section
variable (sfn : Nat) (s : State)

theorem slalom_index_lt :
    sfn % channelCount s.cat.radio.band < (slalomPerm s.cat.link.clusterid (channelCount s.cat.radio.band)).length := by
  rw [slalomPerm_length]
  exact Nat.mod_lt _ (channelCount_pos _)

/-- The channel of a superframe is the entry of the sequence at its number modulo the number of channels. -/
theorem slalom_eq_getElem : slalom sfn s =
    (slalomPerm s.cat.link.clusterid (channelCount s.cat.radio.band))[sfn % channelCount s.cat.radio.band]'(slalom_index_lt sfn s) :=
  List.getD_eq_getElem _ _ _

theorem slalom_lt : slalom sfn s < channelCount s.cat.radio.band := by
  rw [slalom_eq_getElem]
  exact List.mem_range.mp ((slalomPerm_perm _ _).mem_iff.mp (List.getElem_mem _))

end

/-- Two superframes less than one round apart have different places in the sequence, which holds no channel twice. -/
theorem slalom_ne_within_round {a b : Nat} {s : State} (hlt : a < b) (hround : b < a + channelCount s.cat.radio.band) :
    slalom a s ≠ slalom b s := by
  intro hsame
  rw [slalom_eq_getElem, slalom_eq_getElem] at hsame
  have hnodup := (slalomPerm_perm s.cat.link.clusterid (channelCount s.cat.radio.band)).nodup_iff.mpr List.nodup_range
  have hmod : b % channelCount s.cat.radio.band = a % channelCount s.cat.radio.band := (hnodup.getElem_inj_iff.mp hsame).symm
  have hzero : (b - a) % channelCount s.cat.radio.band = 0 := Nat.sub_mod_eq_zero_of_mod_eq hmod
  rw [Nat.mod_eq_of_lt (by omega)] at hzero
  omega

/-- Settles O56: each exchange of the shuffle keeps the permutation, and the rest follows from it. -/
theorem slalomIsAPermutationOfTheChannels : Obligations.SlalomIsAPermutationOfTheChannels :=
  ⟨slalomPerm_perm, fun sfn s _ => slalom_lt sfn s, fun _ _ _ => slalom_ne_within_round⟩

/-! ## Duty ledgers (R347) -/

section
variable {code a : Nat} {s : State}

theorem permittedAt_of_duty (hcode : code ≠ 5) (ch : Option Nat) : permittedAt code ch a s = dutyEarliest code a s :=
  if_neg hcode

/-- The airtime fits into the allowance of the current minute: now. -/
theorem dutyEarliest_of_fits (h : dutySum code (tlmono s / 60) s * 1000 + a ≤ allowance code * 1000) :
    dutyEarliest code a s = s.tl.monoUs :=
  if_pos (by simpa using h)

/-- Where the airtime does not fit, the earliest time begins a later minute. -/
theorem dutyEarliest_of_exceeds (h : allowance code * 1000 < dutySum code (tlmono s / 60) s * 1000 + a) :
    ∃ i, 0 < i ∧ dutyEarliest code a s = (tlmono s / 60 + i) * 60000000 := by
  unfold dutyEarliest
  extract_lets m ok
  have hnow : ok 0 = false := decide_eq_false (Nat.not_le.mpr h)
  rw [hnow, if_neg Bool.false_ne_true]
  cases hfind : (List.range 62).find? ok with
  | none => exact ⟨62, by decide, rfl⟩
  | some i =>
    have hok : ok i = true := List.find?_some hfind
    refine ⟨i, Nat.pos_of_ne_zero fun hi => ?_, rfl⟩
    rw [hi, hnow] at hok
    exact absurd hok Bool.false_ne_true

/-- The beginning of a later minute lies ahead. -/
theorem monoUs_lt_later_minute {i : Nat} (hi : 0 < i) : s.tl.monoUs < (tlmono s / 60 + i) * 60000000 := by
  unfold tlmono
  omega

end

/-- Settles O57: the present moment where the airtime fits, and otherwise the beginning of a later minute. -/
theorem dutyLedgerPermitsWithinItsAllowance : Obligations.DutyLedgerPermitsWithinItsAllowance := by
  intro code ch a s hcode
  rw [permittedAt_of_duty hcode]
  refine ⟨dutyEarliest_of_fits, fun hexceeds => ?_⟩
  obtain ⟨i, hi, hminute⟩ := dutyEarliest_of_exceeds hexceeds
  rw [hminute]
  exact monoUs_lt_later_minute hi

end Sys2Proof.Machine
end

section
/-! SUPPORT. The radio: a frame's start and end, the synthesizer, the reply windows and the sequencer, one equation each; the
statement RadioCommandsComplete. -/

namespace Sys2Proof.Machine

/-! ## A frame on the air (R346, R349) -/

section
variable {f : TxFrame} {s : State}

/-- With the radio free, a frame that has its seat starts, from the state `u` that the pump leaves in Run outside an entry and
that is `s` itself elsewhere. -/
theorem exec_transmissionStart {u : State}
    (hpump : (if s.pw.st == .run && s.pw.target.isNone then requestsTogether pumpTx s else s) = u)
    (hair : u.rad.air = none) (hrx : u.ln.rxSince = none) (hframe : frameToSend u = some f) :
    exec .transmissionStart s = done (startFrame f u) := by
  show execTransmissionStart s = _
  unfold execTransmissionStart
  rw [hpump]
  dsimp only
  rw [if_neg (by simp [hair, hrx]), hframe]

theorem exec_transmissionStart_outside_run (hpw : s.pw.st ≠ .run) (hair : s.rad.air = none) (hrx : s.ln.rxSince = none)
    (hframe : frameToSend s = some f) : exec .transmissionStart s = done (startFrame f s) :=
  exec_transmissionStart (if_neg (by simp [hpw])) hair hrx hframe

/-- A frame of no exchange and no beacon goes up at once where reservoir, reference and ledger permit it. -/
theorem startFrame_ramps_up (hexchange : f.use.exchange = false) (hbeacon : f.use ≠ .beacon) (hvres : 2300 ≤ vres s)
    (hxrf : f.use.deferrable = false ∨ xrfGood s = true)
    (hduty : permittedAt (frameCode f s) (frameChannel f s) f.airtime s ≤ s.tl.monoUs) : startFrame f s = rampUp f s := by
  have hgoes : ¬(f.use.deferrable && !xrfGood s) = true := by rcases hxrf with h | h <;> simp [h]
  unfold startFrame
  rw [if_neg (Nat.not_lt.mpr hvres), if_neg hgoes, if_neg (by simp [hbeacon]), hexchange]
  exact if_pos hduty

/-- The frame that has started stands on the air in the next state. -/
theorem next_of_rampUp {c : Instr} (hexec : exec c s = done (startFrame f s)) (hstart : startFrame f s = rampUp f s) :
    ∃ t, exec c s = .next t ∧ t.rad.air = some f := by
  rw [hstart] at hexec
  exact next_word (·.rad.air) ⟨_, hexec, rampUp_air f s⟩

theorem exec_transmissionEnd (hair : s.rad.air = some f) (smp : Sample) :
    exec (.transmissionEnd smp) s = done (afterFrame f (frameHz f s) (frameChan f s).1
      (let u := sample smp s
       { u with
         rad.air := none, rad.ctl0 := false, rad.mode := if f.use.sequencer then .off else .idle
         rad.owner := if f.use.sequencer then .none else if f.use.exchange then .link else .none
         r.rf.txcnt := inc16 u.r.rf.txcnt, r.rf.rfstatLock := false
         ln.qlink := if f.use.sequencer || !u.ln.member then u.ln.qlink else u.ln.qlink + txCharge f u })) := by
  show execTransmissionEnd smp s = _
  unfold execTransmissionEnd
  rw [hair]

end

/-! ## The synthesizer (R338) -/

section
variable {f : TxFrame} {s : State} (hair : s.rad.air = none) (hframe : frameToSend s = some f)
include hair hframe

/-- A failure to lock is noted with the band that the receiver or the frame is on; the first alone leaves it there. -/
theorem execSynthLockTimeout_eq :
    execSynthLockTimeout s =
      (let hz := if s.ln.rxSince.isSome then s.r.rf.rffreq.toNat else frameHz f s
       let u := { s with r.rf.rfstatLock := false, rad.synTemp := dieTemp s, rad.synBand := bandOf hz }
       if s.rad.synFails = 0 then .next { u with rad.synFails := 1 } else done (abandonUse u)) := by
  unfold execSynthLockTimeout
  rw [if_neg (by simp [hair, hframe]), hframe]
  rfl

theorem exec_synthLockTimeout_first (hfirst : s.rad.synFails = 0) :
    exec .synthLockTimeout s = .next { s with
      r.rf.rfstatLock := false, rad.synTemp := dieTemp s, rad.synFails := 1
      rad.synBand := bandOf (if s.ln.rxSince.isSome then s.r.rf.rffreq.toNat else frameHz f s) } :=
  (execSynthLockTimeout_eq hair hframe).trans (if_pos hfirst)

theorem exec_synthLockTimeout_again (hagain : s.rad.synFails ≠ 0) :
    exec .synthLockTimeout s = done (abandonUse { s with
      r.rf.rfstatLock := false, rad.synTemp := dieTemp s
      rad.synBand := bandOf (if s.ln.rxSince.isSome then s.r.rf.rffreq.toNat else frameHz f s) }) :=
  (execSynthLockTimeout_eq hair hframe).trans (if_neg hagain)

end

/-! ## Reply windows (R335, R392) -/

/-- With its seat held and the transmitter free, a window that opens turns the receiver on. -/
theorem openWindow_receives {u : RxUse} {s : State} (hvres : 2000 ≤ vres s) (hseat : holds 3 s = true)
    (hfree : transmitterBusy (relabel u s) = false) (len : Nat) (t : Tuning) : openWindow u len t s = receiverOn t (relabel u s) := by
  unfold openWindow
  rw [if_neg (Nat.not_lt.mpr hvres), if_pos hseat]
  exact if_neg (Bool.eq_false_iff.mp hfree)

section
variable {s : State} (hrx : receiving .reply s = true)
include hrx

theorem exec_replyWindowClose : exec .replyWindowClose s = done (closeWindow s) := if_pos hrx

/-- Strength and frequency error of the frame are free values; it counts in `LEGACK` where it names this device. -/
theorem exec_en13757AckReceived_closes (fr : List Byte) : exec (.en13757AckReceived fr) s = done (closeWindow { measureOpen s with
    r.rf.rxcnt := inc16 s.r.rf.rxcnt
    r.lnk.legack := if fr.take 1 == [0x00] &&
        slice fr 3 6 == leBytes 4 (enIdent s).idnum ++ leBytes 1 (enIdent s).version ++ leBytes 1 (enIdent s).devtype
      then inc16 s.r.lnk.legack else s.r.lnk.legack }) :=
  if_neg (by simp [hrx])

end

/-! ## The sequencer (R345, R457) -/

section
variable {smp : Sample} {s u : State} (hphase : s.phase = .operating ∨ s.phase = .safeBeacon false ∨ s.phase = .safeBeacon true)
  (hpump : pumpSequencer (sample smp s) = u)
include hphase hpump

theorem exec_sequencerCommand_no_alarm (hheld : u.flt.alarmHeld = none) : exec (.sequencerCommand smp) s = done u := by
  show execSequencerCommand smp s = _
  unfold execSequencerCommand
  rw [if_pos (by simpa [or_assoc] using hphase), hpump]
  dsimp only
  rw [hheld]

/-- A held alarm frame goes out at its time, unless the radio has to keep silent. -/
theorem exec_sequencerCommand_sends {c d : Nat} {f : AlarmFrame} (hheld : u.flt.alarmHeld = some c)
    (hdue : u.flt.alarmDue = some d) (halarm : u.flt.alarm = some f) (hsilent : radioSilent u = false) (htime : d ≤ u.now) :
    exec (.sequencerCommand smp) s = done (sequencerSend (alarmTx u) { u with flt.alarmDue := none, flt.alarmCause := c }) := by
  show execSequencerCommand smp s = _
  unfold execSequencerCommand
  rw [if_pos (by simpa [or_assoc] using hphase), hpump]
  dsimp only
  rw [hheld, hdue, halarm]
  exact if_neg (by simp [hsilent, htime])

end

theorem exec_sequencerTakeover {d : Nat} {f : TxFrame} {s : State} (hcmd : s.rad.seqCmd = some (d, f)) :
    exec .sequencerTakeover s = done (sequencerSend f
      { logEvent 0x0B04 [((max 2000 ((s.now - d) / 1000) : Nat) : Int)] (resetLink s) with rad.linkRestart := true }) := by
  show execSequencerTakeover s = _
  unfold execSequencerTakeover
  rw [hcmd]

/-- Settles O40: each clause is its command's equation under the clause's conditions; a frame on the air stays there in the
standing work. -/
theorem radioCommandsComplete : Obligations.RadioCommandsComplete := by
  intro s smp
  refine ⟨fun f => exec_transmissionStart_outside_run,
    fun f hpw htarget => exec_transmissionStart (if_pos (by simp [hpw, htarget])), ?air,
    fun f hair => exec_transmissionEnd hair smp,
    fun f hair hframe => ⟨exec_synthLockTimeout_first hair hframe, exec_synthLockTimeout_again hair hframe⟩,
    fun hdue htimed => exec_replyWindowOpen htimed hdue, ?reply,
    fun hrx => ⟨exec_replyWindowClose hrx, exec_en13757AckReceived_closes hrx⟩,
    fun hphase => ⟨exec_sequencerCommand_no_alarm hphase rfl, fun c d f => exec_sequencerCommand_sends hphase rfl⟩,
    fun d f => exec_sequencerTakeover⟩
  case air =>
    intro f hpw hair hrx hframe hexchange hbeacon hvres hxrf hduty
    exact next_of_rampUp (exec_transmissionStart_outside_run hpw hair hrx hframe)
      (startFrame_ramps_up hexchange hbeacon hvres hxrf hduty)
  case reply =>
    rintro u hdue htimed rfl hvres hseat hfree
    exact (exec_replyWindowOpen htimed hdue).trans (congrArg done (openWindow_receives hvres hseat hfree 1000 _))

end Sys2Proof.Machine
end

section
/-! SUPPORT. The link as parent and the hand-over of its role, one equation each; the statement
ParentAndHandoverCommandsComplete. -/

namespace Sys2Proof.Machine

/-! ## The beacon, polls and joins (R369, R374, R380) -/

theorem queueBeacon_of_key {k : KeyRec} {u : State} (hkey : clusterKey u = some k) (b : Nat) :
    queueBeacon b u =
      (let (p, _, v) := secureFrame 1 false false k broadcast (beaconPayload b u) u
       let f : TxFrame := { use := .beacon, channel := some (slalom (sfnNow v + 1) v), rate := 0
                            airtime := psduTime 0 p v + ramps, deadline := some (b - 400), bytes := p }
       requestsTogether (fun w => postSeat 7 (txClass w) f.airtime f.deadline (.transmit .beacon)
           (onlyIf (listens w) (postSeat 3 100 1800 (some (b - 400)) (.receive .listen)) w))
         (queueTx f { v with rad.owner := .link })) := by
  unfold queueBeacon
  rw [hkey]

theorem exec_beaconRequest {b0 : Nat} {s : State} (htimed : s.timed = true) (hboundary : s.ln.boundary = some b0)
    (hrole : s.ln.role = .parent) (hsearch : s.ln.search = none) (hradio : s.rad.unavailable = false) (smp : Sample) :
    exec (.beaconRequest smp) s = done (queueBeacon (b0 + superframe) (endServedSlot (sample smp s.atTimer))) := by
  show execBeaconRequest smp s = _
  unfold execBeaconRequest
  rw [hboundary]
  exact (if_neg (by simp [hrole, hsearch, hradio])).trans (onTimer_eq htimed)

section
variable {f : RxFrame} {x : LinkFrame} {s u : State} (hparent : actsAsParent s = true)
  (hslot : inSlot f (followReceiver s) = true) (hdeliver : receive f (followReceiver s) = (.deliver x, u))
include hparent hslot hdeliver

theorem exec_poll_delivered (htyp : x.typ = 2) : exec (.poll f) s = done (acceptPoll x u) := by
  show execPoll f s = _
  unfold execPoll
  rw [if_neg (by simp [hparent])]
  dsimp only
  rw [if_neg (by simp [hslot]), hdeliver]
  exact congrArg done (if_pos htyp)

theorem exec_join_delivered (htyp : x.typ = 4) : exec (.join f) s = done (acceptJoin x u) := by
  show execJoin f s = _
  unfold execJoin
  rw [if_neg (by simp [hparent])]
  dsimp only
  rw [if_neg (by simp [hslot]), hdeliver]
  exact congrArg done (if_pos htyp)

end

/-! ## Slots and members of a parent (R379, R380, R383) -/

section
variable {s : State} (hparent : actsAsParent s = true)
include hparent

theorem exec_pollSlotEnd_served {x : Slot} (hslot : (followReceiver s).ln.slot = some x) (hown : x.number ≠ 1) :
    exec .pollSlotEnd s = done (endSlot x (followReceiver s)) := by
  show execPollSlotEnd s = _
  unfold execPollSlotEnd
  rw [if_neg (by simp [hparent])]
  dsimp only
  rw [hslot]
  exact if_neg hown

theorem exec_memberRemoval {i : Fin 64} {m : Member} (htimed : s.timed = true)
    (hmember : s.ln.members.find? (fun m => m.index == i.val && m.id != linkId) = some m) :
    exec (.memberRemoval i) s = done (logEvent 0x0C14 (w32 m.id)
      { s.atTimer with ln.members := s.atTimer.ln.members.filter (fun x => x.id != m.id) }) := by
  show execMemberRemoval i s = _
  unfold execMemberRemoval
  rw [hmember]
  exact (if_pos hparent).trans (onTimer_eq htimed)

/-- The best member that is no worse than the parent is announced for a frame number divisible by 8, at least 300 s ahead
(R383). -/
theorem exec_handoverChoice {m : Member} {b : Nat} (htimed : s.timed = true) (hidle : s.ln.ho.st = .idle)
    (hstays : s.ln.ho.leaving = false) (hbest : bestMember s.atTimer = some m) (hboundary : s.atTimer.ln.boundary = some b)
    (hscore : reserveScore s.atTimer ≤ m.rs) :
    exec .handoverChoice s = done
      (let u := s.atTimer
       let h := (sfnNow u + ceilDiv (u.now + 300000000 - b) superframe + 7) / 8 * 8
       { u with ln.ho := { st := .announced, succ := m.id, h }
                r.lnk.hosucc := BitVec.ofNat 32 m.id, r.lnk.hosfn := BitVec.ofNat 32 h }) := by
  show execHandoverChoice s = _
  unfold execHandoverChoice
  rw [if_neg (by simp [hparent, hidle, hstays]), onTimer_eq htimed, hbest, hboundary]
  exact congrArg done (if_neg (Nat.not_lt.mpr hscore))

theorem exec_handoverTransferStart (htimed : s.timed = true) (hannounced : s.ln.ho.st = .announced) :
    exec .handoverTransferStart s = done (sendHandover
      { s.atTimer with ln.ho.st := .transferring, ln.ho.frames := handoverFrames s.atTimer, ln.ho.k := 0 }) :=
  (if_neg (by simp [hparent, hannounced])).trans (onTimer_eq htimed)

end

/-! ## The hand-over and the deputy (R378, R384, R385) -/

/-- The end of the transfer is the parent's affair on its side, and the successor's on the other. -/
theorem exec_handoverTransferEnd {s : State} (htimed : s.timed = true) (htransfer : s.ln.ho.st = .transferring) :
    exec .handoverTransferEnd s = done
      (if s.atTimer.ln.role == .parent then transferEnd s.atTimer
       else
         let u := closeWindow (copyMarks s.atTimer)
         if u.ln.ho.gotEnd then { u with ln.ho.st := .completed } else { u with ln.ho := { st := .abandoned }, ln.members := [] }) :=
  (if_neg (by simp [htransfer])).trans (onTimer_eq htimed)

/-- Four frames after the hand-over the successor becomes parent, unless it hears the other beacon. -/
theorem exec_handoverH4Check {s : State} (htimed : s.timed = true) (hrole : s.ln.role ≠ .parent) (hend : s.ln.ho.gotEnd = true) :
    exec .handoverH4Check s = done
      (let u := closeWindow { s.atTimer with ln.ho := { st := .idle } }
       if s.atTimer.ln.gotBeacon == some (s.atTimer.ln.ho.h + 4) then { u with ln.members := [] } else becomeParent 2 u) :=
  (if_neg (by simp [hrole, hend])).trans (onTimer_eq htimed)

theorem exec_handover_delivered {f : RxFrame} {x : LinkFrame} {s u : State} (hlink : linkUp s = true)
    (hrx : receiving .transfer (followReceiver s) = true)
    (hwhole : heardWhole (psduTime 1 f.psdu (followReceiver s)) (followReceiver s) = true)
    (hdeliver : receive f (followReceiver s) = (.deliver x, u)) (htyp : x.typ = 5) :
    exec (.handover f) s = done (acceptHandover x u) := by
  show execHandover f s = _
  unfold execHandover
  rw [if_neg (by simp [hlink])]
  dsimp only
  rw [if_neg (by simp [hrx, hwhole]), hdeliver]
  exact congrArg done (if_pos htyp)

theorem exec_marksCopy {s : State} (htimed : s.timed = true) : exec .marksCopy s = done (copyMarks s.atTimer) :=
  onTimer_eq htimed

theorem exec_deputyPromotion {s : State} (htimed : s.timed = true) (hpromote : s.ln.promote = true) :
    exec .deputyPromotion s = done (becomeParent 3 (logEvent 0x0C09
      (w32 s.atTimer.r.lnk.parentid.toNat) { s.atTimer with ln.promote := false, ln.members := [] })) :=
  (if_neg (by simp [hpromote])).trans (onTimer_eq htimed)

/-- Settles O42: each clause is its command's equation under the clause's conditions; the beacon that is queued is the one
under the cluster's key. -/
theorem parentAndHandoverCommandsComplete : Obligations.ParentAndHandoverCommandsComplete := by
  intro s smp htimed
  refine ⟨?beacon, fun f x u hparent hslot hdeliver =>
      ⟨exec_poll_delivered hparent hslot hdeliver, exec_join_delivered hparent hslot hdeliver⟩, fun hparent =>
      ⟨fun x => exec_pollSlotEnd_served hparent, fun n => exec_pollSlotEnd_unserved hparent,
        fun i m => exec_memberRemoval hparent htimed,
        fun hidle hstays m b => exec_handoverChoice hparent htimed hidle hstays,
        exec_handoverTransferStart hparent htimed⟩,
    exec_handoverTransferEnd htimed, exec_handoverH4Check htimed, fun f x u => exec_handover_delivered, exec_marksCopy htimed,
    exec_deputyPromotion htimed⟩
  case beacon =>
    intro b0 k hboundary hrole hsearch hradio u hkey
    exact (exec_beaconRequest htimed hboundary hrole hsearch hradio smp).trans
      (congrArg done (queueBeacon_of_key hkey (b0 + superframe)))

end Sys2Proof.Machine
end

section
/-! SUPPORT. Listen windows, the sessions of a reader on both sides and the legacy telegram, one equation each; the statement
ReaderSessionCommandsComplete. -/

namespace Sys2Proof.Machine

/-! ## Listening and waking (R386, R387) -/

theorem exec_listenWindowOpen {hz num : Nat} {s : State} (hdue : s.ln.listenDue = some (hz, num)) (hrx : s.ln.rxSince = none)
    (htimed : s.timed = true) : exec .listenWindowOpen s = done (openListen hz num s.atTimer) := by
  show execListenWindowOpen s = _
  unfold execListenWindowOpen
  rw [hdue]
  exact (if_neg (by simp [hrx])).trans (onTimer_eq htimed)

section
variable {s : State} (hlisten : s.ln.listening = true)
include hlisten

theorem exec_listenWindowClose_closes (hreply : s.rad.replyDue = false) :
    exec .listenWindowClose s = done (closeWindow { s with ln.listening := false }) :=
  (if_neg (by simp [hlisten])).trans (congrArg done (if_neg (Bool.eq_false_iff.mp hreply)))

/-- A reply window that follows keeps the seat. -/
theorem exec_listenWindowClose_keeps_seat (hreply : s.rad.replyDue = true) :
    exec .listenWindowClose s = done (receiverOff { s with ln.listening := false }) :=
  (if_neg (by simp [hlisten])).trans (congrArg done (if_pos hreply))

theorem exec_wakeWord_closes {w : BitVec 32} (hsession : s.ln.session = none) (hwake : wakeFor w = true) :
    exec (.wakeWord w) s = done (closeWindow
      { s with ln.listening := false, ln.helloDue := true, rad.replyDue := false, r.lnk.wakedet := inc16 s.r.lnk.wakedet }) :=
  if_pos (by simp [hlisten, hsession, hwake])

end

/-! ## The session of the device that is read (R388, R389) -/

theorem exec_sessionHello {smp : Sample} {k : KeyRec} {s u : State} (hdue : s.ln.helloDue = true) (hlink : linkUp s = true)
    (hsample : sample smp { s with ln.helloDue := false } = u) (hkey : readerKey u = some k) :
    exec (.sessionHello smp) s = done
      (let (v, w) := draw u
       let (p, _, x) := secureFrame 6 false false k broadcast (helloPayload (leBytes 4 v) w) w
       sendSession .hello w.r.rf.rfchanNum.toNat 0 0 p { x with
         ln.session := some { challenge := leBytes 4 v, opened := x.now, c0 := w.r.rf.rfchanNum.toNat }
         r.lnk.sessions := inc16 x.r.lnk.sessions }) := by
  show execSessionHello smp s = _
  unfold execSessionHello
  rw [if_neg (by simp [hdue, hlink]), hsample]
  dsimp only
  rw [hkey]

/-- A request delivered under a reader key with the session's challenge is answered, whichever of the seven it is. -/
theorem sessionRequest_of_delivered {f : RxFrame} {x : RdrSession} {y : LinkFrame} {k : KeyRec} {s u : State}
    (hsession : s.ln.session = some x) (hrx : receiving .reader s = true) (hlink : linkUp s = true)
    (hdeliver : receive f s = (.deliver y, u)) (hkey : loadedKey y.kind y.keyid u = some k) (htyp : y.typ = 6)
    (hkind : y.kind = 2) (hchallenge : y.body.take 4 = x.challenge) (hlen : 5 ≤ y.body.length) :
    sessionRequest f s = done (answerRequest y k u) := by
  unfold sessionRequest
  rw [hsession]
  dsimp only
  rw [if_neg (by simp [hrx, hlink]), hdeliver]
  dsimp only
  rw [hkey]
  exact if_pos ⟨htyp, hkind, hchallenge, hlen⟩

theorem exec_sessionTimeout_session {x : RdrSession} {s : State} (hsession : s.ln.session = some x) :
    exec .sessionTimeout s = done (closeSession (if x.opened + 120000000 ≤ s.now then 3 else 2) s) := by
  show execSessionTimeout s = _
  unfold execSessionTimeout
  rw [hsession]

/-! ## The reader's own run (R390) -/

section
variable {s : State} (hrole : s.ln.role = .reader) (hrx : receiving .reader s = true) (hlink : linkUp s = true)
include hrole hrx hlink

/-- A reader without a run takes up a source that it has not read lately, and queues its wake pattern. -/
theorem exec_readerFrameHeard_takes_up {f : RxFrame} {src : Nat} {u : State} (hgood : f.good = true) (hrun : s.ln.run = none)
    (hcount : { s with r.rf.rxcnt := inc16 s.r.rf.rxcnt, r.rf.rfrssi := satI 16 f.rssi, r.rf.rffei := satI 16 f.fei } = u)
    (hread : readLately src u = false) :
    exec (.readerFrameHeard (some src) f) s = done
      (let c0 := s.r.rf.rfchanNum.toNat
       queueTx { use := .wake, channel := if c0 = 0xFF then none else some c0, rate := 2, airtime := 60000 + ramps
                 deadline := some (u.now + 1000), bytes := wakePattern src }
         (receiverOff { u with ln.run := some { meter := src, c0 } })) := by
  subst hcount
  exact (if_neg (by simp [hrole, hrx, hlink])).trans
    ((if_neg (by simp [hgood])).trans (if_neg (by simp [hrun, hread])))

section
variable {f : RxFrame} {x : RdrRun} {y : LinkFrame} {k : KeyRec} {u : State} (hrun : s.ln.run = some x)
  (hdeliver : receive f s = (.deliver y, u)) (hkey : loadedKey y.kind y.keyid u = some k) (htyp : y.typ = 6) (hkind : y.kind = 2)
include hrun hdeliver hkey htyp hkind

/-- Before it has a challenge, a run goes on with the HELLO of its meter. -/
theorem exec_readerSessionResponse_hello {z : RdrRun} (hnew : x.challenge = []) (hhello : helloRun x y = some z) :
    exec (.readerSessionResponse f) s = done (readerNext z k y.ctr [] u) := by
  show execReaderSessionResponse f s = _
  unfold execReaderSessionResponse
  rw [hrun]
  dsimp only
  rw [if_neg (by simp [hrole, hrx, hlink]), hdeliver]
  dsimp only
  rw [hkey]
  dsimp only
  rw [if_neg (by simp [htyp, hkind]), if_pos hnew, hhello]

theorem exec_readerSessionResponse_response (hopen : x.challenge ≠ []) (hsrc : y.src = x.meter) (hlen : 2 ≤ y.body.length) :
    exec (.readerSessionResponse f) s = done
      (readerNext { x with k := x.k + 1 } k y.ctr (if u8 y.body 1 = 0 then y.body.drop 2 else []) u) := by
  show execReaderSessionResponse f s = _
  unfold execReaderSessionResponse
  rw [hrun]
  dsimp only
  rw [if_neg (by simp [hrole, hrx, hlink]), hdeliver]
  dsimp only
  rw [hkey]
  dsimp only
  rw [if_neg (by simp [htyp, hkind]), if_neg hopen]
  exact if_pos ⟨hsrc, hlen⟩

end

end

/-! ## The legacy telegram (R391) -/

theorem exec_legacyTelegramDue {s : State} (htimed : s.timed = true) (hrole : s.ln.role = .legacy)
    (htelday : s.cat.link.telday ≠ 0) (hradio : s.rad.unavailable = false) (smp : Sample) :
    exec (.legacyTelegramDue smp) s = done (queueTx (telegram .legacy none (sample smp s.atTimer)).1
      (telegram .legacy none (sample smp s.atTimer)).2) := by
  show execLegacyTelegramDue smp s = _
  unfold execLegacyTelegramDue
  rw [if_neg (by simp [hrole, htelday, hradio]), onTimer_eq htimed]
  generalize telegram .legacy none (sample smp s.atTimer) = p
  rfl

/-- Settles O43: each clause is its command's equation under the clause's conditions; the seven requests of a session share
one. -/
theorem readerSessionCommandsComplete : Obligations.ReaderSessionCommandsComplete := by
  intro s smp
  refine ⟨fun hz num => exec_listenWindowOpen,
    fun hlisten => ⟨exec_listenWindowClose_closes hlisten, exec_listenWindowClose_keeps_seat hlisten⟩,
    fun w hlisten hsession hwake => exec_wakeWord_closes hlisten hsession hwake, fun k hdue hlink => exec_sessionHello hdue hlink rfl, ?requests,
    fun x => exec_sessionTimeout_session, fun x => exec_sessionTimeout_reader,
    fun hrole hrx hlink => ⟨fun src f hgood hrun => exec_readerFrameHeard_takes_up hrole hrx hlink hgood hrun rfl,
      fun f x y z k u hrun hdeliver hkey htyp hkind =>
        ⟨exec_readerSessionResponse_hello hrole hrx hlink hrun hdeliver hkey htyp hkind,
          exec_readerSessionResponse_response hrole hrx hlink hrun hdeliver hkey htyp hkind⟩⟩,
    fun htimed hrole htelday hradio => exec_legacyTelegramDue htimed hrole htelday hradio smp⟩
  case requests =>
    intro f x y k u hsession hrx hlink hdeliver hkey htyp hkind hchallenge hlen
    have hanswer : sessionRequest f s = done (answerRequest y k u) :=
      sessionRequest_of_delivered hsession hrx hlink hdeliver hkey htyp hkind hchallenge hlen
    exact ⟨hanswer, hanswer, hanswer, hanswer, hanswer, hanswer, hanswer⟩

end Sys2Proof.Machine
end

section
/-! SUPPORT. The panel and the pulses, one equation for each command; the statements DisplayCommandsComplete and
PulsesAreCountedAndEmitted. -/

namespace Sys2Proof.Machine

/-! ## Glass (R399, R401, R413) -/

theorem next_ite {c : Prop} [Decidable c] (t u : State) :
    (if c then Host.Outcome.next t else .next u : Host.Outcome State Fault Refusal) = .next (if c then t else u) :=
  (apply_ite Host.Outcome.next c t u).symm

/-- A glass frame reads its pins back and turns the polarity over; the positive one takes up what is rendered, or stops. -/
theorem exec_glassFrame {s : State} (hglass : s.cat.disp.dtype = .glass) (hon : s.dp.glassOn = true)
    (hemissive : s.dp.emDriving = false) (mv : Nat) (failing : List Nat) :
    exec (.glassFrame mv failing) s =
      (let r := readBack ((glassPins s).map (fun p => (p, !failing.contains p))) (glassSample mv s)
       let u := { r with r.dsp.dspstatPump := glassPump r, dp.positive := !r.dp.positive }
       .next (if u.dp.positive then
          (if u.dp.stopReq then { u with dp.glassOn := false, dp.stopReq := false, dp.applied := [], dp.appliedB := [] }
           else positiveFrame u)
         else u)) := by
  show execGlassFrame mv failing s = _
  unfold execGlassFrame
  rw [if_neg (by simp [hglass, hon, hemissive])]
  dsimp only
  rw [next_ite, next_ite]

/-! ## The emissive panel (R405, R406) -/

section
variable {smp : Sample} {s u : State} (hactive : s.dp.emUntil.isSome = true) (hsample : sample smp s = u)
include hactive hsample

/-- A frame that drove is counted and read back, and its seat goes back before the next one. -/
theorem exec_emissiveFrame_drives (hdrives : u.dp.emDriving = true) (failing : List Nat) :
    exec (.emissiveFrame smp failing) s = done (emissiveNext (releaseSeat 6
      (readBack ((emissivePins u).map (fun p => (p, !failing.contains p)))
        { u with r.dsp.emframes := inc16 u.r.dsp.emframes, r.dsp.emstatSubper := sat 8 (forwardPeriods u), dp.emDriving := false }))) := by
  show execEmissiveFrame smp failing s = _
  unfold execEmissiveFrame
  rw [if_neg (by simp [Option.isSome_iff_ne_none.mp hactive]), hsample]
  exact if_pos hdrives

theorem exec_emissiveFrame_waits (hwaits : u.dp.emDriving = false) (failing : List Nat) :
    exec (.emissiveFrame smp failing) s = done (emissiveNext (evaluate u)) := by
  show execEmissiveFrame smp failing s = _
  unfold execEmissiveFrame
  rw [if_neg (by simp [Option.isSome_iff_ne_none.mp hactive]), hsample]
  exact if_neg (Bool.eq_false_iff.mp hwaits)

end

/-! ## The bistable panel (R409, R410, R412, R413) -/

section
variable {s : State} (hdisplay : s.hasDisplay = true) (hbistable : s.cat.disp.dtype = .bistable) (hpark : s.dp.park = none)
include hdisplay hbistable hpark

theorem exec_bistableUpdateRequest (hphase : s.operating = true ∨ s.safe = true) (region : Fin 8) (content : List Nat)
    (smp : Sample) :
    exec (.bistableUpdateRequest region content smp) s = done (regionRequest region.val content (sample smp s)) :=
  if_pos (by simpa [hdisplay, hbistable, hpark] using hphase)

/-- A phase takes VP and VN, the checks where there are any, and its tick. -/
theorem exec_bistablePhaseTick {vp vn : Nat} {checks : List (Nat × Bool)} {u : State} (hrails : s.dp.railsOk = true)
    (hchecked : (if checks.isEmpty then { s with r.dsp.epdvp := sat 16 vp, r.dsp.epdvn := sat 16 vn }
      else readBack checks { s with r.dsp.epdvp := sat 16 vp, r.dsp.epdvn := sat 16 vn }) = u) :
    exec (.bistablePhaseTick vp vn checks) s = done { phaseTick u with pw.choose := true } := by
  show execBistablePhaseTick vp vn checks s = _
  unfold execBistablePhaseTick
  rw [if_pos (by simp [hdisplay, hbistable, hpark, hrails])]
  dsimp only
  rw [hchecked]

end

section
variable {s : State} (hpark : s.dp.park.isSome = true)
include hpark

theorem exec_bistableParkDischarge_ends (hproc : (parkEnd s).flt.proc = none) :
    exec .bistableParkDischarge s = done (parkEnd s) := by
  show execBistableParkDischarge s = _
  unfold execBistableParkDischarge
  rw [if_neg (by simp [Option.isSome_iff_ne_none.mp hpark])]
  dsimp only
  rw [hproc]

/-- The procedure that waits for the park goes on with its alarm telegram (R454). -/
theorem exec_bistableParkDischarge_goes_on {c : Nat} (hproc : (parkEnd s).flt.proc = some ⟨c, .park⟩) :
    exec .bistableParkDischarge s = .next (procAlarm c (parkEnd s)) := by
  show execBistableParkDischarge s = _
  unfold execBistableParkDischarge
  rw [if_neg (by simp [Option.isSome_iff_ne_none.mp hpark])]
  dsimp only
  rw [hproc]

end

/-! ## The segment test (R439) -/

theorem exec_segmentTestEnd_timed {s : State} (htest : s.dp.segTest = true) (htimed : s.timed = true) :
    exec .segmentTestEnd s = done { s.atTimer with dp.segTest := false, dp.renderNow := true } :=
  (if_pos htest).trans ((if_pos htimed).trans (onTimer_eq htimed))

theorem exec_segmentTestEnd_untimed {s : State} (htest : s.dp.segTest = true) (htimed : s.timed = false) :
    exec .segmentTestEnd s = done { s with dp.segTest := false, dp.renderNow := true } :=
  (if_pos htest).trans (if_neg (Bool.eq_false_iff.mp htimed))

/-- Settles O50: each clause is its command's equation under the clause's conditions. -/
theorem displayCommandsComplete : Obligations.DisplayCommandsComplete := by
  intro s smp
  exact ⟨fun mv failing hglass hon hemissive => exec_glassFrame hglass hon hemissive mv failing,
    fun failing hactive => ⟨fun hdrives => exec_emissiveFrame_drives hactive rfl hdrives failing,
      fun hwaits => exec_emissiveFrame_waits hactive rfl hwaits failing⟩,
    exec_emissiveActivityEnd,
    fun hdisplay hbistable hpark =>
      ⟨fun region content hphase => exec_bistableUpdateRequest hdisplay hbistable hpark hphase region content smp,
        fun vp vn hrails => exec_bistablePhaseTick hdisplay hbistable hpark hrails (if_pos rfl),
        fun vp vn c cs hrails => exec_bistablePhaseTick hdisplay hbistable hpark hrails (if_neg Bool.false_ne_true)⟩,
    fun hpark => ⟨exec_bistableParkDischarge_ends hpark, fun c => exec_bistableParkDischarge_goes_on hpark⟩,
    fun hdisplay hscreen htimed => exec_displayIdleTimeout hdisplay htimed hscreen,
    exec_segmentTestEnd_timed, exec_segmentTestEnd_untimed⟩

/-! ## Pulses (R437, R438, R444) -/

/-- A counted edge adds to the counter of its input. -/
theorem exec_pulseInputEdge {s : State} {input : Fin 2} (haon : s.aon = true)
    (hfree : s.r.flt.pinflt.getLsbD (2 + input.val) = false) :
    exec (.pulseInputEdge input) s =
      if input.val = 0 then .next { s with r.io.pi0cnt := s.r.io.pi0cnt + 1 }
      else .next { s with r.io.pi1cnt := s.r.io.pi1cnt + 1 } :=
  if_neg (by simp [haon, hfree])

/-- A pulse of the queue goes out 10 ms or more after the start of the one before. -/
theorem exec_pulseOutputEmit {s : State} {o : Fin 2} (hdrives : outputDrives o.val s = true) (hlo : 1 ≤ outputFn o.val s)
    (hhi : outputFn o.val s ≤ 11) (hspaced : ∀ t, vget s.io.poAt o.val none = some t → t + 10000 ≤ s.now)
    (hqueue : 0 < (outputQueue o.val s).toNat) :
    exec (.pulseOutputEmit o) s = .next { s with
      io.poAt := vupd s.io.poAt o.val (fun _ => some s.now)
      r.io.poback0 := if o.val = 0 then s.r.io.poback0 - 1 else s.r.io.poback0
      r.io.poback1 := if o.val = 0 then s.r.io.poback1 else s.r.io.poback1 - 1 } := by
  show execPulseOutputEmit o s = _
  unfold execPulseOutputEmit
  dsimp only
  refine if_pos ?_
  cases hstart : vget s.io.poAt o.val none with
  | none => simp [hdrives, hlo, hhi, hqueue]
  | some t => simp [hdrives, hlo, hhi, hqueue, hspaced t hstart]

/-- Settles O23: each clause is its command's equation under the clause's conditions. -/
theorem pulsesAreCountedAndEmitted : Obligations.PulsesAreCountedAndEmitted := by
  intro s
  refine ⟨fun haon hfree => ?first, fun haon hfree => ?second, fun o => exec_pulseOutputEmit, rfl⟩
  case first =>
    rw [exec_pulseInputEdge haon (by simpa using hfree)]
    exact if_pos rfl
  case second =>
    rw [exec_pulseInputEdge haon (by simpa using hfree)]
    exact if_neg Nat.one_ne_zero

end Sys2Proof.Machine
end

section
/-! SUPPORT. Host transactions, and the Ohmueri requests from their port to their answer; the statements
HostTransactionsAreServedOrCounted, OhmueriCommandsReachTheirPort, RequestIsExecutedOnceAndAtItsLevel and
EachOhmueriCommandTakesItsEffectAtItsPort. -/

namespace Sys2Proof.Machine

/-! ## Host transactions (R417 to R421) -/

/-- `t` at the end of a transaction that began served in `s` and shifts out `out` behind the status byte (R418). -/
def served (s : State) (out : List Byte) (t : State) : State :=
  { t with io.cs := false, pw.choose := true, sv.miso := leBytes 1 (statusByte s) ++ out }

section
variable {s : State} (hvddio : s.io.vddio = true) (haon : s.aon = true)
include hvddio haon

section
variable (hserving : s.serving = true)
include hserving

/-- What a served transaction does is decided on the state in which it is served. -/
theorem hostTransaction_served {f : State → List Byte × State} {out : List Byte} {t : State} (h : f s = (out, t)) :
    hostTransaction f s = served s out t := by
  rw [host_served_here hvddio haon hserving, h]
  rfl

theorem exec_read_served (addr : Word) (n : Nat) :
    exec (.read addr n) s =
      done (served s (hostWords (readWords (some .host) n addr.toNat s).1) (readWords (some .host) n addr.toNat s).2) := by
  refine congrArg done (hostTransaction_served hvddio haon hserving ?_)
  generalize readWords (some .host) n addr.toNat s = r
  rfl

theorem exec_write_served (hport : portWrites .host s = true) (addr : Word) (ws : List Word) :
    exec (.write addr ws) s = done (served s [] (writeWords .host addr.toNat ws s)) := by
  refine congrArg done (hostTransaction_served hvddio haon hserving ?_)
  rw [if_pos hport]

theorem exec_request_served {f : List Byte} {code : Nat} {tag : Byte} {d : List Byte} (hread : s.sv.unread = false)
    (hframe : parseRequest f = some (code, tag, d)) :
    exec (.request f) s = done (served s [] (executeRequest .host code tag d s)) := by
  refine congrArg done (hostTransaction_served hvddio haon hserving ?_)
  rw [hread, if_neg Bool.false_ne_true, hframe]

/-- A request before the last response is read is discarded and counted. -/
theorem exec_request_unread (hunread : s.sv.unread = true) (f : List Byte) :
    exec (.request f) s = done (served s [] { s with r.io.hsterr := inc16 s.r.io.hsterr }) := by
  refine congrArg done (hostTransaction_served hvddio haon hserving ?_)
  rw [if_pos hunread]

theorem exec_response_served (n : Nat) :
    exec (.response n) s = done (served s ((s.sv.hst.resp ++ List.replicate n 0).take n) { s with sv.unread := false }) := by
  refine congrArg done (hostTransaction_served hvddio haon hserving ?_)
  rfl

theorem exec_wake_served : exec .wake s = done (served s [] s) := by
  refine congrArg done (hostTransaction_served hvddio haon hserving ?_)
  rfl

theorem exec_hostUnlistedOpcode_served {op : Byte} (hop : op ≠ 0x03 ∧ op ≠ 0x02 ∧ op ≠ 0x5C ∧ op ≠ 0x5D ∧ op ≠ 0xA5) :
    exec (.hostUnlistedOpcode op) s = done (served s [] { s with r.io.hsterr := inc16 s.r.io.hsterr }) := by
  refine (if_neg (by simpa using hop)).trans (congrArg done (hostTransaction_served hvddio haon hserving ?_))
  rfl

end

/-- While the Curator does not serve, a transaction shifts nothing out and is counted, whatever it is. -/
theorem hostTransaction_busy (hbusy : (serveRequest s).serving = false) (f : State → List Byte × State) :
    hostTransaction f s =
      (let u := serveRequest s
       { u with r.io.hstnrdy := inc16 u.r.io.hstnrdy, io.cs := false, pw.choose := true, sv.miso := [] }) :=
  host_busy hvddio haon hbusy

end

/-- Settles O44: a served transaction is its own equation, and all share the one of a Curator that does not serve. -/
theorem hostTransactionsAreServedOrCounted : Obligations.HostTransactionsAreServedOrCounted := by
  intro s hvddio haon
  refine ⟨fun hserving => ⟨exec_read_served hvddio haon hserving,
      fun addr ws hport => exec_write_served hvddio haon hserving hport addr ws,
      fun f code tag d => exec_request_served hvddio haon hserving,
      fun f hunread => exec_request_unread hvddio haon hserving hunread f,
      exec_response_served hvddio haon hserving, exec_wake_served hvddio haon hserving,
      fun op hread hwrite hrequest hresponse hwake => exec_hostUnlistedOpcode_served hvddio haon hserving
        ⟨hread, hwrite, hrequest, hresponse, hwake⟩⟩, ?busy⟩
  case busy =>
    intro hbusy addr n ws f u t
    have hcounts : ∀ g, done (hostTransaction g s) = .next (settle t) := fun g =>
      congrArg done (hostTransaction_busy hvddio haon hbusy g)
    exact ⟨hcounts _, hcounts _, hcounts _, hcounts _, hcounts _⟩

/-! ## A request at its port (R420, R426, R431) -/

section
variable {s : State} {d : List Byte} (hlen : d.length ≤ 248) (haon : s.aon = true) (hserving : s.serving = true)
include hlen haon hserving

theorem ohmueri_optical (code : Nat) (tag : Byte) : ohmueri .optical code tag d s = executeRequest .optical code tag d s := by
  unfold ohmueri
  dsimp only
  rw [serveRequest_of_serving hserving, if_neg (by simp [haon, hserving]), if_neg (Nat.not_lt.mpr hlen)]

theorem ohmueri_host (hvddio : s.io.vddio = true) (hread : s.sv.unread = false) (code : Nat) (tag : Byte) :
    ohmueri .host code tag d s = served s [] (executeRequest .host code tag d s) := by
  unfold ohmueri
  refine hostTransaction_served hvddio haon hserving ?_
  rw [hread, if_neg Bool.false_ne_true, if_neg (Nat.not_lt.mpr hlen)]

omit hlen in
theorem ohmueri_host_unread (hvddio : s.io.vddio = true) (hunread : s.sv.unread = true) (code : Nat) (tag : Byte) :
    ohmueri .host code tag d s = served s [] { s with r.io.hsterr := inc16 s.r.io.hsterr } := by
  unfold ohmueri
  refine hostTransaction_served hvddio haon hserving ?_
  rw [if_pos hunread]

end

/-- Settles O45: each command is the request with its code, and a request of legal length is executed where its port serves. -/
theorem ohmueriCommandsReachTheirPort : Obligations.OhmueriCommandsReachTheirPort := by
  intro p tag d s
  refine ⟨rfl, rfl, rfl, rfl, rfl, rfl, rfl, rfl, rfl, rfl, rfl, rfl, rfl, rfl, rfl, rfl, rfl, rfl, rfl, rfl, rfl, rfl, rfl, ?ports⟩
  case ports =>
    intro code hlen haon hserving
    exact ⟨ohmueri_optical hlen haon hserving code tag,
      fun hvddio hread => ohmueri_host hlen haon hserving hvddio hread code tag,
      fun hvddio hunread => ohmueri_host_unread haon hserving hvddio hunread code tag⟩

/-! ## Repeat, refusal and execution (R426, R427) -/

section
variable {p : Port} {code : Nat} {tag : Byte} {d : List Byte} {s : State}

/-- A repeat of the previous request sends its response again. -/
theorem executeRequest_repeat (hsame : (s.sv.ses p).req = some (tag :: leBytes 1 code ++ d)) :
    executeRequest p code tag d s = sendResponse p (s.sv.ses p).resp (updSes p (fun x => { x with last := s.now }) s) :=
  if_pos hsame

/-- Any other request is answered, and its answer is kept with it for a repeat: the answer of its command, or the status that
turns it away. -/
theorem executeRequest_new (hnew : (s.sv.ses p).req ≠ some (tag :: leBytes 1 code ++ d)) :
    executeRequest p code tag d s =
      (let u := updSes p (fun x => { x with last := s.now }) s
       let r := if refusal p code d u = 0 then command p code d u else (refusal p code d u, [], u)
       let frame := answerFrame code tag (leBytes 1 r.1 ++ r.2.1)
       sendResponse p frame (updSes p (fun x => { x with req := some (tag :: leBytes 1 code ++ d), resp := frame }) r.2.2)) := by
  unfold executeRequest
  extract_lets x body u c
  rw [if_neg hnew]

end

/-- HELLO alone needs no session. -/
theorem commandLevel_ne_zero {code : Nat} (hcode : code ≠ 0x01) : commandLevel code ≠ some 0 := by
  unfold commandLevel
  rw [if_neg hcode]
  split_ifs <;> decide

/-- In operation a port with no open session turns every command but HELLO away with status 3 (R427). -/
theorem refusal_closed {p : Port} {code l : Nat} {s : State} (hop : s.phase = .operating) (hclosed : (s.sv.ses p).open_ = false)
    (hcode : code ≠ 0x01) (hlevel : commandLevel code = some l) (d : List Byte) : refusal p code d s = 3 := by
  have hl : l ≠ 0 := fun h => commandLevel_ne_zero hcode (h ▸ hlevel)
  unfold refusal
  rw [hlevel]
  simp [State.starting, State.safe, hop, hl, hclosed]

/-- Outside service mode a command of level S is turned away with status 3 in operation (R427). -/
theorem refusal_outside_service {p : Port} {code : Nat} {s : State} (hop : s.phase = .operating)
    (hopen : (s.sv.ses p).open_ = true) (hservice : (s.sv.ses p).service = false) (hlevel : commandLevel code = some 3)
    (d : List Byte) : refusal p code d s = 3 := by
  unfold refusal
  rw [hlevel]
  simp [State.starting, State.safe, hop, hopen, hservice]

theorem refusal_unlisted {code : Nat} (hlevel : commandLevel code = none) (p : Port) (d : List Byte) (s : State) :
    refusal p code d s = 4 := by
  unfold refusal
  rw [hlevel]

/-- Settles O46: a request repeats the previous one or is new; a new one is turned away or runs. -/
theorem requestIsExecutedOnceAndAtItsLevel : Obligations.RequestIsExecutedOnceAndAtItsLevel := by
  intro p code tag d s u
  refine ⟨executeRequest_repeat, fun hnew => ⟨fun hrefused => ?_, fun hruns => ?_⟩,
    fun hop hclosed hcode l hlevel => refusal_closed hop hclosed hcode hlevel d,
    fun hop hopen hservice hlevel => refusal_outside_service hop hopen hservice hlevel d, fun _ hlevel => refusal_unlisted hlevel p d s⟩
  · rw [executeRequest_new hnew]
    dsimp only
    rw [if_neg hrefused]
  · rw [executeRequest_new hnew]
    dsimp only
    rw [if_pos hruns]

/-! ## Each command at its port -/

/-- Settles O52: a request that runs is the same at every code, and at its port its answer goes out or waits for RESPONSE. -/
theorem eachOhmueriCommandTakesItsEffectAtItsPort : Obligations.EachOhmueriCommandTakesItsEffectAtItsPort := by
  intro p tag d s haon hserving hlen hhost u after runs
  have hafter : ∀ code, runs code → done (ohmueri p code tag d s) = .next (after code) := by
    rintro code ⟨hnew, hruns⟩
    obtain ⟨-, hexecutes, -⟩ := requestIsExecutedOnceAndAtItsLevel p code tag d s
    have hanswer := (hexecutes hnew).2 hruns
    cases p with
    | optical => rw [ohmueri_optical hlen haon hserving, hanswer]; rfl
    | host =>
      obtain ⟨hvddio, hread⟩ := hhost rfl
      rw [ohmueri_host hlen haon hserving hvddio hread, hanswer]
      rfl
  exact ⟨hafter _, hafter _, hafter _, hafter _, hafter _, hafter _, hafter _, hafter _, hafter _, hafter _, hafter _, hafter _,
    hafter _, hafter _, hafter _, hafter _, hafter _, hafter _, hafter _, hafter _, hafter _, hafter _, hafter _⟩

end Sys2Proof.Machine
end
